-- ==== Sys2Proof/Syntax.lean ====
section
/-! DEFINITION. The commands of the block: one constructor per row of spec/opcode_table.json, with the row's operands.
What the environment supplies (data read from the host, received frames, sensor readings, outcomes of physical events) is an operand. -/

namespace Sys2Proof

/-- The parties of Table SCO-4; a Tenant is named by its folio. -/
inductive Party where
  | scribe
  | draft
  | manager
  | tenant (folio : Nat)
  | bmc
  deriving DecidableEq, Repr

/-- A write of a 64-bit register: its lower half, its upper half, or both at once (R924). -/
inductive HalfWrite where
  | lower (v : Word)
  | upper (v : Word)
  | both (v : DWord)
  deriving DecidableEq, Repr

/-- A register write of 4 or 8 bytes (R924). -/
inductive RegWrite where
  | w4 (v : Word)
  | w8 (v : DWord)
  deriving DecidableEq, Repr

inductive World where
  | scribe | draft
  deriving DecidableEq, Repr

/-- RISC-V privilege of a core access. -/
inductive Priv where
  | m | s | u
  deriving DecidableEq, Repr

inductive AccKind where
  | read | write | exec
  deriving DecidableEq, Repr

/-- A transaction with the attributes of Table RUL-2; `init` is its bit number in word 5 of Table RUL-3. -/
structure Access where
  addr : Nat
  len : Nat
  kind : AccKind
  init : Nat
  world : World
  priv : Priv
  folio : Option Nat
  deriving DecidableEq, Repr

/-- The control registers of the core that makes an access, as its own program has set them (R229, R230): satp, SUM and MXR of
mstatus, the 16 PMP entries (pmpcfg byte, pmpaddr), and medeleg. -/
structure CoreCsr where
  satp : DWord := 0
  sum : Bool := false
  mxr : Bool := false
  pmp : List (Byte × DWord) := []
  medeleg : DWord := 0
  deriving DecidableEq, Repr

/-- What the check of a word read finds (R789, R794), with the check-bit syndrome. -/
inductive EccFind where
  | clean
  | corrected (syndrome : Nat)
  | uncorrectable (syndrome : Nat)
  /-- An error in an L1 I line, or in the tag or data of a clean line: the line is invalidated and refetched. -/
  | cacheLine
  /-- A corrected error in a dirty data word of a cache. -/
  | cacheCorrected
  /-- An uncorrectable error in a dirty data word of a cache; `evicted` when the line's eviction finds it. -/
  | cacheWord (syndrome : Nat) (evicted : Bool)
  /-- An uncorrectable error in the tag of a dirty line. -/
  | cacheTag (syndrome : Nat)
  deriving DecidableEq, Repr

/-- The error stands in a cache, not in the memory behind it. -/
def EccFind.inCache : EccFind → Bool
  | .cacheLine | .cacheCorrected | .cacheWord _ _ | .cacheTag _ => true
  | _ => false


/-- Host memory as the host answers reads of it: blocks of bytes by host address. A read that no block covers receives
Unsupported Request. -/
abbrev HostMem := List (Nat × Bytes)

/-- What a core's access meets: the host's memory, and the core's control registers. -/
structure CoreEnv where
  mem : HostMem := []
  csr : CoreCsr := {}
  deriving DecidableEq, Repr

/-- What an admission meets: the check of the key's slot, and the host's memory. -/
structure AdmitEnv where
  find : EccFind := .clean
  mem : HostMem := []
  deriving DecidableEq, Repr

/-- What a nib lane meets: the host's memory, and the number of 4 KiB blocks of input after which the lane stops, where it does not run to
the end (R439). -/
structure LaneEnv where
  mem : HostMem := []
  upto : Option Nat := none
  deriving DecidableEq, Repr

/-- What an inbound access brings and meets: whether every byte is enabled, and what the check of the word it reaches finds. -/
structure InboundEnv where
  full : Bool
  find : EccFind := .clean
  deriving DecidableEq, Repr

/-- A port, and a set of its lanes. -/
structure PortLanes where
  port : Nat
  lanes : Nat
  deriving DecidableEq, Repr

/-- The readbacks of an epoch record: the outcomes of up to three write attempts, and the words of the page in which they find errors. -/
structure RecordReads where
  reads : List Bool
  finds : List (Nat × EccFind) := []
  deriving DecidableEq, Repr

/-- The permissions of a translated page. -/
structure XlPerm where
  rd : Bool
  wr : Bool
  deriving DecidableEq, Repr

/-- Who has a host read outstanding. -/
inductive HostReader where
  /-- An operation, by its number. -/
  | op (id : Nat)
  /-- Descriptor fetch of a ring pair. -/
  | fetch (ring : Nat)
  /-- A recovery transfer (R211). -/
  | recovery
  /-- A Scribe mailbox transfer. -/
  | mailbox
  deriving DecidableEq, Repr

/-- A character on a console's receive line: the majority value of each data bit, of the parity bit and of the first stop bit,
whether the three samples of some bit disagree, and whether its start bit came while EN was set (R823, R829). -/
structure RxChar where
  data : Nat
  parity : Bool
  stop : Bool
  noise : Bool
  begun : Bool
  deriving DecidableEq, Repr

/-- The configuration registers of a console. -/
inductive ConReg where
  | cfg | baud | flow | rs485 | thresh
  deriving DecidableEq, Repr

/-- A row of the one-time programmable memory, as OTP_ACCESS names it. -/
inductive OtpRow where
  | lcyWord | thermometer | serial | ident | devm
  | token (slot : Nat)
  | vendor (part : Nat)
  | customer (key part : Nat)
  | custodian (row part : Nat)
  | floor (cls : Nat)
  deriving DecidableEq, Repr

/-- What the Blotter domain samples in one period T: pair channels that read open, by pair; mesh loops whose word differs from
the word driven; light sensors above threshold; the level of BLOT_IN_N; the Blotter and junction temperatures in °C; the
lowest and highest VDD_CORE in mV; CLK_FAB and REFCLK cycles counted, whether the main PLL held lock and REFCLK ran. -/
structure BlotSample where
  a : Nat
  b : Nat
  mesh : Nat
  light : Nat
  blotInN : Bool
  tb : Int
  tj : Int
  vMin : Nat
  vMax : Nat
  fab : Nat
  refclk : Nat
  locked : Bool
  refRuns : Bool
  deriving DecidableEq, Repr

/-- What the board and the part give a start of boot: strap levels (bit 2 BOOT_BANK, bits 1 to 0 ADDR_SEL), whether the main
PLL locks within its attempts, the step, 1 or 2, at which the boot ROM fetches an uncorrectable word (R188, R195), and the
flash as SFDP describes it: its size in MiB, and whether it stays slow (R806); and the bank supplies at that moment, VDDIO_A in mV and
whether VDDIO_B is powered (R896, R935, R949). -/
structure BootIn where
  straps : Nat
  locked : Bool
  romFail : Option Nat
  density : Nat
  slow : Bool
  ioA : Nat
  ioB : Bool
  deriving DecidableEq, Repr

/-- An SMBus transaction addressed to one 7-bit address, after its command byte: the bytes the host writes (a block's count
byte, its bytes, a PEC byte if one is sent), whether a repeated START and the address byte with R/W 1 follow, and whether the
host acknowledges the last data byte of a read. -/
structure SmbTx where
  addr : Nat
  data : Bytes
  read : Bool
  ack : Bool
  deriving DecidableEq, Repr

/-- A transaction, and what the check of the first word that it reads finds. -/
structure FoundTx where
  tx : SmbTx
  find : EccFind := .clean
  deriving DecidableEq, Repr

/-- The commands. -/
inductive Instr where
  /-- REGISTER_WRITE (R6): A write to a register that has no row of its own takes effect according to its access type, or is ignored whole under R9. -/
  | registerWrite (p : Party) (a : Nat) (w : RegWrite)
  /-- STIME_TICK (R38): On each CLK_FAB cycle the device adds TIME_INCR plus TIME_RATE_D to STIME. -/
  | stimeTick
  /-- KEEPER_HANDOVER (R47): When the main PLL stops or loses lock, STIME passes to the REFCLK keeper, and it passes back when the PLL returns, with no step. -/
  | keeperHandover (toKeeper : Bool)
  /-- TIME_SET (R43): A Scribe write of the upper half of TIME_SET loads NS, clears FRAC and sets VALID; armed DEFER strokes are checked for lateness and FIRST_STIME may be written. -/
  | timeSet (w : HalfWrite)
  /-- TIME_STEP_S (R43): A Scribe step adds a signed value to STIME NS, launching strokes and releasing gated descriptors that a forward step passes. -/
  | timeStepS (w : HalfWrite)
  /-- TIME_STEP_D (R41): A Draft step is applied only within 1,000 ns and once per second; otherwise it sets GUARD_STEP and raises source 445. -/
  | timeStepD (v : Word)
  /-- TIME_RATE_D (R40): A write of the rate trim is applied; a Draft value outside ±500 ppm is refused with GUARD_RATE. -/
  | timeRateD (p : Party) (v : Word)
  /-- TIME_NOW_LO (R46): A read of TIME_NOW_LO latches the high word and the fraction so that the three words form one sample. -/
  | timeNowLo (wide : Bool)
  /-- STROKE_ENTRY_WRITE (R63): A write to a stroke entry updates its words, subject to ownership, and arming is checked when ENABLE is set. -/
  | strokeEntryWrite (p : Party) (n : Nat) (word : Nat) (v : Word)
  /-- STROKE_LAUNCH (R65): An armed stroke launches in the first cycle in which STIME NS reaches its TIME, performs its action and advances or disables itself. -/
  | strokeLaunch
  /-- PPS_PULSE_END (R56): PPS_OUT falls when TIME_PPS_WIDTH microseconds have passed since its rising edge. -/
  | ppsPulseEnd
  /-- LUMRO_FRAME_TX (R54): 500 ms after each PPS_OUT edge with TX_EN set, the device sends a Lumro time-of-day frame. -/
  | lumroFrameTx
  /-- LUMRO_FRAME_RX (R58): A received Lumro frame is accepted if its MAGIC, VERSION and CRC are correct, and it opens a pairing window. -/
  | lumroFrameRx (f : Bytes)
  /-- PPS_IN_EDGE (R57): A PPS_IN rising edge captures STIME and, if it falls in a frame's window, pairs with that frame. -/
  | ppsInEdge
  /-- LUMRO_WINDOW_EXPIRY (R59): A frame whose window ends with no PPS_IN edge increments WINDOW_ERR and updates no offset. -/
  | lumroWindowExpiry
  /-- GATE_RELEASE (R79): A parked descriptor is released to admission in the first cycle in which STIME NS reaches its NOT_BEFORE. -/
  | gateRelease
  /-- GATE_TIMEOUT (R81): A descriptor parked longer than its ring's gate timeout completes with GATE_TIMEOUT and frees its slot. -/
  | gateTimeout
  /-- DUCT_CMD_LOAD (R114): Setting LOAD starts verification of the live stream at DUCT_LIVE_ADDR. -/
  | ductCmdLoad (v : Word)
  /-- LIVE_LOAD_COMPLETE (R115): A finished live load either writes the shadow banks and sets PENDING, or is rejected with REASON; source 506 is raised either way. -/
  | liveLoadComplete
  /-- DUCT_CMD_DISCARD (R126): Setting DISCARD clears every PENDING bit and drops the shadow images. -/
  | ductCmdDiscard (v : Word)
  /-- DUCT_CMD_SWAP (R119): Setting SWAP swaps in the pending live sections selected by SWAP_MASK in one cycle. -/
  | ductCmdSwap (v : Word)
  /-- PORST_N_ASSERT (R224): Asserting PORST_N resets the main domain and abandons any boot step, command or wipe in progress. -/
  | porstNAssert
  /-- PORST_N_RISE (R188): The rising edge of PORST_N samples the straps and starts boot with the ROM, PLL lock, OTP read and life-cycle decode. -/
  | porstNRise (x : BootIn)
  /-- BOOT_TESTS_DONE (R193): Boot Proof and memory BIST end, the SRAMs are left zero, and the device goes on to read the Ductus. -/
  | bootTestsDone (mbistFail : Bool) (misrs : List Nat) (romFail : Bool)
  /-- DUCTUS_BANK_VERIFIED (R109): The boot stream read from a flash bank is accepted, or rejected with fallback to the other bank or a wait for recovery. -/
  | ductusBankVerified (readOk : Bool) (romFail : Option Nat)
  /-- SCRIBE_IMAGE_CHECKED (R196): The Scribe image is checked by Table BOO-4 and loaded, or its rejection restarts boot with the other bank. -/
  | scribeImageChecked (readOk : Bool) (romFail : Option Nat)
  /-- DRAFT_RELEASE (R189): The Draft cores set in DRAFT_ENABLE are released after the Draft images have been loaded. -/
  | draftRelease (reads : List Bool)
  /-- BOOT_RCV_GO (R211): During a recovery wait, GO fetches a Ductus stream or image from host memory into shared SRAM. -/
  | bootRcvGo (v : Word)
  /-- RECOVERY_ITEM_DONE (R213): A fetched recovery item is checked, RESULT is written, and boot continues from step 6 or step 8 if the item is accepted. -/
  | recoveryItemDone (m : HostMem) (romFail : Option Nat)
  /-- BOOT_FLOOR_CMD_GO (R220): GO raises the Blotter or OTP anti-rollback floor of one class to VALUE, or refuses with ABOVE or BELOW. -/
  | bootFloorCmdGo (v : Word) (otpFail : Option Nat)
  /-- BOOT_MEAS_EXTEND (R218): EXTEND extends measurement register 4 to 7 with BOOT_MEAS_DATA; registers 0 to 3 set REFUSED. -/
  | bootMeasExtend (v : Word)
  /-- LCY_SUBMIT (R164): SUBMIT starts the checks of Table LCY-7 on the certificate at LCY_CERT_ADDR. -/
  | lcySubmit
  /-- LCY_CHECK_DONE (R165): Certificate checks end with a failure code, or with acceptance and the start of the transition's pre-write erase. -/
  | lcyCheckDone
  /-- LCY_REQUEST_COMPLETE (R169): Once the erase reads back clean, the device either opens the debug session or writes the transition's mark. -/
  | lcyRequestComplete (otpFail : Option Nat)
  /-- LCY_SELF_RESET (R147): Within 1 ms of the last mark bit, the device resets every block except the Blotter domain and Colophon, and the new state takes effect. -/
  | lcySelfReset (x : BootIn)
  /-- LCY_NONCE (R168): NONCE draws a fresh 32-byte nonce from conditioned entropy, replacing any outstanding one. -/
  | lcyNonce
  /-- IDCODE (R13): The IDCODE instruction selects the 32-bit identification data register. -/
  | idcode
  /-- BYPASS (R174): BYPASS, or any instruction that is not offered, selects the 1-bit bypass register. -/
  | bypass
  /-- EXTEST (R176): EXTEST drives the boundary-scan balls and holds the main domain in reset. -/
  | extest (v : Nat)
  /-- SAMPLE_PRELOAD (R174): SAMPLE_PRELOAD samples and preloads the boundary-scan register where the state offers it. -/
  | samplePreload (sample : Nat) (v : Nat)
  /-- CLAMP (R176): CLAMP holds outputs from the boundary register and the main domain in reset. -/
  | clamp
  /-- HIGHZ (R176): HIGHZ floats the outputs and holds the main domain in reset. -/
  | highz
  /-- TEST_LOGIC_RESET (R176): Entering Test-Logic-Reset after EXTEST, CLAMP or HIGHZ releases the hold, and leaving it resets the device as R147 describes. -/
  | testLogicReset (x : BootIn)
  /-- LC_TRANSITION (R180): LC_TRANSITION requests an unauthorised transition to the state code held in its data register. -/
  | lcTransition (code : Nat)
  /-- TOKEN_UNLOCK (R158): TOKEN_UNLOCK submits a 128-bit token for the next round's slot; a wrong token sets TOKEN_LOCKOUT. -/
  | tokenUnlock (token : Nat)
  /-- DEBUG_AUTH_EMPTY (R177): DEBUG_AUTH OP 1 empties the certificate buffer. -/
  | debugAuthEmpty
  /-- DEBUG_AUTH_APPEND (R179): DEBUG_AUTH OP 2 appends DATA as the next word, ignored beyond 18,224 words. -/
  | debugAuthAppend (w : Word)
  /-- DEBUG_AUTH_NONCE (R177): DEBUG_AUTH OP 3 makes a nonce. -/
  | debugAuthNonce
  /-- DEBUG_AUTH_SELECT (R177): DEBUG_AUTH OP 4 selects nonce word ARG for the next capture. -/
  | debugAuthSelect (arg : Nat)
  /-- DEBUG_AUTH_SUBMIT (R177): DEBUG_AUTH OP 5 submits the buffered certificate for checking. -/
  | debugAuthSubmit
  /-- DEBUG_AUTH_CAPTURE (R178): At Capture-DR, DEBUG_AUTH returns the selected nonce word or the status word. -/
  | debugAuthCapture
  /-- OTP_ACCESS (R174): OTP_ACCESS gives OTP access in TEST. -/
  | otpAccess (r : OtpRow) (w : Option Bytes)
  /-- SCAN_ENTRY (R174): SCAN_ENTRY enters manufacturing scan in TEST. -/
  | scanEntry
  /-- DTMCS (R174): DTMCS selects the debug transport control register where the state or rights permit. -/
  | dtmcs
  /-- DMI (R174): DMI carries a debug module access where the state or rights permit. -/
  | dmi (a : Nat) (w : Option Word)
  /-- HALT_REQUEST (R235): A debug halt request halts a hart, or is deferred for a lent core in the Scribe world without SCRIBE_DEBUG. -/
  | haltRequest (h : Nat)
  /-- ACCESS_REGISTER (R234): The Access Register abstract command reads or writes a GPR, FPR or CSR of a halted hart. -/
  | accessRegister (h : Nat) (r : Nat) (w : Option DWord)
  /-- SYSTEM_BUS_ACCESS (R234): A debug module system bus access is made with the world of the session, through the ruling units. -/
  | systemBusAccess (addr : Nat) (len : Nat) (w : Option Nat) (e : EccFind)
  /-- WRLD_CLAIM (R238): Setting a claim bit raises WORLD_CLAIM on a lent Draft core so that it can move into the Scribe world. -/
  | wrldClaim (v : Word)
  /-- WRLD_YIELD (R238): A claimed Draft core yields and starts its world switch into the Scribe world. -/
  | wrldYield (core : Nat)
  /-- CLAIM_GRACE_EXPIRY (R238): After CLAIM_GRACE_US without a yield, the claimed core is switched at the next instruction boundary. -/
  | claimGraceExpiry (core : Nat)
  /-- WRLD_RETURN (R239): The Scribe runtime on a lent core starts its switch back to the Draft world. -/
  | wrldReturn (core : Nat)
  /-- LEND_MAX_EXPIRY (R239): A core lent for LEND_MAX_US is forced back, FORCED_RETURN is set and source 510 is raised. -/
  | lendMaxExpiry (core : Nat)
  /-- WORLD_SWITCH_COMPLETE (R241): A world switch finishes its save, flush and restore, and toggles ruling sets on the first entry or last exit. -/
  | worldSwitchComplete (core : Nat)
  /-- WRLD_WD_KICK (R251): A kick of 0x5C1B reloads the Scribe watchdog; any other value increments BAD_KICK. -/
  | wrldWdKick (v : Word)
  /-- WATCHDOG_EXPIRY (R252): Expiry of the Scribe watchdog is a Scribe failure with cause WATCHDOG, or START before READY. -/
  | watchdogExpiry
  /-- WRLD_READY (R254): The Scribe runtime signals readiness; after a restart this completes re-evaluation and sets STATE RUNNING. -/
  | wrldReady (v : Word)
  /-- WRLD_SELF_FAIL (R255): A write of 0x5C1B_FA11 is a Scribe failure with cause SELF. -/
  | wrldSelfFail (v : Word)
  /-- LOCKSTEP_DIVERGENCE (R250): A divergence of the lockstep pair is a Scribe failure with cause LOCKSTEP. -/
  | lockstepDivergence
  /-- SCRIBE_RESTART_IMAGE_DONE (R258): After the scrub, the re-read Scribe image is checked, BOOT_MEAS2 is extended and the pair is released, or the failure is IMAGE. -/
  | scribeRestartImageDone (readOk : Bool)
  /-- RESTART_BUDGET_EXPIRY (R261): Requests waiting on a restart complete with SERVICE_ABSENT when RESTART_BUDGET_MS has passed. -/
  | restartBudgetExpiry
  /-- MACHINE_TIMER_INTERRUPT (R232): A hart takes a machine timer interrupt while STIME NS is at or above its WRLD_MTIMECMP. -/
  | machineTimerInterrupt (hart : Nat)
  /-- CORE_ACCESS (R276): A core load, store or fetch is checked by its ruling unit and either performed or refused with an access fault. -/
  | coreAccess (acc : Access) (data : Nat) (e : EccFind) (x : CoreEnv)
  /-- RUL_SET_CMD (R294): GO makes the named region set active at a transaction boundary. -/
  | rulSetCmd (u : Nat) (v : Word)
  /-- RUL_STAGE_COMMIT (R299): GO copies the staged region entry into the named set and index, or refuses with LOCKED or FIELD. -/
  | rulStageCommit (u : Nat) (v : Word)
  /-- RUL_LOCK (R303): Setting a lock bit locks a region index and copies its active entry into the other set. -/
  | rulLock (u : Nat) (w : HalfWrite)
  /-- ROOT_GENERATE (R326): The Reservoir draws a new Blotter root key from conditioned entropy. -/
  | rootGenerate (v : Word)
  /-- DOM_CREATE (R330): Creates a DWK and generation 1, writes the domain and generation records and succession package, and opens the domain. -/
  | domCreate (v : Word)
  /-- DOM_OPEN (R332): Opens a domain from its records if its policy matches BOOT_MEAS2. -/
  | domOpen (v : Word)
  /-- GEN_LOAD (R333): Makes a generation resident in the non-current half from its record. -/
  | genLoad (v : Word)
  /-- GEN_CREATE (R333): Creates a fresh data key for a higher generation, writes its record and makes it resident. -/
  | genCreate (v : Word)
  /-- GEN_SWITCH (R334): The Reservoir command makes a resident generation the domain's current one. -/
  | genSwitch (v : Word)
  /-- DOM_CLOSE (R348): Applies the domain erase to one domain. -/
  | domClose (v : Word)
  /-- DOM_REWRITE (R330): Writes a new domain record with the same DWK and a new quorum and policy. -/
  | domRewrite (v : Word)
  /-- ERASE_SLOT (R330): Erases one quota slot of a folio by handle. -/
  | eraseSlot (v : Word)
  /-- ERASE_FOLIO (R348): Erases every quota slot of a folio. -/
  | eraseFolio (v : Word)
  /-- ERASE_ALL (R348): Erases every slot, entry and lane key, and keeps the BRK. -/
  | eraseAll (v : Word)
  /-- REVALIDATE (R336): Closes every open domain whose policies no longer match BOOT_MEAS2, and clears REVALIDATE_DUE. -/
  | revalidate (v : Word)
  /-- RSV_COMMAND_COMPLETE (R354): A Reservoir command writes its outputs and RESULT last, and raises source 352. -/
  | rsvCommandComplete
  /-- SLOT_ERASE_DONE (R347): A slot or displacement erase that waited for referring operations is performed once the last one completes. -/
  | slotEraseDone
  /-- CER_OPEN (R370): Opens a ceremony slot: draws a nonce, sets EXPIRES, makes an EK where needed and writes the request record. -/
  | cerOpen (v : Word)
  /-- CER_COUNT (R372): Checks a countersignature record against a slot, counts it once, and marks the slot SATISFIED at quorum. -/
  | cerCount (v : Word)
  /-- CER_CLOSE (R376): Closes a slot, erases its nonce and returns it to FREE. -/
  | cerClose (v : Word)
  /-- ENROL (R389): Writes a satisfied candidate's KEY_DIGEST into its custodian row and sets ENROLLED. -/
  | enrol (v : Word)
  /-- REVOKE (R390): Sets a custodian row's REVOKED bit under a satisfied ceremony. -/
  | revoke (v : Word)
  /-- DEVM_RAISE (R391): Raises the device quorum DEV_M by setting DEVM bits. -/
  | devmRaise (v : Word)
  /-- SUCC_BUILD (R381): Rebuilds a succession package for the new members with PKG_SEQ one higher. -/
  | succBuild (v : Word)
  /-- RESTORE_SHARE (R383): Opens a share delivery record with the slot's decapsulation key and records the share. -/
  | restoreShare (v : Word)
  /-- RESTORE_FINISH (R384): Recombines SK from M shares, unwraps the DWK and writes a domain record under this unit's KDR. -/
  | restoreFinish (v : Word)
  /-- HANDOVER_EXPORT (R386): Encapsulates to the successor's EK and writes the handover package. -/
  | handoverExport (v : Word)
  /-- HANDOVER_IMPORT (R387): Checks the binding of a handover package, unwraps the DWK and writes a local domain record. -/
  | handoverImport (v : Word)
  /-- CUST_COMMAND_COMPLETE (R368): A CUST command completes with its result code, and source 364 is raised for succession commands. -/
  | custCommandComplete (otpFail : Option Nat)
  /-- CEREMONY_EXPIRY (R376): A slot expires when STIME NS reaches EXPIRES: its nonce and ephemeral key are erased and source 361 is raised. -/
  | ceremonyExpiry
  /-- RING_DB_SQ (R549): A submission doorbell write sets the ring's tail, or is ignored with DB_RANGE. -/
  | ringDbSq (f : Nat) (k : Nat) (v : Word)
  /-- RING_DB_CQ (R552): A completion doorbell write releases completion entries up to HEAD, or is ignored with CQ_RANGE. -/
  | ringDbCq (f : Nat) (k : Nat) (v : Word)
  /-- RING_ENABLE (R545): Setting ENABLE enables the ring pair after the checks of Table RNG-1, and resets its indices, phase and windows. -/
  | ringEnable (n : Nat)
  /-- RING_DISABLE (R586): Clearing ENABLE stops fetch, aborts parked descriptors and moves the ring to DRAINING. -/
  | ringDisable (n : Nat)
  /-- RING_DRAINED (R586): A DRAINING ring becomes DISABLED once no admitted operation remains. -/
  | ringDrained (n : Nat)
  /-- DESCRIPTOR_FETCH (R554): When a completion slot and a tag are available, the device fetches up to 8 descriptors and makes the fetch-time checks. -/
  | descriptorFetch (m : HostMem)
  /-- DUPLICATE_RELEASE (R583): A parked duplicate completes in the cycle after its original's completion is written. -/
  | duplicateRelease
  /-- CHAIN_RELEASE (R578): A parked chained descriptor is admitted or aborted when its predecessor's completion is written. -/
  | chainRelease
  /-- ADMISSION (R597): When an engine can take work, the scheduler admits one candidate by strict band, DWRR and token buckets, then resolves its key. -/
  | admission (c : Nat) (e : Nat) (tx : Nat) (x : AdmitEnv)
  /-- SEAL (R419): A nib lane seals data in raw or envelope mode. -/
  | seal (id : Nat) (x : LaneEnv)
  /-- OPEN (R428): A nib lane verifies and decrypts a raw message or an envelope, zeroing any chunk whose tag fails. -/
  | openNib (id : Nat) (x : LaneEnv)
  /-- TRANSCRIBE (R430): A lane pair decrypts and re-seals an envelope under the destination key without plaintext leaving the pair. -/
  | transcribe (id : Nat) (x : LaneEnv)
  /-- HASH (R438): A hash lane hashes one message. -/
  | hash (id : Nat) (m : HostMem)
  /-- HMAC (R437): A hash lane computes or verifies an HMAC. -/
  | hmac (id : Nat) (m : HostMem)
  /-- KMAC (R437): A hash lane computes or verifies a KMAC. -/
  | kmac (id : Nat) (m : HostMem)
  /-- SIGN (R457): Flourish signs with ML-DSA-87 or ECDSA P-384. -/
  | sign (id : Nat) (m : HostMem)
  /-- VERIFY (R458): Flourish verifies an ML-DSA, ECDSA or HSS signature. -/
  | verify (id : Nat) (m : HostMem)
  /-- ENCAPS (R459): Flourish encapsulates to an ML-KEM-1024 key and returns the ciphertext and the secret as a blob. -/
  | encaps (id : Nat) (m : HostMem)
  /-- DECAPS (R459): Flourish decapsulates with implicit rejection and returns the secret as a blob. -/
  | decaps (id : Nat) (m : HostMem)
  /-- ECDH (R460): Flourish performs P-384 ECDH after validating the peer key. -/
  | ecdh (id : Nat) (m : HostMem)
  /-- KEY_GENERATE (R464): Flourish generates a key from a template and returns its blob and any public key. -/
  | keyGenerate (id : Nat) (m : HostMem)
  /-- RANDOM (R482): Writes DRBG instance 2 output to DST. -/
  | random (id : Nat) (m : HostMem)
  /-- BLOB_LOAD (R571): Loads a blob into the folio's lowest free quota handle, or returns the existing handle. -/
  | blobLoad (id : Nat) (m : HostMem)
  /-- BLOB_EVICT (R572): Erases a folio handle's slot. -/
  | blobEvict (id : Nat)
  /-- KEY_REWRAP (R339): Rewraps a key under the domain's current generation. -/
  | keyRewrap (id : Nat) (m : HostMem)
  /-- FENCE (R575): Holds fetch until every earlier descriptor of the ring has completed. -/
  | fence (n : Nat)
  /-- NOP (R570): Completes at once, returning PARAM0 and PARAM1. -/
  | nop (n : Nat)
  /-- TIME_READ (R570): Completes returning TIME_STAT and the STIME fraction at commit. -/
  | timeRead (n : Nat)
  /-- OPERATION_COMPLETE (R566): A finished operation writes its completion entry, or its BSP response, and frees its tag. -/
  | operationComplete (id : Nat) (busyNs : Nat)
  /-- COALESCE_TIMER_EXPIRY (R573): TIME_US after the first pending completion, the ring's completion source is raised. -/
  | coalesceTimerExpiry (n : Nat)
  /-- NOISE_SOURCE_FAIL (R470): A failed RCT or APT marks a noise source FAILED, discards its block and raises source 331+n. -/
  | noiseSourceFail (n : Nat) (rct : Bool) (apt : Bool)
  /-- ENT_SOURCE_RESTART (R471): A RESTART bit repeats the start-up test of a failed source, unless it is PERSISTENT. -/
  | entSourceRestart (v : Word)
  /-- SOURCE_STARTUP_TEST_DONE (R469): A source becomes HEALTHY, or FAILED, after its 4,096-bit start-up test. -/
  | sourceStartupTestDone (n : Nat) (rctFail : Bool) (aptFail : Bool)
  /-- ENT_DRBG_RESEED (R480): Setting a reseed bit makes the instance reseed before its next request. -/
  | entDrbgReseed (v : Word)
  /-- DRBG_INSTANTIATE (R477): A DRBG instance is instantiated once conditioned entropy becomes available, and source 338 is raised. -/
  | drbgInstantiate
  /-- DRBG_HOLD_EXPIRY (R479): Requests held 10 ms for lack of entropy fail with ENGINE_FENCED or ABORTED, and source 339 is raised. -/
  | drbgHoldExpiry (k : Nat)
  /-- DIRECT_DRAW_TIMEOUT (R473): A direct entropy draw unserved within 10 ms completes its command with ABORTED. -/
  | directDrawTimeout
  /-- ENT_RNG_S (R484): A read returns fresh instance 0 output, or 0 with RNG_ERR. -/
  | entRngS
  /-- ENT_RNG_D (R484): A read returns fresh instance 2 output, or 0 with RNG_ERR. -/
  | entRngD
  /-- CONFIG_REQUEST (R203): A PCIe configuration request is answered, or gets Retry Status before step 11. -/
  | configRequest (r : Nat) (w : Option Word)
  /-- HOST_MMIO_ACCESS (R495): An inbound BAR access is performed, or answered with zeros or discarded with ACCESS set. -/
  | hostMmioAccess (bar : Nat) (off : Nat) (len : Nat) (w : Option Bytes) (x : InboundEnv)
  /-- BUS_MASTER_ENABLE (R496): Clearing Bus Master Enable stalls fetch and DMA, and setting it resumes them and sends held MSI-X messages. -/
  | busMasterEnable (on : Bool)
  /-- PM_STATE_CHANGE (R892): Entry to D3hot stops fetch and return to D0 resumes it. -/
  | pmStateChange (d3 : Bool)
  /-- HOST_READ_COMPLETION (R499): A completion for a device read delivers data, or stops the operation on UR, CA or poison. -/
  | hostReadCompletion (who : HostReader) (refused : Bool) (poisoned : Bool)
  /-- COMPLETION_TIMEOUT (R499): A device read that times out stops its operation with ABORTED and sets CPL_TIMEOUT. -/
  | completionTimeout (who : HostReader)
  /-- ATS_INVALIDATE_REQUEST (R513): An Invalidate Request stops the use of matching translation entries at once. -/
  | atsInvalidateRequest (tag : Nat) (pasid : Option Nat) (a : Nat) (size : Nat) (global : Bool)
  /-- ATS_INVALIDATE_COMPLETION (R513): Once the affected requests have drained, the device sends the Invalidate Completion. -/
  | atsInvalidateCompletion
  /-- FUNCTION_LEVEL_RESET (R531): FLR abandons every folio's operations and resets all folios to FREE. -/
  | functionLevelReset
  /-- PERST_N_ASSERT (R225): PERST_N resets the link, configuration space, folios and rings, and after step 11 does not reboot the device. -/
  | perstNAssert
  /-- PERST_N_DEASSERT (R202): Release of PERST_N starts link training within 20 ms. -/
  | perstNDeassert
  /-- QUIESCE (R529): Moves an ACTIVE folio to QUIESCING, stops fetch and aborts its gated descriptors. -/
  | quiesce (f : Nat)
  /-- FOLIO_QUIESCED (R529): When no operation of a quiescing folio remains, it becomes QUIESCED and source 192+n is raised. -/
  | folioQuiesced (f : Nat)
  /-- RESUME (R530): Returns a quiesced folio to ACTIVE. -/
  | resume (f : Nat)
  /-- RESET (R531): Resets a folio: abandons its operations, erases its slots, clears its mailboxes and ends its sessions. -/
  | reset (f : Nat)
  /-- DESTROY (R531): Destroys a folio and returns it to FREE. -/
  | destroy (f : Nat)
  /-- T2M_FULL (R521): The Tenant sets T2M_FULL to signal a message, and source 128+n is raised. -/
  | t2mFull (f : Nat)
  /-- M2T_FULL (R521): The Manager sets M2T_FULL, which sends the folio's mailbox MSI-X message. -/
  | m2tFull (f : Nat)
  /-- SCRIBE_MAILBOX_REQ (R525): The Manager sets REQ to submit a Scribe mailbox request, and BUSY is set. -/
  | scribeMailboxReq
  /-- SCRIBE_MAILBOX_RSP (R928): The Scribe runtime sets RSP after writing the response, BUSY clears and source 128 is raised. -/
  | scribeMailboxRsp
  /-- FOLIO_CREATE (R505): The Scribe runtime checks and activates a FREE folio. -/
  | folioCreate
  /-- ACL_GRANT (R516): Adds a domain to a folio's access list. -/
  | aclGrant (holds : Bool)
  /-- ACL_REVOKE (R517): Removes a domain from a folio's access list and erases its slots of that domain. -/
  | aclRevoke
  /-- MBX_CER_OPEN (R524): The mailbox CER_OPEN command opens a ceremony for the Manager. -/
  | mbxCerOpen (window : Nat) (required : Nat) (members : Word) (candidates : Word) (buf : Nat)
  /-- CER_COUNTERSIGN (R377): The mailbox passes a countersignature record to CER_COUNT. -/
  | cerCountersign (m : HostMem) (buf : Nat)
  /-- CER_STATUS (R524): Returns a slot's status and COUNTED mask. -/
  | cerStatus
  /-- MBX_CER_CLOSE (R524): The mailbox CER_CLOSE command closes a ceremony slot. -/
  | mbxCerClose
  /-- SHARE_DELIVER (R524): The mailbox passes a share delivery record to RESTORE_SHARE. -/
  | shareDeliver (m : HostMem) (slot : Nat) (buf : Nat) (pkgAt : Nat)
  /-- DOMAIN_ACTION (R524): Runs a quorum-approved domain action with the records it needs. -/
  | domainAction (m : HostMem) (buf : Nat) (recAt : Nat) (sectors : List Nat) (otpFail : Option Nat)
  /-- DUCTUS_LOAD (R114): The mailbox delivers a live stream that the Scribe runtime loads. -/
  | ductusLoad (m : HostMem) (buf : Nat)
  /-- DUCTUS_SWAP (R119): The mailbox asks the Scribe runtime to swap pending sections by mask. -/
  | ductusSwap
  /-- DUCTUS_DISCARD (R126): The mailbox asks the Scribe runtime to discard pending sections. -/
  | ductusDiscard
  /-- SIGNER_ENROL (R209): Enrols a customer signer key in a free OTP row. -/
  | signerEnrol (otpFail : Option Nat)
  /-- SIGNER_REVOKE (R210): Revokes a signer key. -/
  | signerRevoke (order : Bytes) (otpFail : Bool)
  /-- FLOOR_RAISE (R220): The mailbox asks for an anti-rollback floor raise. -/
  | floorRaise (otpFail : Option Nat)
  /-- HANDOVER_START (R660): The Scribe runtime opens a handover session to the peer. -/
  | handoverStart (peerEk : Bytes)
  /-- MBX_TIME_SET (R39): The mailbox asks the Scribe runtime to load STIME. -/
  | mbxTimeSet
  /-- TOKEN_BUCKET_REFILL (R604): Every microsecond, CONTINUOUS buckets gain their rate, up to their depth. -/
  | tokenBucketRefill
  /-- SCH_FC_CTL (R604): A write of a bucket mode sets the level to depth; a mode of 3 is ignored with CFG_ERR. -/
  | schFcCtl (f : Nat) (c : Nat) (v : Word)
  /-- FRAME_RECEIVE (R628): A received frame is accepted or dropped by the MAC, then classified and acted on by Quill. -/
  | frameReceive (p : Nat) (f : Bytes)
  /-- PORT_MODE_WRITE (R636): A MODE write to PORT_CTL that changes the mode starts a relock. -/
  | portModeWrite (p : Nat) (v : Word)
  /-- RECAL (R636): Setting RECAL starts a synthesiser relock. -/
  | recal (p : Nat)
  /-- PORT_TEMP_CHECK (R636): Once per second, a junction change of 25 °C since calibration starts a relock. -/
  | portTempCheck (p : Nat)
  /-- SYNTH_LOSS_OF_LOCK (R636): Loss of synthesiser lock takes the link down and starts a relock. -/
  | synthLossOfLock (p : Nat)
  /-- RELOCK_COMPLETE (R637): After lock and alignment LOCKED is set, strokes waiting on the port run and source 270+port is raised. -/
  | relockComplete (p : Nat)
  /-- LINK_UP (R637): LINK is set once the partner aligns, and held frames are sent. -/
  | linkUp (x : PortLanes)
  /-- PCS_ALIGNMENT_LOSS (R639): Loss of PCS alignment takes the link down without a relock. -/
  | pcsAlignmentLoss (p : Nat)
  /-- TX_HOLD_TIMEOUT (R638): A frame held 10 ms while the link is down is dropped whole and counted. -/
  | txHoldTimeout (p : Nat)
  /-- PORT_PTP_TXTS_INFO (R635): A read pops the oldest two-step timestamp entry and latches its time. -/
  | portPtpTxtsInfo (p : Nat)
  /-- HS_INIT (R644): A client handshake initiation is checked and answered with HS_RESP or HS_REJECT. -/
  | hsInit
  /-- HS_RESP (R660): In a handover session the successor receives the predecessor's HS_RESP and answers with HS_FIN. -/
  | hsResp
  /-- HS_FIN (R647): A correct HS_FIN establishes the session and HS_DONE is sent; a wrong one drops it. -/
  | hsFin
  /-- REQUEST (R651): A REQUEST fragment is authenticated, checked for replay and reassembled, and a complete request is queued for admission. -/
  | request
  /-- HANDOVER_OFFER (R661): The predecessor checks the successor's EK and runs HANDOVER_EXPORT, or refuses. -/
  | handoverOffer (recAt : Nat) (ekAt : Nat) (outAt : Nat)
  /-- HANDOVER_PACKAGE (R387): The successor receives the handover package for import. -/
  | handoverPackage (outAt : Nat)
  /-- HANDOVER_REFUSE (R661): The successor receives the predecessor's refusal of a handover. -/
  | handoverRefuse
  /-- HANDSHAKE_TIMEOUT (R647): A handshake not finished within 100 ms is dropped and source 268 is raised. -/
  | handshakeTimeout (session : Nat) (tenant : Nat)
  /-- REASSEMBLY_TIMEOUT (R652): A request incomplete 100 ms after its first fragment is dropped and counted in BSP_REASM. -/
  | reassemblyTimeout (session : Nat) (reqId : Nat)
  /-- TENANT_ENTRY_WRITE (R665): A tenant-table write that changes or clears an entry ends that tenant's sessions. -/
  | tenantEntryWrite (p : Party) (n : Nat) (w : Nat) (v : Word)
  /-- QUIL_TX_TAIL (R691): A producer advances a transmit queue tail, which makes new descriptors available. -/
  | quilTxTail (p : Party) (q : Nat) (v : Word)
  /-- FRAME_TRANSMIT (R692): A queued or BSP frame passes the leak screen and the transmit rules and is sent or dropped. -/
  | frameTransmit (q : Nat)
  /-- QUIL_TBL_WRITE (R696): WRITE copies the data words into an entry of the inactive bank and clears its VALID. -/
  | quilTblWrite (p : Party)
  /-- QUIL_TBL_READ (R697): READ copies an entry or hit counter into the data words. -/
  | quilTblRead
  /-- QUIL_VALIDATE (R698): VALIDATE starts checking the inactive bank. -/
  | quilValidate
  /-- QUIL_VALIDATE_DONE (R698): Validation ends with the bank VALID or a GRAPH or ENTRY result, and source 295 is raised. -/
  | quilValidateDone
  /-- QUIL_CTL_SWAP (R699): SWAP makes the TARGET bank active if it is VALID. -/
  | quilCtlSwap (target : Nat)
  /-- QUIL_RATE_REFILL (R684): Every microsecond, enabled rate classes gain their rate, up to their depth. -/
  | quilRateRefill
  /-- QUIL_RATE_WRITE (R684): Enabling a rate class sets its level to its depth. -/
  | quilRateWrite (c : Nat) (v : Word)
  /-- BLOTTER_SAMPLE (R714): Every sample period the Blotter domain samples pairs, mesh, light and BLOT_IN_N, reads sensors and decides or clears causes. -/
  | blotterSample (x : BlotSample)
  /-- BLOT_ERASE_DONE (R727): Once every cleared store reads back zero, source 448 is raised and the tamper is counted. -/
  | blotEraseDone
  /-- BLOT_OUT_RELEASE (R730): BLOT_OUT_N is released after 16 samples. -/
  | blotOutRelease
  /-- CRYSTAL_STABLE (R709): After 1,024 stable crystal cycles the Blotter clock moves to the crystal. -/
  | crystalStable
  /-- CRYSTAL_STOP (R710): A crystal that stops for 64 RC cycles moves the clock to RC and raises source 455, with tamper CLOCK if XTAL_FITTED. -/
  | crystalStop
  /-- VBAT_MEASURE (R708): Once a second VBAT is measured and VBAT_LOW and VBAT_ABSENT are updated. -/
  | vbatMeasure (mv : Nat)
  /-- VDD_AON_GOOD (R936): VDD_AON rising through 1.62 V moves the Blotter domain onto VDD_AON. -/
  | vddAonGood
  /-- VDD_AON_LOSS (R958): VDD_AON falling below power-good moves the Blotter domain to VBAT and resets the main domain. -/
  | vddAonLoss
  /-- BLOTTER_POWER_LOSS (R707): Loss of both supplies below the VBAT floor loses every Blotter value; POWER_LOST is reported at the next boot. -/
  | blotterPowerLoss
  /-- VCORE_EXCURSION (R723): VDD_CORE outside its limits for the stated time makes a VCORE alarm active. -/
  | vcoreExcursion (high : Bool)
  /-- PLL_LOCK_LOSS (R723): Loss of main PLL lock makes the PLL_FREQ alarm active. -/
  | pllLockLoss
  /-- ALARM_ESCALATION (R726): An ESCALATE alarm active for ESCALATE_AFTER seconds becomes tamper cause ESCALATED n. -/
  | alarmEscalation (n : Nat)
  /-- BLOT_ACK (R732): A Scribe write of 0xB107_ACC0 clears the tamper latches if no cause is active, or sets ACK_REFUSED. -/
  | blotAck (p : Party) (v : Word)
  /-- OPSEC_TICK (R743): Each operating second advances OPSEC, feeds the Colophon accumulators and writes hourly checkpoints. -/
  | opsecTick (vcoreMv : Nat)
  /-- EPOCH_CLOSE (R749): When OPSEC reaches the end of an epoch, the accumulators are snapshot and the next epoch starts. -/
  | epochClose
  /-- EPOCH_RECORD_WRITTEN (R750): The epoch record is written, verified and checkpointed, or abandoned with WRITE_ERR; source 511 is raised. -/
  | epochRecordWritten (x : RecordReads)
  /-- COLO_SNAP (R758): SNAP copies the current accumulators into the COLO_LIVE window. -/
  | coloSnap
  /-- PROOF_CMD_START (R775): START requests a slice of an enabled partition, which is queued. -/
  | proofCmdStart (p : Party) (dbg : Bool) (v : Word)
  /-- PROOF_SLICE_START (R770): The next queued slice withdraws its partition and suspends, parks or drains its work. -/
  | proofSliceStart
  /-- PROOF_SLICE_END (R780): After the scan the MISR is compared, the partition is returned or fenced, the result is recorded and source 464 is raised. -/
  | proofSliceEnd (misr : Nat) (clearFail : Bool)
  /-- PROOF_PARK (R773): Draft firmware parks its core for a pending slice. -/
  | proofPark (core : Nat)
  /-- PROOF_PARK_GRACE_EXPIRY (R773): A core not parked within PROOF_PARK_GRACE is parked at the next instruction boundary. -/
  | proofParkGraceExpiry (core : Nat)
  /-- ECC_WRITEBACK (R791): A corrected word is written back within 64 cycles unless it has been written first. -/
  | eccWriteback (a : Nat)
  /-- SCRUB_STEP (R801): A patrol scrubber reads the next word in an idle cycle, correcting or counting errors. -/
  | scrubStep (which : Nat) (e : EccFind)
  /-- XSPI_PROGRAM (R812): PROGRAM copies up to 4 MiB from SRAM to flash and reads it back. -/
  | xspiProgram (w : World) (pr : Priv) (core : Nat)
  /-- XSPI_ERASE (R812): ERASE erases a 4 KiB-aligned range and verifies it as all ones. -/
  | xspiErase (w : World) (pr : Priv) (core : Nat)
  /-- XSPI_COMMAND_DONE (R813): A flash command ends with its RESULT and raises source 492. -/
  | xspiCommandDone (fail : Option Nat)
  /-- XSPI_LOCK (R808): Writing LOCK checks the user and secret regions and locks them, or sets LOCK_ERR. -/
  | xspiLock (v : Word)
  /-- WIPE_DONE (R814): A secret or user wipe ends DONE or FAILED, and source 494 is raised. -/
  | wipeDone (fail : Option Nat)
  /-- CON_CHAR_RECEIVED (R823): A received character is sampled, flagged and stored, or handled as a flow character. -/
  | conCharReceived (n : Nat) (c : RxChar)
  /-- CON_CHAR_SENT (R821): The transmitter finishes a character and starts the next one, unless it is paused. -/
  | conCharSent (n : Nat) (collision : Bool)
  /-- CON_TXDATA (R825): A write queues a character for transmit, or sets TX_OVF or ECHO_DROP. -/
  | conTxdata (n : Nat) (v : Word)
  /-- CON_RXDATA (R850): A read pops a character with its flags from the receive FIFO. -/
  | conRxdata (n : Nat)
  /-- CON_CFG_WRITE (R828): A configuration write is applied, or refused whole with CFG_ERR. -/
  | conCfgWrite (n : Nat) (r : ConReg) (v : Word)
  /-- FLUSH_TX (R850): Empties the transmit FIFO after the current character. -/
  | flushTx (n : Nat)
  /-- FLUSH_RX (R850): Empties the receive FIFO. -/
  | flushRx (n : Nat)
  /-- CON_RESUME (R831): RESUME clears TX_PAUSED. -/
  | conResume (n : Nat)
  /-- SEND_BREAK (R850): Holds TXD low for two character times after the current character. -/
  | sendBreak (n : Nat)
  /-- CON_PAUSE_TIMEOUT (R833): TX_PAUSED held for PAUSE_TO sets PAUSE_TO and raises the condition event. -/
  | conPauseTimeout (n : Nat)
  /-- RS485_TAIL_END (R834): TAIL bit times after the last stop bit, CONn_DE falls. -/
  | rs485TailEnd (n : Nat)
  /-- CON_RX_IDLE_TIMEOUT (R840): Four character times without a start bit while data waits raise the data event. -/
  | conRxIdleTimeout (n : Nat)
  /-- CONSOLE_BREAK (R841): A low of 100 µs on RXD in DEEP_NAP or STANDBY wakes the device. -/
  | consoleBreak (n : Nat)
  /-- STATUS_GET (R847): A custodian frame that asks for the unit status is answered with STATUS. -/
  | statusGet (chars : List Nat)
  /-- REQUEST_GET (R848): Returns the request record and EK of a slot. -/
  | requestGet (chars : List Nat)
  /-- PACKAGE_GET (R847): Returns the succession package of a RESTORE slot. -/
  | packageGet (chars : List Nat) (pkgAt : Nat)
  /-- COUNTERSIGN (R847): A custodian frame that delivers a countersignature to CER_COUNT is answered with RESULT. -/
  | countersign (chars : List Nat) (buf : Nat)
  /-- SHARE (R847): A custodian frame that delivers a share to RESTORE_SHARE is answered with RESULT. -/
  | share (chars : List Nat) (slot : Nat) (buf : Nat) (pkgAt : Nat)
  /-- UNKNOWN_FRAME (R847): A custodian frame of an unlisted type, or bad length, is answered with UNKNOWN. -/
  | unknownFrame (chars : List Nat)
  /-- STATUS (R858): SMBus block read of the four status registers. -/
  | status (t : SmbTx)
  /-- IDENT (R858): SMBus block read of serial, identity and IDCODE. -/
  | ident (t : SmbTx)
  /-- ALERT_STAT (R858): SMBus read of the alert MASK and PENDING bits. -/
  | alertStat (t : SmbTx)
  /-- ALERT_MASK (R867): SMBus write of the alert MASK bits, also on the group address. -/
  | alertMask (t : SmbTx)
  /-- LCY_STATE (R858): SMBus block read of LCY_STATE. -/
  | lcyState (t : SmbTx)
  /-- LCY_WORD (R858): SMBus block read of LCY_WORD. -/
  | lcyWord (t : SmbTx)
  /-- LCY_RESULT (R858): SMBus block read of LCY_RESULT. -/
  | lcyResult (t : SmbTx)
  /-- LCY_RIGHTS (R858): SMBus block read of LCY_RIGHTS. -/
  | lcyRights (t : SmbTx)
  /-- LCY_DEBUG_COUNT (R858): SMBus block read of LCY_DEBUG_COUNT. -/
  | lcyDebugCount (t : SmbTx)
  /-- BOOT_STAT (R858): SMBus block read of BOOT_STAT. -/
  | bootStat (t : SmbTx)
  /-- BOOT_TIME (R858): SMBus block read of BOOT_TIME. -/
  | bootTime (t : SmbTx)
  /-- BOOT_SERIAL (R858): SMBus block read of BOOT_SERIAL. -/
  | bootSerial (t : SmbTx)
  /-- BOOT_IDENT (R858): SMBus block read of BOOT_IDENT. -/
  | bootIdent (t : SmbTx)
  /-- BOOT_IMG_STAT (R858): SMBus block read of BOOT_IMG_STAT. -/
  | bootImgStat (t : SmbTx)
  /-- BOOT_FLOOR_OTP (R858): SMBus block read of BOOT_FLOOR_OTP. -/
  | bootFloorOtp (t : SmbTx)
  /-- BOOT_SIGNER (R858): SMBus block read of BOOT_SIGNER. -/
  | bootSigner (t : SmbTx)
  /-- DUCT_STAT (R858): SMBus block read of DUCT_STAT. -/
  | ductStat (t : SmbTx)
  /-- DUCT_CONFIG_ID (R858): SMBus block read of DUCT_CONFIG_ID. -/
  | ductConfigId (t : SmbTx)
  /-- DUCT_CONFIG_REV (R858): SMBus block read of DUCT_CONFIG_REV. -/
  | ductConfigRev (t : SmbTx)
  /-- DUCT_VERSION (R858): SMBus block read of DUCT_VERSION. -/
  | ductVersion (t : SmbTx)
  /-- WRLD_STAT (R858): SMBus block read of WRLD_STAT. -/
  | wrldStat (t : SmbTx)
  /-- WRLD_CFG (R858): SMBus block read of WRLD_CFG. -/
  | wrldCfg (t : SmbTx)
  /-- WRLD_FAIL_TIME (R858): SMBus block read of WRLD_FAIL_TIME. -/
  | wrldFailTime (t : SmbTx)
  /-- WRLD_READY_TIME (R858): SMBus block read of WRLD_READY_TIME. -/
  | wrldReadyTime (t : SmbTx)
  /-- RSV_STAT (R858): SMBus block read of RSV_STAT. -/
  | rsvStat (t : SmbTx)
  /-- CUST_STAT (R858): SMBus block read of CUST_STAT. -/
  | custStat (t : SmbTx)
  /-- ENT_STAT (R858): SMBus block read of ENT_STAT. -/
  | entStat (t : SmbTx)
  /-- PORT_STAT (R858): SMBus block read of PORT_STAT of both ports. -/
  | portStat (t : SmbTx)
  /-- SVC_EK (R860): SMBus process call returning one 224-byte chunk of the service key. -/
  | svcEk (t : SmbTx)
  /-- BLOT_STAT (R858): SMBus block read of BLOT_STAT. -/
  | blotStat (t : SmbTx)
  /-- BLOT_CAUSE (R858): SMBus block read of BLOT_CAUSE. -/
  | blotCause (t : SmbTx)
  /-- BLOT_ACTIVE (R858): SMBus block read of BLOT_ACTIVE. -/
  | blotActive (t : SmbTx)
  /-- BLOT_ALARM (R858): SMBus block read of BLOT_ALARM. -/
  | blotAlarm (t : SmbTx)
  /-- BLOT_ALARM_ACTIVE (R858): SMBus block read of BLOT_ALARM_ACTIVE. -/
  | blotAlarmActive (t : SmbTx)
  /-- BLOT_TIME (R858): SMBus block read of BLOT_TIME. -/
  | blotTime (t : SmbTx)
  /-- BLOT_OPSEC (R858): SMBus block read of BLOT_OPSEC. -/
  | blotOpsec (t : SmbTx)
  /-- BLOT_PCC (R858): SMBus block read of BLOT_PCC. -/
  | blotPcc (t : SmbTx)
  /-- BLOT_NEAR (R858): SMBus block read of the eight pair near-miss counts. -/
  | blotNear (t : SmbTx)
  /-- BLOT_MESH_NEAR (R858): SMBus block read of BLOT_MESH_NEAR. -/
  | blotMeshNear (t : SmbTx)
  /-- BLOT_SENSE (R858): SMBus block read of BLOT_SENSE. -/
  | blotSense (t : SmbTx)
  /-- COLO_STAT (R858): SMBus block read of COLO_STAT. -/
  | coloStat (t : SmbTx)
  /-- COLO_OPSEC (R858): SMBus block read of COLO_OPSEC. -/
  | coloOpsec (t : SmbTx)
  /-- COLO_PCC (R858): SMBus block read of COLO_PCC. -/
  | coloPcc (t : SmbTx)
  /-- COLO_NEXT_CLOSE (R858): SMBus block read of COLO_NEXT_CLOSE. -/
  | coloNextClose (t : SmbTx)
  /-- COLO_PAGE (R860): SMBus process call returning a 128-byte chunk of a Colophon page. -/
  | coloPage (x : FoundTx)
  /-- COLO_LIVE (R864): SMBus process call; chunk 0 refreshes the target's live copy and each chunk returns 128 bytes of it. -/
  | coloLive (t : SmbTx)
  /-- PROOF_STAT (R858): SMBus block read of PROOF_STAT. -/
  | proofStat (t : SmbTx)
  /-- PROOF_BOOT (R858): SMBus block read of PROOF_BOOT. -/
  | proofBoot (t : SmbTx)
  /-- MEM_STAT (R858): SMBus block read of MEM_STAT. -/
  | memStat (t : SmbTx)
  /-- MEM_ECC (R858): SMBus block read of the five ECC counters. -/
  | memEcc (t : SmbTx)
  /-- MEM_WIPE_STAT (R858): SMBus block read of MEM_WIPE_STAT. -/
  | memWipeStat (t : SmbTx)
  /-- EVT_STATUS (R866): SMBus process call returning the SMBALERT-routed status bits of one group. -/
  | evtStatus (t : SmbTx)
  /-- EVT_CLEAR (R866): SMBus block write clearing SMBALERT-routed status bits by mask. -/
  | evtClear (t : SmbTx)
  /-- QUICK_COMMAND (R857): A Quick Command to a slot is acknowledged with no effect. -/
  | quickCommand (addr : Nat) (rw : Bool)
  /-- ALERT_RESPONSE (R871): An ARA read returns the lowest pending unmasked slot's address and clears its PENDING bit. -/
  | alertResponse (lost : Bool) (ack : Bool)
  /-- SMB_CLOCK_TIMEOUT (R875): SMBCLK held low 25 to 35 ms makes the target release the bus and abandon the transaction. -/
  | smbClockTimeout (addr : Nat) (cmd : Nat)
  /-- SMB_PROTOCOL_BREACH (R876): A misplaced START or STOP makes the target release the bus and discard the transaction. -/
  | smbProtocolBreach (addr : Nat) (cmd : Nat)
  /-- SMB_ADDRESS_MATCH (R878): In DEEP_NAP or STANDBY an address match wakes the device and raises source 503. -/
  | smbAddressMatch (addr : Nat) (x : BootIn)
  /-- SMB_STRETCH_LIMIT (R879): If CLK_PER does not run within 1.5 ms, the target releases SMBCLK and discards the transaction. -/
  | smbStretchLimit (addr : Nat)
  /-- POWER_STATE_ENTRY (R885): After IDLE_US of met conditions the device enters the deepest state that R889 chooses. -/
  | powerStateEntry (wfi : Bool) (pcieIdle : Bool) (scrubIdle : Bool)
  /-- ASPM_L1_ENTRY (R898): After 8 µs of link idle in NAP or DEEP_NAP the device initiates ASPM L1. -/
  | aspmL1Entry
  /-- PRE_WAKE (R890): At the deadline minus exit latency minus 2 µs the device starts its exit. -/
  | preWake
  /-- WAKE (R895): A wake source starts the exit from a low-power state and latches its cause. -/
  | wake (b : Nat) (levels : Nat) (x : BootIn)
  /-- POWER_EXIT_COMPLETE (R897): The main domain runs again, the doorbell shadow is applied and source 504 is raised. -/
  | powerExitComplete
  /-- PWR_HINT (R893): A write of a hint code limits states or requests STANDBY, with Draft STANDBY refused. -/
  | pwrHint (p : Party) (v : Word)
  /-- STANDBY_ENTRY (R904): With a pending request and the conditions met, the device writes a checkpoint and gates the main domain. -/
  | standbyEntry (wfi : Bool) (pcieIdle : Bool) (scrubIdle : Bool) (l23 : Bool)
  /-- EVT_ROUTE_WRITE (R918): A route write is applied if permitted and not locked, or ignored with ROUTE_ERR. -/
  | evtRouteWrite (p : Party) (n : Nat) (v : Word)
  /-- EVT_STATUS_CLEAR (R917): A W1C write clears the status bits that the writer may clear. -/
  | evtStatusClear (p : Party) (g : Nat) (v : Word)
  /-- FOL_T_EVT (R926): A Tenant W1C write clears its folio's event status bits. -/
  | folTEvt (f : Nat) (v : Word)
  /-- MSIX_VECTOR_UNMASK (R913): A vector that becomes able to send sends one message for its set PBA bit. -/
  | msixVectorUnmask (v : Nat)
  /-- PLIC_CLAIM (R919): A read of claim/complete claims the highest-priority pending interrupt. -/
  | plicClaim (w : World) (ctx : Nat)
  /-- PLIC_COMPLETE (R919): A write of claim/complete completes an interrupt. -/
  | plicComplete (w : World) (ctx : Nat) (id : Nat)
  /-- ATS_TRANSLATION_COMPLETION (R512): A Translation Completion from the host either fills the translation cache so the operation proceeds, or completes the operation with BAD_ADDRESS and sets ATS_FAIL. -/
  | atsTranslationCompletion (who : HostReader) (pasid : Option Nat) (a : Nat) (write : Bool) (dest : Nat) (size : Nat) (perm : XlPerm)
  /-- LINK_REACHES_L0 (R899): When the PCIe link reaches L0 after an L1 or L2 exit, the device deasserts WAKE_N, sends held PM_PME and MSI-X messages, and honours doorbells held during the exit. -/
  | linkReachesL0
  /-- PAUSE_TIME_EXPIRY (R630): The time requested by a received pause or PFC frame runs out and the port resumes transmitting on that port or class. -/
  | pauseTimeExpiry (p : Nat) (prio : Option Nat)
  /-- FOLIO_RESET_COMPLETE (R531): A folio RESET, DESTROY or function-level reset finishes within 10 ms: the folio leaves RESETTING for ACTIVE or FREE, GO clears, and configuration requests stop getting Retry Status after FLR. -/
  | folioResetComplete (f : Option Nat)
  /-- DMA_TRANSFER (R289): A Scribe-world or Draft-world DMA engine transfer runs through the ruling units and ends, or stops with BAD_ADDRESS or POISON in its channel register. -/
  | dmaTransfer (w : World) (src : Nat) (dst : Nat) (len : Nat) (e : EccFind)
  /-- HS_DONE (R660): A successor acting as a handover client receives HS_DONE and holds an established session to the predecessor. -/
  | hsDone
  /-- HS_REJECT (R644): A successor acting as a handover client receives HS_REJECT and abandons its handshake with the status carried. -/
  | hsReject
  /-- UNLISTED_COMMAND_CODE (R858): An SMBus transaction whose command code is not listed, or is a Run code before step 6, or is not ALERT_MASK on the group address, is NACKed at the command byte with no effect. -/
  | unlistedCommandCode (code : Nat) (t : SmbTx)
  /-- CON_BREAK_END (R824): After a BREAK, the console line returns to 1 and the receiver again accepts start bits. -/
  | conBreakEnd (n : Nat)
  deriving DecidableEq, Repr

end Sys2Proof
end

