-- ==== Sys2Proof/Config.lean ====
section
/-! DEFINITION. What an implementation fixes and the spec leaves open: free values. Nothing here has a body, so no proof can see a
value of it. -/

namespace Sys2Proof.Config

/-- The n-th free value: a word the spec leaves open (a random draw, a value with no behaviour defined).
DESIGN CHOICE, log entry 4. -/
opaque freeWord : Nat → BitVec 64

/-- Register r of a hart in context n: what a program left in it (log entry 4). -/
opaque hartReg : Nat → Nat → BitVec 64

/-- Byte i of the n-th free byte string. -/
opaque freeByte : Nat → Nat → BitVec 8

/-- The boot ROM's content, fixed by the part (log entry 4). -/
opaque romByte : Nat → BitVec 8

/-- The device-unique secret, fixed by the part and readable by no one (Table RSV-1). -/
opaque dusByte : Nat → BitVec 8

/-- Which device initiator bit of Table RUL-3 the device's own host transfers carry where no engine makes them
(descriptor fetch, completion entries, Reservoir, DRBG); the spec names none (log entry 10). -/
opaque hostInitiator : Nat

/-- Whether both vendor signatures hold on a revocation order, whose layout the spec does not give: by order, HSS key digest
and ML-DSA key digest (log entry 4). -/
opaque orderSigned : Bytes → Bytes → Bytes → Bool

/-- The cost estimate of a KEY_GENERATE of a symmetric type, in ns: Table SCH-2 gives none (log entry 4). -/
opaque symmetricKeygenNs : Nat

/-- The binary logarithm of a cache line's size in 64-bit words, which the spec does not give (R794). Log entry 66. -/
opaque lineLog : Nat

/-- The 64-bit generator of a mesh loop (R717), whose algorithm the spec does not give: the word it drives in a sample period, and the
generator after it. Log entry 65. -/
opaque meshBits : BitVec 64 → BitVec 32
opaque meshNext : BitVec 64 → BitVec 64

end Sys2Proof.Config
end

