-- ==== Sys2Proof/Machine/Balls.lean ====
section
/-! DEFINITION. Chapters 25 and 26: the signals, the ball of each, their segments, types and reset states, the lanes of a port mode, the
bank A level, and the balls that the boundary-scan register holds. -/

namespace Sys2Proof.Machine

/-- The signals of Tables BAL-3 and BAL-4. Of a SerDes pair `neg` is the N side. -/
inductive Signal where
  | xspiCk | xspiCsN | xspiDq (i : Nat) | xspiDqs | xspiResetN
  | gpio (i : Nat)
  | conTxd (n : Nat) | conRxd (n : Nat) | conDe (n : Nat)
  | jtagTck | jtagTms | jtagTdi | jtagTdo | jtagTrstN
  | ppsIn | ppsOut | todIn | todOut
  | porstN | perstN | wakeN | clkreqN | bootBank | addrSel (i : Nat)
  | smbClk | smbDat | smbAlertN
  | tampA (n : Nat) | tampB (n : Nat) | meshOut (n : Nat) | meshIn (n : Nat) | blotInN | blotOutN
  | xtalIn | xtalOut | vddCoreSense | vssCoreSense
  | pcieTx (lane : Nat) (neg : Bool) | pcieRx (lane : Nat) (neg : Bool)
  | netTx (port lane : Nat) (neg : Bool) | netRx (port lane : Nat) (neg : Bool)
  | refclk (neg : Bool)
  deriving DecidableEq, Repr

/-- The supply rails (Table ELE-2). -/
inductive Rail where
  | core | sram | serA | serH | ioA | ioB | aon | vbat
  deriving DecidableEq, Repr

/-- What a ball carries; none is unconnected (R963). -/
inductive Net where
  | sig (s : Signal)
  | rail (r : Rail)
  | vss
  deriving DecidableEq, Repr

/-! ## The ball map (R962, R963) -/

/-- The edge balls of rows E to AA, columns 1, 2, 3, 26, 27 and 28 (Table BAL-4), by row index. -/
def edgeBalls (r : Nat) : List Net := match r with
  | 5 => [.sig .xspiCk, .sig .xspiCsN, .sig .xspiDqs, .sig .smbClk, .sig .smbDat, .sig .smbAlertN]
  | 6 => [.sig (.xspiDq 0), .sig (.xspiDq 1), .sig (.xspiDq 2), .rail .ioB, .vss, .rail .ioB]
  | 7 => [.sig (.xspiDq 3), .sig (.xspiDq 4), .sig (.xspiDq 5), .sig (.conTxd 0), .sig (.conRxd 0), .sig (.conDe 0)]
  | 8 => [.sig (.xspiDq 6), .sig (.xspiDq 7), .sig .xspiResetN, .sig (.conTxd 1), .sig (.conRxd 1), .sig (.conDe 1)]
  | 9 => [.rail .ioA, .rail .ioA, .rail .ioA, .sig .jtagTck, .sig .jtagTms, .sig .jtagTdi]
  | 10 => [.rail .ioA, .rail .aon, .rail .aon, .sig .jtagTdo, .sig .jtagTrstN, .rail .ioB]
  | 11 => [.rail .vbat, .rail .vbat, .sig .xtalIn, .sig .ppsIn, .sig .ppsOut, .vss]
  | 12 => [.sig .blotInN, .sig .blotOutN, .sig .xtalOut, .sig .todIn, .sig .todOut, .rail .ioB]
  | 13 => [.sig (.tampA 0), .sig (.tampB 0), .sig (.meshOut 0), .sig .porstN, .sig .bootBank, .vss]
  | 14 => [.sig (.tampA 1), .sig (.tampB 1), .sig (.meshIn 0), .sig (.addrSel 0), .sig (.addrSel 1), .rail .ioB]
  | 15 => [.sig (.tampA 2), .sig (.tampB 2), .sig (.meshOut 1), .sig (.gpio 0), .sig (.gpio 1), .sig (.gpio 2)]
  | 16 => [.sig (.tampA 3), .sig (.tampB 3), .sig (.meshIn 1), .sig (.gpio 3), .sig (.gpio 4), .sig (.gpio 5)]
  | 17 => [.sig (.tampA 4), .sig (.tampB 4), .sig (.meshOut 2), .sig (.gpio 6), .sig (.gpio 7), .rail .ioA]
  | 18 => [.sig (.tampA 5), .sig (.tampB 5), .sig (.meshIn 2), .rail .ioA, .vss, .vss]
  | 19 => [.sig (.tampA 6), .sig (.tampB 6), .sig (.meshOut 3), .sig .perstN, .sig .wakeN, .sig .clkreqN]
  | 20 => [.sig (.tampA 7), .sig (.tampB 7), .sig (.meshIn 3), .sig .vddCoreSense, .sig .vssCoreSense, .vss]
  | _ => []

/-- A row of pairs: lane `k` at columns `3k + 2` and `3k + 3`, ground elsewhere (Table BAL-3). -/
def pairAt (c lanes : Nat) (f : Nat → Bool → Signal) : Net :=
  if 2 ≤ c ∧ (c - 2) % 3 < 2 ∧ (c - 2) / 3 < lanes then .sig (f ((c - 2) / 3) ((c - 2) % 3 == 1)) else .vss

/-- An Ethernet row: N0 from column 2, N1 from column 17. -/
def netRow (c : Nat) (f : Nat → Nat → Bool → Signal) : Net := if c < 15 then pairAt c 4 (f 0) else pairAt (c - 15) 4 (f 1)

/-- The net of the ball at row index `r` and column `c`, both 1 to 28 (Tables BAL-3, BAL-4 and BAL-6). -/
def ballNet (r c : Nat) : Net :=
  if 5 ≤ r ∧ r ≤ 20 then
    if c ≤ 3 then (edgeBalls r).getD (c - 1) .vss
    else if 26 ≤ c then (edgeBalls r).getD (c - 23) .vss
    else if c = 4 ∨ c = 25 then .vss
    else if r = 5 ∨ r = 20 then (if c % 2 = 0 then .rail .sram else .vss)
    else if (r + c) % 2 = 0 then .rail .core else .vss
  else match r with
    | 1 => netRow c .netTx
    | 3 => netRow c .netRx
    | 4 => if c ≤ 4 ∨ 25 ≤ c then .rail .serH else if 13 ≤ c ∧ c ≤ 16 then .vss else .rail .serA
    | 21 => if c ≤ 12 then .rail .serA else if c ≤ 20 then .rail .serH
      else if c = 26 ∨ c = 27 then .sig (.refclk (c == 27)) else .vss
    | 22 => pairAt c 8 fun k => .pcieRx (k + 8)
    | 24 => pairAt c 8 .pcieRx
    | 26 => pairAt c 8 fun k => .pcieTx (k + 8)
    | 28 => pairAt c 8 .pcieTx
    | _ => .vss

/-! ## Segments, types and reset states (Tables ELE-6, BAL-5) -/

inductive Segment where
  | a | bMain | bSmbus | alwaysOn | blotter | serdes | none
  deriving DecidableEq, Repr

def Signal.segment : Signal → Segment
  | .xspiCk | .xspiCsN | .xspiDq _ | .xspiDqs | .xspiResetN | .gpio _ => .a
  | .smbClk | .smbDat | .smbAlertN => .bSmbus
  | .tampA _ | .tampB _ | .meshOut _ | .meshIn _ | .blotInN | .blotOutN => .alwaysOn
  | .xtalIn | .xtalOut => .blotter
  | .vddCoreSense | .vssCoreSense => .none
  | .pcieTx _ _ | .pcieRx _ _ | .netTx _ _ _ | .netRx _ _ _ | .refclk _ => .serdes
  | _ => .bMain

inductive BallType where
  | input | output | inout | openDrain | analogue
  deriving DecidableEq, Repr

/-- CONn_TXD is push-pull here, and open-drain in SINGLE_WIRE mode. -/
def Signal.type : Signal → BallType
  | .xspiDq _ => .inout
  | .xspiCk | .xspiCsN | .xspiResetN | .conTxd _ | .conDe _ | .jtagTdo | .ppsOut | .todOut | .meshOut _ | .pcieTx _ _ |
    .netTx _ _ _ => .output
  | .wakeN | .clkreqN | .smbClk | .smbDat | .smbAlertN | .blotOutN => .openDrain
  | .xtalIn | .xtalOut | .vddCoreSense | .vssCoreSense => .analogue
  | _ => .input

/-- The level or condition of a ball. -/
inductive BallState where
  | low | high | highZ | sensed | released | electricalIdle | differential0
  /-- As the Blotter domain drives or samples it, or the die's own node, whatever PORST_N. -/
  | own
  deriving DecidableEq, Repr

/-- The state of a ball from power-up and while PORST_N is low (R964, Table BAL-5). -/
def Signal.underReset : Signal → BallState
  | .xspiCk | .xspiResetN | .conDe _ | .ppsOut | .clkreqN => .low
  | .xspiCsN | .todOut => .high
  | .xspiDq _ | .conTxd _ | .jtagTdo => .highZ
  | .wakeN | .smbClk | .smbDat | .smbAlertN => .released
  | .tampA _ | .tampB _ | .meshOut _ | .meshIn _ | .blotInN | .blotOutN | .xtalIn | .xtalOut | .vddCoreSense | .vssCoreSense => .own
  | .pcieTx _ _ => .electricalIdle
  | .netTx _ _ _ => .differential0
  | _ => .sensed

/-- Its state from PORST_N rising until what Table BAL-5 names takes over. -/
def Signal.afterReset : Signal → BallState
  | .xspiResetN => .high
  | .conTxd n => if n = 0 then .highZ else .high
  | s => s.underReset

/-! ## Boundary scan (R175) -/

/-- The boundary-scan register holds the signal: neither of the Blotter domain, nor SerDes, nor REFCLK; nor one of the TAP itself, as
IEEE 1149.1 has it (PRESUMED, log entry 67). -/
def Signal.scanned (s : Signal) : Bool :=
  (s.segment == .a || s.segment == .bMain || s.segment == .bSmbus) &&
    !([Signal.jtagTck, .jtagTms, .jtagTdi, .jtagTdo, .jtagTrstN].contains s)

/-- The cells of the boundary-scan register, cell 0 first: one for each scanned signal, in the order of the balls by row and column
(DESIGN CHOICE, log entry 67). -/
def boundaryCells : List Signal :=
  (List.range 28).flatMap fun r => (List.range 28).filterMap fun c => match ballNet (r + 1) (c + 1) with
    | .sig s => if s.scanned then some s else none
    | _ => none

/-- The number of cells. -/
def boundaryLen : Nat := 40

/-- The balls that the register's contents `v` drive: every scanned ball that is not an input. -/
def boundaryDrive (v : Nat) : List (Signal × Bool) :=
  boundaryCells.zipIdx.filterMap fun e => if e.1.type = .input then none else some (e.1, v.testBit e.2)

/-! ## Lanes and levels (R935, R966) -/

/-- The lanes that a port mode uses, from lane 0: modes 1, 3 and 4 four, mode 2 two (R966). -/
def modeLanes (mode : Nat) : Nat := if mode = 2 then 2 else if mode = 1 ∨ mode = 3 ∨ mode = 4 then 4 else 0

/-- The bank A setting in mV that a VDDIO_A of `mv` gives: the highest level whose minimum it meets, none below every minimum (R935). -/
def bankLevel (mv : Nat) : Option Nat :=
  if 1710 ≤ mv then some 1800 else if 1425 ≤ mv then some 1500 else if 1140 ≤ mv then some 1200 else none

end Sys2Proof.Machine
end

