-- ==== Sys2Proof/Machine/RegNames.lean ====
section
/-! DEFINITION. The addresses of every register (Tables EVT-5, EVT-6 and each chapter's register tables): one internal
physical address per register; a 64-bit register is named by its low word. Indices: unit, port, folio, ring pair or
copy first, element second, each taken modulo its count, so that no index leaves its registers. -/

namespace Sys2Proof.Machine


/-! Registers of spec/02_time_and_strokes.md. -/

/-- 02_time_and_strokes.md, R86. -/
abbrev Reg.TIME_NOW_LO : Nat := 0x140000000
/-- 02_time_and_strokes.md, R86. -/
abbrev Reg.TIME_NOW_HI : Nat := 0x140000004
/-- 02_time_and_strokes.md, R86. -/
abbrev Reg.TIME_NOW_FRAC : Nat := 0x140000008
/-- 02_time_and_strokes.md, R86. -/
abbrev Reg.TIME_STAT : Nat := 0x140000010
/-- 02_time_and_strokes.md, R86. -/
abbrev Reg.TIME_INCR : Nat := 0x140000020
/-- 02_time_and_strokes.md, R86. -/
abbrev Reg.TIME_RATE_D : Nat := 0x140000028
/-- 02_time_and_strokes.md, R86. -/
abbrev Reg.TIME_SET : Nat := 0x140000030
/-- 02_time_and_strokes.md, R86. -/
abbrev Reg.TIME_STEP_S : Nat := 0x140000038
/-- 02_time_and_strokes.md, R86. -/
abbrev Reg.TIME_STEP_D : Nat := 0x140000040
/-- 02_time_and_strokes.md, R86. -/
abbrev Reg.TIME_PPS_WIDTH : Nat := 0x140000048
/-- 02_time_and_strokes.md, R86. -/
abbrev Reg.TIME_LUMRO_CTL : Nat := 0x140000050
/-- 02_time_and_strokes.md, R86. -/
abbrev Reg.TIME_LUMRO_DELAY : Nat := 0x140000058
/-- 02_time_and_strokes.md, R86. -/
abbrev Reg.TIME_LUMRO_CAP : Nat := 0x140000060
/-- 02_time_and_strokes.md, R86. -/
abbrev Reg.TIME_LUMRO_OFFSET : Nat := 0x140000068
/-- 02_time_and_strokes.md, R86. -/
abbrev Reg.TIME_LUMRO_RXSEC : Nat := 0x140000070
/-- 02_time_and_strokes.md, R86. -/
abbrev Reg.TIME_LUMRO_STAT : Nat := 0x140000078
/-- 02_time_and_strokes.md, R86. -/
abbrev Reg.TIME_PTP_CORR_N0 : Nat := 0x140000080
/-- 02_time_and_strokes.md, R86. -/
abbrev Reg.TIME_PTP_CORR_N1 : Nat := 0x140000084
/-- 02_time_and_strokes.md, R60/R86. -/
abbrev Reg.STRK_W0 (n : Nat) : Nat := 0x140010000 + 0x20 * (n % 1024)
/-- 02_time_and_strokes.md, R60/R86. -/
abbrev Reg.STRK_ARG (n : Nat) : Nat := 0x140010004 + 0x20 * (n % 1024)
/-- 02_time_and_strokes.md, R60/R86. -/
abbrev Reg.STRK_TIME (n : Nat) : Nat := 0x140010008 + 0x20 * (n % 1024)
/-- 02_time_and_strokes.md, R60/R86. -/
abbrev Reg.STRK_PERIOD (n : Nat) : Nat := 0x140010010 + 0x20 * (n % 1024)
/-- 02_time_and_strokes.md, R60/R86. -/
abbrev Reg.STRK_COUNT (n : Nat) : Nat := 0x140010018 + 0x20 * (n % 1024)
/-- 02_time_and_strokes.md, R60/R86. -/
abbrev Reg.STRK_STATUS (n : Nat) : Nat := 0x14001001C + 0x20 * (n % 1024)
/-- 02_time_and_strokes.md, R60/R86. -/
abbrev Reg.STRK_ERR : Nat := 0x140018000
/-- 02_time_and_strokes.md, R60/R86. -/
abbrev Reg.STRK_GATE_USED : Nat := 0x140018010
/-- 02_time_and_strokes.md, R60/R86. -/
abbrev Reg.STRK_GATE_HWM : Nat := 0x140018014
/-- 02_time_and_strokes.md, R60/R86. -/
abbrev Reg.STRK_NEXT : Nat := 0x140018018

/-! Registers of spec/03_ductus.md. -/

/-- 03_ductus.md, R139. -/
abbrev Reg.DUCT_STAT : Nat := 0x140020000
/-- 03_ductus.md, R139. -/
abbrev Reg.DUCT_CONFIG_ID : Nat := 0x140020004
/-- 03_ductus.md, R139. -/
abbrev Reg.DUCT_CONFIG_REV : Nat := 0x140020008
/-- 03_ductus.md, R139. -/
abbrev Reg.DUCT_VERSION : Nat := 0x14002000C
/-- 03_ductus.md, R139. -/
abbrev Reg.DUCT_STREAM_ID : Nat := 0x140020010
/-- 03_ductus.md, R139. -/
abbrev Reg.DUCT_DIGEST (n : Nat) : Nat := 0x140020020 + 0x4 * (n % 12)
/-- 03_ductus.md, R139. -/
abbrev Reg.DUCT_LIVE_ADDR : Nat := 0x140020050
/-- 03_ductus.md, R139. -/
abbrev Reg.DUCT_LIVE_LEN : Nat := 0x140020058
/-- 03_ductus.md, R139. -/
abbrev Reg.DUCT_CMD : Nat := 0x14002005C
/-- 03_ductus.md, R139. -/
abbrev Reg.DUCT_LIVE_STAT : Nat := 0x140020060
/-- 03_ductus.md, R139. -/
abbrev Reg.DUCT_LIVE_VERSION : Nat := 0x140020064
/-- 03_ductus.md, R139. -/
abbrev Reg.DUCT_LAST_SWAP : Nat := 0x140020068
/-- 03_ductus.md, R139. -/
abbrev Reg.DUCT_SWAP_COUNT : Nat := 0x140020070

/-! Registers of spec/05_boot.md. -/

/-- 05_boot.md, R228. -/
abbrev Reg.BOOT_STAT : Nat := 0x140030000
/-- 05_boot.md, R228. -/
abbrev Reg.BOOT_TIME : Nat := 0x140030004
/-- 05_boot.md, R228. -/
abbrev Reg.BOOT_SERIAL : Nat := 0x140030008
/-- 05_boot.md, R228. -/
abbrev Reg.BOOT_IDENT : Nat := 0x140030010
/-- 05_boot.md, R228. -/
abbrev Reg.BOOT_IMG_STAT : Nat := 0x140030014
/-- 05_boot.md, R228. -/
abbrev Reg.BOOT_FLOOR_OTP : Nat := 0x140030020
/-- 05_boot.md, R228. -/
abbrev Reg.BOOT_BFLOOR0 : Nat := 0x140030024
/-- 05_boot.md, R228. -/
abbrev Reg.BOOT_BFLOOR1 : Nat := 0x140030028
/-- 05_boot.md, R228. -/
abbrev Reg.BOOT_FLOOR_CMD : Nat := 0x14003002C
/-- 05_boot.md, R228. -/
abbrev Reg.BOOT_VER_INFORCE : Nat := 0x140030030
/-- 05_boot.md, R228. -/
abbrev Reg.BOOT_SIGNER : Nat := 0x140030040
/-- 05_boot.md, R228. -/
abbrev Reg.BOOT_POLICY : Nat := 0x140030044
/-- 05_boot.md, R228. -/
abbrev Reg.BOOT_MEAS (n i : Nat) : Nat := 0x140030100 + 0x30 * (n % 8) + 0x4 * (i % 12)
/-- 05_boot.md, R228. -/
abbrev Reg.BOOT_MEAS_DATA (n : Nat) : Nat := 0x140030280 + 0x4 * (n % 12)
/-- 05_boot.md, R228. -/
abbrev Reg.BOOT_MEAS_CMD : Nat := 0x1400302B0
/-- 05_boot.md, R228. -/
abbrev Reg.BOOT_RCV_ADDR : Nat := 0x140030300
/-- 05_boot.md, R228. -/
abbrev Reg.BOOT_RCV_LEN : Nat := 0x140030308
/-- 05_boot.md, R228. -/
abbrev Reg.BOOT_RCV_CMD : Nat := 0x14003030C
/-- 05_boot.md, R228. -/
abbrev Reg.BOOT_RCV_STAT : Nat := 0x140030310

/-! Registers of spec/06_worlds.md. -/

/-- 06_worlds.md, R273. -/
abbrev Reg.WRLD_STAT : Nat := 0x140040000
/-- 06_worlds.md, R273. -/
abbrev Reg.WRLD_CFG : Nat := 0x140040004
/-- 06_worlds.md, R273. -/
abbrev Reg.WRLD_CORE_STAT : Nat := 0x140040008
/-- 06_worlds.md, R273. -/
abbrev Reg.WRLD_WD_KICK : Nat := 0x140040010
/-- 06_worlds.md, R273. -/
abbrev Reg.WRLD_WD_STAT : Nat := 0x140040014
/-- 06_worlds.md, R273. -/
abbrev Reg.WRLD_CLAIM : Nat := 0x140040018
/-- 06_worlds.md, R273. -/
abbrev Reg.WRLD_YIELD : Nat := 0x14004001C
/-- 06_worlds.md, R273. -/
abbrev Reg.WRLD_RETURN : Nat := 0x140040020
/-- 06_worlds.md, R273. -/
abbrev Reg.WRLD_LEND_CTL : Nat := 0x140040024
/-- 06_worlds.md, R273. -/
abbrev Reg.WRLD_LEND_ENTRY : Nat := 0x140040028
/-- 06_worlds.md, R273. -/
abbrev Reg.WRLD_FAIL_TIME : Nat := 0x140040030
/-- 06_worlds.md, R273. -/
abbrev Reg.WRLD_READY_TIME : Nat := 0x140040038
/-- 06_worlds.md, R273. -/
abbrev Reg.WRLD_READY : Nat := 0x140040040
/-- 06_worlds.md, R273. -/
abbrev Reg.WRLD_SELF_FAIL : Nat := 0x140040044
/-- 06_worlds.md, R273. -/
abbrev Reg.WRLD_SWITCH_COUNT : Nat := 0x140040048
/-- 06_worlds.md, R273. -/
abbrev Reg.WRLD_LEND_CTL2 : Nat := 0x14004004C
/-- 06_worlds.md, R273. -/
abbrev Reg.WRLD_MTIMECMP0 : Nat := 0x140040100
/-- 06_worlds.md, R273. -/
abbrev Reg.WRLD_MTIMECMP_D (n : Nat) : Nat := 0x140040108 + 0x8 * (n % 8)
/-- 06_worlds.md, R273. -/
abbrev Reg.WRLD_MTIMECMP_L (n : Nat) : Nat := 0x140040148 + 0x8 * (n % 2)

/-! Registers of spec/04_life_cycle.md. -/

/-- 04_life_cycle.md, R187. -/
abbrev Reg.LCY_STATE : Nat := 0x100000000
/-- 04_life_cycle.md, R187. -/
abbrev Reg.LCY_WORD : Nat := 0x100000008
/-- 04_life_cycle.md, R187. -/
abbrev Reg.LCY_RESULT : Nat := 0x100000010
/-- 04_life_cycle.md, R187. -/
abbrev Reg.LCY_RIGHTS : Nat := 0x100000014
/-- 04_life_cycle.md, R187. -/
abbrev Reg.LCY_DEBUG_COUNT : Nat := 0x100000018
/-- 04_life_cycle.md, R187. -/
abbrev Reg.LCY_CMD : Nat := 0x100000020
/-- 04_life_cycle.md, R187. -/
abbrev Reg.LCY_CERT_ADDR : Nat := 0x100000028
/-- 04_life_cycle.md, R187. -/
abbrev Reg.LCY_CERT_LEN : Nat := 0x100000030
/-- 04_life_cycle.md, R187. -/
abbrev Reg.LCY_NONCE (n : Nat) : Nat := 0x100000040 + 0x4 * (n % 8)

/-! Registers of spec/09_custodians.md. -/

/-- 09_custodians.md, R399. -/
abbrev Reg.CUST_STAT : Nat := 0x100010000
/-- 09_custodians.md, R399. -/
abbrev Reg.CUST_CMD : Nat := 0x100010004
/-- 09_custodians.md, R399. -/
abbrev Reg.CUST_RESULT : Nat := 0x100010008
/-- 09_custodians.md, R399. -/
abbrev Reg.CUST_WINDOW : Nat := 0x10001000C
/-- 09_custodians.md, R399. -/
abbrev Reg.CUST_ADDR (n : Nat) : Nat := 0x100010010 + 0x8 * (n % 3)
/-- 09_custodians.md, R399. -/
abbrev Reg.CUST_ARG : Nat := 0x100010028
/-- 09_custodians.md, R399. -/
abbrev Reg.CUST_MEMBERS : Nat := 0x10001002C
/-- 09_custodians.md, R399. -/
abbrev Reg.CUST_CANDIDATES : Nat := 0x100010030
/-- 09_custodians.md, R399. -/
abbrev Reg.CUST_ROW_SEL : Nat := 0x100010034
/-- 09_custodians.md, R399. -/
abbrev Reg.CUST_ROW_INFO : Nat := 0x100010038
/-- 09_custodians.md, R399. -/
abbrev Reg.CUST_SUCC_SLOT : Nat := 0x10001003C
/-- 09_custodians.md, R399. -/
abbrev Reg.CUST_ROW_DIGEST (n : Nat) : Nat := 0x100010040 + 0x4 * (n % 12)
/-- 09_custodians.md, R399. -/
abbrev Reg.CUST_CER_STAT (n : Nat) : Nat := 0x100010080 + 0x4 * (n % 4)
/-- 09_custodians.md, R399. -/
abbrev Reg.CUST_CER_COUNTED (n : Nat) : Nat := 0x100010090 + 0x4 * (n % 4)
/-- 09_custodians.md, R399. -/
abbrev Reg.CUST_CER_EXPIRES (n : Nat) : Nat := 0x1000100A0 + 0x8 * (n % 4)

/-! Registers of spec/07_ruling_units.md. -/

/-- 07_ruling_units.md, R316/R317. -/
abbrev Reg.RUL_CTL (n : Nat) : Nat := 0x100080000 + 0x10000 * (n % 7)
/-- 07_ruling_units.md, R316/R317. -/
abbrev Reg.RUL_SET_CMD (n : Nat) : Nat := 0x100080004 + 0x10000 * (n % 7)
/-- 07_ruling_units.md, R316/R317. -/
abbrev Reg.RUL_LOCK (n : Nat) : Nat := 0x100080008 + 0x10000 * (n % 7)
/-- 07_ruling_units.md, R316/R317. -/
abbrev Reg.RUL_STAGE (n i : Nat) : Nat := 0x100080010 + 0x10000 * (n % 7) + 0x4 * (i % 9)
/-- 07_ruling_units.md, R316/R317. -/
abbrev Reg.RUL_STAGE_CMD (n : Nat) : Nat := 0x100080034 + 0x10000 * (n % 7)
/-- 07_ruling_units.md, R316/R317. -/
abbrev Reg.RUL_STAT (n : Nat) : Nat := 0x100080040 + 0x10000 * (n % 7)
/-- 07_ruling_units.md, R316/R317. -/
abbrev Reg.RUL_FAULT_ADDR (n : Nat) : Nat := 0x100080048 + 0x10000 * (n % 7)
/-- 07_ruling_units.md, R316/R317. -/
abbrev Reg.RUL_FAULT_INFO (n : Nat) : Nat := 0x100080050 + 0x10000 * (n % 7)
/-- 07_ruling_units.md, R316/R317. -/
abbrev Reg.RUL_FAULT_TIME (n : Nat) : Nat := 0x100080058 + 0x10000 * (n % 7)
/-- 07_ruling_units.md, R316/R317. -/
abbrev Reg.RUL_FAULT_COUNT (n : Nat) : Nat := 0x100080060 + 0x10000 * (n % 7)
/-- 07_ruling_units.md, R316/R317. -/
abbrev Reg.RUL_FAULT_INFO2 (n : Nat) : Nat := 0x100080064 + 0x10000 * (n % 7)
/-- 07_ruling_units.md, R316/R317. -/
abbrev Reg.RUL_SETA (n i : Nat) : Nat := 0x100081000 + 0x10000 * (n % 7) + 0x40 * (i % 64)
/-- 07_ruling_units.md, R316/R317. -/
abbrev Reg.RUL_SETB (n i : Nat) : Nat := 0x100082000 + 0x10000 * (n % 7) + 0x40 * (i % 64)

/-! Registers of spec/08_reservoir.md. -/

/-- 08_reservoir.md, R360. -/
abbrev Reg.RSV_STAT : Nat := 0x100100000
/-- 08_reservoir.md, R360. -/
abbrev Reg.RSV_CMD : Nat := 0x100100004
/-- 08_reservoir.md, R360. -/
abbrev Reg.RSV_RESULT : Nat := 0x100100008
/-- 08_reservoir.md, R360. -/
abbrev Reg.RSV_ARG : Nat := 0x10010000C
/-- 08_reservoir.md, R360. -/
abbrev Reg.RSV_ARG_GEN : Nat := 0x100100010
/-- 08_reservoir.md, R360. -/
abbrev Reg.RSV_ADDR (n : Nat) : Nat := 0x100100018 + 0x8 * (n % 4)
/-- 08_reservoir.md, R360. -/
abbrev Reg.RSV_POLICY0 (n : Nat) : Nat := 0x100100040 + 0x4 * (n % 12)
/-- 08_reservoir.md, R360. -/
abbrev Reg.RSV_POLICY1 (n : Nat) : Nat := 0x100100070 + 0x4 * (n % 12)
/-- 08_reservoir.md, R360. -/
abbrev Reg.RSV_SLOT_USE : Nat := 0x1001000A0
/-- 08_reservoir.md, R360. -/
abbrev Reg.RSV_ECC : Nat := 0x1001000A4
/-- 08_reservoir.md, R360. -/
abbrev Reg.RSV_ERASE_TIME : Nat := 0x1001000A8
/-- 08_reservoir.md, R360. -/
abbrev Reg.RSV_DOM_SEL : Nat := 0x1001000B0
/-- 08_reservoir.md, R360. -/
abbrev Reg.RSV_DOM_INFO : Nat := 0x1001000B4
/-- 08_reservoir.md, R360. -/
abbrev Reg.RSV_DOM_GEN (n : Nat) : Nat := 0x1001000B8 + 0x4 * (n % 2)

/-! Registers of spec/10_nibs.md. -/

/-- 10_nibs.md, R448. -/
abbrev Reg.NIB_STAT : Nat := 0x140080000
/-- 10_nibs.md, R448. -/
abbrev Reg.NIB_CFG : Nat := 0x140080004
/-- 10_nibs.md, R448. -/
abbrev Reg.NIB_LANE_BYTES (n : Nat) : Nat := 0x140080010 + 0x8 * (n % 4)
/-- 10_nibs.md, R448. -/
abbrev Reg.NIB_HASH_BYTES (n : Nat) : Nat := 0x140080030 + 0x8 * (n % 2)
/-- 10_nibs.md, R448. -/
abbrev Reg.NIB_AUTH_FAIL : Nat := 0x140080040
/-- 10_nibs.md, R448. -/
abbrev Reg.NIB_SUSPEND_COUNT : Nat := 0x140080044
/-- 10_nibs.md, R448. -/
abbrev Reg.NIB_CTR_CLEAR : Nat := 0x140080048

/-! Registers of spec/11_flourish_and_entropy.md. -/

/-- 11_flourish_and_entropy.md, R492. -/
abbrev Reg.FLO_STAT : Nat := 0x140090000
/-- 11_flourish_and_entropy.md, R492. -/
abbrev Reg.FLO_OPS (n : Nat) : Nat := 0x140090010 + 0x8 * (n % 4)
/-- 11_flourish_and_entropy.md, R492. -/
abbrev Reg.FLO_AUTH_FAIL : Nat := 0x140090030
/-- 11_flourish_and_entropy.md, R492. -/
abbrev Reg.FLO_LOOP_ABORT : Nat := 0x140090034
/-- 11_flourish_and_entropy.md, R492. -/
abbrev Reg.FLO_CTR_CLEAR : Nat := 0x140090038
/-- 11_flourish_and_entropy.md, R492. -/
abbrev Reg.ENT_STAT : Nat := 0x1400A0000
/-- 11_flourish_and_entropy.md, R492. -/
abbrev Reg.ENT_SRC_CTL : Nat := 0x1400A0004
/-- 11_flourish_and_entropy.md, R492. -/
abbrev Reg.ENT_RCT_CUTOFF : Nat := 0x1400A0008
/-- 11_flourish_and_entropy.md, R492. -/
abbrev Reg.ENT_APT_CUTOFF : Nat := 0x1400A000C
/-- 11_flourish_and_entropy.md, R492. -/
abbrev Reg.ENT_FAIL (n : Nat) : Nat := 0x1400A0010 + 0x4 * (n % 4)
/-- 11_flourish_and_entropy.md, R492. -/
abbrev Reg.ENT_DRBG_STAT : Nat := 0x1400A0020
/-- 11_flourish_and_entropy.md, R492. -/
abbrev Reg.ENT_DRBG_CMD : Nat := 0x1400A0024
/-- 11_flourish_and_entropy.md, R492. -/
abbrev Reg.ENT_RESEED_INTERVAL : Nat := 0x1400A0028
/-- 11_flourish_and_entropy.md, R492. -/
abbrev Reg.ENT_RESEED_COUNT (n : Nat) : Nat := 0x1400A0030 + 0x4 * (n % 4)
/-- 11_flourish_and_entropy.md, R492. -/
abbrev Reg.ENT_RNG_S : Nat := 0x1400A0040
/-- 11_flourish_and_entropy.md, R492. -/
abbrev Reg.ENT_RNG_D : Nat := 0x1400A0048
/-- 11_flourish_and_entropy.md, R492. -/
abbrev Reg.ENT_RNG_ERR : Nat := 0x1400A0050
/-- 11_flourish_and_entropy.md, R492. -/
abbrev Reg.ENT_RAW_CTL : Nat := 0x1400A0060
/-- 11_flourish_and_entropy.md, R492. -/
abbrev Reg.ENT_RAW_DATA : Nat := 0x1400A0068

/-! Registers of spec/13_rings.md. -/

/-- 13_rings.md, R593. -/
abbrev Reg.RING_SQ_BASE (n : Nat) : Nat := 0x1400B0000 + 0x200 * (n % 128)
/-- 13_rings.md, R593. -/
abbrev Reg.RING_CQ_BASE (n : Nat) : Nat := 0x1400B0008 + 0x200 * (n % 128)
/-- 13_rings.md, R593. -/
abbrev Reg.RING_CFG (n : Nat) : Nat := 0x1400B0010 + 0x200 * (n % 128)
/-- 13_rings.md, R593. -/
abbrev Reg.RING_CTL (n : Nat) : Nat := 0x1400B0014 + 0x200 * (n % 128)
/-- 13_rings.md, R593. -/
abbrev Reg.RING_GATE_TO (n : Nat) : Nat := 0x1400B0018 + 0x200 * (n % 128)
/-- 13_rings.md, R593. -/
abbrev Reg.RING_COAL (n : Nat) : Nat := 0x1400B001C + 0x200 * (n % 128)
/-- 13_rings.md, R593. -/
abbrev Reg.RING_STAT (n : Nat) : Nat := 0x1400B0020 + 0x200 * (n % 128)
/-- 13_rings.md, R593. -/
abbrev Reg.RING_SQ_HEAD (n : Nat) : Nat := 0x1400B0024 + 0x200 * (n % 128)
/-- 13_rings.md, R593. -/
abbrev Reg.RING_SQ_TAIL (n : Nat) : Nat := 0x1400B0028 + 0x200 * (n % 128)
/-- 13_rings.md, R593. -/
abbrev Reg.RING_CQ_TAIL (n : Nat) : Nat := 0x1400B002C + 0x200 * (n % 128)
/-- 13_rings.md, R593. -/
abbrev Reg.RING_CQ_HEAD (n : Nat) : Nat := 0x1400B0030 + 0x200 * (n % 128)
/-- 13_rings.md, R593. -/
abbrev Reg.RING_ERR_INDEX (n : Nat) : Nat := 0x1400B0034 + 0x200 * (n % 128)
/-- 13_rings.md, R593. -/
abbrev Reg.RING_OPS (n : Nat) : Nat := 0x1400B0038 + 0x200 * (n % 128)
/-- 13_rings.md, R593. -/
abbrev Reg.RING_DUPS (n : Nat) : Nat := 0x1400B0040 + 0x200 * (n % 128)
/-- 13_rings.md, R593. -/
abbrev Reg.RING_LOST (n : Nat) : Nat := 0x1400B0044 + 0x200 * (n % 128)

/-! Registers of spec/14_scheduling.md. -/

/-- 14_scheduling.md, R625. -/
abbrev Reg.SCH_STAT : Nat := 0x1400C0000
/-- 14_scheduling.md, R625. -/
abbrev Reg.SCH_TAG_HWM : Nat := 0x1400C0004
/-- 14_scheduling.md, R625. -/
abbrev Reg.SCH_PORT_TAGS : Nat := 0x1400C0008
/-- 14_scheduling.md, R625. -/
abbrev Reg.SCH_QUANTUM (n : Nat) : Nat := 0x1400C0010 + 0x4 * (n % 6)
/-- 14_scheduling.md, R625. -/
abbrev Reg.SCH_FOL_TAGS (n : Nat) : Nat := 0x1400C0100 + 0x4 * (n % 64)
/-- 14_scheduling.md, R625. -/
abbrev Reg.SCH_FOL_GATE_CAP (n : Nat) : Nat := 0x1400C0200 + 0x4 * (n % 64)
/-- 14_scheduling.md, R625. -/
abbrev Reg.SCH_BSP_DROP (n : Nat) : Nat := 0x1400C0300 + 0x4 * (n % 64)
/-- 14_scheduling.md, R625. -/
abbrev Reg.SCH_FC_CTL (n i : Nat) : Nat := 0x1400C1000 + 0x200 * (n % 64) + 0x40 * (i % 6)
/-- 14_scheduling.md, R625. -/
abbrev Reg.SCH_FC_RATE_B (n i : Nat) : Nat := 0x1400C1004 + 0x200 * (n % 64) + 0x40 * (i % 6)
/-- 14_scheduling.md, R625. -/
abbrev Reg.SCH_FC_DEPTH_B (n i : Nat) : Nat := 0x1400C1008 + 0x200 * (n % 64) + 0x40 * (i % 6)
/-- 14_scheduling.md, R625. -/
abbrev Reg.SCH_FC_RATE_O (n i : Nat) : Nat := 0x1400C100C + 0x200 * (n % 64) + 0x40 * (i % 6)
/-- 14_scheduling.md, R625. -/
abbrev Reg.SCH_FC_DEPTH_O (n i : Nat) : Nat := 0x1400C1010 + 0x200 * (n % 64) + 0x40 * (i % 6)
/-- 14_scheduling.md, R625. -/
abbrev Reg.SCH_FC_LEVEL_O (n i : Nat) : Nat := 0x1400C1014 + 0x200 * (n % 64) + 0x40 * (i % 6)
/-- 14_scheduling.md, R625. -/
abbrev Reg.SCH_FC_LEVEL_B (n i : Nat) : Nat := 0x1400C1018 + 0x200 * (n % 64) + 0x40 * (i % 6)
/-- 14_scheduling.md, R625. -/
abbrev Reg.SCH_FC_DEFICIT (n i : Nat) : Nat := 0x1400C1020 + 0x200 * (n % 64) + 0x40 * (i % 6)

/-! Registers of spec/15_ports_and_bsp.md. -/

/-- 15_ports_and_bsp.md, R668/R669. -/
abbrev Reg.PORT_CTL (n : Nat) : Nat := 0x1400D0000 + 0x10000 * (n % 2)
/-- 15_ports_and_bsp.md, R668/R669. -/
abbrev Reg.PORT_STAT (n : Nat) : Nat := 0x1400D0004 + 0x10000 * (n % 2)
/-- 15_ports_and_bsp.md, R668/R669. -/
abbrev Reg.PORT_MAX_FRAME (n : Nat) : Nat := 0x1400D0008 + 0x10000 * (n % 2)
/-- 15_ports_and_bsp.md, R668/R669. -/
abbrev Reg.PORT_BSP_CFG (n : Nat) : Nat := 0x1400D000C + 0x10000 * (n % 2)
/-- 15_ports_and_bsp.md, R668/R669. -/
abbrev Reg.PORT_MAC (n : Nat) : Nat := 0x1400D0010 + 0x10000 * (n % 2)
/-- 15_ports_and_bsp.md, R668/R669. -/
abbrev Reg.PORT_IPV4 (n : Nat) : Nat := 0x1400D0018 + 0x10000 * (n % 2)
/-- 15_ports_and_bsp.md, R668/R669. -/
abbrev Reg.PORT_IPV6 (n i : Nat) : Nat := 0x1400D0020 + 0x10000 * (n % 2) + 0x4 * (i % 4)
/-- 15_ports_and_bsp.md, R668/R669. -/
abbrev Reg.PORT_STAGE_BASE (n : Nat) : Nat := 0x1400D0030 + 0x10000 * (n % 2)
/-- 15_ports_and_bsp.md, R668/R669. -/
abbrev Reg.PORT_STAGE_SIZE (n : Nat) : Nat := 0x1400D0038 + 0x10000 * (n % 2)
/-- 15_ports_and_bsp.md, R668/R669. -/
abbrev Reg.PORT_PTP_TXTS_INFO (n : Nat) : Nat := 0x1400D0040 + 0x10000 * (n % 2)
/-- 15_ports_and_bsp.md, R668/R669. -/
abbrev Reg.PORT_PTP_TXTS_INFO2 (n : Nat) : Nat := 0x1400D0044 + 0x10000 * (n % 2)
/-- 15_ports_and_bsp.md, R668/R669. -/
abbrev Reg.PORT_PTP_TXTS_TIME (n : Nat) : Nat := 0x1400D0048 + 0x10000 * (n % 2)
/-- 15_ports_and_bsp.md, R668/R669. -/
abbrev Reg.PORT_SESSIONS (n : Nat) : Nat := 0x1400D0050 + 0x10000 * (n % 2)
/-- 15_ports_and_bsp.md, R668/R669. -/
abbrev Reg.PORT_CTR (n i : Nat) : Nat := 0x1400D0100 + 0x10000 * (n % 2) + 0x8 * (i % 15)
/-- 15_ports_and_bsp.md, R665/R670. -/
abbrev Reg.TENANT_W0 (n : Nat) : Nat := 0x1400D4000 + 0x80 * (n % 256)
/-- 15_ports_and_bsp.md, R665/R670. -/
abbrev Reg.TENANT_PEER (n : Nat) : Nat := 0x1400D4004 + 0x80 * (n % 256)
/-- 15_ports_and_bsp.md, R665/R670. -/
abbrev Reg.TENANT_SERIAL (n : Nat) : Nat := 0x1400D4008 + 0x80 * (n % 256)
/-- 15_ports_and_bsp.md, R665/R670. -/
abbrev Reg.TENANT_EK_DIGEST (n i : Nat) : Nat := 0x1400D4010 + 0x80 * (n % 256) + 0x4 * (i % 12)
/-- 15_ports_and_bsp.md, R665/R670. -/
abbrev Reg.TENANT_IP (n i : Nat) : Nat := 0x1400D4040 + 0x80 * (n % 256) + 0x4 * (i % 4)
/-- 15_ports_and_bsp.md, R665/R670. -/
abbrev Reg.TENANT_MACTCI (n i : Nat) : Nat := 0x1400D4050 + 0x80 * (n % 256) + 0x4 * (i % 3)
/-- 15_ports_and_bsp.md, R665/R670. -/
abbrev Reg.TENANT_TAGS (n : Nat) : Nat := 0x1400D405C + 0x80 * (n % 256)
/-- 15_ports_and_bsp.md, R665/R670. -/
abbrev Reg.PORT_SVC_EK (n : Nat) : Nat := 0x1400DC000 + 0x4 * (n % 392)

/-! Registers of spec/16_quill.md. -/

/-- 16_quill.md, R705. -/
abbrev Reg.QUIL_CTL : Nat := 0x1400F0000
/-- 16_quill.md, R705. -/
abbrev Reg.QUIL_STAT : Nat := 0x1400F0004
/-- 16_quill.md, R705. -/
abbrev Reg.QUIL_TBL_SEL : Nat := 0x1400F0008
/-- 16_quill.md, R705. -/
abbrev Reg.QUIL_TBL_CMD : Nat := 0x1400F000C
/-- 16_quill.md, R705. -/
abbrev Reg.QUIL_LEAK_LAST : Nat := 0x1400F0010
/-- 16_quill.md, R705. -/
abbrev Reg.QUIL_TBL_DATA (n : Nat) : Nat := 0x1400F0100 + 0x4 * (n % 34)
/-- 16_quill.md, R705. -/
abbrev Reg.QUIL_RATE (n : Nat) : Nat := 0x1400F0200 + 0x4 * (n % 16)
/-- 16_quill.md, R705. -/
abbrev Reg.QUIL_RX_BASE (n : Nat) : Nat := 0x1400F1000 + 0x20 * (n % 16)
/-- 16_quill.md, R705. -/
abbrev Reg.QUIL_RX_CFG (n : Nat) : Nat := 0x1400F1008 + 0x20 * (n % 16)
/-- 16_quill.md, R705. -/
abbrev Reg.QUIL_RX_HEAD (n : Nat) : Nat := 0x1400F100C + 0x20 * (n % 16)
/-- 16_quill.md, R705. -/
abbrev Reg.QUIL_RX_TAIL (n : Nat) : Nat := 0x1400F1010 + 0x20 * (n % 16)
/-- 16_quill.md, R705. -/
abbrev Reg.QUIL_RX_DROP (n : Nat) : Nat := 0x1400F1014 + 0x20 * (n % 16)
/-- 16_quill.md, R705. -/
abbrev Reg.QUIL_RX_BASE_S (n : Nat) : Nat := 0x1400F11E0 + 0x20 * (n % 1)
/-- 16_quill.md, R705. -/
abbrev Reg.QUIL_RX_CFG_S (n : Nat) : Nat := 0x1400F11E8 + 0x20 * (n % 1)
/-- 16_quill.md, R705. -/
abbrev Reg.QUIL_RX_HEAD_S (n : Nat) : Nat := 0x1400F11EC + 0x20 * (n % 1)
/-- 16_quill.md, R705. -/
abbrev Reg.QUIL_RX_TAIL_S (n : Nat) : Nat := 0x1400F11F0 + 0x20 * (n % 1)
/-- 16_quill.md, R705. -/
abbrev Reg.QUIL_RX_DROP_S (n : Nat) : Nat := 0x1400F11F4 + 0x20 * (n % 1)
/-- 16_quill.md, R705. -/
abbrev Reg.QUIL_TX_BASE (n : Nat) : Nat := 0x1400F2000 + 0x20 * (n % 9)
/-- 16_quill.md, R705. -/
abbrev Reg.QUIL_TX_CFG (n : Nat) : Nat := 0x1400F2008 + 0x20 * (n % 9)
/-- 16_quill.md, R705. -/
abbrev Reg.QUIL_TX_TAIL (n : Nat) : Nat := 0x1400F200C + 0x20 * (n % 9)
/-- 16_quill.md, R705. -/
abbrev Reg.QUIL_TX_HEAD (n : Nat) : Nat := 0x1400F2010 + 0x20 * (n % 9)
/-- 16_quill.md, R705. -/
abbrev Reg.QUIL_TX_BASE_S (n : Nat) : Nat := 0x1400F2100 + 0x20 * (n % 1)
/-- 16_quill.md, R705. -/
abbrev Reg.QUIL_TX_CFG_S (n : Nat) : Nat := 0x1400F2108 + 0x20 * (n % 1)
/-- 16_quill.md, R705. -/
abbrev Reg.QUIL_TX_TAIL_S (n : Nat) : Nat := 0x1400F210C + 0x20 * (n % 1)
/-- 16_quill.md, R705. -/
abbrev Reg.QUIL_TX_HEAD_S (n : Nat) : Nat := 0x1400F2110 + 0x20 * (n % 1)
/-- 16_quill.md, R705. -/
abbrev Reg.QUIL_CTR (n : Nat) : Nat := 0x1400F3000 + 0x8 * (n % 11)

/-! Registers of spec/17_blotter.md. -/

/-- 17_blotter.md, R740. -/
abbrev Reg.BLOT_STAT : Nat := 0x140100000
/-- 17_blotter.md, R740. -/
abbrev Reg.BLOT_CAUSE : Nat := 0x140100004
/-- 17_blotter.md, R740. -/
abbrev Reg.BLOT_ACTIVE : Nat := 0x140100008
/-- 17_blotter.md, R740. -/
abbrev Reg.BLOT_ALARM : Nat := 0x14010000C
/-- 17_blotter.md, R740. -/
abbrev Reg.BLOT_TIME : Nat := 0x140100010
/-- 17_blotter.md, R740. -/
abbrev Reg.BLOT_OPSEC : Nat := 0x140100018
/-- 17_blotter.md, R740. -/
abbrev Reg.BLOT_PCC : Nat := 0x140100020
/-- 17_blotter.md, R740. -/
abbrev Reg.BLOT_ACK : Nat := 0x140100024
/-- 17_blotter.md, R740. -/
abbrev Reg.BLOT_CFG : Nat := 0x140100028
/-- 17_blotter.md, R740. -/
abbrev Reg.BLOT_DISC (n : Nat) : Nat := 0x14010002C + 0x4 * (n % 2)
/-- 17_blotter.md, R740. -/
abbrev Reg.BLOT_THRESH : Nat := 0x140100034
/-- 17_blotter.md, R740. -/
abbrev Reg.BLOT_ESC : Nat := 0x140100038
/-- 17_blotter.md, R740. -/
abbrev Reg.BLOT_NEAR (n : Nat) : Nat := 0x140100040 + 0x4 * (n % 8)
/-- 17_blotter.md, R740. -/
abbrev Reg.BLOT_MESH_NEAR : Nat := 0x140100060
/-- 17_blotter.md, R740. -/
abbrev Reg.BLOT_PAIR_LEVEL : Nat := 0x140100064
/-- 17_blotter.md, R740. -/
abbrev Reg.BLOT_SENSE : Nat := 0x140100068
/-- 17_blotter.md, R740. -/
abbrev Reg.BLOT_ALARM_ACTIVE : Nat := 0x14010006C

/-! Registers of spec/18_colophon.md. -/

/-- 18_colophon.md, R765. -/
abbrev Reg.COLO_STAT : Nat := 0x140110000
/-- 18_colophon.md, R765. -/
abbrev Reg.COLO_OPSEC : Nat := 0x140110008
/-- 18_colophon.md, R765. -/
abbrev Reg.COLO_PCC : Nat := 0x140110010
/-- 18_colophon.md, R765. -/
abbrev Reg.COLO_PAGE_SEL : Nat := 0x140110014
/-- 18_colophon.md, R765. -/
abbrev Reg.COLO_SNAP : Nat := 0x140110018
/-- 18_colophon.md, R765. -/
abbrev Reg.COLO_NEXT_CLOSE : Nat := 0x140110020

/-! Registers of spec/19_proof.md. -/

/-- 19_proof.md, R787. -/
abbrev Reg.PROOF_STAT : Nat := 0x140120000
/-- 19_proof.md, R787. -/
abbrev Reg.PROOF_CFG : Nat := 0x140120004
/-- 19_proof.md, R787. -/
abbrev Reg.PROOF_CMD : Nat := 0x140120008
/-- 19_proof.md, R787. -/
abbrev Reg.PROOF_PARK : Nat := 0x14012000C
/-- 19_proof.md, R787. -/
abbrev Reg.PROOF_PARK_GRACE : Nat := 0x140120010
/-- 19_proof.md, R787. -/
abbrev Reg.PROOF_BOOT : Nat := 0x140120014
/-- 19_proof.md, R787. -/
abbrev Reg.PROOF_RESULT (n : Nat) : Nat := 0x140120100 + 0x4 * (n % 22)
/-- 19_proof.md, R787. -/
abbrev Reg.PROOF_TIME (n : Nat) : Nat := 0x140120180 + 0x8 * (n % 22)
/-- 19_proof.md, R787. -/
abbrev Reg.PROOF_MISR (n i : Nat) : Nat := 0x140120300 + 0x10 * (n % 22) + 0x4 * (i % 4)

/-! Registers of spec/20_memory.md. -/

/-- 20_memory.md, R817. -/
abbrev Reg.MEM_STAT : Nat := 0x140130000
/-- 20_memory.md, R817. -/
abbrev Reg.MEM_ECC_CTL : Nat := 0x140130004
/-- 20_memory.md, R817. -/
abbrev Reg.MEM_ECC (n : Nat) : Nat := 0x140130010 + 0x4 * (n % 5)
/-- 20_memory.md, R817. -/
abbrev Reg.MEM_ERR_ADDR : Nat := 0x140130028
/-- 20_memory.md, R817. -/
abbrev Reg.MEM_ERR_INFO : Nat := 0x140130030
/-- 20_memory.md, R817. -/
abbrev Reg.MEM_SCRUB_CTL : Nat := 0x140130040
/-- 20_memory.md, R817. -/
abbrev Reg.MEM_XSPI_CFG : Nat := 0x140130100
/-- 20_memory.md, R817. -/
abbrev Reg.MEM_XSPI_CMD : Nat := 0x140130104
/-- 20_memory.md, R817. -/
abbrev Reg.MEM_XSPI_STAT : Nat := 0x140130108
/-- 20_memory.md, R817. -/
abbrev Reg.MEM_XSPI_ADDR : Nat := 0x14013010C
/-- 20_memory.md, R817. -/
abbrev Reg.MEM_XSPI_LEN : Nat := 0x140130110
/-- 20_memory.md, R817. -/
abbrev Reg.MEM_XSPI_SRC : Nat := 0x140130118
/-- 20_memory.md, R817. -/
abbrev Reg.MEM_XSPI_USER_BASE : Nat := 0x140130120
/-- 20_memory.md, R817. -/
abbrev Reg.MEM_XSPI_USER_LIMIT : Nat := 0x140130124
/-- 20_memory.md, R817. -/
abbrev Reg.MEM_XSPI_SECRET (n : Nat) : Nat := 0x140130130 + 0x8 * (n % 4)
/-- 20_memory.md, R817. -/
abbrev Reg.MEM_XSPI_LOCK : Nat := 0x140130150
/-- 20_memory.md, R817. -/
abbrev Reg.MEM_WIPE_STAT : Nat := 0x140130154

/-! Registers of spec/21_consoles.md. -/

/-- 21_consoles.md, R850. -/
abbrev Reg.CON0_CFG : Nat := 0x100020000
/-- 21_consoles.md, R850. -/
abbrev Reg.CON0_BAUD : Nat := 0x100020004
/-- 21_consoles.md, R850. -/
abbrev Reg.CON0_FLOW : Nat := 0x100020008
/-- 21_consoles.md, R850. -/
abbrev Reg.CON0_RS485 : Nat := 0x10002000C
/-- 21_consoles.md, R850. -/
abbrev Reg.CON0_CTL : Nat := 0x100020010
/-- 21_consoles.md, R850. -/
abbrev Reg.CON0_STAT : Nat := 0x100020014
/-- 21_consoles.md, R850. -/
abbrev Reg.CON0_TXDATA : Nat := 0x100020018
/-- 21_consoles.md, R850. -/
abbrev Reg.CON0_RXDATA : Nat := 0x10002001C
/-- 21_consoles.md, R850. -/
abbrev Reg.CON0_LEVEL : Nat := 0x100020020
/-- 21_consoles.md, R850. -/
abbrev Reg.CON0_THRESH : Nat := 0x100020024
/-- 21_consoles.md, R850. -/
abbrev Reg.CON0_ERRCNT : Nat := 0x100020028
/-- 21_consoles.md, R850. -/
abbrev Reg.CON1_CFG : Nat := 0x140140000
/-- 21_consoles.md, R850. -/
abbrev Reg.CON1_BAUD : Nat := 0x140140004
/-- 21_consoles.md, R850. -/
abbrev Reg.CON1_FLOW : Nat := 0x140140008
/-- 21_consoles.md, R850. -/
abbrev Reg.CON1_RS485 : Nat := 0x14014000C
/-- 21_consoles.md, R850. -/
abbrev Reg.CON1_CTL : Nat := 0x140140010
/-- 21_consoles.md, R850. -/
abbrev Reg.CON1_STAT : Nat := 0x140140014
/-- 21_consoles.md, R850. -/
abbrev Reg.CON1_TXDATA : Nat := 0x140140018
/-- 21_consoles.md, R850. -/
abbrev Reg.CON1_RXDATA : Nat := 0x14014001C
/-- 21_consoles.md, R850. -/
abbrev Reg.CON1_LEVEL : Nat := 0x140140020
/-- 21_consoles.md, R850. -/
abbrev Reg.CON1_THRESH : Nat := 0x140140024
/-- 21_consoles.md, R850. -/
abbrev Reg.CON1_ERRCNT : Nat := 0x140140028

/-! Registers of spec/22_smbus.md. -/

/-- 22_smbus.md, R882. -/
abbrev Reg.SMB_STAT : Nat := 0x140150000
/-- 22_smbus.md, R882. -/
abbrev Reg.SMB_CFG : Nat := 0x140150004
/-- 22_smbus.md, R882. -/
abbrev Reg.SMB_ALERT : Nat := 0x140150008
/-- 22_smbus.md, R882. -/
abbrev Reg.SMB_ERRCNT : Nat := 0x14015000C
/-- 22_smbus.md, R882. -/
abbrev Reg.SMB_LAST : Nat := 0x140150010
/-- 22_smbus.md, R882. -/
abbrev Reg.SMB_ALERT_SLOT (n : Nat) : Nat := 0x140150100 + 0x4 * (n % 32)

/-! Registers of spec/23_power.md. -/

/-- 23_power.md, R908. -/
abbrev Reg.PWR_STAT : Nat := 0x140160000
/-- 23_power.md, R908. -/
abbrev Reg.PWR_CFG : Nat := 0x140160004
/-- 23_power.md, R908. -/
abbrev Reg.PWR_HINT : Nat := 0x140160008
/-- 23_power.md, R908. -/
abbrev Reg.PWR_BMIN : Nat := 0x140160010
/-- 23_power.md, R908. -/
abbrev Reg.PWR_DEADLINE : Nat := 0x140160018
/-- 23_power.md, R908. -/
abbrev Reg.PWR_WAKE_CAUSE : Nat := 0x140160020
/-- 23_power.md, R908. -/
abbrev Reg.PWR_WAKE_LAST : Nat := 0x140160024
/-- 23_power.md, R908. -/
abbrev Reg.PWR_GPIO_WAKE : Nat := 0x140160028
/-- 23_power.md, R908. -/
abbrev Reg.PWR_LTR : Nat := 0x14016002C
/-- 23_power.md, R908. -/
abbrev Reg.PWR_RES (n : Nat) : Nat := 0x140160030 + 0x8 * (n % 3)
/-- 23_power.md, R908. -/
abbrev Reg.PWR_EXITS : Nat := 0x140160048

/-! Registers of spec/24_events_and_map.md. -/

/-- 24_events_and_map.md, R932. -/
abbrev Reg.EVT_STATUS (n : Nat) : Nat := 0x140170000 + 0x4 * (n % 16)
/-- 24_events_and_map.md, R932. -/
abbrev Reg.EVT_SUMMARY : Nat := 0x140170080
/-- 24_events_and_map.md, R932. -/
abbrev Reg.EVT_STAT : Nat := 0x140170084
/-- 24_events_and_map.md, R932. -/
abbrev Reg.EVT_DECODE_ADDR : Nat := 0x140170100
/-- 24_events_and_map.md, R932. -/
abbrev Reg.EVT_DECODE_INFO : Nat := 0x140170108
/-- 24_events_and_map.md, R932. -/
abbrev Reg.EVT_ROUTE (n : Nat) : Nat := 0x140170800 + 0x4 * (n % 512)

/-! Registers of spec/12_host_link.md. -/

/-- 12_host_link.md, R542. -/
abbrev Reg.FOL_CTL (n : Nat) : Nat := 0x100400000 + 0x10000 * (n % 64)
/-- 12_host_link.md, R542. -/
abbrev Reg.FOL_CMD (n : Nat) : Nat := 0x100400004 + 0x10000 * (n % 64)
/-- 12_host_link.md, R542. -/
abbrev Reg.FOL_ERR (n : Nat) : Nat := 0x100400008 + 0x10000 * (n % 64)
/-- 12_host_link.md, R542. -/
abbrev Reg.FOL_PASID (n i : Nat) : Nat := 0x100400010 + 0x10000 * (n % 64) + 0x4 * (i % 4)
/-- 12_host_link.md, R542. -/
abbrev Reg.FOL_VEC (n : Nat) : Nat := 0x100400020 + 0x10000 * (n % 64)
/-- 12_host_link.md, R542. -/
abbrev Reg.FOL_LAT_BUDGET (n : Nat) : Nat := 0x100400024 + 0x10000 * (n % 64)
/-- 12_host_link.md, R542. -/
abbrev Reg.FOL_CFG (n : Nat) : Nat := 0x100400028 + 0x10000 * (n % 64)
/-- 12_host_link.md, R542. -/
abbrev Reg.FOL_MBX_VEC (n : Nat) : Nat := 0x10040002C + 0x10000 * (n % 64)
/-- 12_host_link.md, R542. -/
abbrev Reg.FOL_ACL_COUNT (n : Nat) : Nat := 0x100400040 + 0x10000 * (n % 64)
/-- 12_host_link.md, R542. -/
abbrev Reg.FOL_ACL (n i : Nat) : Nat := 0x100400100 + 0x10000 * (n % 64) + 0x4 * (i % 64)
/-- 12_host_link.md, R542. -/
abbrev Reg.FOL_T2M (n i : Nat) : Nat := 0x100401000 + 0x10000 * (n % 64) + 0x4 * (i % 64)
/-- 12_host_link.md, R542. -/
abbrev Reg.FOL_M2T (n i : Nat) : Nat := 0x100401100 + 0x10000 * (n % 64) + 0x4 * (i % 64)
/-- 12_host_link.md, R542. -/
abbrev Reg.FOL_MBX_CTL (n : Nat) : Nat := 0x100401200 + 0x10000 * (n % 64)
/-- 12_host_link.md, R542. -/
abbrev Reg.SCRB_REQ (n : Nat) : Nat := 0x100030000 + 0x4 * (n % 1024)
/-- 12_host_link.md, R542. -/
abbrev Reg.SCRB_RSP (n : Nat) : Nat := 0x100031000 + 0x4 * (n % 1024)
/-- 12_host_link.md, R542. -/
abbrev Reg.FOL_SCRB_CTL : Nat := 0x100032000

/-! Registers of spec/24_events_and_map.md. -/

/-- 24_events_and_map.md, R920. -/
abbrev Reg.SPLIC_PRIORITY (n : Nat) : Nat := 0x100800000 + 0x4 * (n % 513)
/-- 24_events_and_map.md, R920. -/
abbrev Reg.SPLIC_ENABLE (n i : Nat) : Nat := 0x100802000 + 0x80 * (n % 3) + 0x4 * (i % 17)
/-- 24_events_and_map.md, R920. -/
abbrev Reg.SPLIC_THRESHOLD (n : Nat) : Nat := 0x100A00000 + 0x1000 * (n % 3)
/-- 24_events_and_map.md, R920. -/
abbrev Reg.DPLIC_PRIORITY (n : Nat) : Nat := 0x140400000 + 0x4 * (n % 513)
/-- 24_events_and_map.md, R920. -/
abbrev Reg.DPLIC_ENABLE (n i : Nat) : Nat := 0x140402000 + 0x80 * (n % 16) + 0x4 * (i % 17)
/-- 24_events_and_map.md, R920. -/
abbrev Reg.DPLIC_THRESHOLD (n : Nat) : Nat := 0x140600000 + 0x1000 * (n % 16)

end Sys2Proof.Machine
end

