-- ==== Sys2Proof/Machine/Regs.lean ====
section
/-! DEFINITION. The register file's shape: each 32-bit word's parties, fields, access types and reset value, from the
register tables of the chapters (Access and Reset columns). -/

namespace Sys2Proof.Machine

/-- Access types of Table SCO-5 (R6), with the write-to-clear forms the chapters name beside them. -/
inductive Acc where
  | ro | rw | w1c | w1s | wo | sc | rwl | rwo
  /-- RO, and writing 0 to the field clears it. -/
  | w0c
  /-- RO, and a write of 0 to the whole word clears every such field. -/
  | w0a
  /-- RO, and any write by a named party clears it. -/
  | anyc
  deriving DecidableEq, Repr

/-- A field: bits `hi` to `lo`, access type, and the parties (bit set of `P`) whose writes act on it. -/
structure Fld where
  hi : Nat
  lo : Nat
  acc : Acc
  by_ : Nat
  deriving DecidableEq, Repr

/-- A register word at `base`, repeated `n1` times at `s1` and `n2` times at `s2`; `parties` may reach it (R5); `own`
says that its write has a row of its own; `lock` is the address and bit that lock its RWL fields. -/
structure RegRow where
  base : Nat
  n1 : Nat
  s1 : Nat
  n2 : Nat
  s2 : Nat
  parties : Nat
  own : Bool
  lock : Nat × Nat
  flds : List Fld
  deriving DecidableEq, Repr

/-! Party sets: bit 0 S, bit 1 D, bit 2 M, bit 3 T, bit 4 B (Table SCO-4). -/
abbrev P.s : Nat := 1
abbrev P.d : Nat := 2
abbrev P.m : Nat := 4
abbrev P.t : Nat := 8
abbrev P.sd : Nat := 3
abbrev P.sm : Nat := 5
abbrev P.sdm : Nat := 7
abbrev P.mt : Nat := 12
abbrev P.smt : Nat := 13
abbrev P.sdmb : Nat := 23

/-- Whether `a` is one of the addresses of a repeated word. -/
def repeatedAt (base n1 s1 n2 s2 a : Nat) : Bool :=
  base ≤ a && (a - base) / s1 < n1 && ((a - base) % s1) / s2 < n2 && ((a - base) % s1) % s2 == 0

def RegRow.covers (r : RegRow) (a : Nat) : Bool := repeatedAt r.base r.n1 r.s1 r.n2 r.s2 a

/-- Register words of the 64 KiB pages 0x10000 to 0x10000. -/
def Reg.rows0 : List RegRow := [
  ⟨Reg.LCY_STATE, 1, 0x4, 1, 0x4, P.sdmb, false, (0, 0), [⟨15, 12, .ro, P.sdmb⟩, ⟨11, 11, .ro, P.sdmb⟩, ⟨10, 10, .ro, P.sdmb⟩, ⟨9, 9, .ro, P.sdmb⟩, ⟨7, 4, .ro, P.sdmb⟩, ⟨3, 0, .ro, P.sdmb⟩]⟩,
  ⟨Reg.LCY_WORD, 1, 0x4, 1, 0x4, P.sdmb, false, (0, 0), [⟨31, 0, .ro, P.sdmb⟩]⟩,
  ⟨Reg.LCY_WORD + 4, 1, 0x4, 1, 0x4, P.sdmb, false, (0, 0), [⟨31, 0, .ro, P.sdmb⟩]⟩,
  ⟨Reg.LCY_RESULT, 1, 0x4, 1, 0x4, P.sdmb, false, (0, 0), [⟨31, 24, .ro, P.sdmb⟩, ⟨23, 23, .ro, P.sdmb⟩]⟩,
  ⟨Reg.LCY_RIGHTS, 1, 0x4, 1, 0x4, P.sdmb, false, (0, 0), [⟨31, 0, .ro, P.sdmb⟩]⟩,
  ⟨Reg.LCY_DEBUG_COUNT, 1, 0x4, 1, 0x4, P.sdmb, false, (0, 0), [⟨6, 0, .ro, P.sdmb⟩]⟩,
  ⟨Reg.LCY_CMD, 1, 0x4, 1, 0x4, P.s, true, (0, 0), [⟨31, 31, .sc, P.s⟩, ⟨30, 30, .sc, P.s⟩]⟩,
  ⟨Reg.LCY_CERT_ADDR, 1, 0x4, 1, 0x4, P.s, false, (0, 0), [⟨31, 0, .rw, P.s⟩]⟩,
  ⟨Reg.LCY_CERT_ADDR + 4, 1, 0x4, 1, 0x4, P.s, false, (0, 0), [⟨7, 0, .rw, P.s⟩]⟩,
  ⟨Reg.LCY_CERT_LEN, 1, 0x4, 1, 0x4, P.s, false, (0, 0), [⟨16, 0, .rw, P.s⟩]⟩,
  ⟨Reg.LCY_NONCE 0, 8, 0x4, 1, 0x4, P.s, false, (0, 0), [⟨31, 0, .ro, P.s⟩]⟩]

/-- Register words of the 64 KiB pages 0x10001 to 0x10001. -/
def Reg.rows1 : List RegRow := [
  ⟨Reg.CUST_STAT, 1, 0x4, 1, 0x4, P.sdmb, false, (0, 0), [⟨31, 31, .ro, P.sdmb⟩, ⟨27, 24, .ro, P.sdmb⟩, ⟨5, 0, .ro, P.sdmb⟩]⟩,
  ⟨Reg.CUST_CMD, 1, 0x4, 1, 0x4, P.s, true, (0, 0), [⟨31, 31, .sc, P.s⟩, ⟨17, 16, .rw, P.s⟩, ⟨7, 0, .rw, P.s⟩]⟩,
  ⟨Reg.CUST_RESULT, 1, 0x4, 1, 0x4, P.s, false, (0, 0), [⟨31, 24, .ro, P.s⟩, ⟨23, 23, .ro, P.s⟩]⟩,
  ⟨Reg.CUST_WINDOW, 1, 0x4, 1, 0x4, P.s, false, (0, 0), [⟨16, 0, .rw, P.s⟩]⟩,
  ⟨Reg.CUST_ADDR 0, 3, 0x8, 1, 0x8, P.s, false, (0, 0), [⟨31, 0, .rw, P.s⟩]⟩,
  ⟨Reg.CUST_ADDR 0 + 4, 3, 0x8, 1, 0x8, P.s, false, (0, 0), [⟨7, 0, .rw, P.s⟩]⟩,
  ⟨Reg.CUST_ARG, 1, 0x4, 1, 0x4, P.s, false, (0, 0), [⟨31, 24, .rw, P.s⟩, ⟨23, 20, .rw, P.s⟩, ⟨15, 0, .rw, P.s⟩]⟩,
  ⟨Reg.CUST_MEMBERS, 1, 0x4, 1, 0x4, P.s, false, (0, 0), [⟨31, 0, .rw, P.s⟩]⟩,
  ⟨Reg.CUST_CANDIDATES, 1, 0x4, 1, 0x4, P.s, false, (0, 0), [⟨31, 0, .rw, P.s⟩]⟩,
  ⟨Reg.CUST_ROW_SEL, 1, 0x4, 1, 0x4, P.s, false, (0, 0), [⟨4, 0, .rw, P.s⟩]⟩,
  ⟨Reg.CUST_ROW_INFO, 1, 0x4, 1, 0x4, P.s, false, (0, 0), [⟨31, 31, .ro, P.s⟩, ⟨30, 30, .ro, P.s⟩]⟩,
  ⟨Reg.CUST_SUCC_SLOT, 1, 0x4, 1, 0x4, P.s, false, (0, 0), [⟨31, 31, .rw, P.s⟩, ⟨1, 0, .rw, P.s⟩]⟩,
  ⟨Reg.CUST_ROW_DIGEST 0, 12, 0x4, 1, 0x4, P.s, false, (0, 0), [⟨31, 0, .ro, P.s⟩]⟩,
  ⟨Reg.CUST_CER_STAT 0, 4, 0x4, 1, 0x4, P.sdm, false, (0, 0), [⟨31, 30, .ro, P.sdm⟩, ⟨29, 24, .ro, P.sdm⟩, ⟨23, 20, .ro, P.sdm⟩, ⟨15, 8, .ro, P.sdm⟩]⟩,
  ⟨Reg.CUST_CER_COUNTED 0, 4, 0x4, 1, 0x4, P.s, false, (0, 0), [⟨31, 0, .ro, P.s⟩]⟩,
  ⟨Reg.CUST_CER_EXPIRES 0, 4, 0x8, 1, 0x8, P.sdm, false, (0, 0), [⟨31, 0, .ro, P.sdm⟩]⟩,
  ⟨Reg.CUST_CER_EXPIRES 0 + 4, 4, 0x8, 1, 0x8, P.sdm, false, (0, 0), [⟨31, 0, .ro, P.sdm⟩]⟩]

/-- Register words of the 64 KiB pages 0x10002 to 0x10002. -/
def Reg.rows2 : List RegRow := [
  ⟨Reg.CON0_CFG, 1, 0x4, 1, 0x4, P.s, true, (0, 0), [⟨31, 31, .rw, P.s⟩, ⟨30, 30, .w1c, P.s⟩, ⟨18, 16, .rw, P.s⟩, ⟨11, 8, .rw, P.s⟩, ⟨5, 4, .rw, P.s⟩, ⟨2, 2, .rw, P.s⟩, ⟨1, 1, .rw, P.s⟩]⟩,
  ⟨Reg.CON0_BAUD, 1, 0x4, 1, 0x4, P.s, true, (0, 0), [⟨27, 16, .rw, P.s⟩, ⟨5, 0, .rw, P.s⟩]⟩,
  ⟨Reg.CON0_FLOW, 1, 0x4, 1, 0x4, P.s, true, (0, 0), [⟨31, 31, .rw, P.s⟩, ⟨30, 30, .rw, P.s⟩, ⟨23, 16, .rw, P.s⟩, ⟨15, 8, .rw, P.s⟩, ⟨7, 0, .rw, P.s⟩]⟩,
  ⟨Reg.CON0_RS485, 1, 0x4, 1, 0x4, P.s, true, (0, 0), [⟨23, 16, .rw, P.s⟩, ⟨15, 8, .rw, P.s⟩]⟩,
  ⟨Reg.CON0_CTL, 1, 0x4, 1, 0x4, P.s, true, (0, 0), [⟨31, 31, .sc, P.s⟩, ⟨30, 30, .sc, P.s⟩, ⟨29, 29, .sc, P.s⟩, ⟨28, 28, .sc, P.s⟩]⟩,
  ⟨Reg.CON0_STAT, 1, 0x4, 1, 0x4, P.s, false, (0, 0), [⟨31, 31, .ro, P.s⟩, ⟨30, 30, .ro, P.s⟩, ⟨29, 29, .w1c, P.s⟩, ⟨28, 28, .w1c, P.s⟩, ⟨27, 27, .w1c, P.s⟩, ⟨26, 26, .w1c, P.s⟩, ⟨25, 25, .w1c, P.s⟩, ⟨24, 24, .ro, P.s⟩, ⟨23, 23, .ro, P.s⟩, ⟨22, 22, .w1c, P.s⟩]⟩,
  ⟨Reg.CON0_TXDATA, 1, 0x4, 1, 0x4, P.s, true, (0, 0), [⟨8, 0, .wo, P.s⟩]⟩,
  ⟨Reg.CON0_RXDATA, 1, 0x4, 1, 0x4, P.s, true, (0, 0), [⟨31, 31, .ro, P.s⟩, ⟨15, 15, .ro, P.s⟩, ⟨14, 14, .ro, P.s⟩, ⟨13, 13, .ro, P.s⟩, ⟨12, 12, .ro, P.s⟩, ⟨8, 0, .ro, P.s⟩]⟩,
  ⟨Reg.CON0_LEVEL, 1, 0x4, 1, 0x4, P.s, false, (0, 0), [⟨24, 16, .ro, P.s⟩, ⟨8, 0, .ro, P.s⟩]⟩,
  ⟨Reg.CON0_THRESH, 1, 0x4, 1, 0x4, P.s, true, (0, 0), [⟨31, 24, .rw, P.s⟩, ⟨23, 16, .rw, P.s⟩, ⟨15, 8, .rw, P.s⟩, ⟨7, 0, .rw, P.s⟩]⟩,
  ⟨Reg.CON0_ERRCNT, 1, 0x4, 1, 0x4, P.s, false, (0, 0), [⟨31, 24, .w0a, P.s⟩, ⟨23, 16, .w0a, P.s⟩, ⟨15, 8, .w0a, P.s⟩, ⟨7, 0, .w0a, P.s⟩]⟩]

/-- Register words of the 64 KiB pages 0x10003 to 0x10003. -/
def Reg.rows3 : List RegRow := [
  ⟨Reg.SCRB_REQ 0, 1024, 0x4, 1, 0x4, P.sm, false, (0, 0), [⟨31, 0, .rw, P.m⟩]⟩,
  ⟨Reg.SCRB_RSP 0, 1024, 0x4, 1, 0x4, P.sm, false, (0, 0), [⟨31, 0, .rw, P.s⟩]⟩,
  ⟨Reg.FOL_SCRB_CTL, 1, 0x4, 1, 0x4, P.sm, true, (0, 0), [⟨31, 31, .w1s, P.sm⟩, ⟨30, 30, .ro, P.sm⟩, ⟨29, 29, .w1c, P.sm⟩, ⟨28, 28, .w1c, P.sm⟩]⟩]

/-- Register words of the 64 KiB pages 0x10008 to 0x1000E. -/
def Reg.rows4 : List RegRow := [
  ⟨Reg.RUL_CTL 0, 7, 0x10000, 1, 0x10000, P.s, false, (0, 0), [⟨6, 4, .ro, P.s⟩, ⟨2, 2, .ro, P.s⟩, ⟨1, 1, .ro, P.s⟩, ⟨0, 0, .ro, P.s⟩]⟩,
  ⟨Reg.RUL_SET_CMD 0, 7, 0x10000, 1, 0x10000, P.s, true, (0, 0), [⟨31, 31, .sc, P.s⟩, ⟨0, 0, .rw, P.s⟩]⟩,
  ⟨Reg.RUL_LOCK 0, 7, 0x10000, 1, 0x10000, P.s, true, (0, 0), [⟨31, 0, .w1s, P.s⟩]⟩,
  ⟨Reg.RUL_LOCK 0 + 4, 7, 0x10000, 1, 0x10000, P.s, true, (0, 0), [⟨31, 0, .w1s, P.s⟩]⟩,
  ⟨Reg.RUL_STAGE 0 0, 7, 0x10000, 9, 0x4, P.s, false, (0, 0), [⟨31, 0, .rw, P.s⟩]⟩,
  ⟨Reg.RUL_STAGE_CMD 0, 7, 0x10000, 1, 0x10000, P.s, true, (0, 0), [⟨31, 31, .sc, P.s⟩, ⟨30, 28, .ro, P.s⟩, ⟨8, 8, .rw, P.s⟩, ⟨5, 0, .rw, P.s⟩]⟩,
  ⟨Reg.RUL_STAT 0, 7, 0x10000, 1, 0x10000, P.s, false, (0, 0), [⟨31, 16, .ro, P.s⟩, ⟨0, 0, .w1c, P.s⟩]⟩,
  ⟨Reg.RUL_FAULT_ADDR 0, 7, 0x10000, 1, 0x10000, P.s, false, (0, 0), [⟨31, 0, .ro, P.s⟩]⟩,
  ⟨Reg.RUL_FAULT_ADDR 0 + 4, 7, 0x10000, 1, 0x10000, P.s, false, (0, 0), [⟨31, 0, .ro, P.s⟩]⟩,
  ⟨Reg.RUL_FAULT_INFO 0, 7, 0x10000, 1, 0x10000, P.s, false, (0, 0), [⟨31, 31, .w1c, P.s⟩, ⟨30, 30, .w1c, P.s⟩, ⟨29, 27, .ro, P.s⟩, ⟨26, 25, .ro, P.s⟩, ⟨24, 24, .ro, P.s⟩, ⟨23, 22, .ro, P.s⟩, ⟨21, 17, .ro, P.s⟩, ⟨16, 16, .ro, P.s⟩, ⟨15, 10, .ro, P.s⟩, ⟨9, 9, .ro, P.s⟩, ⟨6, 0, .ro, P.s⟩]⟩,
  ⟨Reg.RUL_FAULT_TIME 0, 7, 0x10000, 1, 0x10000, P.s, false, (0, 0), [⟨31, 0, .ro, P.s⟩]⟩,
  ⟨Reg.RUL_FAULT_TIME 0 + 4, 7, 0x10000, 1, 0x10000, P.s, false, (0, 0), [⟨31, 0, .ro, P.s⟩]⟩,
  ⟨Reg.RUL_FAULT_COUNT 0, 7, 0x10000, 1, 0x10000, P.s, false, (0, 0), [⟨31, 0, .w0a, P.s⟩]⟩,
  ⟨Reg.RUL_FAULT_INFO2 0, 7, 0x10000, 1, 0x10000, P.s, false, (0, 0), [⟨7, 0, .ro, P.s⟩]⟩,
  ⟨Reg.RUL_SETA 0 0, 7, 0x10000, 64, 0x40, P.s, false, (0, 0), [⟨31, 0, .ro, P.s⟩]⟩,
  ⟨Reg.RUL_SETA 0 0 + 4, 7, 0x10000, 64, 0x40, P.s, false, (0, 0), [⟨31, 0, .ro, P.s⟩]⟩,
  ⟨Reg.RUL_SETA 0 0 + 8, 7, 0x10000, 64, 0x40, P.s, false, (0, 0), [⟨31, 0, .ro, P.s⟩]⟩,
  ⟨Reg.RUL_SETA 0 0 + 12, 7, 0x10000, 64, 0x40, P.s, false, (0, 0), [⟨31, 0, .ro, P.s⟩]⟩,
  ⟨Reg.RUL_SETA 0 0 + 16, 7, 0x10000, 64, 0x40, P.s, false, (0, 0), [⟨31, 0, .ro, P.s⟩]⟩,
  ⟨Reg.RUL_SETA 0 0 + 20, 7, 0x10000, 64, 0x40, P.s, false, (0, 0), [⟨31, 0, .ro, P.s⟩]⟩,
  ⟨Reg.RUL_SETA 0 0 + 24, 7, 0x10000, 64, 0x40, P.s, false, (0, 0), [⟨31, 0, .ro, P.s⟩]⟩,
  ⟨Reg.RUL_SETA 0 0 + 28, 7, 0x10000, 64, 0x40, P.s, false, (0, 0), [⟨31, 0, .ro, P.s⟩]⟩,
  ⟨Reg.RUL_SETA 0 0 + 32, 7, 0x10000, 64, 0x40, P.s, false, (0, 0), [⟨31, 0, .ro, P.s⟩]⟩,
  ⟨Reg.RUL_SETB 0 0, 7, 0x10000, 64, 0x40, P.s, false, (0, 0), [⟨31, 0, .ro, P.s⟩]⟩,
  ⟨Reg.RUL_SETB 0 0 + 4, 7, 0x10000, 64, 0x40, P.s, false, (0, 0), [⟨31, 0, .ro, P.s⟩]⟩,
  ⟨Reg.RUL_SETB 0 0 + 8, 7, 0x10000, 64, 0x40, P.s, false, (0, 0), [⟨31, 0, .ro, P.s⟩]⟩,
  ⟨Reg.RUL_SETB 0 0 + 12, 7, 0x10000, 64, 0x40, P.s, false, (0, 0), [⟨31, 0, .ro, P.s⟩]⟩,
  ⟨Reg.RUL_SETB 0 0 + 16, 7, 0x10000, 64, 0x40, P.s, false, (0, 0), [⟨31, 0, .ro, P.s⟩]⟩,
  ⟨Reg.RUL_SETB 0 0 + 20, 7, 0x10000, 64, 0x40, P.s, false, (0, 0), [⟨31, 0, .ro, P.s⟩]⟩,
  ⟨Reg.RUL_SETB 0 0 + 24, 7, 0x10000, 64, 0x40, P.s, false, (0, 0), [⟨31, 0, .ro, P.s⟩]⟩,
  ⟨Reg.RUL_SETB 0 0 + 28, 7, 0x10000, 64, 0x40, P.s, false, (0, 0), [⟨31, 0, .ro, P.s⟩]⟩,
  ⟨Reg.RUL_SETB 0 0 + 32, 7, 0x10000, 64, 0x40, P.s, false, (0, 0), [⟨31, 0, .ro, P.s⟩]⟩]

/-- Register words of the 64 KiB pages 0x10010 to 0x10010. -/
def Reg.rows5 : List RegRow := [
  ⟨Reg.RSV_STAT, 1, 0x4, 1, 0x4, P.sdmb, false, (0, 0), [⟨31, 31, .ro, P.sdmb⟩, ⟨30, 30, .ro, P.sdmb⟩, ⟨29, 29, .ro, P.sdmb⟩, ⟨10, 0, .ro, P.sdmb⟩]⟩,
  ⟨Reg.RSV_CMD, 1, 0x4, 1, 0x4, P.s, true, (0, 0), [⟨31, 31, .sc, P.s⟩, ⟨23, 20, .rw, P.s⟩, ⟨19, 16, .rw, P.s⟩, ⟨9, 9, .rw, P.s⟩, ⟨8, 8, .rw, P.s⟩, ⟨7, 0, .rw, P.s⟩]⟩,
  ⟨Reg.RSV_RESULT, 1, 0x4, 1, 0x4, P.s, false, (0, 0), [⟨31, 24, .ro, P.s⟩, ⟨23, 23, .ro, P.s⟩]⟩,
  ⟨Reg.RSV_ARG, 1, 0x4, 1, 0x4, P.s, false, (0, 0), [⟨31, 26, .rw, P.s⟩, ⟨15, 0, .rw, P.s⟩]⟩,
  ⟨Reg.RSV_ARG_GEN, 1, 0x4, 1, 0x4, P.s, false, (0, 0), [⟨31, 0, .rw, P.s⟩]⟩,
  ⟨Reg.RSV_ADDR 0, 4, 0x8, 1, 0x8, P.s, false, (0, 0), [⟨31, 0, .rw, P.s⟩]⟩,
  ⟨Reg.RSV_ADDR 0 + 4, 4, 0x8, 1, 0x8, P.s, false, (0, 0), [⟨7, 0, .rw, P.s⟩]⟩,
  ⟨Reg.RSV_POLICY0 0, 12, 0x4, 1, 0x4, P.s, false, (0, 0), [⟨31, 0, .rw, P.s⟩]⟩,
  ⟨Reg.RSV_POLICY1 0, 12, 0x4, 1, 0x4, P.s, false, (0, 0), [⟨31, 0, .rw, P.s⟩]⟩,
  ⟨Reg.RSV_SLOT_USE, 1, 0x4, 1, 0x4, P.sdm, false, (0, 0), [⟨28, 16, .ro, P.sdm⟩, ⟨6, 0, .ro, P.sdm⟩]⟩,
  ⟨Reg.RSV_ECC, 1, 0x4, 1, 0x4, P.sdm, false, (0, 0), [⟨31, 16, .w0c, P.sdm⟩, ⟨15, 0, .w0c, P.sdm⟩]⟩,
  ⟨Reg.RSV_ERASE_TIME, 1, 0x4, 1, 0x4, P.sdm, false, (0, 0), [⟨31, 0, .ro, P.sdm⟩]⟩,
  ⟨Reg.RSV_ERASE_TIME + 4, 1, 0x4, 1, 0x4, P.sdm, false, (0, 0), [⟨31, 0, .ro, P.sdm⟩]⟩,
  ⟨Reg.RSV_DOM_SEL, 1, 0x4, 1, 0x4, P.s, false, (0, 0), [⟨9, 0, .rw, P.s⟩]⟩,
  ⟨Reg.RSV_DOM_INFO, 1, 0x4, 1, 0x4, P.s, false, (0, 0), [⟨31, 31, .ro, P.s⟩, ⟨30, 30, .ro, P.s⟩, ⟨15, 0, .ro, P.s⟩]⟩,
  ⟨Reg.RSV_DOM_GEN 0, 2, 0x4, 1, 0x4, P.s, false, (0, 0), [⟨31, 0, .ro, P.s⟩]⟩]

/-- Register words of the 64 KiB pages 0x10040 to 0x1007F. -/
def Reg.rows6 : List RegRow := [
  ⟨Reg.FOL_CTL 0, 64, 0x10000, 1, 0x10000, P.sm, false, (0, 0), [⟨2, 0, .rw, P.s⟩]⟩,
  ⟨Reg.FOL_CMD 0, 64, 0x10000, 1, 0x10000, P.m, true, (0, 0), [⟨31, 31, .sc, P.m⟩, ⟨30, 28, .ro, P.m⟩, ⟨3, 0, .rw, P.m⟩]⟩,
  ⟨Reg.FOL_ERR 0, 64, 0x10000, 1, 0x10000, P.smt, false, (0, 0), [⟨8, 8, .w1c, P.m⟩, ⟨7, 7, .w1c, P.m⟩, ⟨6, 6, .w1c, P.m⟩, ⟨5, 5, .w1c, P.m⟩, ⟨4, 4, .w1c, P.m⟩, ⟨3, 3, .w1c, P.m⟩, ⟨2, 2, .w1c, P.m⟩, ⟨1, 1, .w1c, P.m⟩, ⟨0, 0, .w1c, P.m⟩]⟩,
  ⟨Reg.FOL_PASID 0 0, 64, 0x10000, 4, 0x4, P.sm, false, (0, 0), [⟨31, 31, .rw, P.m⟩, ⟨19, 0, .rw, P.m⟩]⟩,
  ⟨Reg.FOL_VEC 0, 64, 0x10000, 1, 0x10000, P.sm, false, (0, 0), [⟨24, 16, .rw, P.m⟩, ⟨9, 0, .rw, P.m⟩]⟩,
  ⟨Reg.FOL_LAT_BUDGET 0, 64, 0x10000, 1, 0x10000, P.sm, false, (0, 0), [⟨31, 0, .rw, P.m⟩]⟩,
  ⟨Reg.FOL_CFG 0, 64, 0x10000, 1, 0x10000, P.sm, false, (0, 0), [⟨0, 0, .rw, P.m⟩]⟩,
  ⟨Reg.FOL_MBX_VEC 0, 64, 0x10000, 1, 0x10000, P.sm, false, (0, 0), [⟨31, 31, .rw, P.m⟩, ⟨8, 0, .rw, P.m⟩]⟩,
  ⟨Reg.FOL_ACL_COUNT 0, 64, 0x10000, 1, 0x10000, P.sm, false, (0, 0), [⟨6, 0, .ro, P.sm⟩]⟩,
  ⟨Reg.FOL_ACL 0 0, 64, 0x10000, 64, 0x4, P.sm, false, (0, 0), [⟨31, 31, .rw, P.s⟩, ⟨15, 0, .rw, P.s⟩]⟩,
  ⟨Reg.FOL_T2M 0 0, 64, 0x10000, 64, 0x4, P.mt, false, (0, 0), [⟨31, 0, .rw, P.t⟩]⟩,
  ⟨Reg.FOL_M2T 0 0, 64, 0x10000, 64, 0x4, P.mt, false, (0, 0), [⟨31, 0, .rw, P.m⟩]⟩,
  ⟨Reg.FOL_MBX_CTL 0, 64, 0x10000, 1, 0x10000, P.mt, true, (0, 0), [⟨3, 3, .w1c, P.m⟩, ⟨2, 2, .w1c, P.t⟩, ⟨1, 1, .w1s, P.m⟩, ⟨0, 0, .w1s, P.t⟩]⟩]

/-- Register words of the 64 KiB pages 0x10080 to 0x10080. -/
def Reg.rows7 : List RegRow := [
  ⟨Reg.SPLIC_PRIORITY 0, 513, 0x4, 1, 0x4, P.s, false, (0, 0), [⟨2, 0, .rw, P.s⟩]⟩,
  ⟨Reg.SPLIC_ENABLE 0 0, 3, 0x80, 17, 0x4, P.s, false, (0, 0), [⟨31, 0, .rw, P.s⟩]⟩]

/-- Register words of the 64 KiB pages 0x100A0 to 0x100A0. -/
def Reg.rows8 : List RegRow := [
  ⟨Reg.SPLIC_THRESHOLD 0, 3, 0x1000, 1, 0x1000, P.s, false, (0, 0), [⟨2, 0, .rw, P.s⟩]⟩]

/-- Register words of the 64 KiB pages 0x14000 to 0x14000. -/
def Reg.rows9 : List RegRow := [
  ⟨Reg.TIME_NOW_LO, 1, 0x4, 1, 0x4, P.sdm, false, (0, 0), [⟨31, 0, .ro, P.sdm⟩]⟩,
  ⟨Reg.TIME_NOW_HI, 1, 0x4, 1, 0x4, P.sdm, false, (0, 0), [⟨31, 0, .ro, P.sdm⟩]⟩,
  ⟨Reg.TIME_NOW_FRAC, 1, 0x4, 1, 0x4, P.sdm, false, (0, 0), [⟨31, 0, .ro, P.sdm⟩]⟩,
  ⟨Reg.TIME_STAT, 1, 0x4, 1, 0x4, P.sdm, false, (0, 0), [⟨3, 3, .ro, P.sdm⟩, ⟨2, 2, .w1c, P.sd⟩, ⟨1, 1, .w1c, P.sd⟩, ⟨0, 0, .ro, P.sdm⟩]⟩,
  ⟨Reg.TIME_INCR, 1, 0x4, 1, 0x4, P.sdm, false, (0, 0), [⟨31, 0, .rw, P.s⟩]⟩,
  ⟨Reg.TIME_INCR + 4, 1, 0x4, 1, 0x4, P.sdm, false, (0, 0), [⟨7, 0, .rw, P.s⟩]⟩,
  ⟨Reg.TIME_RATE_D, 1, 0x4, 1, 0x4, P.sd, true, (0, 0), [⟨31, 0, .rw, P.sd⟩]⟩,
  ⟨Reg.TIME_SET, 1, 0x4, 1, 0x4, P.s, true, (0, 0), [⟨31, 0, .wo, P.s⟩]⟩,
  ⟨Reg.TIME_SET + 4, 1, 0x4, 1, 0x4, P.s, true, (0, 0), [⟨31, 0, .wo, P.s⟩]⟩,
  ⟨Reg.TIME_STEP_S, 1, 0x4, 1, 0x4, P.s, true, (0, 0), [⟨31, 0, .wo, P.s⟩]⟩,
  ⟨Reg.TIME_STEP_S + 4, 1, 0x4, 1, 0x4, P.s, true, (0, 0), [⟨31, 0, .wo, P.s⟩]⟩,
  ⟨Reg.TIME_STEP_D, 1, 0x4, 1, 0x4, P.d, true, (0, 0), [⟨31, 0, .wo, P.d⟩]⟩,
  ⟨Reg.TIME_PPS_WIDTH, 1, 0x4, 1, 0x4, P.sd, false, (0, 0), [⟨31, 0, .rw, P.sd⟩]⟩,
  ⟨Reg.TIME_LUMRO_CTL, 1, 0x4, 1, 0x4, P.sd, false, (0, 0), [⟨31, 16, .rw, P.sd⟩, ⟨15, 8, .rw, P.sd⟩, ⟨7, 4, .rw, P.sd⟩, ⟨3, 3, .rw, P.sd⟩, ⟨1, 1, .rw, P.sd⟩, ⟨0, 0, .rw, P.sd⟩]⟩,
  ⟨Reg.TIME_LUMRO_DELAY, 1, 0x4, 1, 0x4, P.sd, false, (0, 0), [⟨31, 8, .rw, P.sd⟩, ⟨7, 0, .rw, P.sd⟩]⟩,
  ⟨Reg.TIME_LUMRO_CAP, 1, 0x4, 1, 0x4, P.sdm, false, (0, 0), [⟨31, 0, .ro, P.sdm⟩]⟩,
  ⟨Reg.TIME_LUMRO_CAP + 4, 1, 0x4, 1, 0x4, P.sdm, false, (0, 0), [⟨31, 0, .ro, P.sdm⟩]⟩,
  ⟨Reg.TIME_LUMRO_OFFSET, 1, 0x4, 1, 0x4, P.sdm, false, (0, 0), [⟨31, 0, .ro, P.sdm⟩]⟩,
  ⟨Reg.TIME_LUMRO_OFFSET + 4, 1, 0x4, 1, 0x4, P.sdm, false, (0, 0), [⟨31, 0, .ro, P.sdm⟩]⟩,
  ⟨Reg.TIME_LUMRO_RXSEC, 1, 0x4, 1, 0x4, P.sdm, false, (0, 0), [⟨31, 0, .ro, P.sdm⟩]⟩,
  ⟨Reg.TIME_LUMRO_RXSEC + 4, 1, 0x4, 1, 0x4, P.sdm, false, (0, 0), [⟨31, 0, .ro, P.sdm⟩]⟩,
  ⟨Reg.TIME_LUMRO_STAT, 1, 0x4, 1, 0x4, P.sdm, false, (0, 0), [⟨31, 16, .w0c, P.sdm⟩, ⟨15, 1, .w0c, P.sdm⟩, ⟨0, 0, .ro, P.sdm⟩]⟩,
  ⟨Reg.TIME_PTP_CORR_N0, 1, 0x4, 1, 0x4, P.sd, false, (0, 0), [⟨31, 16, .rw, P.sd⟩, ⟨15, 0, .rw, P.sd⟩]⟩,
  ⟨Reg.TIME_PTP_CORR_N1, 1, 0x4, 1, 0x4, P.sd, false, (0, 0), [⟨31, 16, .rw, P.sd⟩, ⟨15, 0, .rw, P.sd⟩]⟩]

/-- Register words of the 64 KiB pages 0x14001 to 0x14001. -/
def Reg.rows10 : List RegRow := [
  ⟨Reg.STRK_W0 0, 1024, 0x20, 1, 0x20, P.sd, true, (0, 0), [⟨31, 31, .rw, P.sd⟩, ⟨30, 30, .rw, P.s⟩, ⟨29, 29, .rw, P.sd⟩, ⟨23, 16, .rw, P.sd⟩, ⟨15, 0, .rw, P.sd⟩]⟩,
  ⟨Reg.STRK_ARG 0, 1024, 0x20, 1, 0x20, P.sd, true, (0, 0), [⟨31, 0, .rw, P.sd⟩]⟩,
  ⟨Reg.STRK_TIME 0, 1024, 0x20, 1, 0x20, P.sd, true, (0, 0), [⟨31, 0, .rw, P.sd⟩]⟩,
  ⟨Reg.STRK_TIME 0 + 4, 1024, 0x20, 1, 0x20, P.sd, true, (0, 0), [⟨31, 0, .rw, P.sd⟩]⟩,
  ⟨Reg.STRK_PERIOD 0, 1024, 0x20, 1, 0x20, P.sd, true, (0, 0), [⟨31, 0, .rw, P.sd⟩]⟩,
  ⟨Reg.STRK_PERIOD 0 + 4, 1024, 0x20, 1, 0x20, P.sd, true, (0, 0), [⟨31, 0, .rw, P.sd⟩]⟩,
  ⟨Reg.STRK_COUNT 0, 1024, 0x20, 1, 0x20, P.sd, true, (0, 0), [⟨31, 0, .ro, P.sd⟩]⟩,
  ⟨Reg.STRK_STATUS 0, 1024, 0x20, 1, 0x20, P.sd, true, (0, 0), [⟨31, 31, .w1c, P.sd⟩, ⟨30, 30, .w1c, P.sd⟩, ⟨29, 29, .w1c, P.sd⟩, ⟨28, 28, .w1c, P.sd⟩, ⟨27, 27, .w1c, P.sd⟩]⟩,
  ⟨Reg.STRK_ERR, 1, 0x4, 1, 0x4, P.sd, false, (0, 0), [⟨31, 31, .w1c, P.sd⟩, ⟨30, 28, .ro, P.sd⟩, ⟨9, 0, .ro, P.sd⟩]⟩,
  ⟨Reg.STRK_GATE_USED, 1, 0x4, 1, 0x4, P.sdm, false, (0, 0), [⟨9, 0, .ro, P.sdm⟩]⟩,
  ⟨Reg.STRK_GATE_HWM, 1, 0x4, 1, 0x4, P.sdm, false, (0, 0), [⟨9, 0, .anyc, P.s⟩]⟩,
  ⟨Reg.STRK_NEXT, 1, 0x4, 1, 0x4, P.sdm, false, (0, 0), [⟨31, 0, .ro, P.sdm⟩]⟩,
  ⟨Reg.STRK_NEXT + 4, 1, 0x4, 1, 0x4, P.sdm, false, (0, 0), [⟨31, 0, .ro, P.sdm⟩]⟩]

/-- Register words of the 64 KiB pages 0x14002 to 0x14002. -/
def Reg.rows11 : List RegRow := [
  ⟨Reg.DUCT_STAT, 1, 0x4, 1, 0x4, P.sdmb, false, (0, 0), [⟨31, 24, .ro, P.sdmb⟩, ⟨23, 16, .ro, P.sdmb⟩, ⟨5, 5, .ro, P.sdmb⟩, ⟨4, 4, .ro, P.sdmb⟩, ⟨1, 0, .ro, P.sdmb⟩]⟩,
  ⟨Reg.DUCT_CONFIG_ID, 1, 0x4, 1, 0x4, P.sdmb, false, (0, 0), [⟨31, 0, .ro, P.sdmb⟩]⟩,
  ⟨Reg.DUCT_CONFIG_REV, 1, 0x4, 1, 0x4, P.sdmb, false, (0, 0), [⟨31, 0, .ro, P.sdmb⟩]⟩,
  ⟨Reg.DUCT_VERSION, 1, 0x4, 1, 0x4, P.sdmb, false, (0, 0), [⟨15, 0, .ro, P.sdmb⟩]⟩,
  ⟨Reg.DUCT_STREAM_ID, 1, 0x4, 1, 0x4, P.sdm, false, (0, 0), [⟨31, 0, .ro, P.sdm⟩]⟩,
  ⟨Reg.DUCT_STREAM_ID + 4, 1, 0x4, 1, 0x4, P.sdm, false, (0, 0), [⟨31, 0, .ro, P.sdm⟩]⟩,
  ⟨Reg.DUCT_DIGEST 0, 12, 0x4, 1, 0x4, P.sdm, false, (0, 0), [⟨31, 0, .ro, P.sdm⟩]⟩,
  ⟨Reg.DUCT_LIVE_ADDR, 1, 0x4, 1, 0x4, P.s, false, (0, 0), [⟨31, 0, .rw, P.s⟩]⟩,
  ⟨Reg.DUCT_LIVE_ADDR + 4, 1, 0x4, 1, 0x4, P.s, false, (0, 0), [⟨7, 0, .rw, P.s⟩]⟩,
  ⟨Reg.DUCT_LIVE_LEN, 1, 0x4, 1, 0x4, P.s, false, (0, 0), [⟨31, 0, .rw, P.s⟩]⟩,
  ⟨Reg.DUCT_CMD, 1, 0x4, 1, 0x4, P.s, true, (0, 0), [⟨31, 31, .sc, P.s⟩, ⟨30, 30, .sc, P.s⟩, ⟨29, 29, .sc, P.s⟩, ⟨15, 0, .rw, P.s⟩]⟩,
  ⟨Reg.DUCT_LIVE_STAT, 1, 0x4, 1, 0x4, P.sdm, false, (0, 0), [⟨31, 24, .ro, P.sdm⟩, ⟨23, 23, .ro, P.sdm⟩, ⟨22, 22, .w1c, P.s⟩, ⟨15, 0, .ro, P.sdm⟩]⟩,
  ⟨Reg.DUCT_LIVE_VERSION, 1, 0x4, 1, 0x4, P.sdm, false, (0, 0), [⟨31, 0, .ro, P.sdm⟩]⟩,
  ⟨Reg.DUCT_LAST_SWAP, 1, 0x4, 1, 0x4, P.sdm, false, (0, 0), [⟨31, 0, .ro, P.sdm⟩]⟩,
  ⟨Reg.DUCT_LAST_SWAP + 4, 1, 0x4, 1, 0x4, P.sdm, false, (0, 0), [⟨31, 0, .ro, P.sdm⟩]⟩,
  ⟨Reg.DUCT_SWAP_COUNT, 1, 0x4, 1, 0x4, P.sdm, false, (0, 0), [⟨31, 0, .ro, P.sdm⟩]⟩]

/-- Register words of the 64 KiB pages 0x14003 to 0x14003. -/
def Reg.rows12 : List RegRow := [
  ⟨Reg.BOOT_STAT, 1, 0x4, 1, 0x4, P.sdmb, false, (0, 0), [⟨31, 24, .ro, P.sdmb⟩, ⟨23, 20, .ro, P.sdmb⟩, ⟨19, 19, .ro, P.sdmb⟩, ⟨18, 18, .ro, P.sdmb⟩, ⟨17, 17, .ro, P.sdmb⟩, ⟨16, 16, .ro, P.sdmb⟩, ⟨15, 15, .ro, P.sdmb⟩, ⟨14, 13, .ro, P.sdmb⟩]⟩,
  ⟨Reg.BOOT_TIME, 1, 0x4, 1, 0x4, P.sdmb, false, (0, 0), [⟨31, 0, .ro, P.sdmb⟩]⟩,
  ⟨Reg.BOOT_SERIAL, 1, 0x4, 1, 0x4, P.sdmb, false, (0, 0), [⟨31, 0, .ro, P.sdmb⟩]⟩,
  ⟨Reg.BOOT_SERIAL + 4, 1, 0x4, 1, 0x4, P.sdmb, false, (0, 0), [⟨31, 0, .ro, P.sdmb⟩]⟩,
  ⟨Reg.BOOT_IDENT, 1, 0x4, 1, 0x4, P.sdmb, false, (0, 0), [⟨31, 16, .ro, P.sdmb⟩, ⟨15, 8, .ro, P.sdmb⟩, ⟨3, 0, .ro, P.sdmb⟩]⟩,
  ⟨Reg.BOOT_IMG_STAT, 1, 0x4, 1, 0x4, P.sdmb, false, (0, 0), [⟨31, 24, .ro, P.sdmb⟩, ⟨23, 16, .ro, P.sdmb⟩, ⟨15, 8, .ro, P.sdmb⟩, ⟨7, 0, .ro, P.sdmb⟩]⟩,
  ⟨Reg.BOOT_FLOOR_OTP, 1, 0x4, 1, 0x4, P.sdmb, false, (0, 0), [⟨23, 16, .ro, P.sdmb⟩, ⟨15, 8, .ro, P.sdmb⟩, ⟨7, 0, .ro, P.sdmb⟩]⟩,
  ⟨Reg.BOOT_BFLOOR0, 1, 0x4, 1, 0x4, P.sdm, false, (0, 0), [⟨31, 16, .ro, P.sdm⟩, ⟨15, 0, .ro, P.sdm⟩]⟩,
  ⟨Reg.BOOT_BFLOOR1, 1, 0x4, 1, 0x4, P.sdm, false, (0, 0), [⟨15, 0, .ro, P.sdm⟩]⟩,
  ⟨Reg.BOOT_FLOOR_CMD, 1, 0x4, 1, 0x4, P.s, true, (0, 0), [⟨31, 31, .sc, P.s⟩, ⟨30, 30, .rw, P.s⟩, ⟨29, 28, .ro, P.s⟩, ⟨25, 24, .rw, P.s⟩, ⟨15, 0, .rw, P.s⟩]⟩,
  ⟨Reg.BOOT_VER_INFORCE, 1, 0x4, 1, 0x4, P.sdm, false, (0, 0), [⟨31, 16, .ro, P.sdm⟩, ⟨15, 0, .ro, P.sdm⟩]⟩,
  ⟨Reg.BOOT_SIGNER, 1, 0x4, 1, 0x4, P.sdmb, false, (0, 0), [⟨17, 17, .ro, P.sdmb⟩, ⟨16, 16, .ro, P.sdmb⟩, ⟨11, 8, .ro, P.sdmb⟩, ⟨3, 0, .ro, P.sdmb⟩]⟩,
  ⟨Reg.BOOT_POLICY, 1, 0x4, 1, 0x4, P.sdm, false, (0, 0), [⟨31, 31, .ro, P.sdm⟩, ⟨1, 1, .ro, P.sdm⟩, ⟨0, 0, .ro, P.sdm⟩]⟩,
  ⟨Reg.BOOT_MEAS 0 0, 8, 0x30, 12, 0x4, P.s, false, (0, 0), [⟨31, 0, .ro, P.s⟩]⟩,
  ⟨Reg.BOOT_MEAS_DATA 0, 12, 0x4, 1, 0x4, P.s, false, (0, 0), [⟨31, 0, .wo, P.s⟩]⟩,
  ⟨Reg.BOOT_MEAS_CMD, 1, 0x4, 1, 0x4, P.s, true, (0, 0), [⟨31, 31, .sc, P.s⟩, ⟨30, 30, .w1c, P.s⟩, ⟨2, 0, .rw, P.s⟩]⟩,
  ⟨Reg.BOOT_RCV_ADDR, 1, 0x4, 1, 0x4, P.m, false, (0, 0), [⟨31, 0, .rw, P.m⟩]⟩,
  ⟨Reg.BOOT_RCV_ADDR + 4, 1, 0x4, 1, 0x4, P.m, false, (0, 0), [⟨31, 0, .rw, P.m⟩]⟩,
  ⟨Reg.BOOT_RCV_LEN, 1, 0x4, 1, 0x4, P.m, false, (0, 0), [⟨31, 0, .rw, P.m⟩]⟩,
  ⟨Reg.BOOT_RCV_CMD, 1, 0x4, 1, 0x4, P.m, true, (0, 0), [⟨31, 31, .sc, P.m⟩, ⟨23, 16, .rw, P.m⟩, ⟨3, 0, .rw, P.m⟩]⟩,
  ⟨Reg.BOOT_RCV_STAT, 1, 0x4, 1, 0x4, P.sm, false, (0, 0), [⟨31, 24, .ro, P.sm⟩, ⟨23, 23, .ro, P.sm⟩, ⟨22, 22, .ro, P.sm⟩]⟩]

/-- Register words of the 64 KiB pages 0x14004 to 0x14004. -/
def Reg.rows13 : List RegRow := [
  ⟨Reg.WRLD_STAT, 1, 0x4, 1, 0x4, P.sdmb, false, (0, 0), [⟨31, 24, .ro, P.sdmb⟩, ⟨23, 20, .ro, P.sdmb⟩, ⟨19, 18, .ro, P.sdmb⟩, ⟨1, 0, .ro, P.sdmb⟩]⟩,
  ⟨Reg.WRLD_CFG, 1, 0x4, 1, 0x4, P.sdmb, false, (0, 0), [⟨31, 24, .ro, P.sdmb⟩, ⟨20, 16, .ro, P.sdmb⟩, ⟨15, 8, .ro, P.sdmb⟩, ⟨0, 0, .ro, P.sdmb⟩]⟩,
  ⟨Reg.WRLD_CORE_STAT, 1, 0x4, 1, 0x4, P.sdm, false, (0, 0), [⟨23, 16, .ro, P.sdm⟩, ⟨15, 8, .ro, P.sdm⟩, ⟨7, 0, .ro, P.sdm⟩]⟩,
  ⟨Reg.WRLD_WD_KICK, 1, 0x4, 1, 0x4, P.s, true, (0, 0), [⟨31, 0, .wo, P.s⟩]⟩,
  ⟨Reg.WRLD_WD_STAT, 1, 0x4, 1, 0x4, P.sdm, false, (0, 0), [⟨31, 16, .ro, P.sdm⟩, ⟨13, 0, .ro, P.sdm⟩]⟩,
  ⟨Reg.WRLD_CLAIM, 1, 0x4, 1, 0x4, P.s, true, (0, 0), [⟨7, 0, .w1s, P.s⟩]⟩,
  ⟨Reg.WRLD_YIELD, 1, 0x4, 1, 0x4, P.d, true, (0, 0), [⟨31, 0, .wo, P.d⟩]⟩,
  ⟨Reg.WRLD_RETURN, 1, 0x4, 1, 0x4, P.s, true, (0, 0), [⟨31, 0, .wo, P.s⟩]⟩,
  ⟨Reg.WRLD_LEND_CTL, 1, 0x4, 1, 0x4, P.sd, false, (Reg.WRLD_LEND_CTL, 31), [⟨31, 31, .rwo, P.s⟩, ⟨30, 30, .w1c, P.s⟩, ⟨29, 23, .rwl, P.s⟩, ⟨9, 0, .rwl, P.s⟩]⟩,
  ⟨Reg.WRLD_LEND_ENTRY, 1, 0x4, 1, 0x4, P.s, false, (Reg.WRLD_LEND_CTL, 31), [⟨31, 0, .rwl, P.s⟩]⟩,
  ⟨Reg.WRLD_LEND_ENTRY + 4, 1, 0x4, 1, 0x4, P.s, false, (Reg.WRLD_LEND_CTL, 31), [⟨7, 0, .rwl, P.s⟩]⟩,
  ⟨Reg.WRLD_FAIL_TIME, 1, 0x4, 1, 0x4, P.sdmb, false, (0, 0), [⟨31, 0, .ro, P.sdmb⟩]⟩,
  ⟨Reg.WRLD_FAIL_TIME + 4, 1, 0x4, 1, 0x4, P.sdmb, false, (0, 0), [⟨31, 0, .ro, P.sdmb⟩]⟩,
  ⟨Reg.WRLD_READY_TIME, 1, 0x4, 1, 0x4, P.sdmb, false, (0, 0), [⟨31, 0, .ro, P.sdmb⟩]⟩,
  ⟨Reg.WRLD_READY_TIME + 4, 1, 0x4, 1, 0x4, P.sdmb, false, (0, 0), [⟨31, 0, .ro, P.sdmb⟩]⟩,
  ⟨Reg.WRLD_READY, 1, 0x4, 1, 0x4, P.s, true, (0, 0), [⟨31, 0, .wo, P.s⟩]⟩,
  ⟨Reg.WRLD_SELF_FAIL, 1, 0x4, 1, 0x4, P.s, true, (0, 0), [⟨31, 0, .wo, P.s⟩]⟩,
  ⟨Reg.WRLD_SWITCH_COUNT, 1, 0x4, 1, 0x4, P.sdm, false, (0, 0), [⟨31, 0, .ro, P.sdm⟩]⟩,
  ⟨Reg.WRLD_LEND_CTL2, 1, 0x4, 1, 0x4, P.sd, false, (Reg.WRLD_LEND_CTL, 31), [⟨16, 0, .rwl, P.s⟩]⟩,
  ⟨Reg.WRLD_MTIMECMP0, 1, 0x4, 1, 0x4, P.s, false, (0, 0), [⟨31, 0, .rw, P.s⟩]⟩,
  ⟨Reg.WRLD_MTIMECMP0 + 4, 1, 0x4, 1, 0x4, P.s, false, (0, 0), [⟨31, 0, .rw, P.s⟩]⟩,
  ⟨Reg.WRLD_MTIMECMP_D 0, 8, 0x8, 1, 0x8, P.d, false, (0, 0), [⟨31, 0, .rw, P.d⟩]⟩,
  ⟨Reg.WRLD_MTIMECMP_D 0 + 4, 8, 0x8, 1, 0x8, P.d, false, (0, 0), [⟨31, 0, .rw, P.d⟩]⟩,
  ⟨Reg.WRLD_MTIMECMP_L 0, 2, 0x8, 1, 0x8, P.s, false, (0, 0), [⟨31, 0, .rw, P.s⟩]⟩,
  ⟨Reg.WRLD_MTIMECMP_L 0 + 4, 2, 0x8, 1, 0x8, P.s, false, (0, 0), [⟨31, 0, .rw, P.s⟩]⟩]

/-- Register words of the 64 KiB pages 0x14008 to 0x14008. -/
def Reg.rows14 : List RegRow := [
  ⟨Reg.NIB_STAT, 1, 0x4, 1, 0x4, P.sdm, false, (0, 0), [⟨23, 20, .ro, P.sdm⟩, ⟨19, 16, .ro, P.sdm⟩, ⟨15, 0, .ro, P.sdm⟩]⟩,
  ⟨Reg.NIB_CFG, 1, 0x4, 1, 0x4, P.sdm, false, (0, 0), [⟨9, 8, .ro, P.sdm⟩, ⟨5, 4, .ro, P.sdm⟩, ⟨3, 0, .ro, P.sdm⟩]⟩,
  ⟨Reg.NIB_LANE_BYTES 0, 4, 0x8, 1, 0x8, P.sdm, false, (0, 0), [⟨31, 0, .ro, P.sdm⟩]⟩,
  ⟨Reg.NIB_LANE_BYTES 0 + 4, 4, 0x8, 1, 0x8, P.sdm, false, (0, 0), [⟨31, 0, .ro, P.sdm⟩]⟩,
  ⟨Reg.NIB_HASH_BYTES 0, 2, 0x8, 1, 0x8, P.sdm, false, (0, 0), [⟨31, 0, .ro, P.sdm⟩]⟩,
  ⟨Reg.NIB_HASH_BYTES 0 + 4, 2, 0x8, 1, 0x8, P.sdm, false, (0, 0), [⟨31, 0, .ro, P.sdm⟩]⟩,
  ⟨Reg.NIB_AUTH_FAIL, 1, 0x4, 1, 0x4, P.sdm, false, (0, 0), [⟨31, 0, .ro, P.sdm⟩]⟩,
  ⟨Reg.NIB_SUSPEND_COUNT, 1, 0x4, 1, 0x4, P.sdm, false, (0, 0), [⟨31, 0, .ro, P.sdm⟩]⟩,
  ⟨Reg.NIB_CTR_CLEAR, 1, 0x4, 1, 0x4, P.s, false, (0, 0), [⟨31, 0, .wo, P.s⟩]⟩]

/-- Register words of the 64 KiB pages 0x14009 to 0x14009. -/
def Reg.rows15 : List RegRow := [
  ⟨Reg.FLO_STAT, 1, 0x4, 1, 0x4, P.sdm, false, (0, 0), [⟨3, 0, .ro, P.sdm⟩]⟩,
  ⟨Reg.FLO_OPS 0, 4, 0x8, 1, 0x8, P.sdm, false, (0, 0), [⟨31, 0, .ro, P.sdm⟩]⟩,
  ⟨Reg.FLO_OPS 0 + 4, 4, 0x8, 1, 0x8, P.sdm, false, (0, 0), [⟨31, 0, .ro, P.sdm⟩]⟩,
  ⟨Reg.FLO_AUTH_FAIL, 1, 0x4, 1, 0x4, P.sdm, false, (0, 0), [⟨31, 0, .ro, P.sdm⟩]⟩,
  ⟨Reg.FLO_LOOP_ABORT, 1, 0x4, 1, 0x4, P.sdm, false, (0, 0), [⟨31, 0, .ro, P.sdm⟩]⟩,
  ⟨Reg.FLO_CTR_CLEAR, 1, 0x4, 1, 0x4, P.s, false, (0, 0), [⟨31, 0, .wo, P.s⟩]⟩]

/-- Register words of the 64 KiB pages 0x1400A to 0x1400A. -/
def Reg.rows16 : List RegRow := [
  ⟨Reg.ENT_STAT, 1, 0x4, 1, 0x4, P.sdmb, false, (0, 0), [⟨21, 21, .ro, P.sdmb⟩, ⟨20, 20, .ro, P.sdmb⟩, ⟨19, 16, .ro, P.sdmb⟩, ⟨15, 8, .ro, P.sdmb⟩]⟩,
  ⟨Reg.ENT_SRC_CTL, 1, 0x4, 1, 0x4, P.sdm, true, (Reg.ENT_SRC_CTL, 31), [⟨31, 31, .rwo, P.s⟩, ⟨7, 4, .sc, P.s⟩, ⟨3, 0, .rwl, P.s⟩]⟩,
  ⟨Reg.ENT_RCT_CUTOFF, 1, 0x4, 1, 0x4, P.sdm, false, (Reg.ENT_SRC_CTL, 31), [⟨7, 0, .rwl, P.s⟩]⟩,
  ⟨Reg.ENT_APT_CUTOFF, 1, 0x4, 1, 0x4, P.sdm, false, (Reg.ENT_SRC_CTL, 31), [⟨10, 0, .rwl, P.s⟩]⟩,
  ⟨Reg.ENT_FAIL 0, 4, 0x4, 1, 0x4, P.sdm, false, (0, 0), [⟨31, 16, .ro, P.sdm⟩, ⟨15, 0, .ro, P.sdm⟩]⟩,
  ⟨Reg.ENT_DRBG_STAT, 1, 0x4, 1, 0x4, P.sdm, false, (0, 0), [⟨7, 7, .ro, P.sdm⟩, ⟨15, 15, .ro, P.sdm⟩, ⟨23, 23, .ro, P.sdm⟩, ⟨31, 31, .ro, P.sdm⟩, ⟨6, 6, .ro, P.sdm⟩, ⟨14, 14, .ro, P.sdm⟩, ⟨22, 22, .ro, P.sdm⟩, ⟨30, 30, .ro, P.sdm⟩]⟩,
  ⟨Reg.ENT_DRBG_CMD, 1, 0x4, 1, 0x4, P.s, true, (0, 0), [⟨3, 0, .sc, P.s⟩]⟩,
  ⟨Reg.ENT_RESEED_INTERVAL, 1, 0x4, 1, 0x4, P.sdm, false, (0, 0), [⟨20, 0, .ro, P.sdm⟩]⟩,
  ⟨Reg.ENT_RESEED_COUNT 0, 4, 0x4, 1, 0x4, P.sdm, false, (0, 0), [⟨31, 0, .ro, P.sdm⟩]⟩,
  ⟨Reg.ENT_RNG_S, 1, 0x4, 1, 0x4, P.s, false, (0, 0), [⟨31, 0, .ro, P.s⟩]⟩,
  ⟨Reg.ENT_RNG_S + 4, 1, 0x4, 1, 0x4, P.s, false, (0, 0), [⟨31, 0, .ro, P.s⟩]⟩,
  ⟨Reg.ENT_RNG_D, 1, 0x4, 1, 0x4, P.d, false, (0, 0), [⟨31, 0, .ro, P.d⟩]⟩,
  ⟨Reg.ENT_RNG_D + 4, 1, 0x4, 1, 0x4, P.d, false, (0, 0), [⟨31, 0, .ro, P.d⟩]⟩,
  ⟨Reg.ENT_RNG_ERR, 1, 0x4, 1, 0x4, P.sd, false, (0, 0), [⟨1, 1, .w1c, P.d⟩, ⟨0, 0, .w1c, P.s⟩]⟩,
  ⟨Reg.ENT_RAW_CTL, 1, 0x4, 1, 0x4, P.s, false, (0, 0), [⟨31, 31, .rw, P.s⟩, ⟨1, 0, .rw, P.s⟩]⟩,
  ⟨Reg.ENT_RAW_DATA, 1, 0x4, 1, 0x4, P.s, false, (0, 0), [⟨31, 0, .ro, P.s⟩]⟩,
  ⟨Reg.ENT_RAW_DATA + 4, 1, 0x4, 1, 0x4, P.s, false, (0, 0), [⟨31, 0, .ro, P.s⟩]⟩]

/-- Register words of the 64 KiB pages 0x1400B to 0x1400B. -/
def Reg.rows17 : List RegRow := [
  ⟨Reg.RING_SQ_BASE 0, 128, 0x200, 1, 0x200, P.sdm, false, (0, 0), [⟨31, 12, .rw, P.m⟩]⟩,
  ⟨Reg.RING_SQ_BASE 0 + 4, 128, 0x200, 1, 0x200, P.sdm, false, (0, 0), [⟨31, 0, .rw, P.m⟩]⟩,
  ⟨Reg.RING_CQ_BASE 0, 128, 0x200, 1, 0x200, P.sdm, false, (0, 0), [⟨31, 12, .rw, P.m⟩]⟩,
  ⟨Reg.RING_CQ_BASE 0 + 4, 128, 0x200, 1, 0x200, P.sdm, false, (0, 0), [⟨31, 0, .rw, P.m⟩]⟩,
  ⟨Reg.RING_CFG 0, 128, 0x200, 1, 0x200, P.sdm, false, (0, 0), [⟨31, 30, .rw, P.m⟩, ⟨29, 24, .rw, P.m⟩, ⟨19, 16, .rw, P.m⟩, ⟨12, 8, .rw, P.m⟩, ⟨4, 0, .rw, P.m⟩]⟩,
  ⟨Reg.RING_CTL 0, 128, 0x200, 1, 0x200, P.sdm, true, (0, 0), [⟨31, 31, .rw, P.m⟩, ⟨30, 28, .ro, P.sdm⟩]⟩,
  ⟨Reg.RING_GATE_TO 0, 128, 0x200, 1, 0x200, P.sdm, false, (0, 0), [⟨19, 0, .rw, P.m⟩]⟩,
  ⟨Reg.RING_COAL 0, 128, 0x200, 1, 0x200, P.sdm, false, (0, 0), [⟨23, 16, .rw, P.m⟩, ⟨15, 0, .rw, P.m⟩]⟩,
  ⟨Reg.RING_STAT 0, 128, 0x200, 1, 0x200, P.sdm, false, (0, 0), [⟨31, 30, .ro, P.sdm⟩, ⟨8, 8, .ro, P.sdm⟩, ⟨4, 4, .w1c, P.m⟩, ⟨3, 3, .w1c, P.m⟩, ⟨2, 2, .w1c, P.m⟩, ⟨1, 1, .w1c, P.m⟩]⟩,
  ⟨Reg.RING_SQ_HEAD 0, 128, 0x200, 1, 0x200, P.sdm, false, (0, 0), [⟨15, 0, .ro, P.sdm⟩]⟩,
  ⟨Reg.RING_SQ_TAIL 0, 128, 0x200, 1, 0x200, P.sdm, false, (0, 0), [⟨15, 0, .ro, P.sdm⟩]⟩,
  ⟨Reg.RING_CQ_TAIL 0, 128, 0x200, 1, 0x200, P.sdm, false, (0, 0), [⟨15, 0, .ro, P.sdm⟩]⟩,
  ⟨Reg.RING_CQ_HEAD 0, 128, 0x200, 1, 0x200, P.sdm, false, (0, 0), [⟨15, 0, .ro, P.sdm⟩]⟩,
  ⟨Reg.RING_ERR_INDEX 0, 128, 0x200, 1, 0x200, P.sdm, false, (0, 0), [⟨15, 0, .ro, P.sdm⟩]⟩,
  ⟨Reg.RING_OPS 0, 128, 0x200, 1, 0x200, P.sdm, false, (0, 0), [⟨31, 0, .w0c, P.m⟩]⟩,
  ⟨Reg.RING_OPS 0 + 4, 128, 0x200, 1, 0x200, P.sdm, false, (0, 0), [⟨31, 0, .w0c, P.m⟩]⟩,
  ⟨Reg.RING_DUPS 0, 128, 0x200, 1, 0x200, P.sdm, false, (0, 0), [⟨31, 0, .w0c, P.m⟩]⟩,
  ⟨Reg.RING_LOST 0, 128, 0x200, 1, 0x200, P.sdm, false, (0, 0), [⟨31, 0, .w0c, P.m⟩]⟩]

/-- Register words of the 64 KiB pages 0x1400C to 0x1400C. -/
def Reg.rows18 : List RegRow := [
  ⟨Reg.SCH_STAT, 1, 0x4, 1, 0x4, P.sdm, false, (0, 0), [⟨31, 31, .w1c, P.sm⟩, ⟨28, 16, .ro, P.sdm⟩, ⟨12, 0, .ro, P.sdm⟩]⟩,
  ⟨Reg.SCH_TAG_HWM, 1, 0x4, 1, 0x4, P.sdm, false, (0, 0), [⟨12, 0, .anyc, P.sm⟩]⟩,
  ⟨Reg.SCH_PORT_TAGS, 1, 0x4, 1, 0x4, P.sdm, false, (0, 0), [⟨28, 16, .ro, P.sdm⟩, ⟨12, 0, .ro, P.sdm⟩]⟩,
  ⟨Reg.SCH_QUANTUM 0, 6, 0x4, 1, 0x4, P.sdm, false, (0, 0), [⟨23, 0, .rw, P.sm⟩]⟩,
  ⟨Reg.SCH_FOL_TAGS 0, 64, 0x4, 1, 0x4, P.sdm, false, (0, 0), [⟨25, 16, .ro, P.sdm⟩, ⟨10, 0, .ro, P.sdm⟩]⟩,
  ⟨Reg.SCH_FOL_GATE_CAP 0, 64, 0x4, 1, 0x4, P.sdm, false, (0, 0), [⟨9, 0, .rw, P.sm⟩]⟩,
  ⟨Reg.SCH_BSP_DROP 0, 64, 0x4, 1, 0x4, P.sdm, false, (0, 0), [⟨31, 0, .w0c, P.sm⟩]⟩,
  ⟨Reg.SCH_FC_CTL 0 0, 64, 0x200, 6, 0x40, P.sdm, true, (0, 0), [⟨23, 16, .rw, P.sm⟩, ⟨5, 4, .rw, P.sm⟩, ⟨1, 0, .rw, P.sm⟩]⟩,
  ⟨Reg.SCH_FC_RATE_B 0 0, 64, 0x200, 6, 0x40, P.sdm, false, (0, 0), [⟨15, 0, .rw, P.sm⟩]⟩,
  ⟨Reg.SCH_FC_DEPTH_B 0 0, 64, 0x200, 6, 0x40, P.sdm, false, (0, 0), [⟨31, 0, .rw, P.sm⟩]⟩,
  ⟨Reg.SCH_FC_RATE_O 0 0, 64, 0x200, 6, 0x40, P.sdm, false, (0, 0), [⟨23, 0, .rw, P.sm⟩]⟩,
  ⟨Reg.SCH_FC_DEPTH_O 0 0, 64, 0x200, 6, 0x40, P.sdm, false, (0, 0), [⟨23, 0, .rw, P.sm⟩]⟩,
  ⟨Reg.SCH_FC_LEVEL_O 0 0, 64, 0x200, 6, 0x40, P.sdm, false, (0, 0), [⟨31, 0, .ro, P.sdm⟩]⟩,
  ⟨Reg.SCH_FC_LEVEL_B 0 0, 64, 0x200, 6, 0x40, P.sdm, false, (0, 0), [⟨31, 0, .ro, P.sdm⟩]⟩,
  ⟨Reg.SCH_FC_LEVEL_B 0 0 + 4, 64, 0x200, 6, 0x40, P.sdm, false, (0, 0), [⟨31, 0, .ro, P.sdm⟩]⟩,
  ⟨Reg.SCH_FC_DEFICIT 0 0, 64, 0x200, 6, 0x40, P.sdm, false, (0, 0), [⟨31, 0, .ro, P.sdm⟩]⟩,
  ⟨Reg.SCH_FC_DEFICIT 0 0 + 4, 64, 0x200, 6, 0x40, P.sdm, false, (0, 0), [⟨31, 0, .ro, P.sdm⟩]⟩]

/-- Register words of the 64 KiB pages 0x1400D to 0x1400E. -/
def Reg.rows19 : List RegRow := [
  ⟨Reg.PORT_CTL 0, 2, 0x10000, 1, 0x10000, P.sdm, true, (0, 0), [⟨16, 16, .sc, P.sd⟩, ⟨15, 8, .rw, P.sd⟩, ⟨7, 7, .rw, P.sd⟩, ⟨6, 6, .rw, P.sd⟩, ⟨5, 5, .rw, P.sd⟩, ⟨4, 4, .rw, P.sd⟩, ⟨3, 0, .rw, P.sd⟩]⟩,
  ⟨Reg.PORT_STAT 0, 2, 0x10000, 1, 0x10000, P.sdmb, false, (0, 0), [⟨7, 4, .ro, P.sdmb⟩, ⟨3, 3, .ro, P.sdmb⟩, ⟨2, 2, .ro, P.sdmb⟩, ⟨1, 1, .ro, P.sdmb⟩, ⟨0, 0, .ro, P.sdmb⟩]⟩,
  ⟨Reg.PORT_MAX_FRAME 0, 2, 0x10000, 1, 0x10000, P.sdm, false, (0, 0), [⟨13, 0, .rw, P.sd⟩]⟩,
  ⟨Reg.PORT_BSP_CFG 0, 2, 0x10000, 1, 0x10000, P.sdm, false, (0, 0), [⟨31, 31, .rwo, P.s⟩, ⟨19, 19, .rw, P.sd⟩, ⟨18, 16, .rw, P.sd⟩, ⟨15, 0, .rw, P.sd⟩]⟩,
  ⟨Reg.PORT_MAC 0, 2, 0x10000, 1, 0x10000, P.sdm, false, (0, 0), [⟨31, 0, .rw, P.sd⟩]⟩,
  ⟨Reg.PORT_MAC 0 + 4, 2, 0x10000, 1, 0x10000, P.sdm, false, (0, 0), [⟨31, 0, .rw, P.sd⟩]⟩,
  ⟨Reg.PORT_IPV4 0, 2, 0x10000, 1, 0x10000, P.sdm, false, (0, 0), [⟨31, 0, .rw, P.sd⟩]⟩,
  ⟨Reg.PORT_IPV6 0 0, 2, 0x10000, 4, 0x4, P.sdm, false, (0, 0), [⟨31, 0, .rw, P.sd⟩]⟩,
  ⟨Reg.PORT_STAGE_BASE 0, 2, 0x10000, 1, 0x10000, P.sdm, false, (Reg.PORT_BSP_CFG 0, 31), [⟨31, 12, .rwl, P.s⟩]⟩,
  ⟨Reg.PORT_STAGE_BASE 0 + 4, 2, 0x10000, 1, 0x10000, P.sdm, false, (Reg.PORT_BSP_CFG 0, 31), [⟨7, 0, .rwl, P.s⟩]⟩,
  ⟨Reg.PORT_STAGE_SIZE 0, 2, 0x10000, 1, 0x10000, P.sdm, false, (Reg.PORT_BSP_CFG 0, 31), [⟨31, 12, .rwl, P.s⟩]⟩,
  ⟨Reg.PORT_PTP_TXTS_INFO 0, 2, 0x10000, 1, 0x10000, P.sd, true, (0, 0), [⟨31, 31, .ro, P.sd⟩, ⟨30, 24, .ro, P.sd⟩, ⟨23, 8, .ro, P.sd⟩, ⟨7, 4, .ro, P.sd⟩]⟩,
  ⟨Reg.PORT_PTP_TXTS_INFO2 0, 2, 0x10000, 1, 0x10000, P.sd, false, (0, 0), [⟨7, 0, .ro, P.sd⟩]⟩,
  ⟨Reg.PORT_PTP_TXTS_TIME 0, 2, 0x10000, 1, 0x10000, P.sd, false, (0, 0), [⟨31, 0, .ro, P.sd⟩]⟩,
  ⟨Reg.PORT_PTP_TXTS_TIME 0 + 4, 2, 0x10000, 1, 0x10000, P.sd, false, (0, 0), [⟨31, 0, .ro, P.sd⟩]⟩,
  ⟨Reg.PORT_SESSIONS 0, 2, 0x10000, 1, 0x10000, P.sdm, false, (0, 0), [⟨10, 0, .ro, P.sdm⟩]⟩,
  ⟨Reg.PORT_CTR 0 0, 2, 0x10000, 15, 0x8, P.sdm, false, (0, 0), [⟨31, 0, .w0c, P.sd⟩]⟩,
  ⟨Reg.PORT_CTR 0 0 + 4, 2, 0x10000, 15, 0x8, P.sdm, false, (0, 0), [⟨31, 0, .w0c, P.sd⟩]⟩,
  ⟨Reg.TENANT_W0 0, 256, 0x80, 1, 0x80, P.sm, true, (0, 0), [⟨31, 31, .rw, P.sm⟩, ⟨30, 30, .rw, P.s⟩, ⟨29, 24, .rw, P.sm⟩, ⟨23, 0, .rw, P.sm⟩]⟩,
  ⟨Reg.TENANT_PEER 0, 256, 0x80, 1, 0x80, P.sm, true, (0, 0), [⟨17, 16, .rw, P.s⟩, ⟨15, 0, .rw, P.s⟩]⟩,
  ⟨Reg.TENANT_SERIAL 0, 256, 0x80, 1, 0x80, P.sm, true, (0, 0), [⟨31, 0, .rw, P.s⟩]⟩,
  ⟨Reg.TENANT_SERIAL 0 + 4, 256, 0x80, 1, 0x80, P.sm, true, (0, 0), [⟨31, 0, .rw, P.s⟩]⟩,
  ⟨Reg.TENANT_EK_DIGEST 0 0, 256, 0x80, 12, 0x4, P.sm, true, (0, 0), [⟨31, 0, .rw, P.sm⟩]⟩,
  ⟨Reg.TENANT_IP 0 0, 256, 0x80, 4, 0x4, P.sm, true, (0, 0), [⟨31, 0, .rw, P.s⟩]⟩,
  ⟨Reg.TENANT_MACTCI 0 0, 256, 0x80, 3, 0x4, P.sm, true, (0, 0), [⟨31, 0, .rw, P.s⟩]⟩,
  ⟨Reg.TENANT_TAGS 0, 256, 0x80, 1, 0x80, P.sm, true, (0, 0), [⟨1, 0, .rw, P.s⟩]⟩,
  ⟨Reg.PORT_SVC_EK 0, 392, 0x4, 1, 0x4, P.sdmb, false, (0, 0), [⟨31, 0, .ro, P.sdmb⟩]⟩]

/-- Register words of the 64 KiB pages 0x1400F to 0x1400F. -/
def Reg.rows20 : List RegRow := [
  ⟨Reg.QUIL_CTL, 1, 0x4, 1, 0x4, P.sd, true, (0, 0), [⟨31, 31, .sc, P.sd⟩, ⟨30, 30, .sc, P.sd⟩, ⟨16, 16, .rw, P.sd⟩, ⟨15, 12, .ro, P.sd⟩, ⟨11, 0, .ro, P.sd⟩]⟩,
  ⟨Reg.QUIL_STAT, 1, 0x4, 1, 0x4, P.sdm, false, (0, 0), [⟨17, 16, .ro, P.sdm⟩, ⟨2, 2, .ro, P.sdm⟩, ⟨1, 1, .ro, P.sdm⟩, ⟨0, 0, .ro, P.sdm⟩]⟩,
  ⟨Reg.QUIL_TBL_SEL, 1, 0x4, 1, 0x4, P.sd, false, (0, 0), [⟨28, 28, .rw, P.sd⟩, ⟨27, 24, .rw, P.sd⟩, ⟨11, 0, .rw, P.sd⟩]⟩,
  ⟨Reg.QUIL_TBL_CMD, 1, 0x4, 1, 0x4, P.sd, true, (0, 0), [⟨31, 31, .sc, P.sd⟩, ⟨30, 30, .sc, P.sd⟩, ⟨29, 28, .ro, P.sd⟩]⟩,
  ⟨Reg.QUIL_LEAK_LAST, 1, 0x4, 1, 0x4, P.sdm, false, (0, 0), [⟨15, 15, .ro, P.sdm⟩, ⟨14, 11, .ro, P.sdm⟩, ⟨9, 0, .ro, P.sdm⟩]⟩,
  ⟨Reg.QUIL_TBL_DATA 0, 34, 0x4, 1, 0x4, P.sd, false, (0, 0), [⟨31, 0, .rw, P.sd⟩]⟩,
  ⟨Reg.QUIL_RATE 0, 16, 0x4, 1, 0x4, P.sd, true, (0, 0), [⟨31, 31, .rw, P.sd⟩, ⟨30, 16, .rw, P.sd⟩, ⟨15, 0, .rw, P.sd⟩]⟩,
  ⟨Reg.QUIL_RX_BASE 0, 15, 0x20, 1, 0x20, P.sd, false, (0, 0), [⟨31, 0, .rw, P.sd⟩]⟩,
  ⟨Reg.QUIL_RX_BASE 0 + 4, 15, 0x20, 1, 0x20, P.sd, false, (0, 0), [⟨7, 0, .rw, P.sd⟩]⟩,
  ⟨Reg.QUIL_RX_CFG 0, 15, 0x20, 1, 0x20, P.sd, false, (0, 0), [⟨31, 31, .rw, P.sd⟩, ⟨19, 16, .rw, P.sd⟩, ⟨3, 0, .rw, P.sd⟩]⟩,
  ⟨Reg.QUIL_RX_HEAD 0, 15, 0x20, 1, 0x20, P.sd, false, (0, 0), [⟨13, 0, .rw, P.sd⟩]⟩,
  ⟨Reg.QUIL_RX_TAIL 0, 15, 0x20, 1, 0x20, P.sd, false, (0, 0), [⟨13, 0, .ro, P.sd⟩]⟩,
  ⟨Reg.QUIL_RX_DROP 0, 15, 0x20, 1, 0x20, P.sd, false, (0, 0), [⟨31, 0, .w0c, P.sd⟩]⟩,
  ⟨Reg.QUIL_RX_BASE_S 0, 1, 0x4, 1, 0x4, P.s, false, (0, 0), [⟨31, 0, .rw, P.s⟩]⟩,
  ⟨Reg.QUIL_RX_BASE_S 0 + 4, 1, 0x4, 1, 0x4, P.s, false, (0, 0), [⟨7, 0, .rw, P.s⟩]⟩,
  ⟨Reg.QUIL_RX_CFG_S 0, 1, 0x4, 1, 0x4, P.s, false, (0, 0), [⟨31, 31, .rw, P.s⟩, ⟨19, 16, .rw, P.s⟩, ⟨3, 0, .rw, P.s⟩]⟩,
  ⟨Reg.QUIL_RX_HEAD_S 0, 1, 0x4, 1, 0x4, P.s, false, (0, 0), [⟨13, 0, .rw, P.s⟩]⟩,
  ⟨Reg.QUIL_RX_TAIL_S 0, 1, 0x4, 1, 0x4, P.s, false, (0, 0), [⟨13, 0, .ro, P.s⟩]⟩,
  ⟨Reg.QUIL_RX_DROP_S 0, 1, 0x4, 1, 0x4, P.s, false, (0, 0), [⟨31, 0, .w0c, P.s⟩]⟩,
  ⟨Reg.QUIL_TX_BASE 0, 8, 0x20, 1, 0x20, P.sd, false, (0, 0), [⟨31, 0, .rw, P.sd⟩]⟩,
  ⟨Reg.QUIL_TX_BASE 0 + 4, 8, 0x20, 1, 0x20, P.sd, false, (0, 0), [⟨7, 0, .rw, P.sd⟩]⟩,
  ⟨Reg.QUIL_TX_CFG 0, 8, 0x20, 1, 0x20, P.sd, false, (0, 0), [⟨31, 31, .rw, P.sd⟩, ⟨30, 30, .rw, P.s⟩, ⟨3, 0, .rw, P.sd⟩]⟩,
  ⟨Reg.QUIL_TX_TAIL 0, 8, 0x20, 1, 0x20, P.sd, true, (0, 0), [⟨13, 0, .rw, P.sd⟩]⟩,
  ⟨Reg.QUIL_TX_HEAD 0, 8, 0x20, 1, 0x20, P.sd, false, (0, 0), [⟨13, 0, .ro, P.sd⟩]⟩,
  ⟨Reg.QUIL_TX_BASE_S 0, 1, 0x4, 1, 0x4, P.s, false, (0, 0), [⟨31, 0, .rw, P.s⟩]⟩,
  ⟨Reg.QUIL_TX_BASE_S 0 + 4, 1, 0x4, 1, 0x4, P.s, false, (0, 0), [⟨7, 0, .rw, P.s⟩]⟩,
  ⟨Reg.QUIL_TX_CFG_S 0, 1, 0x4, 1, 0x4, P.s, false, (0, 0), [⟨31, 31, .rw, P.s⟩, ⟨30, 30, .rw, P.s⟩, ⟨3, 0, .rw, P.s⟩]⟩,
  ⟨Reg.QUIL_TX_TAIL_S 0, 1, 0x4, 1, 0x4, P.s, true, (0, 0), [⟨13, 0, .rw, P.s⟩]⟩,
  ⟨Reg.QUIL_TX_HEAD_S 0, 1, 0x4, 1, 0x4, P.s, false, (0, 0), [⟨13, 0, .ro, P.s⟩]⟩,
  ⟨Reg.QUIL_CTR 0, 11, 0x8, 1, 0x8, P.sdm, false, (0, 0), [⟨31, 0, .w0c, P.sdm⟩]⟩,
  ⟨Reg.QUIL_CTR 0 + 4, 11, 0x8, 1, 0x8, P.sdm, false, (0, 0), [⟨31, 0, .w0c, P.sdm⟩]⟩]

/-- Register words of the 64 KiB pages 0x14010 to 0x14010. -/
def Reg.rows21 : List RegRow := [
  ⟨Reg.BLOT_STAT, 1, 0x4, 1, 0x4, P.sdmb, false, (0, 0), [⟨31, 31, .ro, P.sdmb⟩, ⟨30, 30, .ro, P.sdmb⟩, ⟨29, 29, .ro, P.sdmb⟩, ⟨28, 28, .w1c, P.s⟩, ⟨27, 27, .ro, P.sdmb⟩, ⟨26, 26, .ro, P.sdmb⟩, ⟨25, 25, .ro, P.sdmb⟩, ⟨24, 24, .ro, P.sdmb⟩, ⟨23, 23, .ro, P.sdmb⟩, ⟨22, 21, .ro, P.sdmb⟩, ⟨5, 0, .ro, P.sdmb⟩]⟩,
  ⟨Reg.BLOT_CAUSE, 1, 0x4, 1, 0x4, P.sdmb, false, (0, 0), [⟨31, 0, .ro, P.sdmb⟩]⟩,
  ⟨Reg.BLOT_ACTIVE, 1, 0x4, 1, 0x4, P.sdmb, false, (0, 0), [⟨31, 0, .ro, P.sdmb⟩]⟩,
  ⟨Reg.BLOT_ALARM, 1, 0x4, 1, 0x4, P.sdmb, false, (0, 0), [⟨15, 0, .w1c, P.s⟩]⟩,
  ⟨Reg.BLOT_TIME, 1, 0x4, 1, 0x4, P.sdmb, false, (0, 0), [⟨31, 0, .ro, P.sdmb⟩]⟩,
  ⟨Reg.BLOT_TIME + 4, 1, 0x4, 1, 0x4, P.sdmb, false, (0, 0), [⟨31, 0, .ro, P.sdmb⟩]⟩,
  ⟨Reg.BLOT_OPSEC, 1, 0x4, 1, 0x4, P.sdmb, false, (0, 0), [⟨31, 0, .ro, P.sdmb⟩]⟩,
  ⟨Reg.BLOT_OPSEC + 4, 1, 0x4, 1, 0x4, P.sdmb, false, (0, 0), [⟨7, 0, .ro, P.sdmb⟩]⟩,
  ⟨Reg.BLOT_PCC, 1, 0x4, 1, 0x4, P.sdmb, false, (0, 0), [⟨31, 0, .ro, P.sdmb⟩]⟩,
  ⟨Reg.BLOT_ACK, 1, 0x4, 1, 0x4, P.s, true, (0, 0), [⟨31, 0, .wo, P.s⟩]⟩,
  ⟨Reg.BLOT_CFG, 1, 0x4, 1, 0x4, P.sdm, false, (0, 0), [⟨31, 31, .ro, P.sdm⟩, ⟨11, 8, .ro, P.sdm⟩, ⟨7, 0, .ro, P.sdm⟩]⟩,
  ⟨Reg.BLOT_DISC 0, 2, 0x4, 1, 0x4, P.sdm, false, (0, 0), [⟨31, 0, .ro, P.sdm⟩]⟩,
  ⟨Reg.BLOT_THRESH, 1, 0x4, 1, 0x4, P.sdm, false, (0, 0), [⟨23, 16, .ro, P.sdm⟩, ⟨15, 8, .ro, P.sdm⟩, ⟨7, 0, .ro, P.sdm⟩]⟩,
  ⟨Reg.BLOT_ESC, 1, 0x4, 1, 0x4, P.sdm, false, (0, 0), [⟨31, 16, .ro, P.sdm⟩, ⟨15, 0, .ro, P.sdm⟩]⟩,
  ⟨Reg.BLOT_NEAR 0, 8, 0x4, 1, 0x4, P.sdmb, false, (0, 0), [⟨15, 0, .w0c, P.s⟩]⟩,
  ⟨Reg.BLOT_MESH_NEAR, 1, 0x4, 1, 0x4, P.sdmb, false, (0, 0), [⟨31, 0, .w0c, P.s⟩]⟩,
  ⟨Reg.BLOT_PAIR_LEVEL, 1, 0x4, 1, 0x4, P.sdm, false, (0, 0), [⟨31, 0, .ro, P.sdm⟩]⟩,
  ⟨Reg.BLOT_SENSE, 1, 0x4, 1, 0x4, P.sdmb, false, (0, 0), [⟨31, 24, .ro, P.sdmb⟩, ⟨23, 16, .ro, P.sdmb⟩, ⟨11, 0, .ro, P.sdmb⟩]⟩,
  ⟨Reg.BLOT_ALARM_ACTIVE, 1, 0x4, 1, 0x4, P.sdmb, false, (0, 0), [⟨15, 0, .ro, P.sdmb⟩]⟩]

/-- Register words of the 64 KiB pages 0x14011 to 0x14011. -/
def Reg.rows22 : List RegRow := [
  ⟨Reg.COLO_STAT, 1, 0x4, 1, 0x4, P.sdmb, false, (0, 0), [⟨31, 31, .ro, P.sdmb⟩, ⟨30, 30, .ro, P.sdmb⟩, ⟨29, 29, .ro, P.sdmb⟩, ⟨28, 28, .w1c, P.s⟩, ⟨27, 27, .ro, P.sdmb⟩, ⟨25, 24, .ro, P.sdmb⟩, ⟨8, 0, .ro, P.sdmb⟩]⟩,
  ⟨Reg.COLO_OPSEC, 1, 0x4, 1, 0x4, P.sdmb, false, (0, 0), [⟨31, 0, .ro, P.sdmb⟩]⟩,
  ⟨Reg.COLO_OPSEC + 4, 1, 0x4, 1, 0x4, P.sdmb, false, (0, 0), [⟨7, 0, .ro, P.sdmb⟩]⟩,
  ⟨Reg.COLO_PCC, 1, 0x4, 1, 0x4, P.sdmb, false, (0, 0), [⟨31, 0, .ro, P.sdmb⟩]⟩,
  ⟨Reg.COLO_PAGE_SEL, 1, 0x4, 1, 0x4, P.sdm, false, (0, 0), [⟨8, 0, .rw, P.sdm⟩]⟩,
  ⟨Reg.COLO_SNAP, 1, 0x4, 1, 0x4, P.sdm, true, (0, 0), [⟨31, 31, .sc, P.sdm⟩]⟩,
  ⟨Reg.COLO_NEXT_CLOSE, 1, 0x4, 1, 0x4, P.sdmb, false, (0, 0), [⟨31, 0, .ro, P.sdmb⟩]⟩,
  ⟨Reg.COLO_NEXT_CLOSE + 4, 1, 0x4, 1, 0x4, P.sdmb, false, (0, 0), [⟨31, 0, .ro, P.sdmb⟩]⟩]

/-- Register words of the 64 KiB pages 0x14012 to 0x14012. -/
def Reg.rows23 : List RegRow := [
  ⟨Reg.PROOF_STAT, 1, 0x4, 1, 0x4, P.sdmb, false, (0, 0), [⟨31, 31, .ro, P.sdmb⟩, ⟨30, 30, .ro, P.sdmb⟩, ⟨29, 25, .ro, P.sdmb⟩, ⟨24, 21, .ro, P.sdmb⟩, ⟨19, 0, .ro, P.sdmb⟩]⟩,
  ⟨Reg.PROOF_CFG, 1, 0x4, 1, 0x4, P.sdm, false, (0, 0), [⟨22, 22, .ro, P.sdm⟩, ⟨21, 21, .ro, P.sdm⟩, ⟨20, 20, .ro, P.sdm⟩, ⟨19, 0, .ro, P.sdm⟩]⟩,
  ⟨Reg.PROOF_CMD, 1, 0x4, 1, 0x4, P.s, true, (0, 0), [⟨31, 31, .sc, P.s⟩, ⟨4, 0, .rw, P.s⟩]⟩,
  ⟨Reg.PROOF_PARK, 1, 0x4, 1, 0x4, P.d, true, (0, 0), [⟨31, 0, .wo, P.d⟩]⟩,
  ⟨Reg.PROOF_PARK_GRACE, 1, 0x4, 1, 0x4, P.sd, false, (0, 0), [⟨9, 0, .rw, P.s⟩]⟩,
  ⟨Reg.PROOF_BOOT, 1, 0x4, 1, 0x4, P.sdmb, false, (0, 0), [⟨31, 31, .ro, P.sdmb⟩, ⟨21, 0, .ro, P.sdmb⟩]⟩,
  ⟨Reg.PROOF_RESULT 0, 22, 0x4, 1, 0x4, P.sdm, false, (0, 0), [⟨31, 28, .ro, P.sdm⟩, ⟨23, 16, .ro, P.sdm⟩, ⟨15, 0, .ro, P.sdm⟩]⟩,
  ⟨Reg.PROOF_TIME 0, 22, 0x8, 1, 0x8, P.sdm, false, (0, 0), [⟨31, 0, .ro, P.sdm⟩]⟩,
  ⟨Reg.PROOF_TIME 0 + 4, 22, 0x8, 1, 0x8, P.sdm, false, (0, 0), [⟨31, 0, .ro, P.sdm⟩]⟩,
  ⟨Reg.PROOF_MISR 0 0, 22, 0x10, 4, 0x4, P.s, false, (0, 0), [⟨31, 0, .ro, P.s⟩]⟩]

/-- Register words of the 64 KiB pages 0x14013 to 0x14013. -/
def Reg.rows24 : List RegRow := [
  ⟨Reg.MEM_STAT, 1, 0x4, 1, 0x4, P.sdmb, false, (0, 0), [⟨31, 31, .ro, P.sdmb⟩, ⟨30, 30, .ro, P.sdmb⟩]⟩,
  ⟨Reg.MEM_ECC_CTL, 1, 0x4, 1, 0x4, P.sdm, false, (0, 0), [⟨15, 0, .rw, P.s⟩]⟩,
  ⟨Reg.MEM_ECC 0, 5, 0x4, 1, 0x4, P.sdmb, false, (0, 0), [⟨31, 16, .w0a, P.s⟩, ⟨15, 0, .w0a, P.s⟩]⟩,
  ⟨Reg.MEM_ERR_ADDR, 1, 0x4, 1, 0x4, P.sdm, false, (0, 0), [⟨31, 0, .ro, P.sdm⟩]⟩,
  ⟨Reg.MEM_ERR_ADDR + 4, 1, 0x4, 1, 0x4, P.sdm, false, (0, 0), [⟨31, 0, .ro, P.sdm⟩]⟩,
  ⟨Reg.MEM_ERR_INFO, 1, 0x4, 1, 0x4, P.sdm, false, (0, 0), [⟨31, 31, .w1c, P.s⟩, ⟨30, 30, .w1c, P.s⟩, ⟨29, 27, .ro, P.sdm⟩, ⟨26, 25, .ro, P.sdm⟩, ⟨24, 20, .ro, P.sdm⟩, ⟨15, 0, .ro, P.sdm⟩]⟩,
  ⟨Reg.MEM_SCRUB_CTL, 1, 0x4, 1, 0x4, P.sdm, false, (0, 0), [⟨7, 0, .rw, P.s⟩]⟩,
  ⟨Reg.MEM_XSPI_CFG, 1, 0x4, 1, 0x4, P.sdm, false, (0, 0), [⟨31, 31, .ro, P.sdm⟩, ⟨15, 0, .ro, P.sdm⟩]⟩,
  ⟨Reg.MEM_XSPI_CMD, 1, 0x4, 1, 0x4, P.sd, true, (0, 0), [⟨31, 31, .sc, P.sd⟩, ⟨1, 0, .rw, P.sd⟩]⟩,
  ⟨Reg.MEM_XSPI_STAT, 1, 0x4, 1, 0x4, P.sdm, false, (0, 0), [⟨31, 31, .ro, P.sdm⟩, ⟨30, 28, .ro, P.sdm⟩, ⟨27, 0, .ro, P.sdm⟩]⟩,
  ⟨Reg.MEM_XSPI_ADDR, 1, 0x4, 1, 0x4, P.sd, false, (0, 0), [⟨31, 0, .rw, P.sd⟩]⟩,
  ⟨Reg.MEM_XSPI_LEN, 1, 0x4, 1, 0x4, P.sd, false, (0, 0), [⟨31, 0, .rw, P.sd⟩]⟩,
  ⟨Reg.MEM_XSPI_SRC, 1, 0x4, 1, 0x4, P.sd, false, (0, 0), [⟨31, 0, .rw, P.sd⟩]⟩,
  ⟨Reg.MEM_XSPI_SRC + 4, 1, 0x4, 1, 0x4, P.sd, false, (0, 0), [⟨7, 0, .rw, P.sd⟩]⟩,
  ⟨Reg.MEM_XSPI_USER_BASE, 1, 0x4, 1, 0x4, P.sdm, false, (Reg.MEM_XSPI_LOCK, 31), [⟨15, 0, .rwl, P.s⟩]⟩,
  ⟨Reg.MEM_XSPI_USER_LIMIT, 1, 0x4, 1, 0x4, P.sdm, false, (Reg.MEM_XSPI_LOCK, 31), [⟨15, 0, .rwl, P.s⟩]⟩,
  ⟨Reg.MEM_XSPI_SECRET 0, 4, 0x8, 1, 0x8, P.sdm, false, (Reg.MEM_XSPI_LOCK, 31), [⟨15, 0, .rwl, P.s⟩]⟩,
  ⟨Reg.MEM_XSPI_SECRET 0 + 4, 4, 0x8, 1, 0x8, P.sdm, false, (Reg.MEM_XSPI_LOCK, 31), [⟨15, 0, .rwl, P.s⟩]⟩,
  ⟨Reg.MEM_XSPI_LOCK, 1, 0x4, 1, 0x4, P.sdm, true, (0, 0), [⟨31, 31, .rwo, P.s⟩, ⟨30, 30, .ro, P.sdm⟩]⟩,
  ⟨Reg.MEM_WIPE_STAT, 1, 0x4, 1, 0x4, P.sdmb, false, (0, 0), [⟨31, 31, .ro, P.sdmb⟩, ⟨30, 30, .ro, P.sdmb⟩, ⟨29, 29, .ro, P.sdmb⟩, ⟨27, 0, .ro, P.sdmb⟩]⟩]

/-- Register words of the 64 KiB pages 0x14014 to 0x14014. -/
def Reg.rows25 : List RegRow := [
  ⟨Reg.CON1_CFG, 1, 0x4, 1, 0x4, P.sd, true, (0, 0), [⟨31, 31, .rw, P.sd⟩, ⟨30, 30, .w1c, P.sd⟩, ⟨18, 16, .rw, P.sd⟩, ⟨11, 8, .rw, P.sd⟩, ⟨5, 4, .rw, P.sd⟩, ⟨2, 2, .rw, P.sd⟩, ⟨1, 1, .rw, P.sd⟩]⟩,
  ⟨Reg.CON1_BAUD, 1, 0x4, 1, 0x4, P.sd, true, (0, 0), [⟨27, 16, .rw, P.sd⟩, ⟨5, 0, .rw, P.sd⟩]⟩,
  ⟨Reg.CON1_FLOW, 1, 0x4, 1, 0x4, P.sd, true, (0, 0), [⟨31, 31, .rw, P.sd⟩, ⟨30, 30, .rw, P.sd⟩, ⟨23, 16, .rw, P.sd⟩, ⟨15, 8, .rw, P.sd⟩, ⟨7, 0, .rw, P.sd⟩]⟩,
  ⟨Reg.CON1_RS485, 1, 0x4, 1, 0x4, P.sd, true, (0, 0), [⟨23, 16, .rw, P.sd⟩, ⟨15, 8, .rw, P.sd⟩]⟩,
  ⟨Reg.CON1_CTL, 1, 0x4, 1, 0x4, P.sd, true, (0, 0), [⟨31, 31, .sc, P.sd⟩, ⟨30, 30, .sc, P.sd⟩, ⟨29, 29, .sc, P.sd⟩, ⟨28, 28, .sc, P.sd⟩]⟩,
  ⟨Reg.CON1_STAT, 1, 0x4, 1, 0x4, P.sd, false, (0, 0), [⟨31, 31, .ro, P.sd⟩, ⟨30, 30, .ro, P.sd⟩, ⟨29, 29, .w1c, P.sd⟩, ⟨28, 28, .w1c, P.sd⟩, ⟨27, 27, .w1c, P.sd⟩, ⟨26, 26, .w1c, P.sd⟩, ⟨25, 25, .w1c, P.sd⟩, ⟨24, 24, .ro, P.sd⟩, ⟨23, 23, .ro, P.sd⟩, ⟨22, 22, .w1c, P.sd⟩]⟩,
  ⟨Reg.CON1_TXDATA, 1, 0x4, 1, 0x4, P.sd, true, (0, 0), [⟨8, 0, .wo, P.sd⟩]⟩,
  ⟨Reg.CON1_RXDATA, 1, 0x4, 1, 0x4, P.sd, true, (0, 0), [⟨31, 31, .ro, P.sd⟩, ⟨15, 15, .ro, P.sd⟩, ⟨14, 14, .ro, P.sd⟩, ⟨13, 13, .ro, P.sd⟩, ⟨12, 12, .ro, P.sd⟩, ⟨8, 0, .ro, P.sd⟩]⟩,
  ⟨Reg.CON1_LEVEL, 1, 0x4, 1, 0x4, P.sd, false, (0, 0), [⟨24, 16, .ro, P.sd⟩, ⟨8, 0, .ro, P.sd⟩]⟩,
  ⟨Reg.CON1_THRESH, 1, 0x4, 1, 0x4, P.sd, true, (0, 0), [⟨31, 24, .rw, P.sd⟩, ⟨23, 16, .rw, P.sd⟩, ⟨15, 8, .rw, P.sd⟩, ⟨7, 0, .rw, P.sd⟩]⟩,
  ⟨Reg.CON1_ERRCNT, 1, 0x4, 1, 0x4, P.sd, false, (0, 0), [⟨31, 24, .w0a, P.sd⟩, ⟨23, 16, .w0a, P.sd⟩, ⟨15, 8, .w0a, P.sd⟩, ⟨7, 0, .w0a, P.sd⟩]⟩]

/-- Register words of the 64 KiB pages 0x14015 to 0x14015. -/
def Reg.rows26 : List RegRow := [
  ⟨Reg.SMB_STAT, 1, 0x4, 1, 0x4, P.sdm, false, (0, 0), [⟨31, 31, .ro, P.sdm⟩, ⟨30, 30, .ro, P.sdm⟩, ⟨29, 29, .ro, P.sdm⟩, ⟨1, 0, .ro, P.sdm⟩]⟩,
  ⟨Reg.SMB_CFG, 1, 0x4, 1, 0x4, P.sdm, false, (0, 0), [⟨27, 24, .ro, P.sdm⟩, ⟨23, 23, .ro, P.sdm⟩, ⟨22, 16, .ro, P.sdm⟩, ⟨14, 8, .ro, P.sdm⟩, ⟨6, 0, .ro, P.sdm⟩]⟩,
  ⟨Reg.SMB_ALERT, 1, 0x4, 1, 0x4, P.sdmb, false, (0, 0), [⟨7, 4, .rw, P.s⟩, ⟨3, 0, .ro, P.sdmb⟩]⟩,
  ⟨Reg.SMB_ERRCNT, 1, 0x4, 1, 0x4, P.sdm, false, (0, 0), [⟨31, 24, .w0a, P.s⟩, ⟨23, 16, .w0a, P.s⟩, ⟨15, 8, .w0a, P.s⟩, ⟨7, 0, .w0a, P.s⟩]⟩,
  ⟨Reg.SMB_LAST, 1, 0x4, 1, 0x4, P.sdm, false, (0, 0), [⟨31, 31, .w1c, P.s⟩, ⟨30, 28, .ro, P.sdm⟩, ⟨22, 16, .ro, P.sdm⟩, ⟨15, 8, .ro, P.sdm⟩, ⟨2, 0, .ro, P.sdm⟩]⟩,
  ⟨Reg.SMB_ALERT_SLOT 0, 32, 0x4, 1, 0x4, P.sdm, false, (0, 0), [⟨31, 0, .rw, P.s⟩]⟩]

/-- Register words of the 64 KiB pages 0x14016 to 0x14016. -/
def Reg.rows27 : List RegRow := [
  ⟨Reg.PWR_STAT, 1, 0x4, 1, 0x4, P.sdmb, false, (0, 0), [⟨17, 17, .w1c, P.sd⟩, ⟨16, 16, .ro, P.sdmb⟩, ⟨15, 15, .ro, P.sdmb⟩, ⟨14, 14, .ro, P.sdmb⟩, ⟨13, 13, .ro, P.sdmb⟩, ⟨12, 12, .ro, P.sdmb⟩, ⟨11, 11, .ro, P.sdmb⟩, ⟨10, 10, .ro, P.sdmb⟩, ⟨6, 4, .ro, P.sdmb⟩, ⟨2, 0, .ro, P.sdmb⟩]⟩,
  ⟨Reg.PWR_CFG, 1, 0x4, 1, 0x4, P.sdm, false, (0, 0), [⟨28, 24, .ro, P.sdm⟩, ⟨18, 16, .ro, P.sdm⟩, ⟨15, 0, .rw, P.sd⟩]⟩,
  ⟨Reg.PWR_HINT, 1, 0x4, 1, 0x4, P.sdm, true, (0, 0), [⟨2, 0, .rw, P.sd⟩]⟩,
  ⟨Reg.PWR_BMIN, 1, 0x4, 1, 0x4, P.sdm, false, (0, 0), [⟨31, 0, .ro, P.sdm⟩]⟩,
  ⟨Reg.PWR_DEADLINE, 1, 0x4, 1, 0x4, P.sdm, false, (0, 0), [⟨31, 0, .ro, P.sdm⟩]⟩,
  ⟨Reg.PWR_DEADLINE + 4, 1, 0x4, 1, 0x4, P.sdm, false, (0, 0), [⟨31, 0, .ro, P.sdm⟩]⟩,
  ⟨Reg.PWR_WAKE_CAUSE, 1, 0x4, 1, 0x4, P.sdmb, false, (0, 0), [⟨11, 0, .w1c, P.sm⟩]⟩,
  ⟨Reg.PWR_WAKE_LAST, 1, 0x4, 1, 0x4, P.sdmb, false, (0, 0), [⟨11, 0, .ro, P.sdmb⟩]⟩,
  ⟨Reg.PWR_GPIO_WAKE, 1, 0x4, 1, 0x4, P.sd, false, (0, 0), [⟨15, 8, .rw, P.sd⟩, ⟨7, 0, .rw, P.sd⟩]⟩,
  ⟨Reg.PWR_LTR, 1, 0x4, 1, 0x4, P.sdm, false, (0, 0), [⟨31, 16, .ro, P.sdm⟩, ⟨15, 0, .ro, P.sdm⟩]⟩,
  ⟨Reg.PWR_RES 0, 3, 0x8, 1, 0x8, P.sdm, false, (0, 0), [⟨31, 0, .ro, P.sdm⟩]⟩,
  ⟨Reg.PWR_RES 0 + 4, 3, 0x8, 1, 0x8, P.sdm, false, (0, 0), [⟨31, 0, .ro, P.sdm⟩]⟩,
  ⟨Reg.PWR_EXITS, 1, 0x4, 1, 0x4, P.sdm, false, (0, 0), [⟨31, 0, .ro, P.sdm⟩]⟩]

/-- Register words of the 64 KiB pages 0x14017 to 0x14017. -/
def Reg.rows28 : List RegRow := [
  ⟨Reg.EVT_STATUS 0, 16, 0x4, 1, 0x4, P.sdm, true, (0, 0), [⟨31, 0, .w1c, P.sdm⟩]⟩,
  ⟨Reg.EVT_SUMMARY, 1, 0x4, 1, 0x4, P.sdm, false, (0, 0), [⟨31, 0, .ro, P.sdm⟩]⟩,
  ⟨Reg.EVT_STAT, 1, 0x4, 1, 0x4, P.sdm, false, (0, 0), [⟨31, 31, .w1c, P.sdm⟩]⟩,
  ⟨Reg.EVT_DECODE_ADDR, 1, 0x4, 1, 0x4, P.sd, false, (0, 0), [⟨31, 0, .ro, P.sd⟩]⟩,
  ⟨Reg.EVT_DECODE_ADDR + 4, 1, 0x4, 1, 0x4, P.sd, false, (0, 0), [⟨31, 0, .ro, P.sd⟩]⟩,
  ⟨Reg.EVT_DECODE_INFO, 1, 0x4, 1, 0x4, P.sd, false, (0, 0), [⟨31, 31, .w1c, P.s⟩, ⟨30, 30, .w1c, P.s⟩, ⟨29, 25, .ro, P.sd⟩, ⟨24, 23, .ro, P.sd⟩, ⟨22, 22, .ro, P.sd⟩, ⟨15, 0, .ro, P.sd⟩]⟩,
  ⟨Reg.EVT_ROUTE 0, 512, 0x4, 1, 0x4, P.sdm, true, (0, 0), [⟨31, 31, .rw, P.sdm⟩, ⟨30, 30, .rwo, P.s⟩, ⟨29, 27, .rw, P.sdm⟩, ⟨24, 16, .rw, P.sdm⟩]⟩]

/-- Register words of the 64 KiB pages 0x14040 to 0x14040. -/
def Reg.rows29 : List RegRow := [
  ⟨Reg.DPLIC_PRIORITY 0, 513, 0x4, 1, 0x4, P.sd, false, (0, 0), [⟨2, 0, .rw, P.sd⟩]⟩,
  ⟨Reg.DPLIC_ENABLE 0 0, 16, 0x80, 17, 0x4, P.sd, false, (0, 0), [⟨31, 0, .rw, P.sd⟩]⟩]

/-- Register words of the 64 KiB pages 0x14060 to 0x14060. -/
def Reg.rows30 : List RegRow := [
  ⟨Reg.DPLIC_THRESHOLD 0, 16, 0x1000, 1, 0x1000, P.sd, false, (0, 0), [⟨2, 0, .rw, P.sd⟩]⟩]

/-- Every register word of the block: first and last 64 KiB page, and the words between. -/
def Reg.blocks : List (Nat × Nat × List RegRow) := [
  (0x10000, 0x10000, Reg.rows0),
  (0x10001, 0x10001, Reg.rows1),
  (0x10002, 0x10002, Reg.rows2),
  (0x10003, 0x10003, Reg.rows3),
  (0x10008, 0x1000E, Reg.rows4),
  (0x10010, 0x10010, Reg.rows5),
  (0x10040, 0x1007F, Reg.rows6),
  (0x10080, 0x10080, Reg.rows7),
  (0x100A0, 0x100A0, Reg.rows8),
  (0x14000, 0x14000, Reg.rows9),
  (0x14001, 0x14001, Reg.rows10),
  (0x14002, 0x14002, Reg.rows11),
  (0x14003, 0x14003, Reg.rows12),
  (0x14004, 0x14004, Reg.rows13),
  (0x14008, 0x14008, Reg.rows14),
  (0x14009, 0x14009, Reg.rows15),
  (0x1400A, 0x1400A, Reg.rows16),
  (0x1400B, 0x1400B, Reg.rows17),
  (0x1400C, 0x1400C, Reg.rows18),
  (0x1400D, 0x1400E, Reg.rows19),
  (0x1400F, 0x1400F, Reg.rows20),
  (0x14010, 0x14010, Reg.rows21),
  (0x14011, 0x14011, Reg.rows22),
  (0x14012, 0x14012, Reg.rows23),
  (0x14013, 0x14013, Reg.rows24),
  (0x14014, 0x14014, Reg.rows25),
  (0x14015, 0x14015, Reg.rows26),
  (0x14016, 0x14016, Reg.rows27),
  (0x14017, 0x14017, Reg.rows28),
  (0x14040, 0x14040, Reg.rows29),
  (0x14060, 0x14060, Reg.rows30)]

/-- The register words whose reset value is not 0, by 64 KiB pages: address, repetition, value (the chapters' Reset
columns; SCH_QUANTUM from R625, the unit number of RUL_CTL from Table RUL-7). -/
def Reg.resetRows : List (Nat × Nat × List (Nat × Nat × Nat × Nat × Nat × Nat)) := [
  (0x10001, 0x10001, [
    (Reg.CUST_WINDOW, 1, 0x4, 1, 0x4, 0x384),
    (Reg.CUST_CER_EXPIRES 0, 4, 0x8, 1, 0x8, 0xFFFFFFFF),
    (Reg.CUST_CER_EXPIRES 0 + 4, 4, 0x8, 1, 0x8, 0xFFFFFFFF)]),
  (0x10002, 0x10002, [
    (Reg.CON0_CFG, 1, 0x4, 1, 0x4, 0x800),
    (Reg.CON0_BAUD, 1, 0x4, 1, 0x4, 0x6C0020),
    (Reg.CON0_FLOW, 1, 0x4, 1, 0x4, 0x111300),
    (Reg.CON0_THRESH, 1, 0x4, 1, 0x4, 0xC0400100)]),
  (0x10008, 0x1000E, [
    (Reg.RUL_FAULT_INFO 0, 7, 0x10000, 1, 0x10000, 0x7F),
    (Reg.RUL_CTL 0, 1, 0x4, 1, 0x4, 0x4),
    (Reg.RUL_CTL 1, 1, 0x4, 1, 0x4, 0x14),
    (Reg.RUL_CTL 2, 1, 0x4, 1, 0x4, 0x24),
    (Reg.RUL_CTL 3, 1, 0x4, 1, 0x4, 0x34),
    (Reg.RUL_CTL 4, 1, 0x4, 1, 0x4, 0x44),
    (Reg.RUL_CTL 5, 1, 0x4, 1, 0x4, 0x54),
    (Reg.RUL_CTL 6, 1, 0x4, 1, 0x4, 0x64)]),
  (0x10010, 0x10010, [
    (Reg.RSV_ERASE_TIME, 1, 0x4, 1, 0x4, 0xFFFFFFFF),
    (Reg.RSV_ERASE_TIME + 4, 1, 0x4, 1, 0x4, 0xFFFFFFFF)]),
  (0x14000, 0x14000, [
    (Reg.TIME_INCR, 1, 0x4, 1, 0x4, 0x40000000),
    (Reg.TIME_INCR + 4, 1, 0x4, 1, 0x4, 0x1),
    (Reg.TIME_PPS_WIDTH, 1, 0x4, 1, 0x4, 0x2710),
    (Reg.TIME_LUMRO_CTL, 1, 0x4, 1, 0x4, 0xFF00)]),
  (0x14001, 0x14001, [
    (Reg.STRK_NEXT, 1, 0x4, 1, 0x4, 0xFFFFFFFF),
    (Reg.STRK_NEXT + 4, 1, 0x4, 1, 0x4, 0xFFFFFFFF)]),
  (0x14002, 0x14002, [
    (Reg.DUCT_STAT, 1, 0x4, 1, 0x4, 0x3),
    (Reg.DUCT_LAST_SWAP, 1, 0x4, 1, 0x4, 0xFFFFFFFF),
    (Reg.DUCT_LAST_SWAP + 4, 1, 0x4, 1, 0x4, 0xFFFFFFFF)]),
  (0x14003, 0x14003, [
    (Reg.BOOT_STAT, 1, 0x4, 1, 0x4, 0x100000),
    (Reg.BOOT_IDENT, 1, 0x4, 1, 0x4, 0x100)]),
  (0x14004, 0x14004, [
    (Reg.WRLD_STAT, 1, 0x4, 1, 0x4, 0x3),
    (Reg.WRLD_LEND_CTL, 1, 0x4, 1, 0x4, 0x64),
    (Reg.WRLD_FAIL_TIME, 1, 0x4, 1, 0x4, 0xFFFFFFFF),
    (Reg.WRLD_FAIL_TIME + 4, 1, 0x4, 1, 0x4, 0xFFFFFFFF),
    (Reg.WRLD_READY_TIME, 1, 0x4, 1, 0x4, 0xFFFFFFFF),
    (Reg.WRLD_READY_TIME + 4, 1, 0x4, 1, 0x4, 0xFFFFFFFF),
    (Reg.WRLD_LEND_CTL2, 1, 0x4, 1, 0x4, 0x2710),
    (Reg.WRLD_MTIMECMP0, 1, 0x4, 1, 0x4, 0xFFFFFFFF),
    (Reg.WRLD_MTIMECMP0 + 4, 1, 0x4, 1, 0x4, 0xFFFFFFFF),
    (Reg.WRLD_MTIMECMP_D 0, 8, 0x8, 1, 0x8, 0xFFFFFFFF),
    (Reg.WRLD_MTIMECMP_D 0 + 4, 8, 0x8, 1, 0x8, 0xFFFFFFFF),
    (Reg.WRLD_MTIMECMP_L 0, 2, 0x8, 1, 0x8, 0xFFFFFFFF),
    (Reg.WRLD_MTIMECMP_L 0 + 4, 2, 0x8, 1, 0x8, 0xFFFFFFFF)]),
  (0x1400A, 0x1400A, [
    (Reg.ENT_SRC_CTL, 1, 0x4, 1, 0x4, 0xF),
    (Reg.ENT_RCT_CUTOFF, 1, 0x4, 1, 0x4, 0x37),
    (Reg.ENT_APT_CUTOFF, 1, 0x4, 1, 0x4, 0x2D1)]),
  (0x1400B, 0x1400B, [
    (Reg.RING_COAL 0, 128, 0x200, 1, 0x200, 0x10000),
    (Reg.RING_STAT 0, 128, 0x200, 1, 0x200, 0x100)]),
  (0x1400C, 0x1400C, [
    (Reg.SCH_FOL_GATE_CAP 0, 64, 0x4, 1, 0x4, 0x200),
    (Reg.SCH_FC_CTL 0 0, 64, 0x200, 6, 0x40, 0x100000),
    (Reg.SCH_QUANTUM 0, 3, 0x4, 1, 0x4, 0x10000),
    (Reg.SCH_QUANTUM 3, 1, 0x4, 1, 0x4, 0x2710),
    (Reg.SCH_QUANTUM 4, 1, 0x4, 1, 0x4, 0x1),
    (Reg.SCH_QUANTUM 5, 1, 0x4, 1, 0x4, 0x10000)]),
  (0x1400F, 0x1400F, [
    (Reg.QUIL_RX_CFG 0, 15, 0x20, 1, 0x20, 0xB0004),
    (Reg.QUIL_RX_CFG_S 0, 1, 0x4, 1, 0x4, 0xB0004),
    (Reg.QUIL_TX_CFG 0, 8, 0x20, 1, 0x20, 0x4),
    (Reg.QUIL_TX_CFG_S 0, 1, 0x4, 1, 0x4, 0x4)]),
  (0x14010, 0x14010, [
    (Reg.BLOT_STAT, 1, 0x4, 1, 0x4, 0xC6000020),
    (Reg.BLOT_CFG, 1, 0x4, 1, 0x4, 0xFFF),
    (Reg.BLOT_DISC 0, 2, 0x4, 1, 0x4, 0xFFFFFFFF),
    (Reg.BLOT_THRESH, 1, 0x4, 1, 0x4, 0xD369FD),
    (Reg.BLOT_ESC, 1, 0x4, 1, 0x4, 0x10000)]),
  (0x14011, 0x14011, [
    (Reg.COLO_NEXT_CLOSE, 1, 0x4, 1, 0x4, 0xFFFFFFFF),
    (Reg.COLO_NEXT_CLOSE + 4, 1, 0x4, 1, 0x4, 0xFFFFFFFF)]),
  (0x14012, 0x14012, [
    (Reg.PROOF_PARK_GRACE, 1, 0x4, 1, 0x4, 0x64),
    (Reg.PROOF_TIME 0, 22, 0x8, 1, 0x8, 0xFFFFFFFF),
    (Reg.PROOF_TIME 0 + 4, 22, 0x8, 1, 0x8, 0xFFFFFFFF)]),
  (0x14013, 0x14013, [
    (Reg.MEM_ECC_CTL, 1, 0x4, 1, 0x4, 0x3E8),
    (Reg.MEM_SCRUB_CTL, 1, 0x4, 1, 0x4, 0x18)]),
  (0x14014, 0x14014, [
    (Reg.CON1_CFG, 1, 0x4, 1, 0x4, 0x800),
    (Reg.CON1_BAUD, 1, 0x4, 1, 0x4, 0x6C0020),
    (Reg.CON1_FLOW, 1, 0x4, 1, 0x4, 0x111300),
    (Reg.CON1_THRESH, 1, 0x4, 1, 0x4, 0xC0400100)]),
  (0x14015, 0x14015, [
    (Reg.SMB_STAT, 1, 0x4, 1, 0x4, 0x40000000),
    (Reg.SMB_CFG, 1, 0x4, 1, 0x4, 0x5A)]),
  (0x14016, 0x14016, [
    (Reg.PWR_CFG, 1, 0x4, 1, 0x4, 0x64),
    (Reg.PWR_BMIN, 1, 0x4, 1, 0x4, 0xFFFFFFFF),
    (Reg.PWR_DEADLINE, 1, 0x4, 1, 0x4, 0xFFFFFFFF),
    (Reg.PWR_DEADLINE + 4, 1, 0x4, 1, 0x4, 0xFFFFFFFF)])]

/-- The entry of a paged table that holds the page of `a`. -/
def inPages {α : Type} (t : List (Nat × Nat × α)) (a : Nat) : Option α :=
  (t.find? (fun b => b.1 ≤ a / 0x10000 && a / 0x10000 ≤ b.2.1)).map (fun b => b.2.2)

/-- What the register word at `a` reads as after reset. -/
def Reg.reset (a : Nat) : Word :=
  match (inPages Reg.resetRows a).bind
      (fun l => l.find? (fun r => repeatedAt r.1 r.2.1 r.2.2.1 r.2.2.2.1 r.2.2.2.2.1 a)) with
  | some r => BitVec.ofNat 32 r.2.2.2.2.2
  | none => 0

/-- The descriptor of the register word at `a`, if the map has one. -/
def Reg.row (a : Nat) : Option RegRow :=
  (inPages Reg.blocks a).bind (fun l => l.find? (fun r => r.covers a))

end Sys2Proof.Machine
end

