-- ==== Sys2Proof/Machine/Tab.lean ====
section
/-! DEFINITION. Sparse tables: the one form of every memory and register file of the block. -/

namespace Sys2Proof.Machine

/-- A sparse table from addresses (or indices) to values. -/
abbrev Tab (α : Type) := List (Nat × α)

/-- The entries of `t` other than the one at `a`. -/
def Tab.drop {α : Type} (t : Tab α) (a : Nat) : Tab α := t.filter (fun e => e.1 != a)

/-- Insert `(a, v)` before the first entry with a larger key. -/
def Tab.ins {α : Type} : Tab α → Nat → α → Tab α
  | [], a, v => [(a, v)]
  | e :: r, a, v => if a < e.1 then (a, v) :: e :: r else e :: Tab.ins r a v

/-- The value at `a`; an unlisted key reads as the default `d a`. -/
def Tab.get {α : Type} (d : Nat → α) : Tab α → Nat → α
  | [], a => d a
  | e :: r, a => if e.1 = a then e.2 else Tab.get d r a

/-- Write `v` at `a`, keeping the canonical form: writing the default removes the entry. -/
def Tab.set {α : Type} [DecidableEq α] (d : Nat → α) (t : Tab α) (a : Nat) (v : α) : Tab α :=
  if v = d a then Tab.drop t a else Tab.ins (Tab.drop t a) a v

/-- Drop every entry whose key satisfies `p`: those keys read as the default again. -/
def Tab.clear {α : Type} (t : Tab α) (p : Nat → Bool) : Tab α := t.filter (fun e => !p e.1)

/-- The canonical form: keys strictly rising, no entry equal to the default. -/
abbrev Tab.wf {α : Type} (d : Nat → α) (t : Tab α) : Prop :=
  t.Pairwise (fun x y => x.1 < y.1) ∧ ∀ e ∈ t, e.2 ≠ d e.1

end Sys2Proof.Machine
end

