-- ==== Sys2Proof/Machine/State.lean ====
section
/-! DEFINITION. The state of the block: every register, memory, FIFO, counter, mode and pin the spec gives it, and the
queue of waiting commands. Plain data throughout. -/

namespace Sys2Proof.Machine

/-- Why a command stops. -/
inductive Fault where
  /-- Never raised by a meaning of this model: no command of the block ends the run (safe). -/
  | none
  deriving DecidableEq, Repr

/-- Why a command has no meaning. -/
inductive Refusal where
  /-- Raised by the dispatcher for a command whose meaning is not written (safe: no claim can be proved of it). -/
  | notModelled (mnemonic : String)
  deriving DecidableEq, Repr

/-- Output pins that commands drive. -/
inductive Pin where
  | ppsOut | blotOutN | wakeN | clkreqN | smbAlertN | con0De | con1De | con0Txd | con1Txd | boundary
  deriving DecidableEq, Repr

/-- The header of a memory request: the folio it is made for, its address, PASID prefix, Relaxed Ordering attribute, and whether the
address is a translated one (R497, R508, R509). -/
structure HostReq where
  folio : Nat
  addr : Nat
  pasid : Option Nat := none
  ro : Bool := false
  translated : Bool := false
  deriving DecidableEq, Repr

/-- What the block drives outward or answers; `State.out` is the model's own record of it, oldest first. -/
inductive Output where
  /-- The value a read returns to the party that made it. -/
  | value (v : Nat)
  /-- An MSI-X message on a vector (address and data as its table entry says). -/
  | msix (vector : Nat) (addr : Nat) (data : Nat)
  /-- A host memory write. -/
  | hostWrite (q : HostReq) (data : Bytes)
  /-- A host read request. -/
  | hostRead (q : HostReq) (len : Nat)
  /-- A Translation Request (R509): its PASID, the untranslated address, and whether it is for a write. -/
  | translationRequest (pasid : Option Nat) (addr : Nat) (write : Bool)
  /-- A PCIe message or completion, by name. -/
  | pcie (what : String)
  /-- A frame sent on a port. -/
  | frame (port : Nat) (data : Bytes)
  /-- A Lumro frame on TOD_OUT. -/
  | tod (data : Bytes)
  /-- A character sent on a console: port, nine data bits. -/
  | conChar (port : Nat) (c : Nat)
  /-- A line of text the device itself sends on CON1. -/
  | conLine (text : Bytes)
  /-- A custodian frame body sent on CON0. -/
  | custFrame (data : Bytes)
  /-- Bytes returned on SMBus; empty for an acknowledgement alone. -/
  | smbus (data : Bytes)
  /-- A NACK on SMBus. -/
  | smbusNack
  /-- Bits shifted to TDO at capture. -/
  | tdo (bits : Nat) (v : Nat)
  /-- A synchronous exception that a hart takes (R289): hart, cause, the address in mtval or stval, and whether S mode takes it. -/
  | trap (hart : Nat) (cause : Nat) (tval : Nat) (toS : Bool)
  /-- A machine interrupt that a hart takes: hart, cause. -/
  | interrupt (hart : Nat) (cause : Nat)
  /-- A pin driven to a level. -/
  | pin (p : Pin) (level : Bool)
  /-- The balls that the boundary-scan register drives, with their levels (R175). -/
  | scan (balls : List (Signal × Bool))
  /-- The lanes of a port from lane `n` on have their transmitters at differential 0 (R966). -/
  | lanes (port n : Nat)
  deriving DecidableEq, Repr

/-! ## Time (02) -/

/-- What acts on a ruling unit's sets, locks and entries, in the order in which one cycle's take effect (R296, R312): the locks of
a RUL_LOCK write, the entry copy of a live swap, a commit, a world-switch toggle, a RUL_SWAP stroke, and RUL_SET_CMD. -/
inductive RulTrig where
  | lock (mask : Nat)
  | copy (recs : List (Nat × Nat × List Word))
  | commit (set n : Nat) (img : List Word)
  | toggle
  | stroke (idx set : Nat)
  | cmd (set : Nat)
  deriving DecidableEq, Repr

/-- What has acted on one ruling unit in a cycle, in the order of R312, and what it found: the active set, the entries and locks,
SWAP_COUNT and the status of source 398. -/
structure RulCyc where
  unit : Nat
  set0 : Nat
  regs0 : Tab Word
  count0 : Nat
  evt0 : Bool
  /-- The net set change has been counted and has raised source 398 (R298). -/
  counted : Bool := false
  trig : List RulTrig := []
  deriving DecidableEq, Repr

/-- A Scribe failure of this cycle (R265): whether it was the first since PORST_N, and whether the watchdog counted. -/
structure FailCyc where
  first : Bool
  wd : Bool
  start : Bool
  deriving DecidableEq, Repr

/-- What the delivery of a raise has left behind, to be taken back where the route is written in the same cycle (Table EVT-2). -/
inductive Delivery where
  | none
  | pba (v : Nat)
  | plic (w : World)
  | alert (i : Nat)
  | vec (f : Nat)
  deriving DecidableEq, Repr

/-- A raise of this cycle (R911), or a route change treated as one (R916, `real` false): the source, its status bit before, what the
delivery has left. -/
structure RaiseCyc where
  source : Nat
  was : Bool
  real : Bool
  done : Delivery
  deriving DecidableEq, Repr

/-- The writes of one route in this cycle, in the order in which they take effect (Table EVT-2), and the route before them. -/
structure RouteCyc where
  source : Nat
  before : Word
  writes : List (Party × Word)
  deriving DecidableEq, Repr

/-- What the hardware has done in one CLK_FAB cycle where a rule orders what falls in the same cycle. The model's own record
(log entry 14); it is stale once the cycle count has moved past `at_`. -/
structure CycleSt where
  /-- The cycle the record is of. -/
  at_ : Nat := 0
  /-- Bits of register words that the hardware set in it, by address (R10). -/
  sets : Tab Word := []
  /-- Ruling units that something has acted on in it (R312). -/
  rul : List RulCyc := []
  /-- Cores that wrote WRLD_YIELD in it with no claim pending (R266). -/
  yields : List Nat := []
  /-- Cores whose LEND_MAX_US ended in it: FORCED_RETURN and the status of source 510 before (R266). -/
  forced : List (Nat × Bool × Bool) := []
  fail : Option FailCyc := none
  /-- The first refusal of a ruling unit in it that found VALID set: unit, access, reason, region (R309). -/
  refused : List (Nat × Access × Nat × Nat) := []
  /-- Ring pairs whose doorbell was written in it, with SQ_TAIL, CQ_HEAD and RING_STAT before (R536). -/
  doors : List (Nat × Word × Word × Word) := []
  /-- Ring pairs whose ENABLE was cleared in it (Table RNG-12). -/
  closed : List Nat := []
  /-- Quill, in this cycle (Table QUI-10): the target of a SWAP in QUIL_CTL and whether it was effective; the bank that software
  wrote, with all tables and its VALID before; per rate class its level before the first debit, and the debits; and the
  counters cleared, by register or, for a rule, by its key above them all. -/
  quilReg : Option (Nat × Bool) := none
  quilWrote : Option (Nat × Tab Word × Bool) := none
  quilDebits : List (Nat × Int × List Nat) := []
  cleared : List Nat := []
  /-- Tags freed in it: the folio, and the port of a BSP request (R612). -/
  freed : List (Nat × Option Nat) := []
  /-- Operations admitted in it (R518). -/
  admitted : List Nat := []
  /-- The levels before a bucket refill of it, and the buckets whose registers were written in it (Table SCH-4). -/
  refilled : Option (Tab Int × Tab Int) := none
  buckets : List Nat := []
  /-- MODE as software has written it in it, by port, and whether the port awaited lock before (R662). -/
  modes : List (Nat × Nat × Bool) := []
  /-- The partition that PROOF_CMD has asked for in it (R776). -/
  proofCmd : Option Nat := none
  /-- The hint that a PWR_HINT write has left in it (Table PWR-6). -/
  hint : Option Nat := none
  /-- Raises of it, the vectors whose PBA bit has sent in it, the routes written in it, and ROUTE_ERR before them (Table EVT-2). -/
  raised : List RaiseCyc := []
  flushed : List Nat := []
  routes : List RouteCyc := []
  routeErr : Bool := false
  deriving DecidableEq, Repr

/-- The record for cycle `now`: empty where nothing of that cycle stands in it. -/
def CycleSt.of (c : CycleSt) (now : Nat) : CycleSt := if c.at_ = now then c else { at_ := now }

/-- Note that the hardware set bit `i` of the word at `a` in cycle `now` (R10). -/
def CycleSt.note (c : CycleSt) (now a i : Nat) (b : Bool) : CycleSt :=
  if b then
    let c := c.of now
    { c with sets := Tab.set (fun _ => 0) c.sets a (Tab.get (fun _ => 0) c.sets a ||| BitVec.ofNat 32 (2 ^ i)) }
  else c

/-- System time and the clock that advances it. -/
structure StimeSt where
  ns : DWord := 0
  frac : Word := 0
  /-- CLK_FAB cycles since PORST_N, while the fabric clock or the keeper runs. -/
  cycle : Nat := 0
  lastDraftStep : Option Nat := none
  scribeChangeAt : Option Nat := none
  /-- A Draft step applied in cycle `.1`: NS before it, and the time of the step before it, to take it back where a Scribe
  change falls in the same cycle (R44). -/
  draftUndo : Option (Nat × DWord × Option Nat) := none
  deriving DecidableEq, Repr

/-- A stroke that has fallen due and has not been applied (R72). -/
structure DueStroke where
  idx : Nat
  late : Bool
  stepped : Bool
  /-- The cycle in which it fell due (R72). -/
  since : Nat
  deriving DecidableEq, Repr

/-- Strokes due, strokes waiting for a port's lock (R74), and how many were applied in this cycle. -/
structure StrokeSt where
  due : List DueStroke := []
  waitingPort : List Nat := []
  applied : Nat := 0
  /-- The strokes that have launched in this cycle (R130). -/
  launched : List Nat := []
  deriving DecidableEq, Repr

/-- The Lumro link and PPS_OUT. -/
structure LumroSt where
  /-- Frames accepted and not yet paired: SECOND and the cycle of the last stop bit. -/
  rx : List (Nat × Nat) := []
  seq : Word := 0
  ppsOut : Bool := false
  /-- The cycle at which the pulse on PPS_OUT has lasted TIME_PPS_WIDTH (R56). -/
  ppsEnd : Nat := 0
  /-- PPS_OUT rising edges whose frames have not been sent, oldest first: STIME NS and the cycle of each (R54). -/
  txEdges : List (Nat × Nat) := []
  deriving DecidableEq, Repr

/-! ## Ductus (03) -/

structure DuctSt where
  /-- The body in force of each section code, rising by code: boot stream, with live sections swapped in. -/
  inForce : List (Nat × List Word) := []
  /-- Shadow images of the pending live sections, by code (R118). -/
  shadow : List (Nat × List Word) := []
  /-- VERSION of the live stream whose sections are pending. -/
  liveVersion : Nat := 0
  /-- A live load in progress: address and length in bytes. -/
  loading : Option (Nat × Nat) := none
  /-- Stroke entries written with ENABLE 0 that become armed when VALID is next set (R96, DEFER 1). -/
  deferred : List Nat := []
  /-- Stroke entries replaced by a swap while they wait to launch or in the cycle of their launch: the new images (R130, R131). -/
  replace : List (List Word) := []
  deriving DecidableEq, Repr

/-! ## OTP and life cycle (04, 05, 09) -/

/-- A signer of the OTP: the vendor signer, or a customer key (Table LCY-5). -/
structure SignerRow where
  hss : Bytes := List.replicate 48 0
  mldsa : Bytes := List.replicate 48 0
  enrolled : Bool := false
  revoked : Bool := false
  deriving DecidableEq, Repr

/-- A custodian row (R361). -/
structure CustRow where
  digest : Bytes := List.replicate 48 0
  enrolled : Bool := false
  revoked : Bool := false
  deriving DecidableEq, Repr

/-- The one-time programmable rows; a blank part holds no set bit. -/
structure OtpSt where
  lcyWord : DWord := 0
  /-- The debug thermometer. -/
  therm : DWord := 0
  /-- Digests of token slots 1 to 7. -/
  tokens : List Bytes := List.replicate 7 (List.replicate 48 0)
  vendor : SignerRow := {}
  /-- Customer keys 0 to 3. -/
  customers : List SignerRow := List.replicate 4 {}
  rows : List CustRow := List.replicate 32 {}
  devm : BitVec 8 := 0
  /-- The three anti-rollback rows: Ductus, Scribe image, Draft images. -/
  floors : List (BitVec 128) := [0, 0, 0]
  serial : Nat := 0
  /-- BOOT_IDENT as the part was marked. -/
  ident : Word := 0
  deriving DecidableEq, Repr

/-- What follows the pre-write erase of a life-cycle request. -/
inductive LcyGoal where
  /-- The certificate is still being checked. -/
  | check (cert : Bytes)
  /-- Write the missing bits of this codeword; whether a flash wipe comes first. -/
  | mark (word : DWord) (wiped : Bool)
  /-- Open a debug session with these rights. -/
  | session (rights : Word)
  deriving DecidableEq, Repr

structure LcySt where
  req : Option LcyGoal := none
  /-- The request in progress came over LCY_CMD. -/
  fromCmd : Bool := false
  /-- The outstanding nonce, least significant byte first; none when there is none or it has been used. -/
  nonce : Option Bytes := none
  /-- A NONCE request waits for conditioned entropy (R473). -/
  nonceHeld : Bool := false
  /-- A mark has been completed and the self-reset is due (R147). -/
  resetDue : Bool := false
  /-- The selected TAP instruction; Test-Logic-Reset selects IDCODE. -/
  ir : Nat := 1
  /-- EXTEST, CLAMP or HIGHZ holds the main domain in reset (R176). -/
  hold : Bool := false
  /-- The certificate buffer of DEBUG_AUTH, and whether a word was appended beyond it (R179). -/
  buf : List Word := []
  overflow : Bool := false
  lastOp : Nat := 0
  nonceSel : Nat := 0
  /-- The boundary-scan register's contents as last preloaded. -/
  boundary : Nat := 0
  deriving DecidableEq, Repr

/-! ## Boot (05) -/

/-- A recovery item being fetched: kind, image ID, host address and length (R211). -/
structure RcvItem where
  kind : Nat
  imageId : Nat
  addr : Nat
  len : Nat
  deriving DecidableEq, Repr

structure BootSt where
  /-- PORST_N is high. -/
  porst : Bool := false
  /-- Flash banks tried since step 4 was reached (0 A, 1 B). -/
  tried : List Nat := []
  /-- The boot Proof MISRs recorded at step 3, by partition 0 to 21; none when it did not run (R193). -/
  misrs : Option (List Nat) := none
  /-- The bank whose stream is in force: 0 A, 1 B, 2 recovery mailbox. -/
  bank : Nat := 0
  rcv : Option RcvItem := none
  /-- PORST_N rose while VDD_AON was not good: what boot starts with once it is (R958). -/
  stash : Option BootIn := none
  /-- The Scribe pair is out of reset. -/
  released : Bool := false
  /-- The bank A setting in mV, as sensed at the last rising edge of PORST_N; none where VDDIO_A met no level (R935). -/
  bankA : Option Nat := none
  /-- VDDIO_B is powered (R949). -/
  ioB : Bool := true
  deriving DecidableEq, Repr

/-! ## Worlds and debug (06) -/

/-- A world switch in progress: the core, and whether it enters the Scribe world. -/
structure SwitchSt where
  core : Nat
  enter : Bool
  deriving DecidableEq, Repr

/-- The registers of a hart: free values of a number (`Config.hartReg`), or zeros where there is none, and those that are known
otherwise, by register number of the Access Register command. -/
structure HartCtx where
  seed : Option Nat
  regs : List (Nat × DWord) := []
  deriving DecidableEq, Repr

structure WrldSt where
  switches : List SwitchSt := []
  /-- The save buffers of the lent cores, by core: one for each world (R242). A core without a Scribe save buffer has not entered
  the Scribe world since the last reset or Scribe restart. -/
  saveS : List (Nat × HartCtx) := []
  saveD : List (Nat × HartCtx) := []
  /-- Cores to be returned once their switch has finished (R267). -/
  recalls : List Nat := []
  /-- The watchdog runs; what was left of it, in CLK_FAB cycles, when it was last loaded, stopped or started, and that cycle. -/
  wdRuns : Bool := false
  wdLeft : Nat := 0
  wdAt : Nat := 0
  /-- Step of Table WLD-4 that a restart has reached: 0 none, 1 the pair held, 5 released, 7 ready and waiting for the Reservoir. -/
  restart : Nat := 0
  /-- RESTART_BUDGET_MS has passed since FAIL_TIME (R261). -/
  budgetOut : Bool := false
  /-- Harts halted in a debug session, and halt requests that wait for the Draft world (R235). -/
  halted : List Nat := []
  haltWait : List Nat := []
  /-- Registers of halted harts. -/
  ctx : List (Nat × HartCtx) := []
  /-- The mcontrol triggers, tdata1 and tdata2 by hart * 4 + trigger, and tselect by hart (R234). -/
  trig : List (Nat × DWord × DWord) := []
  tsel : List (Nat × Nat) := []
  /-- The halted hart that runs the program buffer (R234). -/
  dmExec : Option Nat := none
  /-- Debug module registers by DMI address. -/
  dm : Tab Word := []
  deriving DecidableEq, Repr

/-! ## Reservoir (08) -/

/-- An entry of the open-domain table: pinned slot `idx`, generation and key of each half (generation 0: empty). -/
structure DomEntry where
  idx : Nat
  domain : Nat
  gen0 : Nat := 0
  key0 : Bytes := []
  gen1 : Nat := 0
  key1 : Bytes := []
  /-- The half that holds the current generation. -/
  cur : Nat := 0
  policy0 : Bytes := []
  policy1 : Option Bytes := none
  /-- A half whose generation waits to be displaced: new resolutions of it fail (R347, R353). -/
  leaving : Option Nat := none
  deriving DecidableEq, Repr

/-- A quota slot: physical slot, folio and handle, and the key's blob header and tag (R344, R345). -/
structure QuotaSlot where
  slot : Nat
  folio : Nat
  handle : Nat
  hdr : Bytes
  tag : Bytes
  material : Bytes
  /-- An erase has been requested and waits for the operations that refer to the key (R347). -/
  leaving : Bool := false
  deriving DecidableEq, Repr

/-- A transient slot in use (Table RSV-2): its number, the operation it is reserved for, if any, and its contents: the key of an
inline blob, or the DWK of a Reservoir command. -/
structure TransSlot where
  slot : Nat
  op : Option Nat := none
  material : Bytes
  deriving DecidableEq, Repr

/-- A Reservoir command in progress, with its arguments as they stood at GO. -/
structure RsvCmd where
  op : Nat
  quorum : Nat
  policy1Valid : Bool
  makeCurrent : Bool
  arg : Nat
  argGen : Nat
  addr : List Nat
  pol0 : Bytes
  pol1 : Bytes
  /-- A reserved field of the command was not 0. -/
  badField : Bool
  /-- CUST_SUCC_SLOT and CUST_ADDR2 at GO, for DOM_CREATE (R381). -/
  succ : Word := 0
  keysAt : Nat := 0
  /-- Waits for DRBG instance 0 (1) or for a direct draw (2) (R473, R479). -/
  held : Nat := 0
  /-- The physical slot whose erase an ERASE_SLOT waits for (R347). -/
  erasing : Option Nat := none
  deriving DecidableEq, Repr

structure RsvSt where
  /-- The Blotter root key, in the Blotter domain's latches (R326). -/
  brk : Option Bytes := none
  doms : List DomEntry := []
  slots : List QuotaSlot := []
  trans : List TransSlot := []
  cmd : Option RsvCmd := none
  /-- ECC errors found in the key SRAM since the last Blotter sample (Table BLO-4, ECC_STORM). -/
  eccRun : Nat := 0
  deriving DecidableEq, Repr

/-! ## Custodians (09) -/

/-- What a ceremony slot holds beside its registers; STATE, COUNT, REQUIRED and ACTION stand in CUST_CER_STATn. -/
structure CerSlot where
  members : Word := 0
  candidates : Word := 0
  /-- The parameter record bound (Table CUS-2). -/
  params : Bytes := []
  /-- The request record (Table CUS-3); empty once its nonce is erased. -/
  record : Bytes := []
  ek : Bytes := []
  /-- Seeds of the ephemeral decapsulation key. -/
  seeds : Bytes := []
  /-- Shares recovered: position and value. -/
  shares : List (Nat × Bytes) := []
  /-- A CUST_ENROL ceremony opened in bootstrap (R388). -/
  bootstrap : Bool := false
  deriving DecidableEq, Repr

/-- A CUST command in progress, with its arguments as they stood at GO. -/
structure CustCmd where
  op : Nat
  slot : Nat
  addr : List Nat
  arg : Word
  window : Nat
  members : Word
  candidates : Word
  /-- Waits for DRBG instance 0 (1) or for a direct draw (2) (R473, R479). -/
  held : Nat := 0
  deriving DecidableEq, Repr

structure CustSt where
  slots : List CerSlot := List.replicate 4 {}
  cmd : Option CustCmd := none
  /-- The destroyed-domain list that the Scribe runtime keeps in a secret region of flash (R367). -/
  destroyed : List Nat := []
  /-- Of each domain that a package has been built for here or has come here: threshold M and MEMBERS rows, as the Scribe runtime
  keeps them in a secret region of flash (R390). -/
  packages : List (Nat × Nat × Bytes) := []
  deriving DecidableEq, Repr

/-! ## Entropy (11) -/

structure EntSt where
  /-- Generate requests of each DRBG instance since its last reseed. -/
  ctr : List Nat := [0, 0, 0, 0]
  /-- Instances that must reseed before their next request. -/
  due : List Nat := []
  /-- Test failures of each source in this power cycle (R471). -/
  fails : List Nat := [0, 0, 0, 0]
  /-- The instances have been asked for, at step 6 of boot or after an erase (R477). -/
  wanted : Bool := false
  deriving DecidableEq, Repr

/-! ## Host link (12) -/

/-- An entry of the translation cache (R509): PASID (none for requester ID only), untranslated base, size, permissions, and the
translated base. -/
structure AtsEnt where
  pasid : Option Nat
  base : Nat
  size : Nat
  rd : Bool
  wr : Bool
  dest : Nat
  deriving DecidableEq, Repr

/-- A Translation Request that has not been answered: who waits for it, PASID, address, and whether it is for a write. -/
structure XlReq where
  who : HostReader
  pasid : Option Nat
  addr : Nat
  write : Bool
  deriving DecidableEq, Repr

/-- Where the link stands while it is not in L0: nowhere of its own (down, training, L1), or in a substate of L1 (R898). -/
inductive LinkSub where
  | none | l11 | l12
  deriving DecidableEq, Repr

/-- An inbound request that the device holds while the fabric is stopped (R901), with the operands of its row. -/
inductive Inbound where
  | mmio (bar off len : Nat) (w : Option Bytes) (full : Bool) (e : EccFind)
  | cfg (r : Nat) (w : Option Word)
  deriving DecidableEq, Repr

/-- The PCIe function: configuration space and link. -/
structure HostSt where
  busMaster : Bool := false
  memSpace : Bool := false
  msixEnable : Bool := false
  funcMask : Bool := false
  atsEnable : Bool := false
  linkL0 : Bool := false
  linkSub : LinkSub := .none
  /-- The device drives CLKREQ_N low (R200, R898). -/
  clkreq : Bool := true
  /-- Requests held by withholding flow-control credit, oldest first (R901). -/
  inbound : List Inbound := []
  /-- MSI-X table words by word index (vector v at 4 v: address low, address high, data, vector control). -/
  msixTab : Tab Word := []
  /-- Vectors whose PBA bit is set, rising. -/
  pba : List Nat := []
  /-- MSI-X vectors whose messages are held until the link is in L0 (R899), in order. -/
  msixHeld : List Nat := []
  /-- Configuration registers by their code (`cfgReset`). -/
  cfg : Tab Word := []
  /-- Configuration requests are answered: step 11, a halt or a recovery wait has been reached (R198, R203). -/
  cfgOpen : Bool := false
  /-- A function-level reset is in progress (R532). -/
  flr : Bool := false
  /-- PERST_N is asserted. -/
  perst : Bool := true
  /-- The function is in D3hot (R892). -/
  d3 : Bool := false
  /-- A PM_PME message is held until the link is in L0 (R899). -/
  pmeHeld : Bool := false
  /-- The translation cache, most recently used first (R510). -/
  ats : List AtsEnt := []
  /-- Translation Requests outstanding, oldest first. -/
  xlReqs : List XlReq := []
  /-- Translations granted to a transfer that still waits for others; the cache may have replaced them. -/
  granted : List (HostReader × AtsEnt) := []
  /-- Invalidate Requests whose completion has not been sent, by tag, oldest first. -/
  invals : List Nat := []
  /-- The Scribe mailbox command being served has met a transfer that waits for a translation. -/
  mbxWait : Bool := false
  /-- The Scribe mailbox response stands in its buffer and RSP has not been set. -/
  rspReady : Bool := false
  /-- TAG, CMD, status and DETAIL of the last 16 responses, newest first (R527). -/
  replies : List (Nat × Nat × Nat × Nat) := []
  deriving DecidableEq, Repr

/-! ## Rings and operations (13, 14) -/

/-- A submission descriptor (Table RNG-3), or the parameters of a BSP request (Table NET-7). -/
structure Desc where
  opcode : Nat
  flags : Nat
  domain : Nat
  reqId : Nat
  keyRef : Nat
  aadLen : Nat
  dataLen : Nat
  param0 : Nat
  src : Nat
  dst : Nat
  aux : Nat
  notBefore : Nat
  param1 : Nat
  rsvd : Nat
  chain : Nat
  deriving DecidableEq, Repr

/-- Where an operation came from: a ring pair and its fetch number since enable, or a BSP session, the sequence of its
LAST fragment and the port. -/
inductive OpSrc where
  | ring (n fetchNo : Nat)
  | bsp (session seq port : Nat)
  deriving DecidableEq, Repr

/-- Where a fetched operation stands: candidate, parked in a gate slot since a cycle (for its time, its predecessor, its
original or a tag), waiting in a BSP queue (a candidate with no tag), or admitted to an engine. -/
inductive OpAt where
  | cand
  | parkTime (since : Nat)
  | parkChain (since : Nat)
  | parkDup (since orig : Nat)
  | parkTag (since : Nat)
  | run (engine : Nat)
  deriving DecidableEq, Repr

/-- A key as resolved at admission (Table RSV-11). -/
structure Key where
  kind : Nat
  /-- Type of Table RSV-8; 0 for a domain data key. -/
  type : Nat
  material : Bytes
  domain : Nat
  /-- Generation used; 0 for a working key. -/
  gen : Nat
  usage : Nat
  policy : Nat
  /-- Handle of a kind 00 key. -/
  handle : Nat
  /-- Generations that an envelope's header may name, as they were resident at admission, with their keys (R342, R444). -/
  alts : List (Nat × Bytes) := []
  deriving DecidableEq, Repr

/-- The outcome of key resolution: a key, or a status. -/
inductive KeyRes where
  | none
  | key (k : Key)
  | fail (status : Nat)
  deriving DecidableEq, Repr

/-- What an operation reports. -/
structure OpRes where
  status : Nat
  bytesOut : Nat := 0
  r0 : Nat := 0
  r1 : Nat := 0
  engine : Nat := 0
  deriving DecidableEq, Repr

/-- The lists of an operation's data: pieces of host memory, or BSP staging. -/
structure Io where
  ring : Bool
  srcP : List (Nat × Nat)
  dstP : List (Nat × Nat)
  deriving DecidableEq, Repr

/-- What an envelope header says (Table NIB-3). -/
structure Env where
  alg : Nat
  shift : Nat
  domain : Nat
  gen : Nat
  keyId : Bytes
  seed : Bytes
  obj : Nat
  sealedAt : Nat
  deriving DecidableEq, Repr

/-- What a nib lane, or a pair, does to the chunks of an operation whose checks have passed, with its derived keys and headers. A raw
message is one chunk. -/
inductive LaneWork where
  | sealRaw (alg : Nat) (key nonce aad : Bytes) (len : Nat)
  | openRaw (alg : Nat) (key aad : Bytes) (len : Nat)
  | sealEnv (e : Env) (key header : Bytes)
  | openEnv (e : Env) (key header : Bytes)
  | trans (se : Env) (sk sh : Bytes) (de : Env) (dk dh : Bytes)
  deriving DecidableEq, Repr

/-- An operation on a nib lane or a pair between its checks and its end: in the lane, or in its suspend store (R439). -/
structure LaneJob where
  work : LaneWork
  io : Io
  /-- Where the first chunk starts in SRC. -/
  base : Nat
  /-- First chunk, and how many there are. -/
  start : Nat
  count : Nat
  /-- The generation that the completion reports (Table RNG-9). -/
  gen : Nat
  /-- Chunks completed. -/
  done : Nat := 0
  /-- Of the chunk in progress: the input read, and the bytes of its output written. -/
  got : Bytes := []
  part : Nat := 0
  /-- Bytes of the header and the completed chunks, all written. -/
  good : Nat := 0
  deriving DecidableEq, Repr

/-- Output bytes to be overwritten with zeros before an operation that was cut short completes (R441 to R443). -/
structure Fill where
  io : Io
  off : Nat
  len : Nat
  deriving DecidableEq, Repr

structure Op where
  id : Nat
  src : OpSrc
  folio : Nat
  desc : Desc
  at_ : OpAt
  tag : Bool
  covered : Bool := false
  key : KeyRes := .none
  key2 : KeyRes := .none
  res : Option OpRes := none
  /-- The cost charged at admission (R600). -/
  cost : Nat := 0
  /-- The inline blob read at admission (KEY_REF kind 10). -/
  blob : Bytes := []
  /-- Parameter stream and data of a BSP request, as staged. -/
  stream : Bytes := []
  data : Bytes := []
  /-- Response output of a BSP request. -/
  output : Bytes := []
  /-- Waits for this DRBG instance (R479). -/
  held : Option Nat := none
  /-- Waits for the erase of this physical quota slot (R572). -/
  waitErase : Option Nat := none
  /-- Suspended for a Proof slice (R439, R485). -/
  suspended : Bool := false
  /-- Bytes of its port's transmit buffer reserved for its response (R616). -/
  txRes : Nat := 0
  /-- Words of the ruling entries that live swaps have replaced since its admission, as they stood before (R120). -/
  oldRul : List (Nat × Word) := []
  /-- What a nib lane holds of it once its checks have passed. -/
  job : Option LaneJob := none
  fill : Option Fill := none
  deriving DecidableEq, Repr

/-- An entry of a duplicate window: REQ_ID, fetch number, and the original's result once written. -/
structure DupEnt where
  reqId : Nat
  fetchNo : Nat
  res : Option OpRes
  deriving DecidableEq, Repr

/-- What a ring pair holds beside its registers. -/
structure RingSt where
  /-- Descriptors fetched since enable. -/
  fetched : Nat := 0
  /-- Of the last 256 fetched: fetch number, and whether it completed with OK or DUPLICATE carrying OK. -/
  hist : List (Nat × Bool) := []
  /-- Newest first. -/
  window : List DupEnt := []
  /-- A completion write was refused: every later entry is discarded (R588). -/
  lost : Bool := false
  /-- Entries written and not yet signalled, and the cycle in which the first of them was written (R573). -/
  pendingIrq : Nat := 0
  pendSince : Nat := 0
  /-- Descriptors read behind one at which fetch stopped; each is read exactly once (R551). -/
  ahead : List Bytes := []
  /-- The ring has stopped at a descriptor that needs a gate slot (R82, R615). -/
  gateStop : Bool := false
  deriving DecidableEq, Repr

/-- What the scheduler holds beside its registers; keys are folio * 8 + class. -/
structure SchSt where
  /-- Byte levels, operation levels in micro-operations, deficits. -/
  levelB : Tab Int := []
  levelO : Tab Int := []
  deficit : Tab Int := []
  /-- Per class, the folio last chosen; per folio and class, the source last served (local ring, or 16 for BSP). -/
  lastFolio : List Nat := [63, 63, 63, 63, 63, 63]
  lastSrc : Tab Nat := []
  /-- The ring pair last fetched for (R614). -/
  lastRing : Nat := 127
  deriving DecidableEq, Repr

/-! ## Ports and BSP (15) -/

/-- A frame in a transmit queue: when it entered, its priority, and the bytes of transmit buffer reserved for it (R616, R638). -/
structure TxFrame where
  frame : Bytes
  since : Nat
  prio : Nat
  res : Nat := 0
  deriving DecidableEq, Repr

/-- One port's MAC. -/
structure PortSt where
  /-- A relock is in progress: 0 none, 1 synthesiser not locked, 2 waiting for the partner. -/
  relock : Nat := 0
  /-- Junction temperature at the last calibration, °C. -/
  calTj : Int := 0
  /-- Frames waiting to be sent, oldest first. -/
  txq : List TxFrame := []
  /-- A held frame has been dropped in this link-down period (R638). -/
  holdDropped : Bool := false
  pausedAll : Bool := false
  /-- Priorities stopped by PFC. -/
  pausedPrio : List Nat := []
  /-- Frames waiting in the receive buffer, with their timestamp in quarter nanoseconds. -/
  rxHeld : List (Bytes × Nat) := []
  /-- A pause frame with quanta 0xFFFF has been sent and not withdrawn. -/
  pauseSent : Bool := false
  /-- A relock that was triggered during a Proof slice of the port, with its mode (R774). -/
  relockWait : Option Nat := none
  /-- Priorities for which PFC has been sent. -/
  pfcSent : List Nat := []
  /-- Two-step FIFO: timestamp in quarter nanoseconds, sequenceId, messageType, domainNumber; oldest first. -/
  txts : List (Nat × Nat × Nat × Nat) := []
  deriving DecidableEq, Repr

/-- Where a datagram came from, for its reply (R642). -/
structure BspAddr where
  port : Nat
  mac : Bytes
  tags : Bytes
  v6 : Bool
  ip : Bytes
  udp : Nat
  dscp : Nat
  deriving DecidableEq, Repr

/-- A datagram that passed checks 1 and 2 of Table NET-6. -/
structure BspDatagram where
  src : BspAddr
  hdr : Bytes
  body : Bytes
  deriving DecidableEq, Repr

/-- A handshake being reassembled or waiting for HS_FIN. -/
structure Handshake where
  src : BspAddr
  tenant : Nat
  /-- Body fragments received, by index. -/
  frags : List (Nat × Bytes)
  /-- INDEX of the LAST fragment, once received. -/
  last : Option Nat := none
  reqId : Nat := 0
  /-- Complete and waiting for the Scribe world (R644 item 5, R664). -/
  waiting : Bool := false
  deriving DecidableEq, Repr

/-- The result kept of a request: REQ_ID, opcode, status, BYTES_OUT, RESULT0 (R657, R658). -/
structure BspResult where
  seq : Nat
  reqId : Nat
  opcode : Nat
  done : Bool
  admitted : Bool
  status : Nat
  bytesOut : Nat
  result0 : Nat
  /-- Duplicates of the LAST fragment to be answered when the original completes (R657). -/
  dups : Nat := 0
  deriving DecidableEq, Repr

/-- A request being reassembled. -/
structure Reassembly where
  reqId : Nat
  opcode : Nat
  frags : List (Nat × Bytes)
  last : Option Nat
  lastSeq : Nat
  /-- Bytes of staging held, in 4 KiB units. -/
  units : Nat
  deriving DecidableEq, Repr

structure Session where
  id : Nat
  entry : Nat
  tenant : Nat
  folio : Nat
  peer : Bool
  src : BspAddr
  kCD : Bytes
  kDC : Bytes
  kConf : Bytes
  th : Bytes
  frag : Nat
  established : Bool
  /-- Highest client sequence accepted, and the offsets below it (0 for H itself) already seen. -/
  h : Nat
  seen : List Nat
  devSeq : Nat
  reasm : List Reassembly
  results : List BspResult
  /-- REASON of a CLOSE to be sent when the requests in progress have been answered; 0 none. -/
  closing : Nat
  deriving DecidableEq, Repr

/-- The unit as a handover client (R660): the peer's table entry, the ceremony slot it imports for, its HS_INIT, its
secrets, and the session once established. -/
structure ClientSt where
  entry : Nat
  slot : Nat
  peer : BspAddr
  tenant : Nat
  body : Bytes
  eph : Bytes
  ssS : Bytes
  frags : List (Nat × Bytes) := []
  last : Option Nat := none
  sessionId : Nat := 0
  frag : Nat := 1024
  established : Bool := false
  /-- HS_FIN has been sent. -/
  finSent : Bool := false
  kCD : Bytes := []
  kDC : Bytes := []
  seq : Nat := 0
  /-- Highest device sequence accepted. -/
  devSeq : Nat := 0
  /-- Fragments of a handover message being reassembled: type, fragments, LAST. -/
  msg : List (Nat × Bytes) := []
  msgLast : Option Nat := none
  deriving DecidableEq, Repr

/-- A complete HANDOVER_OFFER that waits with the Scribe runtime, and where that has the record, the EK and the package. -/
structure Offer where
  session : Nat
  reqId : Nat
  body : Bytes
  recAt : Nat
  ekAt : Nat
  outAt : Nat
  deriving DecidableEq, Repr

structure NetSt where
  p0 : PortSt := {}
  p1 : PortSt := {}
  sessions : List Session := []
  nextSession : Nat := 1
  handshakes : List Handshake := []
  offers : List Offer := []
  /-- Datagrams of BSP taken from frames and not yet acted on, oldest first. -/
  rxBsp : List BspDatagram := []
  /-- The wrapped service key's decapsulation key; empty when there is none. -/
  svcDk : Bytes := []
  /-- Staging in use, 4 KiB units. -/
  stageUsed : Nat := 0
  client : Option ClientSt := none
  deriving DecidableEq, Repr

/-! ## Quill (16) -/

structure QuilSt where
  /-- Table words: bank, table, index and word in one key (`quilKey`). -/
  tab : Tab Word := []
  /-- Rule hit counters, by bank * 4096 + index. -/
  hits : Tab Nat := []
  /-- Levels of the 16 rate classes in bytes. -/
  level : List Int := [0, 0, 0, 0, 0, 0, 0, 0, 0, 0, 0, 0, 0, 0, 0, 0]
  /-- Delivery rings that have dropped since their consumer last advanced the head. -/
  dropped : List Nat := []
  /-- The bank whose validation runs. -/
  validating : Option Nat := none
  deriving DecidableEq, Repr

/-! ## Blotter domain (17) -/

/-- A tamper pair: raw levels of the last sample, debounced levels, the discrepancy counter, and the episode (R714, R715). -/
structure PairSt where
  a : Bool := false
  b : Bool := false
  debA : Bool := false
  debB : Bool := false
  c : Nat := 0
  episode : Bool := false
  decided : Bool := false
  deriving DecidableEq, Repr

/-- The Blotter domain beside its registers; supply and clock stand in BLOT_STAT. -/
structure BlotSt where
  /-- VDD_AON is above its power-good level (R936). -/
  aon : Bool := true
  /-- The domain is supplied (R707). -/
  alive : Bool := true
  pairs : List PairSt := List.replicate 8 {}
  /-- Consecutive mismatching and matching words of each mesh loop. -/
  meshBad : List Nat := [0, 0, 0, 0]
  meshOk : List Nat := [0, 0, 0, 0]
  /-- The generator that each loop owns (R717, R719). -/
  meshGen : List DWord := [0, 0, 0, 0]
  /-- How long each alarm cause has been active, in 1/128,000 of a second of the Blotter clock (R726). -/
  alarmRun : List Nat := List.replicate 16 0
  /-- Consecutive samples of each light sensor above threshold, and of both below. -/
  light : List Nat := [0, 0]
  dark : Nat := 0
  /-- BLOT_IN_N low: raw level of the last sample, and debounced. -/
  inRaw : Bool := false
  inDeb : Bool := false
  /-- Consecutive Blotter temperature readings below TJ_TAMPER_LOW, and at or above it plus 2 °C. -/
  cold : Nat := 0
  warm : Nat := 0
  /-- Samples taken, modulo 32. -/
  k : Nat := 0
  /-- Consecutive samples within the lower and the upper VDD_CORE limit. -/
  vOk : List Nat := [0, 0]
  /-- Consecutive junction readings above TJ_HIGH, cleared from it, below TJ_LOW, cleared from it. -/
  tj : List Nat := [0, 0, 0, 0]
  pllBad : Nat := 0
  pllOk : Nat := 0
  /-- REFCLK cycles of the last samples, newest first, and consecutive samples within the limit. -/
  ref : List Nat := []
  refOk : Nat := 0
  /-- Consecutive samples with no key SRAM ECC error. -/
  eccQuiet : Nat := 0
  /-- BLOT_OUT_N is low, with the samples still to pass. -/
  outLeft : Option Nat := none
  /-- A BLOT whose stores have not yet been read back as zero: the causes to count. -/
  erasing : Option (List Nat) := none
  deriving DecidableEq, Repr

/-! ## Colophon (18) -/

/-- The MRAM and the Blotter-domain side of the Colophon. -/
structure ColoSt where
  /-- 512 pages of 1 KiB, by page * 1024 + offset; an unwritten byte reads 0. -/
  mram : Tab Byte := []
  opsec : Nat := 0
  /-- Whether OPSEC advances: main rails powered and step 2 of boot passed (R743). -/
  running : Bool := false
  /-- The Blotter-domain values were lost and step 2 has not restored them (R746, R755). -/
  lost : Bool := true
  /-- The epoch in progress. -/
  epoch : Nat := 0
  /-- Accumulators by their offset in Table COL-3. -/
  acc : Tab Nat := []
  /-- CLK_FAB cycles that nib lanes 0 to 3, hash lanes 0 and 1 and Flourish have been busy beyond the BUSY counts. -/
  busy : List Nat := [0, 0, 0, 0, 0, 0, 0]
  /-- TJ_MIN, TJ_MAX, TB_MIN, TB_MAX, VCORE_MIN, VCORE_MAX, VBAT_MIN, VBAT_MAX; none before a reading. -/
  ext : List (Option Int) := [none, none, none, none, none, none, none, none]
  saturated : Bool := false
  gap : Bool := false
  pccStart : Nat := 0
  opsecStart : Nat := 0
  /-- The epochs whose record has not been verified yet, with the record (R751), oldest first. -/
  snaps : List (Nat × Bytes) := []
  /-- The COLO_LIVE window. -/
  live : Bytes := []
  /-- The BMC's own live copy (R864). -/
  liveB : Bytes := []
  /-- COLO_PAGE_SEL of S, D and M. -/
  selS : Nat := 0
  selD : Nat := 0
  selM : Nat := 0
  deriving DecidableEq, Repr

/-! ## Proof (19) -/

structure ProofSt where
  /-- The partition whose slice runs, and whether PROOF_CMD asked for it. -/
  slice : Option Nat := none
  byCmd : Bool := false
  /-- Requests waiting, oldest first, with the same mark (R776). -/
  queue : List (Nat × Bool) := []
  /-- The core of the slice has been asked to park and has not (R773). -/
  parking : Bool := false
  /-- When the park was asked for, in CLK_FAB cycles. -/
  parkAt : Nat := 0
  /-- Cores whose claim waits for the end of their slice (R773). -/
  claimDue : List Nat := []
  deriving DecidableEq, Repr

/-! ## Memories and flash (20) -/

/-- A flash command in progress: PROGRAM (1) or ERASE (2). -/
structure FlashCmd where
  op : Nat
  addr : Nat
  len : Nat
  src : Nat
  deriving DecidableEq, Repr

structure MemSt where
  /-- Scribe SRAM and shared SRAM by internal address; an unwritten byte reads 0 (R987). -/
  sram : Tab Byte := []
  /-- The xSPI flash by offset; an unwritten byte reads as erased, all ones. -/
  flash : Tab Byte := []
  /-- Words that hold an uncorrectable error or poison: word address to syndrome + 1. -/
  bad : Tab Nat := []
  /-- Words whose corrected data waits to be written back (R791); an MRAM word stands 2^40 above its offset. -/
  fix : List Nat := []
  /-- The next word of the Scribe SRAM, shared SRAM and key SRAM scrubbers. -/
  scrub : List Nat := [0, 0, 0]
  cmd : Option FlashCmd := none
  /-- A wipe in progress: true for the user wipe, false for the secret wipe (R814). -/
  wipe : Option Bool := none
  /-- Status of the Scribe-world and the Draft-world DMA engine's channel: 0 OK, 1 BAD_ADDRESS, 2 POISON. -/
  dmaS : Nat := 0
  dmaD : Nat := 0
  deriving DecidableEq, Repr

/-! ## Console ports (21) -/

/-- What a transmitter is sending. -/
inductive ConTx where
  | idle
  | char (c : Nat)
  /-- A break: TXD held low for two character times. -/
  | brk
  deriving DecidableEq, Repr

/-- A console port beside its registers; received characters stand in the form of CON_RXDATA without VALID. -/
structure ConSt where
  tx : List Nat := []
  rx : List Nat := []
  busy : ConTx := .idle
  /-- Flow characters to send ahead of the FIFO (R830). -/
  flow : List Nat := []
  /-- Received characters to retransmit in ECHO mode (R837). -/
  echo : List Nat := []
  /-- SEND_BREAK set and the break not begun. -/
  breakDue : Bool := false
  /-- After a BREAK the receiver waits for the line to return to 1 (R824). -/
  lineLow : Bool := false
  /-- The tail of R834 runs. -/
  tail : Bool := false
  /-- When what is being sent, or the tail, ends, in CLK_FAB cycles (R822, R834). -/
  endsAt : Nat := 0
  /-- Since when TX_PAUSED has been set, while the timeout of R833 has not been reported. -/
  pausedAt : Option Nat := none
  /-- The cycles of the last XOFF received and of the last character stored (Table CON-6). -/
  xoffAt : Option Nat := none
  rxAt : Option Nat := none
  deriving DecidableEq, Repr

/-! ## Power (23) -/

structure PwrSt where
  /-- The main domain runs: out of reset and not gated by STANDBY. -/
  mainUp : Bool := false
  /-- An exit to ACTIVE has started and not completed. -/
  exiting : Bool := false
  /-- The value of the cycle count at which the current state was entered. -/
  since : Nat := 0
  /-- The doorbell shadow (R900): folio, local ring pair, whether it is HEAD, value. -/
  shadow : List (Nat × Nat × Bool × Word) := []
  /-- WAKE_N is asserted. -/
  wakeOut : Bool := false
  /-- The boot in progress is a return from STANDBY. -/
  returning : Bool := false
  /-- The last cycle in which the conditions of DOZE, NAP and DEEP_NAP did not hold, or a wake source occurred (R885). -/
  busyAt : List Nat := [0, 0, 0]
  deriving DecidableEq, Repr

/-! ## Events and interrupt controllers (24) -/

/-- One PLIC: interrupt IDs pending, and IDs claimed and not completed. -/
structure PlicSt where
  ip : List Nat := []
  busy : List Nat := []
  deriving DecidableEq, Repr


structure State where
  regs : Tab Word := []
  cyc : CycleSt := {}
  stime : StimeSt := {}
  strokes : StrokeSt := {}
  lumro : LumroSt := {}
  duct : DuctSt := {}
  otp : OtpSt := {}
  lcy : LcySt := {}
  boot : BootSt := {}
  wrld : WrldSt := {}
  rsv : RsvSt := {}
  cust : CustSt := {}
  ent : EntSt := {}
  host : HostSt := {}
  ops : List Op := []
  nextOp : Nat := 0
  rings : Tab RingSt := []
  sch : SchSt := {}
  net : NetSt := {}
  quil : QuilSt := {}
  blot : BlotSt := {}
  colo : ColoSt := {}
  proof : ProofSt := {}
  mem : MemSt := {}
  /-- Per rate-limited source, the cycle after its last raise; 0 for none since reset. -/
  lastRaise : Tab Nat := []
  con0 : ConSt := {}
  con1 : ConSt := {}
  /-- The boot ROM has released CON1 (R820). -/
  con1Open : Bool := false
  pwr : PwrSt := {}
  plicS : PlicSt := {}
  plicD : PlicSt := {}
  /-- The model's own record of what the block drives outward. -/
  out : List Output := []
  /-- The model's own counter of free values. -/
  freeCtr : Nat := 0
  pending : List Instr := []
  deriving DecidableEq, Repr

/-- The state right after power is first applied, with PORST_N asserted (R224, R936): every register at its reset value,
memories as their parts hold them, nothing waiting. -/
def State.reset : State := {}

end Sys2Proof.Machine
end

