-- ==== Sys2Proof/Machine/Ops.lean ====
section
/-! DEFINITION. The named operations every meaning is built from: register words and fields, byte strings, free values,
the output record, and raising an event source. -/

namespace Sys2Proof.Machine

abbrev Result := Host.Outcome State Fault Refusal

/-! ## Register words and fields -/

/-- The word of the register at address `a`. -/
def State.rd (s : State) (a : Nat) : Word := Tab.get Reg.reset s.regs a

/-- Set the word of the register at address `a`. -/
def State.wr (s : State) (a : Nat) (v : Word) : State := { s with regs := Tab.set Reg.reset s.regs a v }

/-- A 64-bit register, by the address of its low word. -/
def State.rd64 (s : State) (a : Nat) : DWord := (s.rd (a + 4) ++ s.rd a : BitVec 64)

def State.wr64 (s : State) (a : Nat) (v : DWord) : State :=
  (s.wr a (v.truncate 32)).wr (a + 4) ((v >>> 32).truncate 32)

/-- The mask of bits `hi` to `lo`. -/
def fieldMask (hi lo : Nat) : Word := BitVec.ofNat 32 ((2 ^ (hi + 1 - lo) - 1) <<< lo)

/-- Bits `hi` to `lo` of a word, as a number. -/
def fieldOf (w : Word) (hi lo : Nat) : Nat := (w.toNat >>> lo) % 2 ^ (hi + 1 - lo)

/-- A word with bits `hi` to `lo` replaced by `n` (taken modulo the field's width). -/
def setFieldOf (w : Word) (hi lo n : Nat) : Word :=
  (w &&& ~~~ fieldMask hi lo) ||| (BitVec.ofNat 32 (n <<< lo) &&& fieldMask hi lo)

/-- Field `hi:lo` of the register at `a`. -/
def State.fld (s : State) (a hi lo : Nat) : Nat := fieldOf (s.rd a) hi lo

/-- Set field `hi:lo` of the register at `a`. -/
def State.setf (s : State) (a hi lo n : Nat) : State := s.wr a (setFieldOf (s.rd a) hi lo n)

def State.bit (s : State) (a i : Nat) : Bool := (s.rd a).getLsbD i

/-- The hardware sets or clears bit `i`; a bit set is noted for the rest of its cycle (R10). -/
def State.setb (s : State) (a i : Nat) (b : Bool) : State :=
  { s.setf a i i b.toNat with cyc := s.cyc.note s.stime.cycle a i b }

/-- The model's record of the present cycle. -/
def State.cycNow (s : State) : CycleSt := s.cyc.of s.stime.cycle

/-- The bits of the word at `a` that the hardware has set in this cycle: a W1C write of the cycle leaves them (R10). -/
def State.hwSets (s : State) (a : Nat) : Word := Tab.get (fun _ => 0) (s.cyc.of s.stime.cycle).sets a

/-- Software clears the bits `m` of the word at `a` by writing 1 to them; a bit that the hardware sets in the same cycle stays
(R10). -/
def State.w1c (s : State) (a : Nat) (m : Word) : State := s.wr a (s.rd a &&& ~~~(m &&& ~~~ s.hwSets a))

/-- The set bits of a word, lowest first. -/
def bitsOf (w : BitVec n) : List Nat := (List.range n).filter w.getLsbD

/-- How many bits of a word are set. -/
def popCount (w : BitVec n) : Nat := (bitsOf w).length

/-- The `k` lowest set bits of a word. -/
def lowBits (w : BitVec n) (k : Nat) : BitVec n := BitVec.ofNat n (((bitsOf w).take k).map (2 ^ ·)).sum

/-- A one-time programmable word with `k` more bits set, in ascending order. -/
def burnBits (w : BitVec n) (k : Nat) : BitVec n := w ||| lowBits (~~~w) k

/-- A 32-bit register as a number. -/
def State.rdn (s : State) (a : Nat) : Nat := (s.rd a).toNat

/-- Add 1 to field `hi:lo`, saturating at all ones. -/
def State.incSat (s : State) (a hi lo : Nat) : State :=
  let v := s.fld a hi lo
  if v + 1 < 2 ^ (hi + 1 - lo) then s.setf a hi lo (v + 1) else s

/-- Add `n` to a 64-bit counter, saturating. -/
def State.addSat64 (s : State) (a n : Nat) : State :=
  s.wr64 a (BitVec.ofNat 64 (min ((s.rd64 a).toNat + n) (2 ^ 64 - 1)))

/-- Registers in the address range `lo` to `hi - 1` return to their reset values. -/
def State.resetRegs (s : State) (lo hi : Nat) : State :=
  { s with regs := Tab.clear s.regs (fun a => lo ≤ a && a < hi) }

/-! ## Byte strings -/

/-- `n` as `k` bytes, least significant first (R3). -/
def leBytes : Nat → Nat → Bytes
  | 0, _ => []
  | k + 1, n => BitVec.ofNat 8 n :: leBytes k (n / 256)

/-- `n` as `k` bytes, most significant first (R4). -/
def beBytes (k n : Nat) : Bytes := (leBytes k n).reverse

def ofLe : Bytes → Nat
  | [] => 0
  | b :: r => b.toNat + 256 * ofLe r

def ofBe (b : Bytes) : Nat := ofLe b.reverse

/-- `n` bytes from offset `o`; bytes past the end read 0. -/
def slice (b : Bytes) (o n : Nat) : Bytes := (List.range n).map fun i => b.getD (o + i) 0

/-- The little-endian number in `n` bytes from offset `o`. -/
def leAt (b : Bytes) (o n : Nat) : Nat := ofLe (slice b o n)

def beAt (b : Bytes) (o n : Nat) : Nat := ofBe (slice b o n)

def zeros (n : Nat) : Bytes := List.replicate n 0

def xorBytes (a b : Bytes) : Bytes := List.zipWith (· ^^^ ·) a b

/-- `n` bytes of registers from address `a`, the byte at the lowest address first. -/
def State.regBytes (s : State) (a n : Nat) : Bytes :=
  (List.range n).map fun i => ((s.rd (a + i / 4 * 4)) >>> (8 * (i % 4))).truncate 8

/-- Write the words that hold bytes `b` from register address `a` (its length a multiple of 4). -/
def State.setRegBytes (s : State) (a : Nat) (b : Bytes) : State :=
  (List.range (b.length / 4)).foldl (fun s i => s.wr (a + 4 * i) (BitVec.ofNat 32 (leAt b (4 * i) 4))) s

/-- One step of the reflected CRC-32C register for one bit. -/
def crcBit (c : Nat) : Nat := if c % 2 = 1 then (c / 2) ^^^ 0x82F63B78 else c / 2

def crcByte (c : Nat) (b : Byte) : Nat := (List.range 8).foldl (fun c _ => crcBit c) (c ^^^ b.toNat)

/-- CRC-32C (polynomial 0x1EDC_6F41, Table SCO-7), initial value and final XOR all ones. -/
def crc32c (b : Bytes) : Nat := (b.foldl crcByte 0xFFFFFFFF) ^^^ 0xFFFFFFFF

/-! ## Free values and the output record -/

/-- Take a free word (log entry 4). -/
def State.freshWord (s : State) : DWord × State := (Config.freeWord s.freeCtr, { s with freeCtr := s.freeCtr + 1 })

/-- Take `n` free bytes. -/
def State.freshBytes (s : State) (n : Nat) : Bytes × State :=
  ((List.range n).map (Config.freeByte s.freeCtr), { s with freeCtr := s.freeCtr + 1 })

def State.emit (s : State) (o : Output) : State := { s with out := s.out ++ [o] }

/-! ## STIME as other chapters read it -/

def State.ns (s : State) : Nat := s.stime.ns.toNat

/-- VALID of TIME_STAT. -/
def State.timeValid (s : State) : Bool := s.bit Reg.TIME_STAT 0

/-! ## Event sources (24) -/

/-- Whether source `n`'s status bit is set. -/
def State.evtStatus (s : State) (n : Nat) : Bool := s.bit (Reg.EVT_STATUS (n / 32)) (n % 32)

def State.clearEvt (s : State) (n : Nat) : State := s.setb (Reg.EVT_STATUS (n / 32)) (n % 32) false

/-- The folio a source belongs to (R910). -/
def State.sourceFolio (s : State) (n : Nat) : Nat :=
  if n < 128 then s.fld (Reg.RING_CFG n) 29 24
  else if n < 192 then n - 128
  else if n < 256 then n - 192
  else 0

/-- Whether `v` lies in the FOL_VEC range of folio `f` (R506, R914). -/
def State.vectorOf (s : State) (f v : Nat) : Bool :=
  let base := s.fld (Reg.FOL_VEC f) 24 16
  base ≤ v && v < base + s.fld (Reg.FOL_VEC f) 9 0

/-- The reset value of an MSI-X table word: each vector starts masked (PCI Express Base, as Table HST-2 takes it up). -/
def msixReset (i : Nat) : Word := if i % 4 = 3 then 1 else 0

def State.msixWord (s : State) (i : Nat) : Nat := (Tab.get msixReset s.host.msixTab i).toNat

/-- Whether a vector may send now (R913). -/
def State.vectorOpen (s : State) (v : Nat) : Bool :=
  s.host.msixEnable && !s.host.funcMask && s.host.busMaster && s.msixWord (4 * v + 3) % 2 == 0

/-- Put `v` into a rising list without repeats. -/
def insertNat (v : Nat) : List Nat → List Nat
  | [] => [v]
  | x :: r => if v = x then x :: r else if v < x then v :: x :: r else x :: insertNat v r

/-- Put a message of vector `v` on the link, or hold it until the link is in L0 (R899). -/
def State.postMsix (s : State) (v : Nat) : State :=
  if s.host.linkL0 then
    s.emit (.msix v (s.msixWord (4 * v) + 2 ^ 32 * s.msixWord (4 * v + 1)) (s.msixWord (4 * v + 2)))
  else { s with host := { s.host with msixHeld := s.host.msixHeld ++ [v] } }

/-- One MSI-X message on vector `v`, or its PBA bit (R913). In a cycle in which the PBA bit has sent one, that message stands for both
(Table EVT-2). -/
def State.sendMsix (s : State) (v : Nat) : State :=
  if s.vectorOpen v then if s.cycNow.flushed.contains v then s else s.postMsix v
  else { s with host := { s.host with pba := insertNat v s.host.pba } }

/-- Send the message of each pending vector that has become able to send (R913). -/
def State.flushPba (s : State) : State :=
  s.host.pba.foldl (fun s v =>
    if s.vectorOpen v then
      let c := s.cycNow
      let p := s.host.pba.filter (· != v)
      State.postMsix { s with host := { s.host with pba := p }, cyc := { c with flushed := insertNat v c.flushed } } v
    else s) s

/-- The alert slot of source `n` (Table SMB-6). -/
def State.alertSlot (s : State) (n : Nat) : Nat :=
  s.fld (Reg.SMB_ALERT_SLOT (n / 16)) (2 * (n % 16) + 1) (2 * (n % 16))

/-- Whether SMBALERT# is asserted: a slot has PENDING set and MASK clear (R870), and VDDIO_B is powered (R949). -/
def State.alertAsserted (s : State) : Bool :=
  s.boot.ioB && (List.range 4).any fun i => s.bit Reg.SMB_ALERT i && !s.bit Reg.SMB_ALERT (4 + i)

/-- Drive SMBALERT# as R870 says, recording a change of level. -/
def State.driveAlert (before : Bool) (s : State) : State :=
  if s.alertAsserted = before then s else s.emit (.pin .smbAlertN (!s.alertAsserted))

/-- Set PENDING of alert slot `i` (R870). -/
def State.setAlert (s : State) (i : Nat) : State :=
  State.driveAlert s.alertAsserted (s.setb Reg.SMB_ALERT i true)

/-- MSI-X delivery of source `n` by its route (R913, R914). -/
def State.deliverMsix (s : State) (n : Nat) : State :=
  let v := s.fld (Reg.EVT_ROUTE n) 24 16
  let f := s.sourceFolio n
  if s.vectorOf f v then s.sendMsix v else s.setb (Reg.FOL_ERR f) 7 true

/-- Whether source `b` of Table PWR-3 wakes the device from power state `st` (Table PWR-1 codes). -/
def wakeFrom (b st : Nat) : Bool := match st with
  | 1 => [0, 1, 2, 6, 7, 8, 9, 10].contains b
  | 2 => [0, 1, 2, 6, 7, 8, 9, 10].contains b
  | 3 => [0, 1, 3, 4, 5, 6, 7, 8, 9, 10, 11].contains b
  | 4 => [4, 5, 8, 11].contains b
  | _ => false

/-- Drive CLKREQ_N low, or release it. -/
def State.driveClkreq (s : State) (low : Bool) : State :=
  if s.host.clkreq = low then s else State.emit { s with host := { s.host with clkreq := low } } (.pin .clkreqN (!low))

/-- The device asks for an exit of the link: by WAKE_N with PERST_N asserted, else, out of L1.1 and L1.2, by CLKREQ_N (R898). -/
def State.linkWake (s : State) : State :=
  if s.host.perst then
    if s.pwr.wakeOut then s else State.emit { s with pwr := { s.pwr with wakeOut := true } } (.pin .wakeN false)
  else if s.host.linkSub = .none then s else s.driveClkreq true

/-- Wake source `b` occurs: where it wakes the device it latches its cause and starts the exit (R895),
and, in NAP and DEEP_NAP, asks for the link (R898). Out of STANDBY the row WAKE wakes. In ACTIVE it breaks the dwell before an entry
(Table PWR-6). -/
def State.wakeBy (s : State) (b : Nat) : State :=
  if s.fld Reg.PWR_STAT 2 0 < 4 && wakeFrom b (s.fld Reg.PWR_STAT 2 0) then
    let s := if s.pwr.exiting then s else s.wr Reg.PWR_WAKE_LAST 0
    let s := (s.setb Reg.PWR_WAKE_CAUSE b true).setb Reg.PWR_WAKE_LAST b true
    let s := { s with pwr := { s.pwr with exiting := true } }
    if 2 ≤ s.fld Reg.PWR_STAT 2 0 then s.linkWake else s
  else { s with pwr := { s.pwr with busyAt := [s.stime.cycle, s.stime.cycle, s.stime.cycle] } }

/-- Leave a low-power state for what Table PWR-3 names no cause for: a request that has to be held (R901), an operation that waits for a
gated engine, a function-level reset (DEDUCED, log entry 62). -/
def State.exitBegin (s : State) : State :=
  if s.pwr.exiting || s.fld Reg.PWR_STAT 2 0 == 0 then s
  else { s.wr Reg.PWR_WAKE_LAST 0 with pwr := { s.pwr with exiting := true } }

/-- Latch interrupt `id` at a PLIC: its gateway forwards an asserted source once, until completion (R913, R919). -/
def PlicSt.latch (p : PlicSt) (id : Nat) : PlicSt :=
  if p.busy.contains id then p else { p with ip := insertNat id p.ip }

/-- Deliver a raise of source `n` by its route; `was` is its status bit before (R913). -/
def State.deliver (s : State) (n : Nat) (was : Bool) : State :=
  if s.bit (Reg.EVT_ROUTE n) 31 then
    match s.fld (Reg.EVT_ROUTE n) 29 27 with
    | 1 => (s.deliverMsix n).wakeBy 9
    | 2 => ({ s with plicS := s.plicS.latch (n + 1) }).wakeBy 9
    | 3 => ({ s with plicD := s.plicD.latch (n + 1) }).wakeBy 9
    | 4 => if was then s else s.setAlert (s.alertSlot n)
    | _ => s
  else s

/-- What `deliver` leaves behind that was not so before. -/
def State.deliveryOf (s : State) (n : Nat) (was : Bool) : Delivery :=
  let held (p : PlicSt) : Bool := p.ip.contains (n + 1) || p.busy.contains (n + 1)
  if s.bit (Reg.EVT_ROUTE n) 31 then
    match s.fld (Reg.EVT_ROUTE n) 29 27 with
    | 1 =>
      let v := s.fld (Reg.EVT_ROUTE n) 24 16
      let f := s.sourceFolio n
      if s.vectorOf f v then if s.vectorOpen v || s.host.pba.contains v then .none else .pba v
      else if s.bit (Reg.FOL_ERR f) 7 then .none else .vec f
    | 2 => if held s.plicS then .none else .plic .scribe
    | 3 => if held s.plicD then .none else .plic .draft
    | 4 => if was || s.bit Reg.SMB_ALERT (s.alertSlot n) then .none else .alert (s.alertSlot n)
    | _ => .none
  else .none

/-- Take back what a delivery of source `n` has left behind (Table EVT-2; a message already sent stays sent, log entry 14). -/
def State.undoDelivery (s : State) (n : Nat) (d : Delivery) : State := match d with
  | .none => s
  | .pba v => { s with host := { s.host with pba := s.host.pba.filter (· != v) } }
  | .plic .scribe => { s with plicS := { s.plicS with ip := s.plicS.ip.filter (· != n + 1) } }
  | .plic .draft => { s with plicD := { s.plicD with ip := s.plicD.ip.filter (· != n + 1) } }
  | .alert i => State.driveAlert s.alertAsserted (s.setb Reg.SMB_ALERT i false)
  | .vec f => s.setb (Reg.FOL_ERR f) 7 false

/-- Note a raise in the cycle's record, in place of one of the same source. -/
def State.noteRaise (s : State) (r : RaiseCyc) : State :=
  let c := s.cycNow
  { s with cyc := { c with raised := r :: c.raised.filter (·.source != r.source) } }

/-- The raise of source `n` that this cycle's record holds. -/
def State.raiseCyc (s : State) (n : Nat) : Option RaiseCyc := s.cycNow.raised.find? (·.source == n)

/-- Set source `n`'s status bit and deliver it, once in a cycle (R911). -/
def State.raiseOne (s : State) (n : Nat) : State :=
  let t := s.setb (Reg.EVT_STATUS (n / 32)) (n % 32) true
  match if s.evtStatus n then s.raiseCyc n else none with
  | some r => t.noteRaise { r with real := true }
  | none => (t.noteRaise ⟨n, s.evtStatus n, true, s.deliveryOf n (s.evtStatus n)⟩).deliver n (s.evtStatus n)

/-- Source `n` is routed to a vector outside its folio's range (R914). -/
def State.vectorBad (s : State) (n : Nat) : Bool :=
  s.bit (Reg.EVT_ROUTE n) 31 && s.fld (Reg.EVT_ROUTE n) 29 27 == 1 &&
    !s.vectorOf (s.sourceFolio n) (s.fld (Reg.EVT_ROUTE n) 24 16)

/-- Raise event source `n` (R911, R913). A VECTOR error that this sets is itself an error of the folio (Table EVT-1),
unless `n` is that folio's error source. -/
def State.raise (s : State) (n : Nat) : State :=
  let t := s.raiseOne n
  if s.vectorBad n && (decide (n < 192) || decide (256 ≤ n)) then t.raiseOne (192 + s.sourceFolio n) else t

/-- Set bit `i` of FOL_ERR of folio `f`, an error of the folio (Table EVT-1). -/
def State.folErr (s : State) (f i : Nat) : State := (s.setb (Reg.FOL_ERR f) i true).raise (192 + f)

end Sys2Proof.Machine
end

