-- ==== Sys2Proof/Machine/Events.lean ====
section
/-! DEFINITION. Chapter 24: routes, status clears, the PLICs, and what the resets do to events. -/

namespace Sys2Proof.Machine

/-! ## Ring pairs by local number (R543, R548) -/

/-- Ring pair `r` is placed as local pair `k` of folio `f`: its RING_CFG has been programmed so. -/
def State.placedAs (s : State) (f k r : Nat) : Bool :=
  s.rdn (Reg.RING_CFG r) != 0 && s.fld (Reg.RING_CFG r) 29 24 == f && s.fld (Reg.RING_CFG r) 19 16 == k

/-- The ring pair with local number `k` in folio `f`: the one that is not DISABLED, else the lowest-numbered placed. -/
def State.localRing (s : State) (f k : Nat) : Option Nat :=
  let c := (List.range 128).filter (s.placedAs f k)
  match c.find? fun r => s.fld (Reg.RING_STAT r) 31 30 != 0 with
  | some r => some r
  | none => c.head?

/-! ## Routes (R912, R916, R918) -/

def routeEn (w : Word) : Bool := w.getLsbD 31
def routeTarget (w : Word) : Nat := fieldOf w 29 27

/-- `new` makes an enabled route that `old` was not (R916). -/
def routeFresh (old new : Word) : Bool := routeEn new && !(routeEn old && routeTarget old == routeTarget new)

/-- Store route `new` of source `n`, whose route before this cycle was `old`. A status bit already set is delivered when the route newly
reaches its target (R916); a raise of the same cycle is delivered under the new route (Table EVT-2). -/
def State.setRouteFrom (s : State) (n : Nat) (old new : Word) : State :=
  match s.raiseCyc n with
  | none =>
    let s := s.wr (Reg.EVT_ROUTE n) new
    if routeFresh old new && s.evtStatus n then
      (s.noteRaise ⟨n, true, false, s.deliveryOf n false⟩).deliver n false
    else s
  | some r =>
    if s.rd (Reg.EVT_ROUTE n) = new then s
    else
      let s := (s.undoDelivery n r.done).wr (Reg.EVT_ROUTE n) new
      let was := r.was && !routeFresh old new
      if s.evtStatus n && (r.real || routeFresh old new) then
        (s.noteRaise { r with done := s.deliveryOf n was }).deliver n was
      else s.noteRaise { r with done := .none }

def State.setRoute (s : State) (n : Nat) (new : Word) : State :=
  s.setRouteFrom n (s.rd (Reg.EVT_ROUTE n)) new

/-- Party `p` may write the route of source `n`, now `cur`, with target `t` (Table EVT-3). -/
def mayRoute (cur : Word) (p : Party) (n t : Nat) : Bool := match p with
  | .scribe => true
  | .manager => decide (n < 256) && decide (t ≤ 1)
  | .draft => decide (256 ≤ n) && (routeTarget cur == 0 || routeTarget cur == 3) && (t == 0 || t == 3)
  | _ => false

/-- The parties that EVT_ROUTEn's header names (Table EVT-7). -/
def reachesRoutes : Party → Bool
  | .scribe => true
  | .draft => true
  | .manager => true
  | _ => false

/-- A write of `v` to the route `cur` of source `n` is refused (R912, R918): locked, a reserved TARGET, or not permitted. -/
def routeRefused (cur : Word) (p : Party) (n : Nat) (v : Word) : Bool :=
  cur.getLsbD 30 || decide (5 ≤ routeTarget v) || !mayRoute cur p n (routeTarget v)

/-- The route that a write of `v` by party `p` leaves (Table EVT-8). -/
def routeWord (p : Party) (v : Word) : Word :=
  let w := setFieldOf (setFieldOf (setFieldOf 0 31 31 (fieldOf v 31 31)) 29 27 (routeTarget v)) 24 16 (fieldOf v 24 16)
  if p = .scribe then setFieldOf w 30 30 (fieldOf v 30 30) else w

/-- The order of the parties' writes to one route in one cycle (Table EVT-2). -/
def routeRank : Party → Nat
  | .scribe => 0
  | .manager => 1
  | _ => 2

/-- The route after the writes of one cycle. -/
def RouteCyc.now (r : RouteCyc) : Word :=
  r.writes.foldl (fun w x => if routeRefused w x.1 r.source x.2 then w else routeWord x.1 x.2) r.before

/-- Whether one of them is refused. -/
def RouteCyc.bad (r : RouteCyc) : Bool :=
  (r.writes.foldl (fun (w : Word × Bool) x =>
    if routeRefused w.1 x.1 r.source x.2 then (w.1, true) else (routeWord x.1 x.2, w.2)) (r.before, false)).2

/-- One more write, behind those of the parties that go first and of its own party. -/
def RouteCyc.add (r : RouteCyc) (p : Party) (v : Word) : RouteCyc :=
  { r with writes := r.writes.filter (fun x => decide (routeRank x.1 ≤ routeRank p)) ++
      (p, v) :: r.writes.filter (fun x => decide (routeRank p < routeRank x.1)) }

/-- The record of the routes written in this cycle, with one more write. -/
def State.routeCyc (s : State) (p : Party) (n : Nat) (v : Word) : RouteCyc :=
  ((s.cycNow.routes.find? (·.source == n)).getD ⟨n, s.rd (Reg.EVT_ROUTE n), []⟩).add p v

/-- EVT_ROUTE_WRITE (R912, R916, R918, Tables EVT-2 and EVT-8). -/
def execEvtRouteWrite (p : Party) (n : Nat) (v : Word) (s : State) : Result :=
  if 512 ≤ n || !reachesRoutes p then .next s
  else
    let c := s.cycNow
    let r := s.routeCyc p n v
    let rs := r :: c.routes.filter (·.source != n)
    let err0 := if c.routes.isEmpty then s.bit Reg.EVT_STAT 31 else c.routeErr
    let s := { s with cyc := { c with routes := rs, routeErr := err0 } }
    let s := if s.rd (Reg.EVT_ROUTE n) = r.now then s else s.setRouteFrom n r.before r.now
    .next (if rs.any RouteCyc.bad then s.setb Reg.EVT_STAT 31 true
      else if c.routes.any RouteCyc.bad && !err0 then s.setb Reg.EVT_STAT 31 false
      else s)

/-! ## Status clears (R917, R926, R929) -/

/-- Party `p` may clear the status of source `n` (Table EVT-3). -/
def State.mayClear (s : State) (p : Party) (n : Nat) : Bool :=
  let t := routeTarget (s.rd (Reg.EVT_ROUTE n))
  match p with
  | .scribe => true
  | .manager => decide (n < 256) || t == 1
  | .draft => decide (256 ≤ n) && (t == 0 || t == 3)
  | .bmc => t == 4
  | .tenant _ => false

/-- A party clears source `n`: a raise of the same cycle stays (R10, R917). -/
def State.dropEvt (s : State) (n : Nat) : State := s.w1c (Reg.EVT_STATUS (n / 32)) (BitVec.ofNat 32 (2 ^ (n % 32)))

/-- Clear the bits of group `g` that `v` names and the party may clear. -/
def State.clearGroup (s : State) (p : Party) (g : Nat) (v : Word) : State :=
  (List.range 32).foldl (fun s i => if v.getLsbD i && s.mayClear p (32 * g + i) then s.dropEvt (32 * g + i) else s) s

/-- EVT_STATUS_CLEAR (R917). -/
def execEvtStatusClear (p : Party) (g : Nat) (v : Word) (s : State) : Result :=
  if g < 16 then .next (s.clearGroup p g v) else .next s

/-- FOL_T_EVT as it reads in folio page `f` (R926). -/
def State.folTEvt (s : State) (f : Nat) : Word :=
  BitVec.ofNat 32 ((List.range 16).foldl (fun w k => match s.localRing f k with
    | some r => if s.evtStatus r then w + 2 ^ k else w
    | none => w) (if s.evtStatus (192 + f) then 65536 else 0))

/-- FOL_T_EVT (R926): a Tenant's W1C write through folio page `f`. -/
def execFolTEvt (f : Nat) (v : Word) (s : State) : Result :=
  if 64 ≤ f then .next s
  else
    let s := if v.getLsbD 16 then s.dropEvt (192 + f) else s
    .next ((List.range 16).foldl (fun s k => match s.localRing f k with
      | some r => if v.getLsbD k then s.dropEvt r else s
      | none => s) s)

/-- Function-level reset, and PERST_N after step 11: sources 0 to 255 and every PBA bit clear (R929). -/
def State.clearHostEvents (s : State) : State :=
  let s := (List.range 8).foldl (fun s g => s.wr (Reg.EVT_STATUS g) 0) s
  { s with host := { s.host with pba := [] } }

/-- RESET and DESTROY of folio `f`: the sources of its host-side interface clear (R929). -/
def State.clearFolioEvents (s : State) (f : Nat) : State :=
  let s := (List.range 128).foldl (fun s r =>
    if s.fld (Reg.RING_CFG r) 29 24 = f ∧ s.rdn (Reg.RING_CFG r) ≠ 0 then s.clearEvt r else s) s
  (s.clearEvt (128 + f)).clearEvt (192 + f)

/-! ## MSI-X -/

/-- MSIX_VECTOR_UNMASK (R913): vector `v` is unmasked and sends for its PBA bit when it is able to. -/
def execMsixVectorUnmask (v : Nat) (s : State) : Result :=
  if 512 ≤ v then .next s
  else
    let w := setFieldOf (Tab.get msixReset s.host.msixTab (4 * v + 3)) 0 0 0
    .next ({ s with host := { s.host with msixTab := Tab.set msixReset s.host.msixTab (4 * v + 3) w } }).flushPba

/-! ## PLICs (R919, R920) -/

def State.plicOf (s : State) : World → PlicSt
  | .scribe => s.plicS
  | .draft => s.plicD

def State.setPlic (s : State) (w : World) (p : PlicSt) : State := match w with
  | .scribe => { s with plicS := p }
  | .draft => { s with plicD := p }

def plicContexts : World → Nat
  | .scribe => 3
  | .draft => 16

def State.plicPrio (s : State) (w : World) (id : Nat) : Nat := match w with
  | .scribe => s.fld (Reg.SPLIC_PRIORITY id) 2 0
  | .draft => s.fld (Reg.DPLIC_PRIORITY id) 2 0

def State.plicEnabled (s : State) (w : World) (ctx id : Nat) : Bool := match w with
  | .scribe => s.bit (Reg.SPLIC_ENABLE ctx (id / 32)) (id % 32)
  | .draft => s.bit (Reg.DPLIC_ENABLE ctx (id / 32)) (id % 32)

/-- The level of a source at a PLIC (R913). -/
def State.plicLevel (s : State) (w : World) (id : Nat) : Bool :=
  let r := s.rd (Reg.EVT_ROUTE (id - 1))
  s.evtStatus (id - 1) && routeEn r && routeTarget r == (match w with | .scribe => 2 | .draft => 3)

/-- The interrupt a claim of a context returns: the pending enabled one of highest priority above 0, the lowest ID
first; 0 for none. -/
def State.plicBest (s : State) (w : World) (ctx : Nat) : Nat :=
  ((s.plicOf w).ip.filter fun id => id != 0 && s.plicEnabled w ctx id && s.plicPrio w id != 0).foldl
    (fun best id => if best = 0 ∨ s.plicPrio w best < s.plicPrio w id then id else best) 0

/-- PLIC_CLAIM (R919): a read of claim/complete of a context. -/
def execPlicClaim (w : World) (ctx : Nat) (s : State) : Result :=
  if plicContexts w ≤ ctx then .next (s.emit (.value 0))
  else
    let id := s.plicBest w ctx
    let p := s.plicOf w
    let s := if id = 0 then s else s.setPlic w { ip := p.ip.filter (· != id), busy := insertNat id p.busy }
    .next (s.emit (.value id))

/-- PLIC_COMPLETE (R919): a write of claim/complete; an ID not enabled for the context is ignored. A source still
asserted is forwarded again at once. -/
def execPlicComplete (w : World) (ctx id : Nat) (s : State) : Result :=
  if plicContexts w ≤ ctx ∨ id = 0 ∨ 512 < id then .next s
  else if !s.plicEnabled w ctx id || !(s.plicOf w).busy.contains id then .next s
  else
    let p := s.plicOf w
    let p := { p with busy := p.busy.filter (· != id) }
    .next (s.setPlic w (if s.plicLevel w id then p.latch id else p))

/-! ## Views -/

/-- EVT_SUMMARY as it reads (R932). -/
def State.evtSummary (s : State) : Word :=
  BitVec.ofNat 32 ((List.range 16).foldl (fun w g =>
    if (List.range 32).any fun i => s.evtStatus (32 * g + i) && routeEn (s.rd (Reg.EVT_ROUTE (32 * g + i))) then w + 2 ^ g
    else w) 0)

end Sys2Proof.Machine
end

