-- ==== Sys2Proof/Machine/Colophon.lean ====
section
/-! DEFINITION. Chapter 18, the Colophon: stamps, checkpoints, accumulators, epoch records, live view. -/

namespace Sys2Proof.Machine

/-! ## MRAM -/

def zeroByte (_ : Nat) : Byte := 0

def State.mramByte (s : State) (a : Nat) : Byte := Tab.get zeroByte s.colo.mram a

def State.mram (s : State) (a n : Nat) : Bytes := (List.range n).map fun i => s.mramByte (a + i)

def tabWrite (d : Nat → Byte) (t : Tab Byte) (a : Nat) : Bytes → Tab Byte
  | [] => t
  | b :: r => tabWrite d (Tab.set d t a b) (a + 1) r

def State.setMram (s : State) (a : Nat) (b : Bytes) : State :=
  { s with colo := { s.colo with mram := tabWrite zeroByte s.colo.mram a b } }

def State.mramNum (s : State) (a n : Nat) : Nat := ofLe (s.mram a n)

/-- EPOCH_SET and FULL in page 0 (Table COL-2). -/
def State.epochSet (s : State) : Bool := (s.mramByte 6).getLsbD 0
def State.coloFull (s : State) : Bool := (s.mramByte 6).getLsbD 1

/-- MAGIC of page 0 is valid (R747). -/
def State.coloMagic (s : State) : Bool := s.mramNum 0 4 == 0x304C4F43

/-- The epoch length in seconds. -/
def State.epochLen (s : State) : Nat := 3600 * 256 * 2 ^ (s.mramNum 0x20 1)

def State.epochBase (s : State) : Nat := s.mramNum 0x28 8

/-- The OPSEC at which the epoch in progress ends (R749). -/
def State.epochEnd (s : State) : Nat := s.epochBase + (s.colo.epoch + 1) * s.epochLen

/-! ## Checkpoints (R744) -/

def ckptAddr (i : Nat) : Nat := 0x200 + 0x20 * i

/-- Entry `i` of the ring, if its CRC is right: SEQ, PCC, OPSEC. -/
def State.ckpt (s : State) (i : Nat) : Option (Nat × Nat × Nat) :=
  let e := s.mram (ckptAddr i) 32
  if leAt e 28 4 = crc32c (slice e 0 28) then some (leAt e 0 4, leAt e 4 4, leAt e 8 8 % 2 ^ 40) else none

/-- The valid entry with the highest SEQ. -/
def State.curCkpt (s : State) : Option (Nat × Nat × Nat) :=
  ((List.range 16).filterMap s.ckpt).foldl
    (fun best e => match best with
      | none => some e
      | some b => if b.1 < e.1 then some e else some b) none

/-- The power-cycle count, kept only in MRAM (R745). -/
def State.pcc (s : State) : Nat := match s.curCkpt with
  | some c => c.2.1
  | none => 0

/-- Write a checkpoint of OPSEC and the power-cycle count `pcc`. -/
def State.checkpoint (s : State) (pcc : Nat) : State :=
  let seq := (match s.curCkpt with | some c => c.1 | none => 0) + 1
  let body := leBytes 4 seq ++ leBytes 4 pcc ++ leBytes 8 (s.colo.opsec % 2 ^ 40) ++ zeros 12
  s.setMram (ckptAddr (seq % 16)) (body ++ leBytes 4 (crc32c body))

/-! ## Accumulators (R753, Table COL-4) -/

def State.accGet (s : State) (off : Nat) : Nat := Tab.get (fun _ => 0) s.colo.acc off

/-- Add `n` to the count at `off`, `w` bytes wide, saturating; kept only once the epoch length is set (R762). -/
def State.accAdd (s : State) (off w n : Nat) : State :=
  if s.epochSet then
    let v := s.accGet off + n
    let m := 2 ^ (8 * w) - 1
    { s with colo := { s.colo with
        acc := Tab.set (fun _ => 0) s.colo.acc off (min v m)
        saturated := s.colo.saturated || decide (m ≤ v) } }
  else s

/-- Fold a reading into the extremes at positions `i` (lowest) and `i + 1` (highest). -/
def State.accExt (s : State) (i : Nat) (v : Int) : State :=
  if s.epochSet then
    let lo := match s.colo.ext.getD i none with | some x => min x v | none => v
    let hi := match s.colo.ext.getD (i + 1) none with | some x => max x v | none => v
    { s with colo := { s.colo with ext := (s.colo.ext.set i (some lo)).set (i + 1) (some hi) } }
  else s

/-- Bin of a junction temperature in °C. -/
def tjBin (t : Int) : Nat := if t < -40 then 0 else if 100 ≤ t then 15 else ((t + 50) / 10).toNat

/-- Bin of a core voltage in mV. -/
def vcoreBin (mv : Nat) : Nat := if mv < 830 then 0 else if 970 ≤ mv then 15 else (mv - 820) / 10

/-- Bin of a battery voltage in mV. -/
def vbatBin (mv : Nat) : Nat := if mv < 850 then 0 else if 1750 ≤ mv then 7 else (mv - 700) / 150

/-- Count an operation of KEY_OPS class `k`, 0 to 11 (Table COL-4). -/
def State.countKeyOp (s : State) (k : Nat) : State := s.accAdd (0x100 + 8 * k) 8 1

/-- Count a link event of LINK position `k`, 0 to 7. -/
def State.countLink (s : State) (k : Nat) : State := s.accAdd (0x1E0 + 4 * k) 4 1

/-- Count an ECC error of memory `k` (key SRAM, Scribe SRAM, shared SRAM, caches, MRAM). -/
def State.countEcc (s : State) (k : Nat) (corrected : Bool) : State :=
  s.accAdd (0x160 + 8 * k + if corrected then 0 else 4) 4 1

/-- Add bits to the field at `off`, kept only once the epoch length is set. -/
def State.accOr (s : State) (off v : Nat) : State :=
  if s.epochSet then
    { s with colo := { s.colo with acc := Tab.set (fun _ => 0) s.colo.acc off (s.accGet off ||| v) } }
  else s

/-- A count of BUSY is 10 ms: 8,000,000 CLK_FAB cycles. -/
def busyUnit : Nat := 8000000

/-- Engine `i` of BUSY has been busy for `k` more cycles (Table COL-4). -/
def State.busyAdd (s : State) (i k : Nat) : State :=
  let n := s.colo.busy.getD i 0 + k
  if s.epochSet then
    State.accAdd { s with colo := { s.colo with busy := s.colo.busy.set i (n % busyUnit) } } (0xE0 + 4 * i) 4 (n / busyUnit)
  else s

def State.countAlarm (s : State) (cause : Nat) : State := s.accAdd (0x188 + 2 * cause) 2 1

/-- Count a tamper cause; causes 16 and above are ESCALATED. -/
def State.countTamper (s : State) (cause : Nat) : State := s.accAdd (0x198 + 2 * min cause 16) 2 1

/-- Count an in-service slice of partition `p`. -/
def State.countProof (s : State) (p : Nat) (failed : Bool) : State :=
  let s := s.accAdd (0x210 + 6 * p) 4 1
  if failed then s.accAdd (0x210 + 6 * p + 4) 2 1 else s

/-! ## Records (Table COL-3) -/

def int8 (v : Int) : Bytes := [BitVec.ofInt 8 v]
def int16 (v : Int) : Bytes := leBytes 2 (v % 65536).toNat

/-- The extremes field; a value with no reading in the epoch is one the spec does not state, given as `free`. -/
def extBytes (ext : List (Option Int)) (free : Bytes) : Bytes :=
  let b1 := fun i => match ext.getD i none with | some v => int8 v | none => slice free i 1
  let b2 := fun i => match ext.getD i none with | some v => int16 v | none => slice free (2 * i - 4) 2
  b1 0 ++ b1 1 ++ b1 2 ++ b1 3 ++ b2 4 ++ b2 5 ++ b2 6 ++ b2 7 ++ zeros 4

/-- `k` accumulators of `w` bytes from offset `off`. -/
def State.accBytes (s : State) (off w k : Nat) : Bytes :=
  ((List.range k).map fun i => leBytes w (s.accGet (off + w * i))).flatten

/-- The first 0x3FC bytes of the record of the epoch in progress, ended at the current OPSEC. -/
def State.recordBody (s : State) (free : Bytes) : Bytes :=
  let flags := (if s.colo.gap then 1 else 0) + (if s.timeValid then 2 else 0) + (if s.colo.saturated then 4 else 0)
  leBytes 4 0x454C4F43 ++ leBytes 2 1 ++ leBytes 2 flags ++ leBytes 4 s.colo.epoch ++ leBytes 4 s.colo.pccStart
    ++ leBytes 8 (s.colo.opsecStart % 2 ^ 40) ++ leBytes 8 (s.colo.opsec % 2 ^ 40) ++ leBytes 4 s.pcc ++ zeros 4
    ++ leBytes 8 (if s.timeValid then s.ns else 0)
    ++ s.accBytes 0x30 4 16 ++ s.accBytes 0x70 4 16 ++ s.accBytes 0xB0 4 8 ++ extBytes s.colo.ext free
    ++ s.accBytes 0xE0 4 7 ++ zeros 4 ++ s.accBytes 0x100 8 12 ++ s.accBytes 0x160 4 10
    ++ s.accBytes 0x188 2 7 ++ zeros 2 ++ s.accBytes 0x198 2 17 ++ zeros 2 ++ s.accBytes 0x1BC 2 8
    ++ s.accBytes 0x1CC 2 4 ++ zeros 12 ++ s.accBytes 0x1E0 4 8 ++ zeros 16
    ++ ((List.range 20).map fun p => leBytes 4 (s.accGet (0x210 + 6 * p)) ++ leBytes 2 (s.accGet (0x214 + 6 * p))).flatten
    ++ leBytes 4 (s.accGet 0x288) ++ leBytes 4 (s.fld Reg.PROOF_STAT 19 0) ++ zeros 364

/-- Clear the accumulators and start epoch `e` at the current OPSEC (R748, R750). -/
def State.startEpoch (s : State) (e : Nat) : State :=
  { s with colo := { s.colo with
      epoch := e, acc := [], busy := [0, 0, 0, 0, 0, 0, 0], ext := [none, none, none, none, none, none, none, none], saturated := false, gap := false
      pccStart := s.pcc, opsecStart := s.colo.opsec } }

/-- COLO_STAT as it reads: FULL, EPOCH_SET and EPOCH_CODE from MRAM, GAP_PENDING and CUR_EPOCH from the Blotter domain,
BUSY while a record waits to be verified (Table COL-7). -/
def State.coloStat (s : State) : Word :=
  let w := s.rd Reg.COLO_STAT
  let w := setFieldOf w 31 31 s.coloFull.toNat
  let w := setFieldOf w 30 30 s.epochSet.toNat
  let w := setFieldOf w 29 29 s.colo.gap.toNat
  let w := setFieldOf w 27 27 (!s.colo.snaps.isEmpty).toNat
  let w := setFieldOf w 25 24 (s.mramNum 0x20 1)
  setFieldOf w 8 0 (if s.coloFull then 508 else s.colo.epoch)

/-- COLO_NEXT_CLOSE as it reads (R765). -/
def State.coloNextClose (s : State) : Nat := if s.epochSet && !s.coloFull then s.epochEnd else 2 ^ 64 - 1

/-! ## What other chapters do to the Colophon -/

/-- First power and power-cycle count at step 2 of Table BOO-1 (R745 to R747, R751, R755); `counts` says that this is a rise of
PORST_N or an exit from STANDBY. -/
def State.coloStep2 (s : State) (counts : Bool) : State :=
  let s := if s.coloMagic then
      let s := if s.colo.lost then
          { s with colo := { s.colo with
              opsec := (match s.curCkpt with | some c => c.2.2 | none => 0)
              acc := [], busy := [0, 0, 0, 0, 0, 0, 0], ext := [none, none, none, none, none, none, none, none]
              saturated := false, snaps := []
              epoch := if s.epochSet then ((match s.curCkpt with | some c => c.2.2 | none => 0) - s.epochBase) / s.epochLen else 0
              gap := s.epochSet
              pccStart := s.pcc
              opsecStart := (match s.curCkpt with | some c => c.2.2 | none => 0) } }
        else s
      if counts then s.checkpoint (s.pcc + 1) else s
    else
      let s := s.setMram 0 (leBytes 4 0x304C4F43 ++ leBytes 2 1 ++ leBytes 2 0 ++ leBytes 8 (s.rd64 Reg.BOOT_SERIAL).toNat
        ++ leBytes 4 (s.rdn Reg.BOOT_IDENT) ++ zeros 4 ++ leBytes 8 (2 ^ 64 - 1))
      let s := { s with colo := { s.colo with opsec := 0 } }
      let body := leBytes 4 1 ++ leBytes 4 1 ++ leBytes 8 0 ++ zeros 12
      s.setMram (ckptAddr 1) (body ++ leBytes 4 (crc32c body))
  { s with colo := { s.colo with running := true, lost := false } }

/-- FIRST_STIME, written once, when VALID is first set in the unit's life (R747). -/
def State.coloFirstStime (s : State) : State :=
  if s.coloMagic && s.mramNum 0x18 8 == 2 ^ 64 - 1 then s.setMram 0x18 (leBytes 8 s.ns) else s

/-- The once-only epoch length at step 8 of boot (R748). -/
def State.coloSetEpoch (s : State) (code : Nat) : State :=
  if s.epochSet then s else
    let s := s.setMram 0x20 (leBytes 1 code)
    let s := s.setMram 0x24 (leBytes 4 s.pcc)
    let s := s.setMram 0x28 (leBytes 8 s.colo.opsec)
    let s := s.setMram 6 [s.mramByte 6 ||| 1]
    s.startEpoch 0

/-- The Blotter domain loses its accumulators and OPSEC (R707). -/
def State.coloBlotterLoss (s : State) : State :=
  { s with colo := { s.colo with acc := [], snaps := [], opsec := 0, gap := false, running := false, lost := true } }

/-! ## Commands -/

/-- OPSEC has reached the end of the epoch, and the epoch has not been closed. -/
def State.closeDue (s : State) : Bool := s.epochSet && decide (s.epochEnd ≤ s.colo.opsec)

/-- Snapshot the accumulators and start the next epoch (R750); once the record is full none is written (R756). -/
def State.epochClose (s : State) : State :=
  let (free, s) := s.freshBytes 12
  let body := s.recordBody free
  let e := s.colo.epoch
  let s := s.startEpoch (e + 1)
  if s.coloFull || decide (508 ≤ e) then s.checkpoint s.pcc
  else { s with colo := { s.colo with snaps := s.colo.snaps ++ [(e, body ++ leBytes 4 (crc32c body))] } }

/-- A close that is due comes before whatever ends its Blotter clock cycle (R749, R763). -/
def State.closeFirst (s : State) : State := if s.closeDue then s.epochClose else s

/-- OPSEC_TICK (R743, R744, R749, R753): one operating second, with the mean VDD_CORE over it in mV. -/
def execOpsecTick (vcoreMv : Nat) (s : State) : Result :=
  if s.colo.running then
    let s := s.closeFirst
    let s := { s with colo := { s.colo with opsec := (s.colo.opsec + 1) % 2 ^ 40 } }
    let s := s.accAdd (0x30 + 4 * tjBin (BitVec.ofNat 8 (s.fld Reg.BLOT_SENSE 31 24)).toInt) 4 1
    let s := s.accAdd (0x70 + 4 * vcoreBin vcoreMv) 4 1
    .next (if s.colo.opsec % 3600 = 0 then s.checkpoint s.pcc else s)
  else .next s

/-- EPOCH_CLOSE (R749, R750, R756): at the end of the epoch, snapshot the accumulators and start the next epoch. -/
def execEpochClose (s : State) : Result := .next s.closeFirst

/-- The record of epoch `e` has been verified in its page (R750, R756). -/
def State.recordVerified (s : State) (e : Nat) : State :=
  let s := (s.checkpoint s.pcc).raise 511
  if e = 507 then
    let s := s.setMram 0x30 (leBytes 4 (s.colo.opsec / 3600))
    (s.setMram 6 [s.mramByte 6 ||| 2]).raise 511
  else s

/-- COLO_SNAP (R758): copy the accumulators of the epoch in progress into the COLO_LIVE window. -/
def execColoSnap (s : State) : Result :=
  let (free, s) := s.freshBytes 12
  .next { s with colo := { s.colo with live := s.recordBody free ++ zeros 4 } }

end Sys2Proof.Machine
end

