-- ==== Sys2Proof/Machine/Memory.lean ====
section
/-! DEFINITION. Chapter 20 and the physical map: byte memories, error correction and poison, capture and counters. -/

namespace Sys2Proof.Machine

/-! ## The physical map (Table EVT-4) -/

inductive Mem where
  | rom | scribe | shared | flash | mmioScribe | mmioShared | pcieOut | none
  deriving DecidableEq, Repr

def memOf (a : Nat) : Mem :=
  if a < 0x40000 then .rom
  else if 0x10000000 ≤ a ∧ a < 0x10400000 then .scribe
  else if 0x20000000 ≤ a ∧ a < 0x22000000 then .shared
  else if 0x40000000 ≤ a ∧ a < 0x80000000 then .flash
  else if 0x100000000 ≤ a ∧ a < 0x140000000 then .mmioScribe
  else if 0x140000000 ≤ a ∧ a < 0x180000000 then .mmioShared
  else if 0x8000000000 ≤ a ∧ a < 0x10000000000 then .pcieOut
  else .none

/-- The range lies wholly in Scribe SRAM or wholly in shared SRAM. -/
def inSram (a n : Nat) : Bool :=
  decide (0x10000000 ≤ a ∧ a + n ≤ 0x10400000) || decide (0x20000000 ≤ a ∧ a + n ≤ 0x22000000)

/-- The error-corrected memory at an address, as Table MEM-9 numbers it: 0 ROM, 1 Scribe SRAM, 2 shared SRAM. -/
def eccMem (a : Nat) : Nat := match memOf a with
  | .rom => 0
  | .scribe => 1
  | _ => 2

/-! ## Byte access -/

/-- The boot ROM's content, fixed by the part and not given by the spec (log entry 4). -/
def romByte (a : Nat) : Byte := Config.romByte a

def onesByte (_ : Nat) : Byte := 0xFF

/-- The flash size in bytes (R806). -/
def State.flashSize (s : State) : Nat := s.fld Reg.MEM_XSPI_CFG 15 0 * 1048576

/-- Flash offset `o`; offsets at or beyond the density read as all ones (R807). -/
def State.flashByte (s : State) (o : Nat) : Byte := if o < s.flashSize then Tab.get onesByte s.mem.flash o else 0xFF

/-- The byte of memory at internal address `a`. -/
def State.memByte (s : State) (a : Nat) : Byte := match memOf a with
  | .rom => romByte a
  | .scribe => Tab.get zeroByte s.mem.sram a
  | .shared => Tab.get zeroByte s.mem.sram a
  | .flash => s.flashByte (a - 0x40000000)
  | _ => 0

def State.memBytes (s : State) (a n : Nat) : Bytes := (List.range n).map fun i => s.memByte (a + i)

def State.flashBytes (s : State) (o n : Nat) : Bytes := (List.range n).map fun i => s.flashByte (o + i)

/-- The aligned 64-bit words that `n` bytes from `a` touch. -/
def wordsOf (a n : Nat) : List Nat :=
  if n = 0 then [] else (List.range ((a + n - 1) / 8 - a / 8 + 1)).map fun i => 8 * (a / 8 + i)

/-- The word is wholly inside the range. -/
def wholeWord (a n w : Nat) : Bool := decide (a ≤ w ∧ w + 8 ≤ a + n)

def State.isBad (s : State) (w : Nat) : Bool := Tab.get (fun _ => 0) s.mem.bad w != 0

/-- A word in the range is known uncorrectable or poisoned. -/
def State.poisoned (s : State) (a n : Nat) : Bool := (wordsOf a n).any s.isBad

def State.setBad (s : State) (w syn1 : Nat) : State :=
  { s with mem := { s.mem with bad := Tab.set (fun _ => 0) s.mem.bad w syn1 } }

/-- The memories are in canonical form: SRAM over bytes that read 0, flash over cells that read erased. -/
abbrev Memory.wf (m : MemSt) : Prop := Tab.wf zeroByte m.sram ∧ Tab.wf onesByte m.flash

/-- Store bytes in SRAM, with new check bits for whole words (R800) and no pending write-back of the words written
(R791). -/
def State.sramWrite (s : State) (a : Nat) (b : Bytes) : State :=
  let ws := wordsOf a b.length
  { s with mem := { s.mem with
      sram := tabWrite zeroByte s.mem.sram a b
      bad := Tab.clear s.mem.bad (fun w => ws.contains w && wholeWord a b.length w)
      fix := s.mem.fix.filter fun w => !ws.contains w } }

/-- Store bytes in flash cells. -/
def State.flashWrite (s : State) (o : Nat) (b : Bytes) : State :=
  { s with mem := { s.mem with flash := tabWrite onesByte s.mem.flash o b } }

/-! ## Counters, events and capture -/

/-- Raise `n` unless it was raised less than 1 ms (800,000 cycles) ago. -/
def State.raiseLimited (s : State) (n : Nat) : State :=
  let last := Tab.get (fun _ => 0) s.lastRaise n
  if last = 0 ∨ last + 800000 ≤ s.stime.cycle + 1 then
    ({ s with lastRaise := Tab.set (fun _ => 0) s.lastRaise n (s.stime.cycle + 1) }).raise n
  else s

/-- The Colophon's ECC position of memory `m` of Table MEM-9 (Table COL-3); boot ROM has none. -/
def coloEcc (m : Nat) : Option Nat := if m = 0 then none else some m

def State.countEccOf (s : State) (m : Nat) (corrected : Bool) : State :=
  match coloEcc m with
  | some k => s.countEcc k corrected
  | none => s

/-- A correctable error of memory `m`: count it once, with its events (R791, R804). -/
def State.eccCorrected (s : State) (m : Nat) : State :=
  let was := s.fld (Reg.MEM_ECC m) 31 16
  let s := (s.incSat (Reg.MEM_ECC m) 31 16).countEccOf m true
  let s := s.raiseLimited (if m = 0 then 488 else 478 + 2 * m)
  let t := s.fld Reg.MEM_ECC_CTL 15 0
  if t ≠ 0 ∧ was ≠ t ∧ s.fld (Reg.MEM_ECC m) 31 16 = t then s.raise 490 else s

/-- Capture an uncorrectable error (R803). -/
def State.eccCapture (s : State) (m kind init w syn : Nat) : State :=
  if s.bit Reg.MEM_ERR_INFO 31 then s.setb Reg.MEM_ERR_INFO 30 true
  else
    let s := s.wr64 Reg.MEM_ERR_ADDR (BitVec.ofNat 64 w)
    let i := Reg.MEM_ERR_INFO
    let s := ((((s.setf i 29 27 m).setf i 26 25 kind).setf i 24 20 init).setf i 15 0 syn).setb i 31 true
    s.raise (if m = 0 then 488 else 479 + 2 * m)

/-- An uncorrectable error of memory `m` at word `w`: count it and capture it (R792, R803). -/
def State.eccUncorrected (s : State) (m kind init w syn : Nat) : State :=
  ((s.incSat (Reg.MEM_ECC m) 15 0).countEccOf m false).eccCapture m kind init w syn

/-- The syndrome of a word written back as poison: correct check bits XOR 0x03 (R792). -/
def poisonSyn : Nat := 0x03

/-- Every word of the cache line that holds word `w` becomes poison at its home address (R794). -/
def State.poisonLine (s : State) (w : Nat) : State :=
  let n := 2 ^ Config.lineLog
  (List.range n).foldl (fun s i => s.setBad (w / (8 * n) * (8 * n) + 8 * i) (poisonSyn + 1)) s

/-- Read one word: what its check finds, with the word's earlier mark; answers whether the data is poisoned (R791, R792, R794). Lines of
boot ROM are never dirty. -/
def State.eccRead (s : State) (kind init w : Nat) (e : EccFind) : State × Bool :=
  let m := eccMem w
  if s.isBad w then (s.eccUncorrected m kind init w (Tab.get (fun _ => 0) s.mem.bad w - 1), true)
  else match e with
    | .clean => (s, false)
    | .corrected _ =>
      let s := s.eccCorrected m
      (if m = 0 then s else { s with mem := { s.mem with fix := insertNat w s.mem.fix } }, false)
    | .uncorrectable syn => ((s.eccUncorrected m kind init w syn).setBad w (syn + 1), true)
    | .cacheLine | .cacheCorrected => (s.eccCorrected 3, false)
    | .cacheWord syn evicted =>
      if m = 0 then (s.eccCorrected 3, false)
      else ((s.eccUncorrected 3 (if evicted then 3 else kind) init w syn).setBad w (poisonSyn + 1), true)
    | .cacheTag syn =>
      if m = 0 then (s.eccCorrected 3, false) else ((s.eccUncorrected 3 kind init w syn).poisonLine w, true)

/-- Read every word of a range; `e` is what the first word's check finds. -/
def State.eccReadRange (s : State) (init a n : Nat) (e : EccFind) : State × Bool :=
  ((wordsOf a n).zipIdx).foldl (fun (p : State × Bool) w =>
    let r := p.1.eccRead 0 init w.1 (if w.2 = 0 then e else .clean)
    (r.1, p.2 || r.2)) (s, false)

/-- The first word that a write covers only in part and that holds an uncorrectable error or poison (R799). -/
def State.badPartial (s : State) (a n : Nat) : Option Nat :=
  (wordsOf a n).find? fun w => !wholeWord a n w && s.isBad w

/-- What the check behind a write finds: of its first partly written word, or of the cache line of its first word (R794, R798). -/
def State.writeFind (s : State) (init a n : Nat) (e : EccFind) : State :=
  match (wordsOf a n).head?, (wordsOf a n).find? (fun w => !wholeWord a n w), e with
  | _, some w, .corrected _ => if s.isBad w then s else s.eccCorrected (eccMem w)
  | _, some w, .uncorrectable syn => if s.isBad w then s else s.setBad w (syn + 1)
  | _, _, .cacheLine => s.eccCorrected 3
  | _, some _, .cacheCorrected => s.eccCorrected 3
  | _, some w, .cacheWord _ _ => if s.isBad w then s else s.setBad w (poisonSyn + 1)
  | some w, _, .cacheTag syn => (s.eccUncorrected 3 1 init w syn).poisonLine w
  | _, _, _ => s

/-- A write under the partial-write rules: whether it is performed (R798, R799). A word found bad in a cache is counted there. -/
def State.eccWriteCheck (s : State) (init a n : Nat) (e : EccFind) : State × Bool :=
  let s := s.writeFind init a n e
  match s.badPartial a n, e with
  | none, _ => (s, true)
  | some _, .cacheTag _ => (s.raise 489, false)
  | some w, _ =>
    let m := match e with | .cacheWord _ _ => 3 | _ => eccMem w
    ((s.eccUncorrected m 1 init w (Tab.get (fun _ => 0) s.mem.bad w - 1)).raise 489, false)

/-- Write bytes to SRAM under the partial-write rules; false when the write is refused (R798 to R800). `e` is what the read of a partly
written first word finds. -/
def State.eccWrite (s : State) (init a : Nat) (b : Bytes) (e : EccFind) : State × Bool :=
  let r := s.eccWriteCheck init a b.length e
  if r.2 then (r.1.sramWrite a b, true) else r

/-! ## Mailbox buffers -/

/-- The Scribe mailbox buffers and the folio mailbox buffers, by internal address. Table MEM-1 places them in no memory of their own:
their words are counted with shared SRAM (DESIGN CHOICE, log entry 66). -/
def isBuffer (a : Nat) : Bool :=
  decide (Reg.SCRB_REQ 0 ≤ a ∧ a < Reg.SCRB_REQ 0 + 0x1000) || decide (Reg.SCRB_RSP 0 ≤ a ∧ a < Reg.SCRB_RSP 0 + 0x1000) ||
  (decide (Reg.FOL_CTL 0 ≤ a ∧ a < Reg.FOL_CTL 0 + 64 * 0x10000) && decide (0x1000 ≤ a % 0x10000 ∧ a % 0x10000 < 0x1200))

/-- A read of a buffer; true when what it reads is poisoned. -/
def State.bufRead (s : State) (init a n : Nat) (e : EccFind) : State × Bool :=
  if isBuffer a then s.eccReadRange init a n e else (s, false)

/-- A write of a buffer; false when it is refused. Whole words written are clean. -/
def State.bufWrite (s : State) (init a n : Nat) (e : EccFind) : State × Bool :=
  if isBuffer a then
    let r := s.eccWriteCheck init a n e
    if r.2 then
      ({ r.1 with mem := { r.1.mem with bad := Tab.clear r.1.mem.bad fun w => (wordsOf a n).contains w && wholeWord a n w } }, true)
    else r
  else (s, true)

/-- The device itself writes a whole buffer area: its words are clean. -/
def State.bufClean (s : State) (a n : Nat) : State :=
  { s with mem := { s.mem with bad := Tab.clear s.mem.bad fun w => decide (a ≤ w ∧ w < a + n) } }

/-! ## MRAM (R791, R795) -/

/-- A read of the MRAM word at offset `o` finds `e`: counted, and never poisoned. The captured address is the offset in MRAM, which
Table MEM-1 does not map (DESIGN CHOICE, log entry 66). -/
def State.mramFind (s : State) (init o : Nat) (e : EccFind) : State := match e with
  | .corrected _ =>
    let s := s.eccCorrected 4
    { s with mem := { s.mem with fix := insertNat (2 ^ 40 + o / 8 * 8) s.mem.fix } }
  | .uncorrectable syn => s.eccUncorrected 4 0 init (o / 8 * 8) syn
  | _ => s

/-- EPOCH_RECORD_WRITTEN (R750 to R752, R756, R764). The epoch in progress, which counts the errors found, is the one that
follows. -/
def execEpochRecordWritten (x : RecordReads) (s : State) : Result :=
  match s.colo.snaps with
  | [] => .next s
  | (e, rec) :: r =>
    let s := { s with colo := { s.colo with snaps := r } }
    let s := x.finds.foldl (fun s w => s.mramFind 31 (1024 * (4 + e) + w.1 % 1024) w.2) s
    if (x.reads.take 3).any id then .next ((s.setMram (1024 * (4 + e)) rec).recordVerified e)
    else
      let (free, s) := s.freshBytes 1024
      let s := s.setMram (1024 * (4 + e)) free
      .next (((s.setb Reg.COLO_STAT 28 true).raise 511).checkpoint s.pcc)

/-- ECC_WRITEBACK (R791): the corrected word is written back unless it has been written first. -/
def execEccWriteback (a : Nat) (s : State) : Result :=
  .next { s with mem := { s.mem with fix := s.mem.fix.filter (· != a) } }

end Sys2Proof.Machine
end

