-- ==== Sys2Proof/Machine/Ruling.lean ====
section
/-! DEFINITION. Chapter 07, the ruling units: matching, decisions, faults, sets, locks and commits. -/

namespace Sys2Proof.Machine

/-! ## Region entries (Table RUL-3) -/

/-- The granule of unit `u` (Table RUL-1). -/
def granule (u : Nat) : Nat := if u = 2 ∨ u = 5 ∨ u = 6 then 64 else 4096

/-- Word 0 of entry `n` of set `set` of unit `u`. -/
def entryAddr (u set n : Nat) : Nat := if set = 0 then Reg.RUL_SETA u n else Reg.RUL_SETB u n

def State.entryWord (s : State) (u set n w : Nat) : Word := s.rd (entryAddr u set n + 4 * w)

/-- The nine words of an entry. -/
def State.entry (s : State) (u set n : Nat) : List Word := (List.range 9).map fun w => s.entryWord u set n w

/-- An entry image as it is stored: BASE rounded down and LIMIT rounded up to the granule (R278). -/
def storedEntry (u : Nat) (img : List Word) : List Word :=
  let g := granule u
  let base := (img.getD 0 0).toNat + 2 ^ 32 * (img.getD 1 0).toNat
  let limit := (img.getD 2 0).toNat + 2 ^ 32 * (img.getD 3 0).toNat
  let b := base / g * g
  let l := limit / g * g + (g - 1)
  [BitVec.ofNat 32 b, BitVec.ofNat 32 (b / 2 ^ 32), BitVec.ofNat 32 l, BitVec.ofNat 32 (l / 2 ^ 32)] ++ img.drop 4

/-- Write the words `ws` as entry `n` of a set. -/
def State.setEntry (s : State) (u set n : Nat) (ws : List Word) : State :=
  (ws.take 9).zipIdx.foldl (fun s p => s.wr (entryAddr u set n + 4 * p.2) p.1) s

/-- The reserved fields of an entry image of unit `u` are 0 (Table RUL-3, R279, R291, R301). -/
def entryReservedOk (u : Nat) (img : List Word) : Bool :=
  let w := fun i => img.getD i 0
  (u == 4 || (fieldOf (w 1) 31 8 == 0 && fieldOf (w 3) 31 8 == 0)) &&
  fieldOf (w 4) 30 18 == 0 && fieldOf (w 4) 15 15 == 0 && fieldOf (w 5) 31 23 == 0 &&
  fieldOf (w 8) 31 16 == 0 && fieldOf (w 8) 7 1 == 0 && (u == 0 || fieldOf (w 8) 0 0 == 0)

/-! ## Deciding an access -/

def State.ruleActive (s : State) (u : Nat) : Nat := s.fld (Reg.RUL_CTL u) 0 0

/-- Entry `n` of the active set is enabled and covers address `a` (R278, R280). -/
def State.regionMatches (s : State) (u n a : Nat) : Bool :=
  let w := fun i => (s.entryWord u (s.ruleActive u) n i)
  (w 4).getLsbD 31 && decide ((w 0).toNat + 2 ^ 32 * (w 1).toNat ≤ a) &&
    decide (a ≤ (w 2).toNat + 2 ^ 32 * (w 3).toNat)

/-- The regions of the active set that match address `a`, in ascending order. -/
def State.matching (s : State) (u a : Nat) : List Nat := (List.range 64).filter fun n => s.regionMatches u n a

def isCore (init : Nat) : Bool := decide (init ≤ 8)

/-- The bit of word 4 that a core access needs; Scribe world at S privilege has none (R281). -/
def coreBit (acc : Access) : Option Nat :=
  let k := match acc.kind with | .read => 2 | .write => 1 | .exec => 0
  match acc.world, acc.priv with
  | .scribe, .m => some k
  | .scribe, .u => some (3 + k)
  | .scribe, .s => none
  | .draft, .m => some (6 + k)
  | .draft, .s => some (9 + k)
  | .draft, .u => some (12 + k)

/-- Refusal reasons of RUL_FAULT_INFO. -/
def rNoMatch : Nat := 1
def rOverlap : Nat := 2
def rPermission : Nat := 3
def rInitiator : Nat := 4
def rFolio : Nat := 5
def rBoot : Nat := 6

/-- Why region `n` refuses an access, in the order of R288; `none` when it permits it (R281, R282). -/
def State.regionRefuses (s : State) (u n : Nat) (acc : Access) : Option Nat :=
  let w := fun i => (s.entryWord u (s.ruleActive u) n i)
  if !(w 5).getLsbD acc.init then some rInitiator
  else if isCore acc.init then
    match coreBit acc with
    | some b => if (w 4).getLsbD b then none else some rPermission
    | none => some rPermission
  else
    let folioOk := match acc.folio with
      | some f => if f < 32 then (w 6).getLsbD f else (w 7).getLsbD (f - 32)
      | none => match acc.world with | .scribe => (w 5).getLsbD 21 | .draft => (w 5).getLsbD 22
    if !folioOk then some rFolio
    else match acc.kind with
      | .read => if (w 4).getLsbD 17 then none else some rPermission
      | .write => if (w 4).getLsbD 16 then none else some rPermission
      | .exec => some rPermission

/-- The decision on one granule: the reason and region of a refusal (R283 to R285). -/
def State.granuleRefuses (s : State) (u a : Nat) (acc : Access) : Option (Nat × Nat) :=
  match s.matching u a with
  | [] => some (rNoMatch, 0x7F)
  | r :: rest =>
    if s.bit (Reg.RUL_CTL u) 1 then
      (r :: rest).findSome? fun n => (s.regionRefuses u n acc).map fun why => (why, n)
    else if !rest.isEmpty then some (rOverlap, r)
    else (s.regionRefuses u r acc).map fun why => (why, r)

/-- What a unit in boot mode grants: the Scribe pair, the Scribe DMA engine, Flourish, the hash lanes, and inbound
accesses to the BOOT block (R305). -/
def bootGrants (acc : Access) : Bool :=
  acc.init == 0 || acc.init == 9 || acc.init == 15 || acc.init == 16 || acc.init == 17 ||
  (acc.init == 19 && decide (0x140030000 ≤ acc.addr ∧ acc.addr + acc.len ≤ 0x140040000))

/-- The access the Scribe pair always has to the RUL blocks, in M mode (R290). -/
def alwaysGranted (u : Nat) (acc : Access) : Bool :=
  u == 5 && acc.init == 0 && acc.priv == .m && acc.world == .scribe && acc.kind != .exec &&
  decide (0x100080000 ≤ acc.addr ∧ acc.addr + acc.len ≤ 0x1000F0000)

/-- The addresses of the granules a transaction touches, in ascending order. -/
def granulesOf (u a n : Nat) : List Nat :=
  let g := granule u
  if n = 0 then [] else (List.range ((a + n - 1) / g - a / g + 1)).map fun i => max a (g * (a / g + i))

/-- The unit's decision on a transaction: the reason and region of the lowest-addressed granule refused (R276, R287). -/
def State.ruleRefuses (s : State) (u : Nat) (acc : Access) : Option (Nat × Nat) :=
  if s.bit (Reg.RUL_CTL u) 2 then (if bootGrants acc then none else some (rBoot, 0x7F))
  else if alwaysGranted u acc then none
  else (granulesOf u acc.addr acc.len).findSome? fun a => s.granuleRefuses u a acc

def worldCode : World → Nat
  | .scribe => 0
  | .draft => 1

def kindCode : AccKind → Nat
  | .read => 0
  | .write => 1
  | .exec => 2

def privCode (acc : Access) : Nat :=
  if isCore acc.init then (match acc.priv with | .u => 0 | .s => 1 | .m => 3) else 0

/-- Capture a refused transaction in the unit's fault record (R307, RUL_FAULT_INFO2). -/
def State.ruleCapture (s : State) (u : Nat) (acc : Access) (why region : Nat) : State :=
  let i := Reg.RUL_FAULT_INFO u
  let s := s.wr64 (Reg.RUL_FAULT_ADDR u) (BitVec.ofNat 64 acc.addr)
  let s := s.wr64 (Reg.RUL_FAULT_TIME u) s.stime.ns
  let s := s.setf i 29 27 why
  let s := s.setf i 26 25 (kindCode acc.kind)
  let s := s.setf i 24 24 (worldCode acc.world)
  let s := s.setf i 23 22 (privCode acc)
  let s := s.setf i 21 17 acc.init
  let s := s.setf i 16 16 acc.folio.isSome.toNat
  let s := s.setf i 15 10 (acc.folio.getD 0)
  let s := s.setf i 9 9 (s.ruleActive u)
  let s := s.setf i 6 0 region
  let label := if region = 0x7F then 0 else fieldOf (s.entryWord u (s.ruleActive u) region 8) 15 8
  let s := s.setf (Reg.RUL_FAULT_INFO2 u) 7 0 label
  (s.setb i 31 true).raise (384 + u)

/-- Record a refused transaction: it is counted, and captured, or an overrun (R307, R308). -/
def State.ruleFault (s : State) (u : Nat) (acc : Access) (why region : Nat) : State :=
  let s := s.wr (Reg.RUL_FAULT_COUNT u) (BitVec.ofNat 32 (min (s.rdn (Reg.RUL_FAULT_COUNT u) + 1) (2 ^ 32 - 1)))
  let i := Reg.RUL_FAULT_INFO u
  if s.bit i 31 then
    let c := s.cyc.of s.stime.cycle
    let s := if c.refused.any (·.1 == u) then s else { s with cyc := { c with refused := c.refused ++ [(u, acc, why, region)] } }
    if s.bit i 30 then s else (s.setb i 30 true).raise (391 + u)
  else s.ruleCapture u acc why region

/-- VALID of a unit has been cleared: a refusal of the same cycle is captured (R309). -/
def State.ruleRearm (s : State) (u : Nat) : State :=
  match (s.cyc.of s.stime.cycle).refused.find? (·.1 == u) with
  | some r => s.ruleCapture u r.2.1 r.2.2.1 r.2.2.2
  | none => s

/-- Check a transaction at unit `u`, recording a refusal: the new state and whether it is granted (R276, R307). -/
def State.rule (s : State) (u : Nat) (acc : Access) : State × Bool :=
  match s.ruleRefuses u acc with
  | none => (s, true)
  | some (why, region) => (s.ruleFault u acc why region, false)

/-- The ruling unit that guards an address (Tables RUL-1, EVT-4). -/
def unitOf (a : Nat) : Option Nat := match memOf a with
  | .scribe => some 0
  | .shared => some 1
  | .flash => some 3
  | .pcieOut => some 4
  | .mmioScribe => if 0x100100000 ≤ a ∧ a < 0x100110000 then some 2 else some 5
  | .mmioShared => some 6
  | _ => none

/-- Capture a decode error in EVT_DECODE_ADDR and EVT_DECODE_INFO (R922). -/
def State.decodeError (s : State) (acc : Access) : State :=
  let i := Reg.EVT_DECODE_INFO
  let s := s.incSat i 15 0
  if s.bit i 31 then s.setb i 30 true
  else
    let s := s.wr64 Reg.EVT_DECODE_ADDR (BitVec.ofNat 64 acc.addr)
    ((((s.setf i 29 25 acc.init).setf i 24 23 (kindCode acc.kind)).setf i 22 22 (worldCode acc.world)).setb i 31 true)

/-! ## Sets, locks and commits -/

def State.isLocked (s : State) (u n : Nat) : Bool := (s.rd64 (Reg.RUL_LOCK u)).getLsbD n

/-- Make set `set` of unit `u` active. -/
def State.setActive (s : State) (u set : Nat) : State := s.setf (Reg.RUL_CTL u) 0 0 set

/-- Lock index `n` of unit `u`, copying its entry in the active set into the other set (R303). -/
def State.lockIndex (s : State) (u n : Nat) : State :=
  if s.isLocked u n then s
  else
    let a := s.ruleActive u
    let s := s.setEntry u (1 - a) n (s.entry u a n)
    s.wr64 (Reg.RUL_LOCK u) (s.rd64 (Reg.RUL_LOCK u) ||| (1 <<< n))

/-- The entry at `a` is written by software: from then on it binds every operation, also one that a live swap has left under older
entries (R120, R300). -/
def State.forgetOld (s : State) (a : Nat) : State :=
  { s with ops := s.ops.map fun (o : Op) => { o with oldRul := o.oldRul.filter fun p => !decide (a ≤ p.1 ∧ p.1 < a + 36) } }

/-- Commit an entry image (R299 to R301), with RESULT. -/
def State.commitEntry (s : State) (u set n : Nat) (img : List Word) : State :=
  let c := Reg.RUL_STAGE_CMD u
  if s.isLocked u n then s.setf c 30 28 1
  else if entryReservedOk u img then ((s.forgetOld (entryAddr u set n)).setEntry u set n (storedEntry u img)).setf c 30 28 0
  else s.setf c 30 28 2

/-- The entry copy of a live swap (R121, R304): the unlocked entries of both sets; an index with no record is disabled, and a record
of a locked index is dropped. -/
def State.copyEntries (s : State) (u : Nat) (recs : List (Nat × Nat × List Word)) : State :=
  let s := if recs.any fun r => s.isLocked u r.2.1 then s.setb (Reg.RUL_STAT u) 0 true else s
  let s := (List.range 64).foldl (fun s n =>
    if s.isLocked u n then s
    else (s.resetRegs (entryAddr u 0 n) (entryAddr u 0 n + 36)).resetRegs (entryAddr u 1 n) (entryAddr u 1 n + 36)) s
  recs.foldl (fun s r => if s.isLocked u r.2.1 then s else s.setEntry u r.1 r.2.1 (storedEntry u r.2.2)) s

/-! ### What falls in one cycle (R296, R298, R312 to R314) -/

/-- The place of a trigger in the order of R312 and R296. -/
def RulTrig.rank : RulTrig → Nat
  | .lock _ => 0
  | .copy _ => 1
  | .commit _ _ _ => 2
  | .toggle => 3
  | .stroke i _ => 4 + i
  | .cmd _ => 1028

def State.rulApply (s : State) (u : Nat) : RulTrig → State
  | .lock m => (List.range 64).foldl (fun s n => if m.testBit n then s.lockIndex u n else s) s
  | .copy recs => s.copyEntries u recs
  | .commit set n img => s.commitEntry u set n img
  | .toggle => s.setActive u (1 - s.ruleActive u)
  | .stroke _ set => s.setActive u set
  | .cmd set => s.setActive u set

/-- The words that triggers change beside RUL_CTL, RUL_STAT and RESULT: the locks and both sets' entries. -/
def ruleState (u a : Nat) : Bool :=
  decide (Reg.RUL_LOCK u ≤ a ∧ a < Reg.RUL_LOCK u + 8) || decide (Reg.RUL_CTL u + 0x1000 ≤ a ∧ a < Reg.RUL_CTL u + 0x3000)

/-- The cycle's record of unit `u`; a new one holds the unit as it stands. -/
def State.rulCyc (s : State) (u : Nat) : RulCyc :=
  ((s.cyc.of s.stime.cycle).rul.find? (·.unit == u)).getD
    { unit := u, set0 := s.ruleActive u, regs0 := s.regs.filter fun e => ruleState u e.1
      count0 := s.fld (Reg.RUL_STAT u) 31 16, evt0 := s.evtStatus 398 }

/-- The unit as the record found it. -/
def State.rulBefore (s : State) (j : RulCyc) : State :=
  let s := { s with regs := j.regs0.foldl (fun (r : Tab Word) (e : Nat × Word) => Tab.set Reg.reset r e.1 e.2) (Tab.clear s.regs (ruleState j.unit)) }
  s.setActive j.unit j.set0

/-- A trigger takes its place among those of its cycle. -/
def rulInsert (t : RulTrig) (l : List RulTrig) : List RulTrig :=
  l.filter (fun x => decide (x.rank ≤ t.rank)) ++ t :: l.filter fun x => !decide (x.rank ≤ t.rank)

/-- The set in force now is compared with the one before the cycle: a change counts once and raises source 398; where the cycle's
triggers end on the set already active they count nothing (R298). -/
def State.rulCount (s : State) (j : RulCyc) : State × RulCyc :=
  let now := s.ruleActive j.unit != j.set0
  if now == j.counted then (s, j)
  else if now then ((s.incSat (Reg.RUL_STAT j.unit) 31 16).raise 398, { j with counted := true })
  else
    let other := (s.cyc.of s.stime.cycle).rul.any fun x => x.unit != j.unit && x.counted
    let s := s.setf (Reg.RUL_STAT j.unit) 31 16 j.count0
    (if j.evt0 || other then s else s.clearEvt 398, { j with counted := false })

/-- Something acts on unit `u`: it takes effect after what comes before it in the order of R312 in the same cycle, and before what
comes after. -/
def State.rulTrigger (s : State) (u : Nat) (t : RulTrig) : State :=
  let j := s.rulCyc u
  let last := j.trig.all fun x => decide (x.rank ≤ t.rank)
  let s := if last then s.rulApply u t else (rulInsert t j.trig).foldl (fun s x => s.rulApply u x) (s.rulBefore j)
  let r := s.rulCount { j with trig := rulInsert t j.trig }
  let c := r.1.cyc.of r.1.stime.cycle
  { r.1 with cyc := { c with rul := c.rul.filter (·.unit != u) ++ [r.2] } }

/-- The word at `a` belongs to an entry of either set of some unit. -/
def isEntryWord (a : Nat) : Bool :=
  decide (Reg.RUL_CTL 0 ≤ a ∧ a < Reg.RUL_CTL 0 + 0x70000 ∧ 0x1000 ≤ a % 0x10000 ∧ a % 0x10000 < 0x3000)

/-- A live swap has changed entries: each operation admitted before it completes under the entries as it found them, the words of
which `old` gives (R120). -/
def State.keepOld (s old : State) : State :=
  let was := ((old.regs ++ s.regs).filter fun e => isEntryWord e.1 && old.rd e.1 != s.rd e.1).map fun e => (e.1, old.rd e.1)
  { s with ops := s.ops.map fun (o : Op) => match o.at_ with
    | .run _ => { o with oldRul := o.oldRul ++ was.filter fun p => o.oldRul.all (·.1 != p.1) }
    | _ => o }

/-- A world-switch trigger toggles the active set (R295). -/
def State.ruleToggle (s : State) (u : Nat) : State := s.rulTrigger u .toggle

/-- RUL_SET_CMD (R292, R294, R296). -/
def execRulSetCmd (u : Nat) (v : Word) (s : State) : Result :=
  if 7 ≤ u then .next s else
  let s := s.setf (Reg.RUL_SET_CMD u) 0 0 (fieldOf v 0 0)
  .next (if v.getLsbD 31 then s.rulTrigger u (.cmd (fieldOf v 0 0)) else s)

/-- RUL_STAGE_COMMIT (R299 to R301, R312). -/
def execRulStageCommit (u : Nat) (v : Word) (s : State) : Result :=
  if 7 ≤ u then .next s else
  let c := Reg.RUL_STAGE_CMD u
  let set := fieldOf v 8 8
  let n := fieldOf v 5 0
  let s := (s.setf c 8 8 set).setf c 5 0 n
  .next (if v.getLsbD 31 then s.rulTrigger u (.commit set n ((List.range 9).map fun w => s.rd (Reg.RUL_STAGE u w))) else s)

/-- RUL_LOCK (R303, R312): each bit written 1 locks its index. -/
def execRulLock (u : Nat) (w : HalfWrite) (s : State) : Result :=
  if 7 ≤ u then .next s else
  let m : Nat := match w with
    | .lower v => v.toNat
    | .upper v => v.toNat * 2 ^ 32
    | .both v => v.toNat
  .next (s.rulTrigger u (.lock m))

/-- Load a unit's regions at step 6 and leave boot mode (R306): OVERLAP, initial set, lock mask, and the entries. -/
def State.ruleLoad (s : State) (u : Nat) (initial : Nat) (restrict : Bool) (lockMask : Nat)
    (entries : List (Nat × Nat × List Word)) : State :=
  let base := Reg.RUL_CTL u
  let s := s.resetRegs (base + 0x1000) (base + 0x3000)
  let s := entries.foldl (fun s e =>
    let img := storedEntry u e.2.2
    if lockMask.testBit e.2.1 then
      (if e.1 = 0 then (s.setEntry u 0 e.2.1 img).setEntry u 1 e.2.1 img else s)
    else s.setEntry u e.1 e.2.1 img) s
  let s := s.wr64 (Reg.RUL_LOCK u) (BitVec.ofNat 64 lockMask)
  ((s.setf base 0 0 initial).setb base 1 restrict).setb base 2 false

/-- The SECRET regions of Scribe SRAM: every enabled region of unit 0 with SECRET, in either set (R291). -/
def State.secretRegions (s : State) : List (Nat × Nat) :=
  ((List.range 2).map fun set => (List.range 64).filterMap fun n =>
    let w := fun i => s.entryWord 0 set n i
    if (w 4).getLsbD 31 && (w 8).getLsbD 0 then
      some ((w 0).toNat + 2 ^ 32 * (w 1).toNat, (w 2).toNat + 2 ^ 32 * (w 3).toNat + 1) else none).flatten

/-- Erase the SECRET regions of Scribe SRAM: their bytes read 0 (R291). -/
def State.eraseSecretSram (s : State) : State :=
  let rs := s.secretRegions
  let hit := fun a => rs.any fun r => decide (r.1 ≤ a ∧ a < r.2) && memOf a == .scribe
  { s with mem := { s.mem with sram := Tab.clear s.mem.sram hit, bad := Tab.clear s.mem.bad hit
                               fix := s.mem.fix.filter fun a => !hit a } }

end Sys2Proof.Machine
end

