-- ==== Sys2Proof/Machine/Flash.lean ====
section
/-! DEFINITION. Chapter 20: flash programming and erasing, the user-region wipe, the patrol scrubbers. -/

namespace Sys2Proof.Machine

/-! ## The stream's image map -/

/-- The body in force of section `code`, empty when absent. -/
def State.section_ (s : State) (code : Nat) : List Word :=
  match s.duct.inForce.find? (fun e => e.1 == code) with
  | some e => e.2
  | none => []

/-- The records of an IMAGES body: class, image ID, flash offset, length, load address, digest words (Table DUC-4). -/
structure Image where
  cls : Nat
  id : Nat
  off : Nat
  len : Nat
  load : Nat
  digest : List Word
  deriving DecidableEq, Repr

def imageAt (b : List Word) (i : Nat) : Image :=
  let w := fun k => (b.getD (17 * i + k) 0).toNat
  { cls := w 0 / 256 % 256, id := w 0 % 256, off := w 1, len := w 2, load := w 3 + 2 ^ 32 * w 4
    digest := (List.range 12).map fun k => b.getD (17 * i + 5 + k) 0 }

def imagesOf (b : List Word) : List Image := (List.range (b.length / 17)).map (imageAt b)

/-- The images of the stream in force. -/
def State.images (s : State) : List Image := imagesOf (s.section_ 0x11)

/-- Byte ranges `[a, b)` share a byte. -/
def rangesMeet (a b c d : Nat) : Bool := decide (max a c < min b d)

/-! ## Commands -/

/-- The writing core's access to flash or to a source buffer. -/
def coreAccess (w : World) (pr : Priv) (core a n : Nat) (k : AccKind) : Access := ⟨a, n, k, core, w, pr, none⟩

/-- End a flash command with a result; GO reads 0 again (R6, R812, R813). -/
def State.flashEnd (s : State) (result fail : Nat) : State :=
  let s := (s.setf Reg.MEM_XSPI_STAT 30 28 result).setf Reg.MEM_XSPI_STAT 27 0 fail
  let s := ((s.setb Reg.MEM_XSPI_STAT 31 s.mem.wipe.isSome).setb Reg.MEM_XSPI_CMD 31 false).raise 492
  if result = 2 ∨ result = 3 then s.raise 493 else s

/-- LEN and alignment of a command are as R812 asks. -/
def flashLenOk (op addr len : Nat) : Bool :=
  if op = 1 then decide (1 ≤ len ∧ len ≤ 4194304) else decide (1 ≤ len ∧ addr % 4096 = 0 ∧ len % 4096 = 0)

/-- Check a command at the XSPI unit and, for PROGRAM, its source (R811); with the faults recorded. -/
def State.flashCheck (s : State) (op addr len src : Nat) (w : World) (pr : Priv) (core : Nat) : State × Bool :=
  let acc := coreAccess w pr core (0x40000000 + addr) len .write
  if 0x40000000 < addr + len then (s, false) else
  let r := s.rule 3 acc
  if r.2 && op == 1 then
    match unitOf src with
    | some u => if inSram src len then r.1.rule u (coreAccess w pr core src len .read) else (r.1, false)
    | none => (r.1, false)
  else r

/-- Start PROGRAM or ERASE (R811 to R813): BUSY while a command or wipe runs, LENGTH, DENIED, or the command begins. -/
def State.flashStart (s : State) (op : Nat) (w : World) (pr : Priv) (core : Nat) : State :=
  let s := s.setf Reg.MEM_XSPI_CMD 1 0 op
  if s.bit Reg.MEM_XSPI_STAT 31 then s.setf Reg.MEM_XSPI_STAT 30 28 1
  else
    let addr := s.rdn Reg.MEM_XSPI_ADDR
    let len := s.rdn Reg.MEM_XSPI_LEN
    let src := (s.rd64 Reg.MEM_XSPI_SRC).toNat % 2 ^ 40
    if !flashLenOk op addr len then s.flashEnd 4 0
    else
      match s.flashCheck op addr len src w pr core with
      | (s, true) =>
        (({ s with mem := { s.mem with cmd := some ⟨op, addr, len, src⟩ } }).setb Reg.MEM_XSPI_STAT 31 true).setb
          Reg.MEM_XSPI_CMD 31 true
      | (s, false) => s.flashEnd 2 0

/-- XSPI_PROGRAM (R811 to R813), set by core `core` of a world. -/
def execXspiProgram (w : World) (pr : Priv) (core : Nat) (s : State) : Result := .next (s.flashStart 1 w pr core)

/-- XSPI_ERASE (R811 to R813). -/
def execXspiErase (w : World) (pr : Priv) (core : Nat) (s : State) : Result := .next (s.flashStart 2 w pr core)

/-- Programming clears bits and sets none (NOR flash; PRESUMED, log entry 9). -/
def andBytes (old new : Bytes) : Bytes := List.zipWith (· &&& ·) old new

/-- The 256-byte page offsets that a range touches, ascending. -/
def pagesOf (a n : Nat) : List Nat :=
  if n = 0 then [] else (List.range ((a + n - 1) / 256 - a / 256 + 1)).map fun i => 256 * (a / 256 + i)

/-- The erase blocks of a range: 64 KiB where aligned and whole, 4 KiB elsewhere, ascending (R812). -/
def eraseBlocks (a n : Nat) : List (Nat × Nat) :=
  ((List.range (n / 4096)).map fun i => a + 4096 * i).filterMap fun o =>
    let b := o / 65536 * 65536
    if decide (a ≤ b ∧ b + 65536 ≤ a + n) then (if o = b then some (b, 65536) else none) else some (o, 4096)

/-- Program pages in order until one fails its readback, physically (at `fail`) or because it was not erased: the new
state and the failing page. -/
def State.programPages (s : State) (c : FlashCmd) (fail : Option Nat) : List Nat → State × Option Nat
  | [] => (s, none)
  | p :: r =>
    let lo := max p c.addr
    let hi := min (p + 256) (c.addr + c.len)
    let want := s.memBytes (c.src + (lo - c.addr)) (hi - lo)
    if s.poisoned (c.src + (lo - c.addr)) (hi - lo) then (s, some p)
    else if fail = some p then
      let (junk, s) := s.freshBytes (hi - lo)
      (s.flashWrite lo junk, some p)
    else
      let s := s.flashWrite lo (andBytes (s.flashBytes lo (hi - lo)) want)
      if s.flashBytes lo (hi - lo) = want then s.programPages c fail r else (s, some p)

/-- Erased cells of a range. -/
def State.flashErased (s : State) (o n : Nat) : State :=
  { s with mem := { s.mem with flash := Tab.clear s.mem.flash fun a => decide (o ≤ a ∧ a < o + n) } }

/-- Erase blocks in order until one fails its readback. -/
def State.eraseRun (s : State) (fail : Option Nat) : List (Nat × Nat) → State × Option Nat
  | [] => (s, none)
  | b :: r =>
    if fail = some b.1 then
      let (junk, s) := s.freshBytes b.2
      (s.flashWrite b.1 junk, some b.1)
    else (s.flashErased b.1 b.2).eraseRun fail r

/-- XSPI_COMMAND_DONE (R812, R813); `fail` is the page or block whose readback mismatched after three attempts. -/
def execXspiCommandDone (fail : Option Nat) (s : State) : Result :=
  match s.mem.cmd with
  | none => .next s
  | some c =>
    let r := if c.op = 1 then s.programPages c fail (pagesOf c.addr c.len) else s.eraseRun fail (eraseBlocks c.addr c.len)
    let s := { r.1 with mem := { r.1.mem with cmd := none } }
    .next (match r.2 with
      | none => s.flashEnd 0 0
      | some o => s.flashEnd 3 (o / 4))

/-! ## The region map and its lock (R808, R809) -/

def State.userRegion (s : State) : Nat × Nat :=
  (65536 * s.fld Reg.MEM_XSPI_USER_BASE 15 0, 65536 * s.fld Reg.MEM_XSPI_USER_LIMIT 15 0)

/-- SECRET region `n` as a range. -/
def State.secretRegion (s : State) (n : Nat) : Nat × Nat :=
  let b := 65536 * s.fld (Reg.MEM_XSPI_SECRET n) 15 0
  (b, b + 65536 * s.fld (Reg.MEM_XSPI_SECRET n + 4) 15 0)

def State.xspiMapOk (s : State) : Bool :=
  let u := s.userRegion
  decide (u.2 ≤ s.flashSize) && !rangesMeet u.1 u.2 0 0x800000 &&
  (s.images.all fun i => !rangesMeet u.1 u.2 i.off (i.off + i.len)) &&
  (List.range 4).all fun n =>
    let r := s.secretRegion n
    r.1 == r.2 || decide (u.1 ≤ r.1 ∧ r.2 ≤ u.2)

/-- XSPI_LOCK (R808): a Scribe write of LOCK checks the map and locks it, or sets LOCK_ERR. -/
def execXspiLock (v : Word) (s : State) : Result :=
  if v.getLsbD 31 && !s.bit Reg.MEM_XSPI_LOCK 31 then
    .next (if s.xspiMapOk then s.setb Reg.MEM_XSPI_LOCK 31 true else s.setb Reg.MEM_XSPI_LOCK 30 true)
  else .next s

/-! ## The wipe (R814, R815) -/

/-- The 64 KiB blocks that a wipe erases, ascending: the locked map, or every block outside banks and images (R809). -/
def State.wipeBlocks (s : State) (user : Bool) : List Nat :=
  let all := (List.range (s.flashSize / 65536)).map (65536 * ·)
  if s.bit Reg.MEM_XSPI_LOCK 31 then
    let inRange := fun (o : Nat) (r : Nat × Nat) => decide (r.1 ≤ o ∧ o < r.2)
    all.filter fun o => if user then inRange o s.userRegion else (List.range 4).any fun n => inRange o (s.secretRegion n)
  else all.filter fun o => !rangesMeet o (o + 65536) 0 0x800000 &&
    s.images.all fun i => !rangesMeet o (o + 65536) i.off (i.off + i.len)

/-- Begin a wipe: BUSY is set, and MEM_WIPE_STAT shows the scope (R814). -/
def State.startWipe (s : State) (user : Bool) : State :=
  let s := s.wr Reg.MEM_WIPE_STAT (if user then BitVec.ofNat 32 (2 ^ 29) else 0)
  ({ s with mem := { s.mem with wipe := some user } }).setb Reg.MEM_XSPI_STAT 31 true

/-- An erase of domain scope or wider has completed (R350). -/
def State.eraseDone (s : State) : State :=
  (s.wr64 Reg.RSV_ERASE_TIME (BitVec.ofNat 64 s.ns)).raise 355

/-- WIPE_DONE (R350, R814, R815): both scopes erase the secret regions, and with them the destroyed-domain list and the packages' members, and complete the
user-secret erase; `fail` is the block that failed verification after three attempts. -/
def execWipeDone (fail : Option Nat) (s : State) : Result :=
  match s.mem.wipe, s.mem.cmd with
  | some user, none =>
    let r := s.eraseRun fail ((s.wipeBlocks user).map fun o => (o, 65536))
    let s := ({ r.1 with mem := { r.1.mem with wipe := none } }).setb Reg.MEM_XSPI_STAT 31 false
    .next (match r.2 with
      | none => (State.raise { s.setb Reg.MEM_WIPE_STAT 31 true with cust := { s.cust with destroyed := [], packages := [] } } 494).eraseDone
      | some o => ((s.setb Reg.MEM_WIPE_STAT 30 true).setf Reg.MEM_WIPE_STAT 27 0 (o / 4)).raise 494)
  | _, _ => .next s

/-- A reset of the main domain abandons the command or wipe in progress (Table MEM-6): how many pages or blocks were done by then the
spec does not say, and the one in work holds what it holds. -/
def State.flashCut (s : State) : State :=
  let cut := fun (s : State) (l : List Nat) =>
    let (f, s) := s.freshWord
    (s, l[f.toNat % (l.length + 1)]?)
  match s.mem.cmd, s.mem.wipe with
  | some c, _ =>
    if c.op = 1 then
      let r := cut s (pagesOf c.addr c.len)
      (r.1.programPages c r.2 (pagesOf c.addr c.len)).1
    else
      let r := cut s ((eraseBlocks c.addr c.len).map (·.1))
      (r.1.eraseRun r.2 (eraseBlocks c.addr c.len)).1
  | none, some user =>
    let r := cut s (s.wipeBlocks user)
    (r.1.eraseRun r.2 ((s.wipeBlocks user).map fun o => (o, 65536))).1
  | none, none => s

/-! ## Patrol scrubbing (R801, R802) -/

/-- First word and word count of the scrubbed memories: Scribe SRAM, shared SRAM, key SRAM (by slot words). -/
def scrubSpan (k : Nat) : Nat × Nat :=
  if k = 0 then (0x10000000, 524288) else if k = 1 then (0x20000000, 4194304) else (0, 65536)

/-- Scrubbers run only in ACTIVE and DOZE, and PERIOD_H 0 stops the first two (R801, R802). -/
def State.scrubRuns (s : State) (k : Nat) : Bool :=
  s.pwr.mainUp && decide (s.fld Reg.PWR_STAT 2 0 ≤ 1) && (k == 2 || s.fld Reg.MEM_SCRUB_CTL 7 0 != 0)

/-- Move a scrubber past its word; at the end of a pass raise source 491 (R801). -/
def State.scrubAdvance (s : State) (k : Nat) : State :=
  let p := s.mem.scrub.getD k 0 + 1
  let wrap := decide ((scrubSpan k).2 ≤ p)
  let s := { s with mem := { s.mem with scrub := s.mem.scrub.set k (if wrap then 0 else p) } }
  let s := s.setb Reg.MEM_STAT 30 (s.mem.scrub.any (· != 0))
  if wrap then s.raise 491 else s

end Sys2Proof.Machine
end

