-- ==== Sys2Proof/Machine/Quill.lean ====
section
/-! DEFINITION. Chapter 16, Quill: parse graph, comparators, patterns, rules, delivery rings, leak screen, banks. -/

namespace Sys2Proof.Machine

/-! ## Tables -/

/-- Words of one entry of each table: node, rule, comparator, pattern. -/
def quilWords (table : Nat) : Nat := match table with
  | 0 => 8
  | 1 => 4
  | 2 => 2
  | _ => 34

/-- Entries of each table. -/
def quilSize (table : Nat) : Nat := match table with
  | 0 => 64
  | 1 => 4096
  | 2 => 512
  | 3 => 1024
  | _ => 4096

def quilKey (bank table index word : Nat) : Nat := ((bank * 4 + table) * 4096 + index) * 64 + word

def zeroWord (_ : Nat) : Word := 0

/-- A bank's tables as a function of table, index and word: the stored banks and a QUILL section are read alike. -/
abbrev QuilTab := Nat → Nat → Nat → Word

def State.quilBank (s : State) (bank : Nat) : QuilTab :=
  fun table i w => Tab.get zeroWord s.quil.tab (quilKey bank table i w)

/-- A QUILL section body (Table DUC-4): four counts, then nodes, rules, comparators, patterns. -/
def quilBody (b : List Word) : QuilTab := fun table i w =>
  let n := fun k => (b.getD k 0).toNat
  let base := match table with
    | 0 => 4
    | 1 => 4 + 8 * n 0
    | 2 => 4 + 8 * n 0 + 4 * n 1
    | _ => 4 + 8 * n 0 + 4 * n 1 + 2 * n 2
  if i < n table then b.getD (base + quilWords table * i + w) 0 else 0

/-! ## Graph and entry checks (R674, R682, R698) -/

def nodeValid (t : QuilTab) (i : Nat) : Bool := (t 0 i 0).getLsbD 31
def nodeKind (t : QuilTab) (i : Nat) : Nat := fieldOf (t 0 i 0) 30 27

/-- Next kinds allowed by Table QUI-2. -/
def nextKinds (k : Nat) : List Nat := match k with
  | 0 => [1, 2, 3, 8]
  | 1 => [1, 2, 3, 8]
  | 2 => [5, 6, 8]
  | 3 => [4, 5, 6, 8]
  | 4 => [4, 5, 6, 8]
  | 5 => [7, 8]
  | 6 => [8]
  | _ => []

/-- The successors of node `i`: target and whether by an entry with BSP_PORT. -/
def nodeNexts (t : QuilTab) (i : Nat) : List (Nat × Bool) :=
  let w0 := t 0 i 0
  let d := if w0.getLsbD 20 then [(fieldOf w0 26 21, false)] else []
  d ++ (List.range 6).filterMap fun e =>
    let w := t 0 i (e + 1)
    if w.getLsbD 31 then some (fieldOf w 29 24, w.getLsbD 30) else none

/-- Node `i`'s own transitions are allowed: valid targets of allowed kinds, BSP by BSP_PORT entries and only there. -/
def nodeEdgesOk (t : QuilTab) (i : Nat) : Bool :=
  (nodeNexts t i).all fun e =>
    nodeValid t e.1 && (nextKinds (nodeKind t i)).contains (nodeKind t e.1) &&
      (e.2 == (nodeKind t i == 5 && nodeKind t e.1 == 7))

/-- From node `i`, with the tags and extension headers seen so far, every path ends within `fuel` nodes and holds at most
two VLAN and two IPV6_EXT nodes. -/
def pathsOk (t : QuilTab) : Nat → Nat → Nat → Nat → Bool
  | 0, _, _, _ => false
  | fuel + 1, i, v, x =>
    let v := if nodeKind t i = 1 then v + 1 else v
    let x := if nodeKind t i = 4 then x + 1 else x
    decide (v ≤ 2) && decide (x ≤ 2) && (nodeNexts t i).all fun e => pathsOk t fuel e.1 v x

/-- The graph is well formed (R674): the first failing node, if any. A path of the table's kinds has at most eight
nodes: ETH, two VLAN, IP, two IPV6_EXT, UDP, BSP. -/
def graphFault (t : QuilTab) : Option Nat :=
  if !(nodeValid t 0 && nodeKind t 0 == 0) then some 0
  else match (List.range 64).find? fun i => nodeValid t i && !(nodeEdgesOk t i && decide (nodeKind t i ≤ 8)) with
    | some i => some i
    | none => (List.range 64).find? fun i => nodeValid t i && !pathsOk t 9 i 0 0

/-- A rule is usable (R682, R698): valid comparators, patterns and nodes, an action and rings allowed by Table QUI-6. -/
def ruleOk (t : QuilTab) (r : Nat) : Bool :=
  let w0 := t 1 r 0
  let w1 := t 1 r 1
  let w2 := t 1 r 2
  let w3 := t 1 r 3
  let tx := w0.getLsbD 30
  let act := fieldOf w3 31 28
  (!w0.getLsbD 16 || nodeValid t (fieldOf w0 22 17)) &&
  (!w1.getLsbD 31 || (t 2 (fieldOf w1 29 21) 0).getLsbD 31) &&
  (!w1.getLsbD 20 || (t 2 (fieldOf w1 18 10) 0).getLsbD 31) &&
  (!w2.getLsbD 31 || (t 3 (fieldOf w2 29 20) 0).getLsbD 31) &&
  decide (act ≤ 3) && !(tx && decide (2 ≤ act)) &&
  !(act == 1 && !tx && fieldOf w3 27 24 == 15) && !(w3.getLsbD 23 && fieldOf w3 22 19 == 15)

/-- The first VALID rule that fails (R698). -/
def entryFault (t : QuilTab) : Option Nat := (List.range 4096).find? fun r => (t 1 r 0).getLsbD 31 && !ruleOk t r

/-! ## Parsing (R673 to R675) -/

/-- The path of a frame and what it found. -/
structure Parsed where
  path : List Nat := []
  parseErr : Bool := false
  frag : Bool := false
  l3 : Option Nat := none
  l4 : Option Nat := none
  bsp : Option Nat := none
  vlans : List Nat := []
  pay : Nat := 0
  deriving DecidableEq, Repr

/-- The ones' complement sum of a header's 16-bit words, folded. -/
def onesSum (b : Bytes) : Nat :=
  let t := ((List.range ((b.length + 1) / 2)).map fun i => beAt b (2 * i) 2).sum
  let t := t / 65536 + t % 65536
  t / 65536 + t % 65536

/-- The header at node kind `k`, offset `o`: its length and key, or none when it runs beyond the frame or is malformed. -/
def headerAt (f : Bytes) (k o : Nat) : Option (Nat × Nat) :=
  let fits := fun n => decide (o + n ≤ f.length)
  match k with
  | 0 => if fits 14 then some (14, beAt f (o + 12) 2) else none
  | 1 => if fits 4 then some (4, beAt f (o + 2) 2) else none
  | 2 =>
    let n := 4 * (beAt f o 1 % 16)
    if fits 20 && fits n && decide (20 ≤ n) then some (n, beAt f (o + 9) 1) else none
  | 3 => if fits 40 then some (40, beAt f (o + 6) 1) else none
  | 4 =>
    let n := 8 * (beAt f (o + 1) 1 + 1)
    if fits 2 && fits n then some (n, beAt f o 1) else none
  | 5 => if fits 8 then some (8, beAt f (o + 2) 2) else none
  | 6 =>
    let n := 4 * (beAt f (o + 12) 1 / 16)
    if fits 20 && fits n then some (n, beAt f (o + 2) 2) else none
  | 7 => if fits 32 then some (32, 0) else none
  | _ => some (0, 0)

/-- The tag that a node's key announces breaks R629: a third tag, or a second that is not 0x8100 after 0x88A8. -/
def badTag (tpids : List Nat) (key : Nat) : Bool :=
  (key == 0x8100 || key == 0x88A8) &&
    (match tpids with
      | [] => false
      | [t] => !(t == 0x88A8 && key == 0x8100)
      | _ => true)

/-- Parse from node `n` at offset `o`; `tpid` are the tag types met (R675). -/
def parseFrom (t : QuilTab) (bspPort : Nat) (f : Bytes) : Nat → Nat → Nat → List Nat → Parsed → Parsed
  | 0, _, _, _, p => p
  | fuel + 1, n, o, tpids, p =>
    let k := nodeKind t n
    match headerAt f k o with
    | none => { p with parseErr := true }
    | some (len, key) =>
      let p := { p with
        path := p.path ++ [n], pay := o + len
        l3 := if k = 2 ∨ k = 3 then (match p.l3 with | some x => some x | none => some o) else p.l3
        l4 := if k = 5 ∨ k = 6 then some o else p.l4
        bsp := if k = 7 then some o else p.bsp
        vlans := if k = 1 then p.vlans ++ [beAt f o 2 % 4096] else p.vlans }
      if k = 7 ∨ k = 8 then p
      else if k = 2 ∧ onesSum (slice f o len) ≠ 0xFFFF then { p with parseErr := true }
      else if k = 2 ∧ beAt f (o + 6) 2 % 16384 ≠ 0 then { p with frag := true }
      else if (k = 3 ∨ k = 4) ∧ key = 44 then { p with frag := true }
      else if (k = 0 ∨ k = 1) ∧ badTag tpids key then { p with parseErr := true }
      else
        let tpids := if key = 0x8100 ∨ key = 0x88A8 then tpids ++ [key] else tpids
        let hit := (List.range 6).find? fun e =>
          let w := t 0 n (e + 1)
          w.getLsbD 31 && (if w.getLsbD 30 then key == bspPort && k == 5 else fieldOf w 15 0 == key)
        match hit with
        | some e => parseFrom t bspPort f fuel (fieldOf (t 0 n (e + 1)) 29 24) (o + len) tpids p
        | none =>
          if (t 0 n 0).getLsbD 20 then parseFrom t bspPort f fuel (fieldOf (t 0 n 0) 26 21) (o + len) tpids p else p

/-- Parse a frame (its bytes from destination address up to the FCS) under a bank's graph. -/
def parseFrame (t : QuilTab) (bspPort : Nat) (f : Bytes) : Parsed := parseFrom t bspPort f 9 0 0 [] {}

/-! ## Matching (R676 to R681) -/

def payloadLen (f : Bytes) (p : Parsed) : Nat := f.length - p.pay

/-- A comparator's field in a frame (Table QUI-3). -/
def compField (f : Bytes) (p : Parsed) (field : Nat) : Option Nat := match field with
  | 0 => p.l4.map fun o => beAt f o 2
  | 1 => p.l4.map fun o => beAt f (o + 2) 2
  | 2 => p.vlans[0]?
  | 3 => p.vlans[1]?
  | 4 => p.bsp.map fun o => beAt f (o + 0x10) 3
  | 5 => p.bsp.map fun o => beAt f (o + 0x13) 1
  | 6 => some (payloadLen f p)
  | _ => none

/-- A comparator term (R676): absent fields make the term fail, negated or not. -/
def compTerm (t : QuilTab) (f : Bytes) (p : Parsed) (c : Nat) (neg : Bool) : Bool :=
  match compField f p (fieldOf (t 2 c 0) 30 27) with
  | none => false
  | some v => (decide (fieldOf (t 2 c 0) 23 0 ≤ v ∧ v ≤ fieldOf (t 2 c 1) 23 0)) != neg

def patByte (t : QuilTab) (i base k : Nat) : Byte := ((t 3 i (base + k / 4)) >>> (8 * (k % 4))).truncate 8

/-- Pattern `i` matches at payload offset `o` (R678). -/
def patternAt (t : QuilTab) (f : Bytes) (p : Parsed) (i o : Nat) : Bool :=
  let len := fieldOf (t 3 i 0) 28 22
  decide (o + len ≤ payloadLen f p ∧ o + len ≤ 4096) &&
    (List.range len).all fun k =>
      (f.getD (p.pay + o + k) 0 &&& patByte t i 18 k) == (patByte t i 2 k &&& patByte t i 18 k)

/-- Pattern `i` matches the payload (R678). -/
def patternHits (t : QuilTab) (f : Bytes) (p : Parsed) (i : Nat) : Bool :=
  let w := t 3 i 0
  let off := fieldOf w 11 0
  let len := fieldOf w 28 22
  if w.getLsbD 30 then patternAt t f p i off
  else (List.range (min 4096 (payloadLen f p) + 1 - len - off)).any fun k => patternAt t f p i (off + k)

/-- Rule `r` matches a frame of `port` in a direction (R680). -/
def ruleHits (t : QuilTab) (f : Bytes) (p : Parsed) (port : Nat) (tx : Bool) (r : Nat) : Bool :=
  let w0 := t 1 r 0
  let w1 := t 1 r 1
  let w2 := t 1 r 2
  w0.getLsbD 31 && w0.getLsbD 30 == tx && w0.getLsbD (28 + port) &&
  (!w0.getLsbD 16 || p.path.contains (fieldOf w0 22 17)) &&
  (!w1.getLsbD 31 || compTerm t f p (fieldOf w1 29 21) (w1.getLsbD 30)) &&
  (!w1.getLsbD 20 || compTerm t f p (fieldOf w1 18 10) (w1.getLsbD 19)) &&
  (!w2.getLsbD 31 || (patternHits t f p (fieldOf w2 29 20) != w2.getLsbD 30))

/-- The better of two rules: lower PRIORITY, then lower index (R681). -/
def betterRule (t : QuilTab) (best : Option Nat) (r : Nat) : Option Nat := match best with
  | none => some r
  | some b => if fieldOf (t 1 r 0) 27 24 < fieldOf (t 1 b 0) 27 24 then some r else some b

/-- The winning rule among the matching ones (R681). -/
def winnerOf (t : QuilTab) (hits : List Nat) : Option Nat :=
  (hits.filter fun r => !(t 1 r 0).getLsbD 23).foldl (betterRule t) none

/-! ## State of the classifier -/

def State.quilActive (s : State) : Nat := s.fld Reg.QUIL_STAT 0 0
def State.quilValid (s : State) (b : Nat) : Bool := s.bit Reg.QUIL_STAT (1 + b)
/-- The bank's QUILL section waits for its swap (R118). -/
def State.quilPending (s : State) : Bool := s.bit Reg.DUCT_LIVE_STAT 7
/-- A slice classifies while at least one of the two is not fenced (R702, R703). -/
def State.quilFenced (s : State) : Bool := s.fld Reg.QUIL_STAT 17 16 == 3

/-- A counter that has been cleared in this cycle: an increment is lost (Table QUI-10). -/
def State.isCleared (s : State) (k : Nat) : Bool := (s.cyc.of s.stime.cycle).cleared.contains k

/-- Note that a counter is cleared. -/
def State.noteClear (s : State) (k : Nat) : State :=
  let c := s.cyc.of s.stime.cycle
  { s with cyc := { c with cleared := k :: c.cleared } }

/-- The key of a rule's counter among the counters cleared. -/
def hitKey (k : Nat) : Nat := 2 ^ 40 + k

def State.quilCount (s : State) (i : Nat) : State :=
  if s.isCleared (Reg.QUIL_CTR i) then s else s.addSat64 (Reg.QUIL_CTR i) 1

def State.countHit (s : State) (bank r : Nat) : State :=
  let k := bank * 4096 + r
  if s.isCleared (hitKey k) then s else
  { s with quil := { s.quil with hits := Tab.set (fun _ => 0) s.quil.hits k (min (Tab.get (fun _ => 0) s.quil.hits k + 1) (2 ^ 64 - 1)) } }

/-- Classify a frame: the parse, the winner, and the state with every matching rule counted (R681, R700). -/
def State.classify (s : State) (f : Bytes) (port : Nat) (tx : Bool) : State × Parsed × Option Nat :=
  let b := s.quilActive
  let t := s.quilBank b
  let p := parseFrame t (s.fld (Reg.PORT_BSP_CFG port) 15 0) f
  let hits := (List.range 4096).filter (ruleHits t f p port tx)
  let s := if p.parseErr then (s.quilCount (4 + port)).raiseLimited 292 else s
  (hits.foldl (fun s r => s.countHit b r) s, p, winnerOf t hits)

/-! ## Rate classes (R684) -/

def State.rateDepth (s : State) (c : Nat) : Int := 4096 * (s.fld (Reg.QUIL_RATE c) 15 0 : Nat)

def State.setLevel (s : State) (c : Nat) (v : Int) : State :=
  { s with quil := { s.quil with level := s.quil.level.set c v } }

/-- A level after a debit. -/
def debited (v : Int) (len : Nat) : Int := max (v - len) (-9216)

/-- Debit class `c`, noting the debit for a refill of the same cycle. -/
def State.quilDebit (s : State) (c len : Nat) : State :=
  let v := s.quil.level.getD c 0
  let cy := s.cyc.of s.stime.cycle
  let d := match cy.quilDebits.find? (·.1 == c) with
    | some d => (c, d.2.1, d.2.2 ++ [len])
    | none => (c, v, [len])
  State.setLevel { s with cyc := { cy with quilDebits := d :: cy.quilDebits.filter (·.1 != c) } } c (debited v len)

/-- Apply the winner's rate class to a frame of `len` bytes, FCS included: the state and whether it passes. -/
def State.ratePass (s : State) (w3 : Word) (len : Nat) : State × Bool :=
  let c := fieldOf w3 16 13
  if !w3.getLsbD 17 || !s.bit (Reg.QUIL_RATE c) 31 then (s, true)
  else if 0 < s.quil.level.getD c 0 then (s.quilDebit c len, true)
  else ((s.quilCount 8).raiseLimited 293, false)

/-- QUIL_RATE_REFILL (R684): a microsecond's gain of every enabled class, RATE bytes, up to its depth; debits of the same cycle come
after it (Table QUI-10). -/
def execQuilRateRefill (s : State) : Result :=
  .next ((List.range 16).foldl (fun s c =>
    if s.bit (Reg.QUIL_RATE c) 31 then
      let d := ((s.cyc.of s.stime.cycle).quilDebits.find? (·.1 == c)).map (·.2)
      let was := (d.map (·.1)).getD (s.quil.level.getD c 0)
      let full := min (was + (s.fld (Reg.QUIL_RATE c) 30 16 : Nat)) (s.rateDepth c)
      s.setLevel c (((d.map (·.2)).getD []).foldl debited full)
    else s) s)

/-- QUIL_RATE_WRITE (R684): enabling a class sets its level to its depth. -/
def execQuilRateWrite (c : Nat) (v : Word) (s : State) : Result :=
  if 16 ≤ c then .next s else
  let was := s.bit (Reg.QUIL_RATE c) 31
  let s := s.wr (Reg.QUIL_RATE c) v
  .next (if v.getLsbD 31 && !was then s.setLevel c (s.rateDepth c) else s)

/-! ## Delivery rings (R687 to R690) -/

/-- Registers of delivery ring `r`: base, configuration, head, tail, drop count. -/
def rxBase (r : Nat) : Nat := Reg.QUIL_RX_BASE r
def rxCfg (r : Nat) : Nat := Reg.QUIL_RX_CFG r
def rxHead (r : Nat) : Nat := Reg.QUIL_RX_HEAD r
def rxTail (r : Nat) : Nat := Reg.QUIL_RX_TAIL r
def rxDrop (r : Nat) : Nat := Reg.QUIL_RX_DROP r

def State.ringFull (s : State) (r : Nat) : Bool :=
  !s.bit (rxCfg r) 31 ||
    (s.fld (rxTail r) 13 0 + 1) % 2 ^ s.fld (rxCfg r) 3 0 == s.fld (rxHead r) 13 0

/-- Drop a frame bound for ring `r` (R689). -/
def State.ringDropped (s : State) (r : Nat) : State :=
  let s := if s.isCleared (rxDrop r) then s else s.incSat (rxDrop r) 31 0
  if s.quil.dropped.contains r then s
  else ({ s with quil := { s.quil with dropped := insertNat r s.quil.dropped } }).raise 291

/-- A delivery record (Table QUI-7). -/
def deliveryRecord (f : Bytes) (p : Parsed) (port : Nat) (tx mirror wake : Bool) (stored rule bank : Nat)
    (ts : Option Nat) : Bytes :=
  let flags := mirror.toNat + 2 * (decide (stored < f.length)).toNat + 4 * wake.toNat + 8 * p.parseErr.toNat
    + 16 * p.frag.toNat + 32 * ts.isSome.toNat
  leBytes 2 stored ++ leBytes 2 f.length ++ leBytes 1 (port + 2 * tx.toNat) ++ leBytes 1 flags ++ leBytes 2 rule
    ++ leBytes 2 (p.l3.getD 0xFFFF) ++ leBytes 2 (p.l4.getD 0xFFFF) ++ leBytes 2 p.pay
    ++ leBytes 1 (p.path.getLastD 0) ++ leBytes 1 bank ++ leBytes 8 (ts.getD 0 / 4) ++ leBytes 1 (ts.getD 0 % 4) ++ zeros 7

/-- The world that owns a delivery ring or transmit queue. -/
def ringWorld (r : Nat) : World := if r = 15 then .scribe else .draft
def queueWorld (q : Nat) : World := if q = 8 then .scribe else .draft

/-- Deliver a frame into ring `r` (R687): refused writes and full or disabled rings drop it. -/
def State.deliverFrame (s : State) (r : Nat) (f : Bytes) (p : Parsed) (port : Nat) (tx mirror wake : Bool) (rule bank : Nat)
    (ts : Option Nat) : State :=
  if s.ringFull r then s.ringDropped r
  else
    let slot := 2 ^ s.fld (rxCfg r) 19 16
    let stored := min f.length (slot - 32)
    let rec_ := deliveryRecord f p port tx mirror wake stored rule bank ts ++ f.take stored
    let tail := s.fld (rxTail r) 13 0
    let a := (s.rd64 (rxBase r)).toNat % 2 ^ 40 + slot * tail
    match unitOf a with
    | none => s.ringDropped r
    | some u =>
      if !inSram a rec_.length then s.ringDropped r else
      match s.rule u ⟨a, rec_.length, .write, 18, ringWorld r, .m, none⟩ with
      | (s, false) => s.ringDropped r
      | (s, true) =>
        match s.eccWrite 18 a rec_ .clean with
        | (s, false) => s.ringDropped r
        | (s, true) => (s.setf (rxTail r) 13 0 ((tail + 1) % 2 ^ s.fld (rxCfg r) 3 0)).raise (304 + r)

/-- A write of QUIL_RX_HEAD by the consumer re-arms the drop event (R689). -/
def State.headAdvanced (s : State) (r : Nat) : State :=
  { s with quil := { s.quil with dropped := s.quil.dropped.filter (· != r) } }

/-! ## The leak screen (R694) -/

/-- The first VALID LEAK pattern that matches. -/
def leakHit (t : QuilTab) (f : Bytes) (p : Parsed) : Option Nat :=
  (List.range 1024).find? fun i => (t 3 i 0).getLsbD 31 && (t 3 i 0).getLsbD 29 && patternHits t f p i

/-- A frame is dropped by the leak screen (R694). -/
def State.leakDrop (s : State) (port src pat : Nat) : State :=
  let s := s.quilCount (6 + port)
  let s := ((s.setf Reg.QUIL_LEAK_LAST 15 15 port).setf Reg.QUIL_LEAK_LAST 14 11 src).setf Reg.QUIL_LEAK_LAST 9 0 pat
  s.raise (288 + port)

/-! ## Banks, writing and swap (R695 to R701) -/

/-- Put a section body in force (R121). -/
def secSet (code : Nat) (b : List Word) : List (Nat × List Word) → List (Nat × List Word)
  | [] => [(code, b)]
  | e :: r => if e.1 = code then (code, b) :: r else if code < e.1 then (code, b) :: e :: r else e :: secSet code b r

/-- The shadow image of a section comes into force and is no longer pending. -/
def State.shadowTake (s : State) (code : Nat) : State :=
  match s.duct.shadow.find? fun e => e.1 == code with
  | some e => State.setb { s with duct := { s.duct with
      inForce := secSet code e.2 s.duct.inForce, shadow := s.duct.shadow.filter (·.1 != code) } } Reg.DUCT_LIVE_STAT code false
  | none => s.setb Reg.DUCT_LIVE_STAT code false

/-- Writes of bank `b` in the cycle of a swap that makes it active come after the swap, and are refused ACTIVE_BANK (Table QUI-10). -/
def State.unwriteBank (s : State) (b : Nat) : State :=
  let c := s.cyc.of s.stime.cycle
  match c.quilWrote with
  | some w =>
    if w.1 = b ∧ w.2.2 then
      (State.setb { s with quil := { s.quil with tab := w.2.1 }, cyc := { c with quilWrote := none } } Reg.QUIL_STAT (1 + b)
        true).setf Reg.QUIL_TBL_CMD 29 28 1
    else s
  | none => s

/-- A swap makes bank `b` active; 0 done or nothing to do, 1 NOT_VALID (R699), also while the bank is being validated (Table QUI-10).
Its QUILL section is no longer pending (R125). -/
def State.quilSwap (s : State) (b : Nat) : State × Nat :=
  if s.quilActive = b then (s, 0)
  else
    let s := s.unwriteBank b
    if !s.quilValid b || s.quil.validating == some b then (s, 1)
    else (((s.setf Reg.QUIL_STAT 0 0 b).shadowTake 7).raise 294, 0)

/-- QUIL_CTL_SWAP (R699): SWAP in QUIL_CTL with its TARGET. -/
def execQuilCtlSwap (target : Nat) (s : State) : Result :=
  let s := s.setf Reg.QUIL_CTL 16 16 target
  let r := s.quilSwap (target % 2)
  let c := r.1.cyc.of r.1.stime.cycle
  let s := { r.1 with cyc := { c with quilReg := some (target % 2, s.quilActive != r.1.quilActive) } }
  .next (s.setf Reg.QUIL_CTL 15 12 r.2)

/-- A QUIL_SWAP stroke: one in the cycle of a register SWAP comes before it (Table QUI-10), so that the register's bank stands. -/
def State.quilStroke (s : State) (b : Nat) : State × Nat :=
  match (s.cyc.of s.stime.cycle).quilReg with
  | some (r, effective) =>
    if effective then (s, 0)
    else
      let x := s.quilSwap b
      ((x.1.quilSwap r).1, x.2)
  | none => s.quilSwap b

/-- Only the Scribe world writes a LEAK pattern or a rule whose ACTION is SCRIBE (R695). -/
def State.quilDenied (s : State) (p : Party) (bank table i : Nat) (d : List Word) : Bool :=
  p != .scribe &&
  ((table == 3 && ((d.getD 0 0).getLsbD 29 || (s.quilBank bank 3 i 0).getLsbD 29)) ||
   (table == 1 && fieldOf (d.getD 3 0) 31 28 == 2))

/-- Copy staged words into an entry and clear the bank's VALID (R696). -/
def State.setQuilEntry (s : State) (bank table i : Nat) (d : List Word) : State :=
  let t := (List.range (quilWords table)).foldl (fun t w => Tab.set zeroWord t (quilKey bank table i w) (d.getD w 0)) s.quil.tab
  { s with quil := { s.quil with tab := t } }

/-- Note how the tables stood before software's first write in this cycle. -/
def State.noteBank (s : State) (bank : Nat) : State :=
  let c := s.cyc.of s.stime.cycle
  if c.quilWrote.isSome then s else { s with cyc := { c with quilWrote := some (bank, s.quil.tab, s.quilValid bank) } }

/-- QUIL_TBL_WRITE (R695 to R697): writing table 4 with 0 clears a rule's counter in either bank. -/
def execQuilTblWrite (p : Party) (s : State) : Result :=
  let sel := Reg.QUIL_TBL_SEL
  let bank := s.fld sel 28 28
  let table := s.fld sel 27 24
  let i := s.fld sel 11 0
  let d := (List.range 34).map fun w => s.rd (Reg.QUIL_TBL_DATA w)
  let res := fun (s : State) (v : Nat) => s.setf Reg.QUIL_TBL_CMD 29 28 v
  if table = 4 then
    if d.getD 0 0 = 0 then
      .next (res (State.noteClear { s with quil := { s.quil with
        hits := Tab.set (fun _ => 0) s.quil.hits (bank * 4096 + i) 0 } } (hitKey (bank * 4096 + i))) 0)
    else .next (res s 0)
  else if quilSize table ≤ i ∨ 4 < table then .next (res s 0)
  else if s.quilActive = bank then .next (res s 1)
  else if s.quilPending then .next (res s 2)
  else if s.quilDenied p bank table i d then .next (res s 3)
  else .next (res (((s.noteBank bank).setQuilEntry bank table i d).setb Reg.QUIL_STAT (1 + bank) false) 0)

/-- QUIL_TBL_READ (R697): copy an entry, or a rule's hit counter, into the data words. -/
def execQuilTblRead (s : State) : Result :=
  let sel := Reg.QUIL_TBL_SEL
  let bank := s.fld sel 28 28
  let table := s.fld sel 27 24
  let i := s.fld sel 11 0
  let s' := if table = 4 then s.wr64 (Reg.QUIL_TBL_DATA 0) (BitVec.ofNat 64 (Tab.get (fun _ => 0) s.quil.hits (bank * 4096 + i)))
    else if table ≤ 3 ∧ i < quilSize table then
      (List.range (quilWords table)).foldl (fun x w => x.wr (Reg.QUIL_TBL_DATA w) (s.quilBank bank table i w)) s
    else s
  .next (s'.setf Reg.QUIL_TBL_CMD 29 28 0)

/-- QUIL_VALIDATE (R6, R698): checking of the inactive bank begins; VALIDATE reads 1 until it is done. -/
def execQuilValidate (s : State) : Result :=
  match s.quil.validating with
  | some _ => .next s
  | none => .next (State.setb { s with quil := { s.quil with validating := some (1 - s.quilActive) } } Reg.QUIL_CTL 30 true)

/-- The verdict on a bank: 0 OK, 2 GRAPH, 3 ENTRY, and the first failing index (R698). -/
def quilVerdict (t : QuilTab) : Nat × Nat := match graphFault t with
  | some i => (2, i)
  | none => match entryFault t with
    | some r => (3, r)
    | none => (0, 0)

/-- QUIL_VALIDATE_DONE (R698): the bank is VALID, or RESULT and DETAIL say why not; source 295 either way. -/
def execQuilValidateDone (s : State) : Result :=
  match s.quil.validating with
  | none => .next s
  | some b =>
    let v := quilVerdict (s.quilBank b)
    let s := State.setb { s with quil := { s.quil with validating := none } } Reg.QUIL_CTL 30 false
    let s := (s.setf Reg.QUIL_CTL 15 12 v.1).setf Reg.QUIL_CTL 11 0 v.2
    .next ((s.setb Reg.QUIL_STAT (1 + b) (v.1 == 0)).raise 295)

/-- Load a QUILL section into bank `b`, VALID and with its counters clear (R118, R698). -/
def State.loadQuil (s : State) (b : Nat) (body : List Word) : State :=
  let t := quilBody body
  let keep := Tab.clear s.quil.tab fun k => decide (quilKey b 0 0 0 ≤ k ∧ k < quilKey (b + 1) 0 0 0)
  let n := fun k => (body.getD k 0).toNat
  let tab := (List.range 4).foldl (fun tb table => (List.range (n table)).foldl (fun tb i =>
    (List.range (quilWords table)).foldl (fun tb w => Tab.set zeroWord tb (quilKey b table i w) (t table i w)) tb) tb) keep
  let s := { s with quil := { s.quil with
      tab := tab, hits := Tab.clear s.quil.hits fun k => decide (b * 4096 ≤ k ∧ k < (b + 1) * 4096) } }
  s.setb Reg.QUIL_STAT (1 + b) true

/-- A QUILL body's length agrees with its counts, which lie in their ranges (R91, Table DUC-4). -/
def quilCountsOk (b : List Word) : Bool :=
  let n := fun k => (b.getD k 0).toNat
  decide (1 ≤ n 0 ∧ n 0 ≤ 64 ∧ n 1 ≤ 4096 ∧ n 2 ≤ 512 ∧ n 3 ≤ 1024) &&
    b.length == 4 + 8 * n 0 + 4 * n 1 + 2 * n 2 + 34 * n 3

end Sys2Proof.Machine
end

