-- ==== Sys2Proof/Machine/Ports.lean ====
section
/-! DEFINITION. Chapter 15, the ports: MAC framing, transmission, PTP timestamps (R48 to R52), flow control, relock. -/

namespace Sys2Proof.Machine

/-! ## Port state -/

def State.portSt (s : State) (p : Nat) : PortSt := if p = 0 then s.net.p0 else s.net.p1

def State.setPort (s : State) (p : Nat) (x : PortSt) : State :=
  if p = 0 then { s with net := { s.net with p0 := x } } else { s with net := { s.net with p1 := x } }

def State.linkUp (s : State) (p : Nat) : Bool := s.bit (Reg.PORT_STAT p) 0
def State.portCount (s : State) (p i : Nat) : State := s.addSat64 (Reg.PORT_CTR p i) 1
def State.maxFrame (s : State) (p : Nat) : Nat := s.fld (Reg.PORT_MAX_FRAME p) 13 0
def State.portMac (s : State) (p : Nat) : Bytes := beBytes 6 (s.rd64 (Reg.PORT_MAC p)).toNat
def State.portIp4 (s : State) (p : Nat) : Bytes := beBytes 4 (s.rdn (Reg.PORT_IPV4 p))
/-- PORT_IPV6 as a byte string: the 128-bit register value, most significant byte first (log entry 11). -/
def State.portIp6 (s : State) (p : Nat) : Bytes := (s.regBytes (Reg.PORT_IPV6 p 0) 16).reverse

/-- Quill slice `k` is in a Proof slice while the other one is fenced: no slice classifies until it ends (R702, R703). -/
def State.quillAway (s : State) (k : Nat) : Bool := s.proof.slice == some (15 + k) && s.bit Reg.PROOF_STAT (16 - k)

/-- Quill runs in every state but DEEP_NAP and STANDBY (Table PWR-3). -/
def State.quillRuns (s : State) : Bool :=
  s.pwr.mainUp && decide (s.fld Reg.PWR_STAT 2 0 ≤ 2) && !s.quillAway 0 && !s.quillAway 1

/-! ## Framing -/

def fcsBit (c : Nat) : Nat := if c % 2 = 1 then (c / 2) ^^^ 0xEDB88320 else c / 2
def fcsByte (c : Nat) (b : Byte) : Nat := (List.range 8).foldl (fun c _ => fcsBit c) (c ^^^ b.toNat)

/-- The Ethernet FCS of a frame, as the four bytes that follow it. -/
def fcs (f : Bytes) : Bytes := leBytes 4 ((f.foldl fcsByte 0xFFFFFFFF) ^^^ 0xFFFFFFFF)

/-- A frame with a correct FCS. -/
def fcsOk (f : Bytes) : Bool := f.drop (f.length - 4) == fcs (f.take (f.length - 4))

/-- Tags of a frame: how many (R629), and the offset of the EtherType after them. -/
def tagCount (f : Bytes) : Nat :=
  if beAt f 12 2 = 0x8100 then 1
  else if beAt f 12 2 = 0x88A8 ∧ beAt f 16 2 = 0x8100 then 2
  else 0

def etherAt (f : Bytes) : Nat := 12 + 4 * tagCount f

/-- The priority of a frame: PCP of its outer tag, 0 when untagged (R629). -/
def framePrio (f : Bytes) : Nat := if tagCount f = 0 then 0 else beAt f 14 1 / 32

/-- The offset of the UDP header that follows the IPv6 extension headers from one of type `next` at `a` on (R48): hop-by-hop options,
routing, destination options, mobility, HIP and Shim6 by their length in 8 bytes, authentication by its length in 4 bytes, and a
fragment header where the packet starts at offset 0. `fuel` bounds the headers. -/
def ip6Udp (f : Bytes) : Nat → Nat → Nat → Option Nat
  | 0, _, _ => none
  | fuel + 1, next, a =>
    let len := beAt f (a + 1) 1
    if next = 17 then some a
    else if next = 44 then (if beAt f (a + 2) 2 / 8 = 0 then ip6Udp f fuel (beAt f a 1) (a + 8) else none)
    else if next = 51 then ip6Udp f fuel (beAt f a 1) (a + 4 * (len + 2))
    else if [0, 43, 60, 135, 139, 140].contains next then ip6Udp f fuel (beAt f a 1) (a + 8 * (len + 1))
    else none

/-- The offset of a UDP header, and whether it is carried over IPv6. -/
def udpAt (f : Bytes) : Option (Nat × Bool) :=
  let e := etherAt f
  if beAt f e 2 = 0x0800 ∧ beAt f (e + 11) 1 = 17 ∧ beAt f (e + 8) 2 % 2 ^ 13 = 0 then some (e + 2 + 4 * (beAt f (e + 2) 1 % 16), false)
  else if beAt f e 2 = 0x86DD then (ip6Udp f (f.length / 8) (beAt f (e + 8) 1) (e + 42)).map (·, true)
  else none

/-- The offset of a PTP header: EtherType 0x88F7, or UDP destination port 319 (or 320 when `general`). -/
def ptpAt (f : Bytes) (general : Bool) : Option Nat :=
  if beAt f (etherAt f) 2 = 0x88F7 then some (etherAt f + 2)
  else match udpAt f with
    | some (u, _) => if beAt f (u + 2) 2 = 319 ∨ (general ∧ beAt f (u + 2) 2 = 320) then some (u + 8) else none
    | none => none

/-- The PTP event message of a frame: header offset and messageType (Sync 0, Delay_Req 1, Pdelay_Req 2, Pdelay_Resp 3). -/
def ptpEvent (f : Bytes) : Option (Nat × Nat) := match ptpAt f false with
  | some o => if beAt f o 1 % 16 ≤ 3 then some (o, beAt f o 1 % 16) else none
  | none => none

/-! ## Timestamps (R48 to R52, R633 to R635) -/

/-- STIME as this frame crosses the balls, in quarter nanoseconds, with the board correction of the port and direction
(R48 to R50). -/
def State.ptpStamp (s : State) (p : Nat) (tx : Bool) : Nat :=
  let a := if p = 0 then Reg.TIME_PTP_CORR_N0 else Reg.TIME_PTP_CORR_N1
  let c := if tx then s.fld a 15 0 else s.fld a 31 16
  let corr : Int := (BitVec.ofNat 16 c).toInt
  let t : Int := 16 * (s.ns : Int) + (s.stime.frac.toNat / 2 ^ 28 : Nat) + corr
  (t / 4).toNat

def State.ptpEn (s : State) (p : Nat) : Bool := s.bit (Reg.PORT_CTL p) 4

/-- The one's complement update of a UDP checksum for bytes `new` in place of `old`, at an even offset (RFC 1624). -/
def csumUpdate (c : Nat) (old new : Bytes) : Nat :=
  let word := fun (b : Bytes) i => beAt b (2 * i) 2
  let fold := fun n => n / 65536 + n % 65536
  let t := (List.range ((new.length + 1) / 2)).foldl (fun t i => t + (65535 - word old i) + word new i) (65535 - c)
  let r := 65535 - fold (fold t)
  if r = 0 then 65535 else r

def putBytes (f : Bytes) (o : Nat) (b : Bytes) : Bytes := f.take o ++ b ++ f.drop (o + b.length)

/-- Write originTimestamp into a Sync and mend its UDP checksum, unless that is an IPv4 zero (R51). -/
def stampSync (f : Bytes) (o qns : Nat) : Bytes :=
  let t := beBytes 6 (qns / 4 / 1000000000) ++ beBytes 4 (qns / 4 % 1000000000)
  let old := slice f (o + 34) 10
  let g := putBytes f (o + 34) t
  match udpAt f with
  | some (u, v6) =>
    if beAt f (u + 6) 2 = 0 ∧ !v6 then g else putBytes g (u + 6) (beBytes 2 (csumUpdate (beAt f (u + 6) 2) old t))
  | none => g

/-- Put a transmit timestamp into the two-step FIFO, or discard and count it (R51, R52). -/
def State.pushTxts (s : State) (p qns : Nat) (f : Bytes) (o ty : Nat) : State :=
  let x := s.portSt p
  if 64 ≤ x.txts.length then (s.portCount p 7).raise (262 + p)
  else (s.setPort p { x with txts := x.txts ++ [(qns, beAt f (o + 30) 2, ty, beAt f (o + 4) 1)] }).raise (258 + p)

/-! ## Transmission -/

/-- Put a frame on the wire now, with its FCS, its PTP handling and its count. -/
def State.wireTx (s : State) (p : Nat) (f : Bytes) : State :=
  let (s, f) := match s.ptpEn p, ptpEvent f with
    | true, some (o, ty) =>
      let q := s.ptpStamp p true
      if ty = 0 ∧ s.bit (Reg.PORT_CTL p) 5 then (s, stampSync f o q) else (s.pushTxts p q f o ty, f)
    | _, _ => (s, f)
  (s.portCount p 5).emit (.frame p (f ++ fcs f))

/-- Transmission of priority `q` is stopped by the partner. -/
def PortSt.paused (x : PortSt) (q : Nat) : Bool := x.pausedAll || x.pausedPrio.contains q

/-- Send a frame, or queue it while the link is down or its class is paused; frames of one class keep their order
(R628, R638). -/
def State.portSend (s : State) (p : Nat) (f : Bytes) (prio : Nat) : State :=
  if s.maxFrame p < f.length + 4 then s
  else
    let x := s.portSt p
    if s.linkUp p && !x.paused prio && !(x.txq.any fun e => e.prio == prio) then s.wireTx p f
    else s.setPort p { x with txq := x.txq ++ [{ frame := f, since := s.stime.cycle, prio }] }

/-- Send the queued frames that may go, in queue order. -/
def State.portFlush (s : State) (p : Nat) : State :=
  let x := s.portSt p
  if s.linkUp p then
    let s := s.setPort p { x with txq := x.txq.filter fun e => x.paused e.prio }
    (x.txq.filter fun e => !x.paused e.prio).foldl (fun s e => s.wireTx p e.frame) s
  else s

/-- TX_HOLD_TIMEOUT (R638): while the link is down, frames held for more than 10 ms are dropped whole. -/
def execTxHoldTimeout (p : Nat) (s : State) : Result :=
  if 2 ≤ p ∨ s.linkUp p then .next s
  else
    let x := s.portSt p
    let old := x.txq.filter fun e => decide (e.since + 8000000 < s.stime.cycle)
    if old.isEmpty then .next s
    else
      let first := !x.holdDropped
      let s := s.setPort p { x with txq := x.txq.filter (fun e => !decide (e.since + 8000000 < s.stime.cycle)), holdDropped := true }
      let s := s.addSat64 (Reg.PORT_CTR p 6) old.length
      .next (if first then s.raise (260 + p) else s)

/-- PORT_PTP_TXTS_INFO (R635, R669): a read removes the oldest FIFO entry and latches its timestamp. -/
def execPortPtpTxtsInfo (p : Nat) (s : State) : Result :=
  if 2 ≤ p then .next (s.emit (.value 0))
  else
    let x := s.portSt p
    match x.txts with
    | [] => .next ((s.wr (Reg.PORT_PTP_TXTS_INFO p) 0).emit (.value 0))
    | (q, seq, ty, dom) :: r =>
      let v := setFieldOf (setFieldOf (setFieldOf (setFieldOf 0 31 31 1) 30 24 r.length) 23 8 seq) 7 4 ty
      let s := (s.setPort p { x with txts := r }).wr64 (Reg.PORT_PTP_TXTS_TIME p) (BitVec.ofNat 64 (q / 4))
      let s := (s.wr (Reg.PORT_PTP_TXTS_INFO p) v).setf (Reg.PORT_PTP_TXTS_INFO2 p) 7 0 dom
      .next (s.emit (.value v.toNat))

/-! ## Flow control (R630, R631) -/

def State.pfcEn (s : State) (p : Nat) : Bool := s.bit (Reg.PORT_CTL p) 6
def State.pauseEn (s : State) (p : Nat) : Bool := s.bit (Reg.PORT_CTL p) 7 && !s.pfcEn p

def State.macControl (s : State) (p : Nat) (body : Bytes) : State :=
  let f := [0x01, 0x80, 0xC2, 0x00, 0x00, 0x01] ++ s.portMac p ++ [0x88, 0x08] ++ body
  let f := f ++ zeros (60 - f.length)
  if s.linkUp p then s.emit (.frame p (f ++ fcs f)) else s

def State.sendPause (s : State) (p quanta : Nat) : State := s.macControl p (beBytes 2 1 ++ beBytes 2 quanta)

/-- A PFC frame that stops (or restarts) one priority. -/
def State.sendPfc (s : State) (p prio quanta : Nat) : State :=
  s.macControl p (beBytes 2 0x0101 ++ beBytes 2 (2 ^ prio) ++
    ((List.range 8).map fun i => beBytes 2 (if i = prio then quanta else 0)).flatten)

def PortSt.rxBytes (x : PortSt) (q : Option Nat) : Nat :=
  ((x.rxHeld.filter fun e => match q with | some k => framePrio e.1 == k | none => true).map fun e => e.1.length + 4).sum

/-- Send the pause or PFC frames that the receive buffer's fill asks for. -/
def State.flowUpdate (s : State) (p : Nat) : State :=
  if s.pauseEn p then
    let x := s.portSt p
    let n := x.rxBytes none
    if 786432 < n ∧ !x.pauseSent then (s.setPort p { x with pauseSent := true }).sendPause p 0xFFFF
    else if n < 524288 ∧ x.pauseSent then (s.setPort p { x with pauseSent := false }).sendPause p 0
    else s
  else if s.pfcEn p then
    (List.range 8).foldl (fun s q =>
      let x := s.portSt p
      let n := x.rxBytes (some q)
      if !s.bit (Reg.PORT_CTL p) (8 + q) then s
      else if 786432 < n ∧ !x.pfcSent.contains q then (s.setPort p { x with pfcSent := insertNat q x.pfcSent }).sendPfc p q 0xFFFF
      else if n < 524288 ∧ x.pfcSent.contains q then
        (s.setPort p { x with pfcSent := x.pfcSent.filter (· != q) }).sendPfc p q 0
      else s) s
  else s

/-- A received MAC control frame (R630, R631, R663): pause or PFC; quanta 0 lets transmission resume. -/
def State.rxControl (s : State) (p : Nat) (f : Bytes) : State :=
  let x := s.portSt p
  if beAt f 14 2 = 1 then
    if s.pauseEn p then (s.setPort p { x with pausedAll := beAt f 16 2 != 0 }).portFlush p else s
  else if beAt f 14 2 = 0x0101 ∧ s.pfcEn p then
    let hit := fun q => s.bit (Reg.PORT_CTL p) (8 + q) && beAt f 17 1 / 2 ^ q % 2 == 1
    let l := (List.range 8).foldl (fun l q =>
      if !hit q then l else if beAt f (18 + 2 * q) 2 = 0 then l.filter (· != q) else insertNat q l) x.pausedPrio
    (s.setPort p { x with pausedPrio := l }).portFlush p
  else s

/-- PAUSE_TIME_EXPIRY (R630): the requested time has run out for the port (`none`) or one priority. -/
def execPauseTimeExpiry (p : Nat) (prio : Option Nat) (s : State) : Result :=
  if 2 ≤ p then .next s
  else
    let x := s.portSt p
    .next ((s.setPort p (match prio with
      | none => { x with pausedAll := false }
      | some q => { x with pausedPrio := x.pausedPrio.filter (· != q) })).portFlush p)

/-- PAUSE_IGNORED follows PFC_EN with PAUSE_EN (R631). -/
def State.pauseIgnored (s : State) (p : Nat) : State :=
  let s := s.setb (Reg.PORT_STAT p) 3 (s.pfcEn p && s.bit (Reg.PORT_CTL p) 7)
  let x := s.portSt p
  let x := if s.pauseEn p then x else { x with pausedAll := false }
  let x := if s.pfcEn p then x else { x with pausedPrio := [] }
  (s.setPort p x).portFlush p

/-! ## Link and relock (R636 to R639, Table NET-2) -/

/-- LINK goes down: the transition is counted and reported, and transmission is held. -/
def State.linkDown (s : State) (p : Nat) : State :=
  let was := s.linkUp p
  let s := (s.setb (Reg.PORT_STAT p) 0 false).setb (Reg.PORT_STAT p) 2 true
  let s := s.setPort p { s.portSt p with pausedAll := false, pausedPrio := [], pauseSent := false, pfcSent := [] }
  if was then (((s.setPort p { s.portSt p with holdDropped := false }).portCount p 8).countLink (4 + 2 * p)).raise (256 + p) else s

/-- Proof has fenced port `p`: it behaves as mode DISABLED (R778). -/
def State.portFenced (s : State) (p : Nat) : Bool := s.bit Reg.PROOF_STAT (17 + p)

/-- The lanes of port `p` that the mode in force uses, from lane 0 (R966). -/
def State.portLanes (s : State) (p : Nat) : Nat := modeLanes (s.fld (Reg.PORT_STAT p) 7 4)

/-- A relock trigger of port `p` toward `mode` (step 1 of Table NET-2); during a slice of the port it waits for the slice's
end (R774). A DISABLED port stays down. -/
def State.relock (s : State) (p mode : Nat) : State :=
  if s.proof.slice = some (17 + p) then s.setPort p { s.portSt p with relockWait := some mode } else
  let mode := if s.portFenced p then 0 else mode
  let s := (s.linkDown p).setb (Reg.PORT_STAT p) 1 false
  let was := s.portLanes p
  let s := s.setf (Reg.PORT_STAT p) 7 4 mode
  let s := if s.portLanes p = was then s else s.emit (.lanes p (s.portLanes p))
  let s := if mode = 0 then s.setb (Reg.PORT_CTL p) 16 false else s
  s.setPort p { s.portSt p with relock := if mode = 0 then 0 else 1 }

/-- MODE is set by register, stroke or live swap: a mode that differs from the one in force relocks (R626, R636). -/
def State.portMode (s : State) (p mode : Nat) (recal : Bool) : State :=
  let s := s.setf (Reg.PORT_CTL p) 3 0 mode
  if s.fld (Reg.PORT_STAT p) 7 4 = mode ∧ !recal then s else s.relock p mode

/-- A PORT_MODE stroke. One that falls in the cycle of a MODE register write applies before it, so the write's mode stands (R662). -/
def State.portStroke (s : State) (p mode : Nat) : State :=
  match (s.cyc.of s.stime.cycle).modes.find? (·.1 == p) with
  | some w => (s.portMode p mode false).portMode p w.2.1 false
  | none => s.portMode p mode false

/-- Note a MODE write of port `p` for the strokes of its cycle (R662). -/
def State.noteMode (s : State) (p mode : Nat) : State :=
  let c := s.cyc.of s.stime.cycle
  let was := match c.modes.find? (·.1 == p) with
    | some w => w.2.2
    | none => (s.portSt p).relock == 1
  { s with cyc := { c with modes := (p, mode, was) :: c.modes.filter (·.1 != p) } }

/-- PORT_MODE_WRITE (R6, R9, R626, R636, R662): a write of PORT_CTL by the Scribe or Draft world; a reserved MODE is ignored
whole. RECAL in the same write relocks, and reads 1 until that relock is complete. -/
def execPortModeWrite (p : Nat) (v : Word) (s : State) : Result :=
  if 2 ≤ p ∨ 5 ≤ fieldOf v 3 0 then .next s
  else
    let s := (s.noteMode p (fieldOf v 3 0)).setf (Reg.PORT_CTL p) 15 0 (fieldOf v 15 0)
    let s := if v.getLsbD 16 then s.setb (Reg.PORT_CTL p) 16 true else s
    .next ((s.portMode p (fieldOf v 3 0) (v.getLsbD 16)).pauseIgnored p)

/-- RECAL (R6, R636): RECAL set with MODE unchanged. -/
def execRecal (p : Nat) (s : State) : Result :=
  if 2 ≤ p then .next s else .next ((s.setb (Reg.PORT_CTL p) 16 true).relock p (s.fld (Reg.PORT_STAT p) 7 4))

/-- The junction temperature, °C. -/
def State.tj (s : State) : Int := (BitVec.ofNat 8 (s.fld Reg.BLOT_SENSE 31 24)).toInt

/-- PORT_TEMP_CHECK (R636): once per second; 25 °C or more from the last calibration relocks. -/
def execPortTempCheck (p : Nat) (s : State) : Result :=
  if 2 ≤ p ∨ s.fld (Reg.PORT_STAT p) 7 4 = 0 ∨ (s.portSt p).relock ≠ 0 then .next s
  else if 25 ≤ (s.tj - (s.portSt p).calTj).natAbs then .next (s.relock p (s.fld (Reg.PORT_STAT p) 7 4))
  else .next s

/-- SYNTH_LOSS_OF_LOCK (R636). -/
def execSynthLossOfLock (p : Nat) (s : State) : Result :=
  if 2 ≤ p ∨ s.fld (Reg.PORT_STAT p) 7 4 = 0 then .next s else .next (s.relock p (s.fld (Reg.PORT_STAT p) 7 4))

/-- Steps 2 and 3 of Table NET-2: LOCKED is set; the strokes that wait on the port are run by the caller (R74). -/
def State.relockDone (s : State) (p : Nat) : State :=
  let s := (s.setb (Reg.PORT_CTL p) 16 false).setPort p { s.portSt p with relock := 2, calTj := s.tj }
  (s.setb (Reg.PORT_STAT p) 1 true).raise (270 + p)

/-- LINK_UP (R637, R639, R663, R966): the partner's PCS has aligned on the lanes given, those outside the mode ignored; held
frames go in queue order. -/
def execLinkUp (x : PortLanes) (s : State) : Result :=
  let p := x.port
  if (List.range (s.portLanes p)).any fun k => !x.lanes.testBit k then .next s else
  if 2 ≤ p ∨ s.linkUp p ∨ !s.bit (Reg.PORT_STAT p) 1 ∨ s.portFenced p ∨ s.proof.slice = some (17 + p) then .next s
  else
    let s := s.setPort p { s.portSt p with relock := 0, holdDropped := false }
    let s := (s.setb (Reg.PORT_STAT p) 0 true).setb (Reg.PORT_STAT p) 2 false
    .next ((s.raise (264 + p)).portFlush p)

/-- PCS_ALIGNMENT_LOSS (R639): the link goes down without a relock. -/
def execPcsAlignmentLoss (p : Nat) (s : State) : Result :=
  if 2 ≤ p ∨ !s.linkUp p then .next s
  else
    let s := s.linkDown p
    .next (s.setPort p { s.portSt p with relock := 2 })

end Sys2Proof.Machine
end

