-- ==== Sys2Proof/Machine/Frames.lean ====
section
/-! DEFINITION. Chapters 15 and 16 together: what becomes of a received frame, and of a queued one. -/

namespace Sys2Proof.Machine

/-! ## The BSP receive path (R641, R683, Table NET-6) -/

/-- Where the IP header of a frame lies, and whether it is IPv6. -/
def ipOf (f : Bytes) : Option (Nat × Bool) :=
  let e := etherAt f
  if beAt f e 2 = 0x0800 then some (e + 2, false) else if beAt f e 2 = 0x86DD then some (e + 2, true) else none

/-- The frame's destination MAC and IP are the port's (R683). -/
def State.forPort (s : State) (p : Nat) (f : Bytes) : Bool :=
  f.take 6 == s.portMac p &&
    match ipOf f with
    | some (o, false) => slice f (o + 16) 4 == s.portIp4 p
    | some (o, true) => slice f (o + 24) 16 == s.portIp6 p
    | none => false

/-- The UDP datagram at offset `u` of a frame: its checksum holds (check 1 of Table NET-6). -/
def udpCsumOk (f : Bytes) (ip u : Nat) (v6 : Bool) : Bool :=
  let len := beAt f (u + 4) 2
  let seg := slice f u len
  let addrs := if v6 then slice f (ip + 8) 32 else slice f (ip + 12) 8
  (!v6 && beAt f (u + 6) 2 == 0) || onesSum (addrs ++ beBytes 2 17 ++ beBytes 2 len ++ seg) == 0xFFFF

/-- TYPEs of Table NET-4. -/
def bspTypeListed (t : Nat) : Bool := decide (1 ≤ t ∧ t ≤ 6) || t == 0x10 || t == 0x11 || decide (0x20 ≤ t ∧ t ≤ 0x22)

/-- Check 2 of Table NET-6 on a UDP payload. -/
def bspFormatOk (b : Bytes) : Bool :=
  decide (32 ≤ b.length) && beAt b 0 2 == 0xB5D0 && beAt b 2 1 == 1 && bspTypeListed (beAt b 3 1) &&
    beAt b 0x1C 2 / 16 % 2048 == 0 && 32 + beAt b 0x14 2 == b.length

/-- Hand a frame that ends at a BSP node to the BSP path: R683, then checks 1 and 2; what passes waits in `rxBsp`. -/
def State.rxBspFrame (s : State) (p : Nat) (f : Bytes) (pr : Parsed) : State :=
  match pr.bsp, pr.l3, pr.l4 with
  | some b, some ip, some u =>
    if !s.forPort p f then s.quilCount 9
    else if !s.bit (Reg.PORT_BSP_CFG p) 19 then s
    else
      let v6 := (ipOf f).any fun x => x.2
      let pay := slice f b (beAt f (u + 4) 2 - 8)
      if pr.frag || pr.parseErr || decide (beAt f (u + 4) 2 < 8) || decide (f.length < u + beAt f (u + 4) 2) ||
          !udpCsumOk f ip u v6 || !bspFormatOk pay then s.portCount p 9
      else
        let src : BspAddr := {
          port := p, mac := slice f 6 6, tags := slice f 12 (etherAt f - 12), v6 := v6
          ip := if v6 then slice f (ip + 8) 16 else slice f (ip + 12) 4
          udp := beAt f u 2
          dscp := if v6 then beAt f ip 2 / 64 % 64 else beAt f (ip + 1) 1 / 4 }
        { s with net := { s.net with rxBsp := s.net.rxBsp ++ [⟨src, pay.take 32, pay.drop 32⟩] } }
  | _, _, _ => s.quilCount 9

/-! ## Receive (R628 to R632, R681 to R690) -/

/-- What Quill does with an accepted frame `f` (FCS removed), stamped `ts` in quarter nanoseconds. -/
def State.quillRx (s : State) (p : Nat) (f : Bytes) (ts : Nat) : State :=
  if s.quilFenced then s.quilCount p
  else
    let bank := s.quilActive
    let t := s.quilBank bank
    match s.classify f p false with
    | (s, _, none) => s.quilCount p
    | (s, pr, some r) =>
      let w3 := t 1 r 3
      let stamp := if s.ptpEn p && (ptpEvent f).isSome then some ts else none
      match s.ratePass w3 (f.length + 4) with
      | (s, false) => s
      | (s, true) =>
        let wake := w3.getLsbD 18
        let s := if wake then (s.raise 290).wakeBy 2 else s
        let s := if w3.getLsbD 23 then s.deliverFrame (fieldOf w3 22 19) f pr p false true wake r bank stamp else s
        match fieldOf w3 31 28 with
        | 1 => s.deliverFrame (fieldOf w3 27 24) f pr p false false wake r bank stamp
        | 2 => s.deliverFrame 15 f pr p false false wake r bank stamp
        | 3 => s.rxBspFrame p f pr
        | _ => s

/-- Classify the frames that wait in a port's receive buffer once Quill runs again (R686). -/
def State.rxDrain (s : State) (p : Nat) : State :=
  if s.quillRuns then
    let q := (s.portSt p).rxHeld
    let s := s.setPort p { s.portSt p with rxHeld := [] }
    (q.foldl (fun s e => s.quillRx p e.1 e.2) s).flowUpdate p
  else s

/-- The MAC's verdict on a frame, FCS included (R628): 0 accepted, else the counter to increment. -/
def State.macVerdict (s : State) (p : Nat) (f : Bytes) : Nat :=
  if f.length < 64 then 2 else if s.maxFrame p < f.length then 3 else if !fcsOk f then 1 else 0

/-- FRAME_RECEIVE (R628 to R632, R681): a frame, FCS included, arrives at port `p` at this instant. -/
def execFrameReceive (p : Nat) (f : Bytes) (s : State) : Result :=
  if 2 ≤ p then .next s
  else if !s.linkUp p then .next (if s.proof.slice = some (17 + p) then s.portCount p 4 else s)
  else
    let v := s.macVerdict p f
    if v ≠ 0 then
      let s := s.portCount p v
      .next (if v = 1 then s.countLink (3 + 2 * p) else s)
    else
      let s := s.portCount p 0
      let g := f.take (f.length - 4)
      if beAt g 12 2 = 0x8808 then .next (s.rxControl p g)
      else
        let ts := s.ptpStamp p false
        if s.quillRuns then .next (s.quillRx p g ts)
        else
          let s := s.wakeBy 3
          let x := s.portSt p
          if 1048576 < x.rxBytes none + f.length then .next (s.portCount p 4)
          else .next ((s.setPort p { x with rxHeld := x.rxHeld ++ [(g, ts)] }).flowUpdate p)

/-! ## Transmit queues (R691 to R694) -/

def txBase (q : Nat) : Nat := Reg.QUIL_TX_BASE q
def txCfg (q : Nat) : Nat := Reg.QUIL_TX_CFG q
def txTail (q : Nat) : Nat := Reg.QUIL_TX_TAIL q
def txHead (q : Nat) : Nat := Reg.QUIL_TX_HEAD q

/-- QUIL_TX_TAIL (R691): the queue's producer announces descriptors; queue 8 is the Scribe world's. -/
def execQuilTxTail (p : Party) (q : Nat) (v : Word) (s : State) : Result :=
  if 9 ≤ q then .next s
  else match p with
    | .scribe => .next (s.setf (txTail q) 13 0 (fieldOf v 13 0))
    | .draft => if q = 8 then .next s else .next (s.setf (txTail q) 13 0 (fieldOf v 13 0))
    | _ => .next s

/-- Read `n` bytes for Quill on behalf of a queue's world, if they lie in SRAM, are permitted and are not poisoned. -/
def State.quillRead (s : State) (q a n : Nat) : State × Option Bytes :=
  match unitOf a with
  | none => (s, none)
  | some u =>
    if !inSram a n then (s, none) else
    match s.rule u ⟨a, n, .read, 18, queueWorld q, .m, none⟩ with
    | (s, false) => (s, none)
    | (s, true) => if s.poisoned a n then (s, none) else (s, some (s.memBytes a n))

/-- A frame that the screen and the transmit rules let pass, or its drop (R692, Table QUI-9). -/
def State.quillTx (s : State) (q p : Nat) (f : Bytes) (sealed : Bool) : State :=
  let bank := s.quilActive
  let t := s.quilBank bank
  let pr := parseFrame t (s.fld (Reg.PORT_BSP_CFG p) 15 0) f
  match (if sealed then none else leakHit t f pr) with
  | some i => s.leakDrop p q i
  | none =>
    match s.classify f p true with
    | (s, _, none) => if (ptpAt f true).isSome then s.portSend p f (framePrio f) else s.quilCount (2 + p)
    | (s, pr, some r) =>
      let w3 := t 1 r 3
      match s.ratePass w3 (f.length + 4) with
      | (s, false) => s
      | (s, true) =>
        let s := if w3.getLsbD 23 then s.deliverFrame (fieldOf w3 22 19) f pr p true true false r bank none else s
        if fieldOf w3 31 28 = 1 then s.portSend p f (framePrio f) else s

/-- FRAME_TRANSMIT (R691, R692): the descriptor at the head of queue `q` is sent or dropped, and the head advances. -/
def execFrameTransmit (q : Nat) (s : State) : Result :=
  if 9 ≤ q ∨ !s.bit (txCfg q) 31 ∨ !s.quillRuns ∨ s.quilFenced then .next s
  else
    let h := s.fld (txHead q) 13 0
    if h = s.fld (txTail q) 13 0 then .next s
    else
      let a := (s.rd64 (txBase q)).toNat % 2 ^ 40 + 16 * h
      let advance := fun (s : State) => s.setf (txHead q) 13 0 ((h + 1) % 2 ^ s.fld (txCfg q) 3 0)
      match s.quillRead q a 16 with
      | (s, none) => .next (advance (s.quilCount 10))
      | (s, some d) =>
        let len := leAt d 8 2
        let p := leAt d 10 1
        let flags := leAt d 11 1
        if leAt d 5 3 ≠ 0 ∨ leAt d 12 4 ≠ 0 ∨ 2 ≤ p ∨ 2 ≤ flags ∨ s.maxFrame p - 4 < len then .next (advance (s.quilCount 10))
        else match s.quillRead q (leAt d 0 5) len with
          | (s, none) => .next (advance (s.quilCount 10))
          | (s, some f) =>
            let sealed := flags == 1 && s.bit (txCfg q) 30
            .next (advance (s.quillTx q p (f ++ zeros (60 - f.length)) sealed))

end Sys2Proof.Machine
end

