-- ==== Sys2Proof/Machine/Hash.lean ====
section
/-! DEFINITION. The hash functions of Tables SCO-7 and NIB-8: SHA-2 (FIPS 180-4), SHA-3 and SHAKE (FIPS 202), HMAC (FIPS 198-1) and
KMAC (SP 800-185). Words are natural numbers, so that Lean's kernel computes with them (PRESUMED from the standards, log entry 5). -/

namespace Sys2Proof.Machine

/-- `b` cut or zero-filled to `n` bytes. -/
def fitTo (n : Nat) (b : Bytes) : Bytes := b.take n ++ zeros (n - b.length)

/-- A string cut into blocks of `n` bytes, the last one shorter where it does not divide. -/
def blocksOf (n : Nat) : Nat → Bytes → List Bytes
  | 0, _ => []
  | f + 1, b => if b.isEmpty then [] else b.take n :: blocksOf n f (b.drop n)

def inBlocks (n : Nat) (b : Bytes) : List Bytes := blocksOf n (b.length / n + 1) b

/-! ## SHA-2 -/

/-- Rotate a `w`-bit word right, and left. -/
def rotr (w r x : Nat) : Nat := ((x >>> r) ||| (x <<< (w - r))) % 2 ^ w

def rotl (w r x : Nat) : Nat := rotr w (w - r) x

/-- The round constants of SHA-384 and SHA-512; SHA-256 takes the upper halves of the first 64. -/
def shaK0 : List Nat := [
    0x428A2F98D728AE22, 0x7137449123EF65CD, 0xB5C0FBCFEC4D3B2F, 0xE9B5DBA58189DBBC,
    0x3956C25BF348B538, 0x59F111F1B605D019, 0x923F82A4AF194F9B, 0xAB1C5ED5DA6D8118,
    0xD807AA98A3030242, 0x12835B0145706FBE, 0x243185BE4EE4B28C, 0x550C7DC3D5FFB4E2,
    0x72BE5D74F27B896F, 0x80DEB1FE3B1696B1, 0x9BDC06A725C71235, 0xC19BF174CF692694,
    0xE49B69C19EF14AD2, 0xEFBE4786384F25E3, 0xFC19DC68B8CD5B5, 0x240CA1CC77AC9C65]

def shaK1 : List Nat := [
    0x2DE92C6F592B0275, 0x4A7484AA6EA6E483, 0x5CB0A9DCBD41FBD4, 0x76F988DA831153B5,
    0x983E5152EE66DFAB, 0xA831C66D2DB43210, 0xB00327C898FB213F, 0xBF597FC7BEEF0EE4,
    0xC6E00BF33DA88FC2, 0xD5A79147930AA725, 0x6CA6351E003826F, 0x142929670A0E6E70,
    0x27B70A8546D22FFC, 0x2E1B21385C26C926, 0x4D2C6DFC5AC42AED, 0x53380D139D95B3DF,
    0x650A73548BAF63DE, 0x766A0ABB3C77B2A8, 0x81C2C92E47EDAEE6, 0x92722C851482353B]

def shaK2 : List Nat := [
    0xA2BFE8A14CF10364, 0xA81A664BBC423001, 0xC24B8B70D0F89791, 0xC76C51A30654BE30,
    0xD192E819D6EF5218, 0xD69906245565A910, 0xF40E35855771202A, 0x106AA07032BBD1B8,
    0x19A4C116B8D2D0C8, 0x1E376C085141AB53, 0x2748774CDF8EEB99, 0x34B0BCB5E19B48A8,
    0x391C0CB3C5C95A63, 0x4ED8AA4AE3418ACB, 0x5B9CCA4F7763E373, 0x682E6FF3D6B2B8A3,
    0x748F82EE5DEFB2FC, 0x78A5636F43172F60, 0x84C87814A1F0AB72, 0x8CC702081A6439EC]

def shaK3 : List Nat := [
    0x90BEFFFA23631E28, 0xA4506CEBDE82BDE9, 0xBEF9A3F7B2C67915, 0xC67178F2E372532B,
    0xCA273ECEEA26619C, 0xD186B8C721C0C207, 0xEADA7DD6CDE0EB1E, 0xF57D4F7FEE6ED178,
    0x6F067AA72176FBA, 0xA637DC5A2C898A6, 0x113F9804BEF90DAE, 0x1B710B35131C471B,
    0x28DB77F523047D84, 0x32CAAB7B40C72493, 0x3C9EBE0A15C9BEBC, 0x431D67C49C100D4C,
    0x4CC5D4BECB3E42B6, 0x597F299CFC657E2A, 0x5FCB6FAB3AD6FAEC, 0x6C44198C4A475817]

def shaK : List Nat := shaK0 ++ shaK1 ++ shaK2 ++ shaK3

/-- The initial values of SHA-512 (SHA-256 takes their upper halves), and of SHA-384. -/
def shaInit512 : List Nat := [
    0x6A09E667F3BCC908, 0xBB67AE8584CAA73B, 0x3C6EF372FE94F82B, 0xA54FF53A5F1D36F1,
    0x510E527FADE682D1, 0x9B05688C2B3E6C1F, 0x1F83D9ABFB41BD6B, 0x5BE0CD19137E2179]

def shaInit384 : List Nat := [
    0xCBBB9D5DC1059ED8, 0x629A292A367CD507, 0x9159015A3070DD17, 0x152FECD8F70E5939,
    0x67332667FFC00B31, 0x8EB44A8768581511, 0xDB0C2E0D64F98FA7, 0x47B5481DBEFA4FA4]

/-- One hash of the SHA-2 family: word bits, round constants, initial value, and the amounts of its four sigma functions (of the small
ones the third is a shift). -/
structure Sha2 where
  w : Nat
  k : List Nat
  init : List Nat
  big0 : Nat × Nat × Nat
  big1 : Nat × Nat × Nat
  small0 : Nat × Nat × Nat
  small1 : Nat × Nat × Nat

def sha2for256 : Sha2 :=
  ⟨32, (shaK.take 64).map (· >>> 32), shaInit512.map (· >>> 32), (2, 13, 22), (6, 11, 25), (7, 18, 3), (17, 19, 10)⟩

def sha2for512 : Sha2 := ⟨64, shaK, shaInit512, (28, 34, 39), (14, 18, 41), (1, 8, 7), (19, 61, 6)⟩

def sha2for384 : Sha2 := { sha2for512 with init := shaInit384 }

def Sha2.big (h : Sha2) (r : Nat × Nat × Nat) (x : Nat) : Nat := rotr h.w r.1 x ^^^ rotr h.w r.2.1 x ^^^ rotr h.w r.2.2 x

def Sha2.small (h : Sha2) (r : Nat × Nat × Nat) (x : Nat) : Nat := rotr h.w r.1 x ^^^ rotr h.w r.2.1 x ^^^ x >>> r.2.2

/-- One round: the eight working variables, and the window of sixteen message-schedule words, whose first is this round's. -/
def Sha2.round (h : Sha2) (x : List Nat × List Nat) (k : Nat) : List Nat × List Nat :=
  match x.1, x.2 with
  | [a, b, c, d, e, f, g, i], w0 :: ws =>
    let t1 := i + h.big h.big1 e + ((e &&& f) ^^^ ((2 ^ h.w - 1 - e) &&& g)) + k + w0
    let t2 := h.big h.big0 a + ((a &&& b) ^^^ (a &&& c) ^^^ (b &&& c))
    let w := (h.small h.small1 (ws.getD 13 0) + ws.getD 8 0 + h.small h.small0 (ws.getD 0 0) + w0) % 2 ^ h.w
    ([(t1 + t2) % 2 ^ h.w, a, b, c, (d + t1) % 2 ^ h.w, e, f, g], ws ++ [w])
  | v, w => (v, w)

/-- The compression of one block. -/
def Sha2.block (h : Sha2) (v : List Nat) (b : Bytes) : List Nat :=
  let m := (inBlocks (h.w / 8) b).map ofBe
  List.zipWith (fun x y => (x + y) % 2 ^ h.w) v (h.k.foldl h.round (v, m)).1

/-- The padded message: a 1 bit, zeros, and the length in bits, in whole blocks of sixteen words. -/
def Sha2.pad (h : Sha2) (m : Bytes) : Bytes :=
  let blk := 2 * h.w
  let used := m.length + 1 + h.w / 4
  m ++ [0x80] ++ zeros ((blk - used % blk) % blk) ++ beBytes (h.w / 4) (8 * m.length)

def Sha2.hash (h : Sha2) (n : Nat) (m : Bytes) : Bytes :=
  fitTo n (((inBlocks (2 * h.w) (h.pad m)).foldl h.block h.init).map (beBytes (h.w / 8))).flatten

/-! ## Keccak -/

def keccakRc : List Nat := [
    0x1, 0x8082, 0x800000000000808A, 0x8000000080008000,
    0x808B, 0x80000001, 0x8000000080008081, 0x8000000000008009,
    0x8A, 0x88, 0x80008009, 0x8000000A,
    0x8000808B, 0x800000000000008B, 0x8000000000008089, 0x8000000000008003,
    0x8000000000008002, 0x8000000000000080, 0x800A, 0x800000008000000A,
    0x8000000080008081, 0x8000000000008080, 0x80000001, 0x8000000080008008]

/-- The rotation of lane x + 5 y, at that index. -/
def keccakRot : List Nat := [0, 1, 62, 28, 27, 36, 44, 6, 55, 20, 3, 10, 43, 25, 39, 41, 45, 15, 21, 8, 18, 2, 61, 56, 14]

/-- One round of Keccak-f[1600] over the 25 lanes, lane x + 5 y at that index. -/
def keccakRound (a : List Nat) (rc : Nat) : List Nat :=
  let c := (List.range 5).map fun x =>
    a.getD x 0 ^^^ a.getD (x + 5) 0 ^^^ a.getD (x + 10) 0 ^^^ a.getD (x + 15) 0 ^^^ a.getD (x + 20) 0
  let d := (List.range 5).map fun x => c.getD ((x + 4) % 5) 0 ^^^ rotl 64 1 (c.getD ((x + 1) % 5) 0)
  let a := (List.range 25).map fun i => rotl 64 (keccakRot.getD i 0) (a.getD i 0 ^^^ d.getD (i % 5) 0)
  let b := (List.range 25).map fun i => a.getD ((i % 5 + 3 * (i / 5)) % 5 + 5 * (i % 5)) 0
  let b := (List.range 25).map fun i =>
    b.getD i 0 ^^^ ((2 ^ 64 - 1 - b.getD ((i + 1) % 5 + 5 * (i / 5)) 0) &&& b.getD ((i + 2) % 5 + 5 * (i / 5)) 0)
  match b with
  | x :: r => (x ^^^ rc) :: r
  | [] => []

def keccakF (a : List Nat) : List Nat := keccakRc.foldl keccakRound a

/-- The lanes with a block of `r` bytes absorbed. -/
def keccakAbsorb (r : Nat) (a : List Nat) (b : Bytes) : List Nat :=
  keccakF (List.zipWith (· ^^^ ·) a ((inBlocks 8 (b ++ zeros (200 - r))).map ofLe))

/-- `n` blocks of `r` bytes squeezed from the lanes. -/
def keccakSqueeze (r : Nat) : Nat → List Nat → Bytes
  | 0, _ => []
  | n + 1, a => ((a.map (leBytes 8)).flatten).take r ++ keccakSqueeze r n (keccakF a)

/-- `n` bytes of the sponge of rate `r` over a message with domain-separation byte `sep`. -/
def sponge (r sep n : Nat) (m : Bytes) : Bytes :=
  let fill := r - 1 - m.length % r
  let padded := if fill = 0 then m ++ [BitVec.ofNat 8 (sep + 0x80)] else m ++ [BitVec.ofNat 8 sep] ++ zeros (fill - 1) ++ [0x80]
  fitTo n (keccakSqueeze r ((n + r - 1) / r) ((inBlocks r padded).foldl (keccakAbsorb r) (List.replicate 25 0)))

/-! ## KMAC (SP 800-185) -/

/-- The shortest non-empty big-endian encoding of `n`; left_encode puts its length first, right_encode last. -/
def minBytes (n : Nat) : Bytes := beBytes (max 1 ((n.log2 + 8) / 8)) n

def leftEncode (n : Nat) : Bytes := BitVec.ofNat 8 (minBytes n).length :: minBytes n

def rightEncode (n : Nat) : Bytes := minBytes n ++ [BitVec.ofNat 8 (minBytes n).length]

def encodeString (b : Bytes) : Bytes := leftEncode (8 * b.length) ++ b

def bytepad (b : Bytes) (w : Nat) : Bytes :=
  let x := leftEncode w ++ b
  x ++ zeros ((w - x.length % w) % w)

/-- The bytes of an ASCII label. -/
def ascii (t : String) : Bytes := t.toList.map fun c => BitVec.ofNat 8 c.toNat

/-- KMAC over the sponge of rate `r`, with customisation string `c`: `n` bytes. -/
def kmacAt (r n : Nat) (k c m : Bytes) : Bytes :=
  sponge r 4 n (bytepad (encodeString (ascii "KMAC") ++ encodeString c) r ++ bytepad (encodeString k) r ++ m ++ rightEncode (8 * n))

/-! ## By algorithm code (Table NIB-8) -/

abbrev Alg.sha256 : Nat := 1
abbrev Alg.sha384 : Nat := 2
abbrev Alg.sha512 : Nat := 3

/-- Output bytes of a fixed-length hash of Table NIB-8; 0 for the variable-length ones. -/
def hashLen (alg : Nat) : Nat := match alg with
  | 1 => 32
  | 2 => 48
  | 3 => 64
  | 4 => 32
  | 5 => 48
  | 6 => 64
  | _ => 0

/-- The block of a hash in bytes: for the sponges the rate. -/
def hashBlock (alg : Nat) : Nat := match alg with
  | 1 => 64
  | 2 => 128
  | 3 => 128
  | 4 => 136
  | 5 => 104
  | 6 => 72
  | 7 => 168
  | 9 => 168
  | _ => 136

/-- `n` bytes of the hash or extendable output `alg` of a message. -/
@[irreducible] def digest (alg n : Nat) (m : Bytes) : Bytes := match alg with
  | 1 => sha2for256.hash n m
  | 2 => sha2for384.hash n m
  | 3 => sha2for512.hash n m
  | 7 => sponge 168 0x1F n m
  | 8 => sponge 136 0x1F n m
  | _ => sponge (hashBlock alg) 6 n m

def sha384 (m : Bytes) : Bytes := digest Alg.sha384 48 m

/-- HMAC over the hash `alg`. -/
def hmac (alg n : Nat) (k m : Bytes) : Bytes :=
  let b := hashBlock alg
  let k := fitTo b (if b < k.length then digest alg (hashLen alg) k else k)
  digest alg n (k.map (· ^^^ 0x5C) ++ digest alg (hashLen alg) (k.map (· ^^^ 0x36) ++ m))

def hmac384 (k m : Bytes) : Bytes := hmac Alg.sha384 48 k m

/-- KMAC `alg` with customisation string `c`. -/
@[irreducible] def kmac (alg n : Nat) (k c m : Bytes) : Bytes := kmacAt (hashBlock alg) n k c m

end Sys2Proof.Machine
end

