-- ==== Sys2Proof/Machine/Cipher.lean ====
section
/-! DEFINITION. The AEAD algorithms of R401 with 256-bit keys: AES-256 (FIPS 197) in GCM (SP 800-38D), AES-256-GCM-SIV (RFC 8452) and
ChaCha20-Poly1305 (RFC 8439). Blocks are natural numbers or lists of bytes (PRESUMED from the standards, log entry 5). -/

namespace Sys2Proof.Machine

/-! ## AES-256 -/

/-- Multiply by x in the field of AES, GF(2^8) modulo x^8 + x^4 + x^3 + x + 1. -/
def gfDouble (a : Nat) : Nat := if 128 ≤ a then (2 * a) ^^^ 0x11B else 2 * a

def gfMul (a b : Nat) : Nat :=
  ((List.range 8).foldl (fun (x : Nat × Nat) i => (if b.testBit i then x.1 ^^^ x.2 else x.1, gfDouble x.2)) (0, a)).1

/-- The inverse of an element, 0 of 0: its power 254 = 2 + 4 + ... + 128. -/
def gfInverse (a : Nat) : Nat :=
  ((List.range 7).foldl (fun (x : Nat × Nat) _ => let q := gfMul x.2 x.2; (gfMul x.1 q, q)) (1, a)).1

/-- The S-box: byte `a`, at bits 8 a + 7 to 8 a, is the inverse of `a` in the field (0 of 0) under the affine map. -/
def aesSbox : Nat := 0x16BB54B00F2D99416842E6BF0D89A18CDF2855CEE9871E9B948ED9691198F8E19E1DC186B95735610EF6034866B53E708A8BBD4B1F74DDE8C6B4A61C2E2578BA08AE7A65EAF4566CA94ED58D6D37C8E779E4959162ACD3C25C2406490A3A32E0DB0B5EDE14B8EE4688902A22DC4F816073195D643D7EA7C41744975FEC130CCDD2F3FF1021DAB6BCF5389D928F40A351A89F3C507F02F94585334D43FBAAEFD0CF584C4A39BECB6A5BB1FC20ED00D153842FE329B3D63B52A05A6E1B1A2C830975B227EBE28012079A059618C323C7041531D871F1E5A534CCF73F362693FDB7C072A49CAFA2D4ADF04759FA7DC982CA76ABD7FE2B670130C56F6BF27B777C63

def aesSub (b : List Nat) : List Nat := b.map fun x => aesSbox >>> (8 * x) % 256

def xorNats (a b : List Nat) : List Nat := List.zipWith (· ^^^ ·) a b

/-- The eight words of key schedule after `k`, whose round constant is `rc`. -/
def aesNextKey (k : List (List Nat)) (rc : Nat) : List (List Nat) := match k with
  | [a, b, c, d, e, f, g, h] =>
    let a := xorNats a (xorNats (aesSub (h.drop 1 ++ h.take 1)) [rc, 0, 0, 0])
    let b := xorNats b a
    let c := xorNats c b
    let d := xorNats d c
    let e := xorNats e (aesSub d)
    let f := xorNats f e
    let g := xorNats g f
    [a, b, c, d, e, f, g, xorNats h g]
  | _ => k

/-- Groups of `n` elements, `f` of them at most. -/
def groupsOf (n : Nat) : Nat → List α → List (List α)
  | 0, _ => []
  | f + 1, l => if l.isEmpty then [] else l.take n :: groupsOf n f (l.drop n)

/-- The 15 round keys of a 32-byte key, 16 bytes each. -/
def aesKeys (k : Bytes) : List (List Nat) :=
  let k0 := groupsOf 4 8 (k.map BitVec.toNat)
  let ks := ((List.range 7).foldl (fun (x : List (List (List Nat))) i =>
    x ++ [aesNextKey (x.getLastD []) (2 ^ i)]) [k0]).flatten
  (groupsOf 4 15 ks).map List.flatten

/-- Byte 4 c + r of the state moves to column c from column c + r. -/
def aesShift (b : List Nat) : List Nat := (List.range 16).map fun i => b.getD ((i + 4 * (i % 4)) % 16) 0

def aesMixColumn (c : List Nat) : List Nat := match c with
  | [a, b, c, d] =>
    let t := a ^^^ b ^^^ c ^^^ d
    [a ^^^ t ^^^ gfDouble (a ^^^ b), b ^^^ t ^^^ gfDouble (b ^^^ c), c ^^^ t ^^^ gfDouble (c ^^^ d), d ^^^ t ^^^ gfDouble (d ^^^ a)]
  | _ => c

def aesRounds : List (List Nat) → List Nat → List Nat
  | [], b => b
  | [k], b => xorNats (aesShift (aesSub b)) k
  | k :: ks, b => aesRounds ks (xorNats ((groupsOf 4 4 (aesShift (aesSub b))).map aesMixColumn).flatten k)

/-- AES-256 of one 16-byte block under the round keys. -/
def aesWith (ks : List (List Nat)) (b : Bytes) : Bytes := match ks with
  | k :: ks => (aesRounds ks (xorNats (b.map BitVec.toNat) k)).map (BitVec.ofNat 8)
  | [] => b

def aesBlock (k b : Bytes) : Bytes := aesWith (aesKeys k) b

/-! ## GCM and GCM-SIV -/

/-- Multiply by x in the field of GHASH: the first bit of a block is its constant term. -/
def ghashDouble (v : Nat) : Nat := if v % 2 = 1 then (v >>> 1) ^^^ (0xE1 <<< 120) else v >>> 1

def ghashMul (x y : Nat) : Nat :=
  ((List.range 128).foldl (fun (z : Nat × Nat) i => (if x.testBit (127 - i) then z.1 ^^^ z.2 else z.1, ghashDouble z.2)) (0, y)).1

def ghash (h : Nat) (l : List Nat) : Nat := l.foldl (fun y x => ghashMul (y ^^^ x) h) 0

/-- `b` filled with zeros to whole 16-byte blocks. -/
def pad16 (b : Bytes) : Bytes := b ++ zeros ((16 - b.length % 16) % 16)

/-- The tag of GCM over associated data and ciphertext. -/
def gcmTag (k nonce aad ct : Bytes) : Bytes :=
  let ks := aesKeys k
  let x := pad16 aad ++ pad16 ct ++ beBytes 8 (8 * aad.length) ++ beBytes 8 (8 * ct.length)
  xorBytes (aesWith ks (nonce ++ beBytes 4 1)) (beBytes 16 (ghash (ofBe (aesWith ks (zeros 16))) ((inBlocks 16 x).map ofBe)))

/-- `n` bytes of GCM's key stream. -/
def gcmStream (k nonce : Bytes) (n : Nat) : Bytes :=
  let ks := aesKeys k
  ((List.range ((n + 15) / 16)).map fun i => aesWith ks (nonce ++ beBytes 4 (i + 2))).flatten

/-- The authentication key of GCM-SIV (16 bytes) and its encryption key, behind each other. -/
def sivKeys (k nonce : Bytes) : Bytes :=
  let ks := aesKeys k
  ((List.range 6).map fun i => (aesWith ks (leBytes 4 i ++ nonce)).take 8).flatten

/-- POLYVAL, by GHASH over the reversed blocks. -/
def polyval (h : Bytes) (x : Bytes) : Bytes :=
  leBytes 16 (ghash (ghashDouble (ofLe h)) ((inBlocks 16 x).map ofLe))

/-- The tag of GCM-SIV over associated data and plaintext. -/
def sivTag (k nonce aad pt : Bytes) : Bytes :=
  let ks := sivKeys k nonce
  let x := pad16 aad ++ pad16 pt ++ leBytes 8 (8 * aad.length) ++ leBytes 8 (8 * pt.length)
  let t := xorBytes (polyval (ks.take 16) x) (nonce ++ zeros 4)
  aesBlock (ks.drop 16) (t.take 15 ++ [t.getD 15 0 &&& 0x7F])

/-- `n` bytes of GCM-SIV's key stream, which the tag starts. -/
def sivStream (k nonce tag : Bytes) (n : Nat) : Bytes :=
  let ks := aesKeys ((sivKeys k nonce).drop 16)
  ((List.range ((n + 15) / 16)).map fun i =>
    aesWith ks (leBytes 4 (leAt tag 0 4 + i) ++ slice tag 4 11 ++ [tag.getD 15 0 ||| 0x80])).flatten

/-! ## ChaCha20 and Poly1305 -/

def chachaQuarter (v : List Nat) (a b c d : Nat) : List Nat :=
  let half (v : List Nat) (r s : Nat) : List Nat :=
    let x := (v.getD a 0 + v.getD b 0) % 2 ^ 32
    let w := rotl 32 r (v.getD d 0 ^^^ x)
    let y := (v.getD c 0 + w) % 2 ^ 32
    (((v.set a x).set d w).set c y).set b (rotl 32 s (v.getD b 0 ^^^ y))
  half (half v 16 12) 8 7

def chachaDouble (v : List Nat) : List Nat :=
  let v := (List.range 4).foldl (fun v i => chachaQuarter v i (i + 4) (i + 8) (i + 12)) v
  (List.range 4).foldl (fun v i => chachaQuarter v i ((i + 1) % 4 + 4) ((i + 2) % 4 + 8) ((i + 3) % 4 + 12)) v

/-- Block `i` of the ChaCha20 key stream. -/
def chachaBlock (k nonce : Bytes) (i : Nat) : Bytes :=
  let v := (inBlocks 4 (ascii "expand 32-byte k" ++ k ++ leBytes 4 i ++ nonce)).map ofLe
  ((List.zipWith (fun x y => (x + y) % 2 ^ 32) v ((List.range 10).foldl (fun v _ => chachaDouble v) v)).map (leBytes 4)).flatten

def chachaStream (k nonce : Bytes) (n : Nat) : Bytes :=
  ((List.range ((n + 63) / 64)).map fun i => chachaBlock k nonce (i + 1)).flatten

/-- Poly1305 of a message under a one-time key. -/
def poly1305 (k m : Bytes) : Bytes :=
  let r := leAt k 0 16 &&& 0x0FFFFFFC0FFFFFFC0FFFFFFC0FFFFFFF
  let a := (inBlocks 16 m).foldl (fun a b => (a + ofLe (b ++ [1])) * r % (2 ^ 130 - 5)) 0
  leBytes 16 (a + leAt k 16 16)

def chachaTag (k nonce aad ct : Bytes) : Bytes :=
  poly1305 ((chachaBlock k nonce 0).take 32) (pad16 aad ++ pad16 ct ++ leBytes 8 aad.length ++ leBytes 8 ct.length)

/-! ## By ALG: 1 AES-256-GCM, 2 AES-256-GCM-SIV, 3 ChaCha20-Poly1305 (Table NIB-2) -/

/-- `n` bytes of key stream; GCM-SIV's follows from the tag. -/
@[irreducible] def keyStream (alg : Nat) (k nonce tag : Bytes) (n : Nat) : Bytes := fitTo n (match alg with
  | 2 => sivStream k nonce tag n
  | 3 => chachaStream k nonce n
  | _ => gcmStream k nonce n)

/-- The tag over associated data and, for GCM-SIV, the plaintext, for the others the ciphertext. -/
@[irreducible] def aeadTag (alg : Nat) (k nonce aad text : Bytes) : Bytes := fitTo 16 (match alg with
  | 2 => sivTag k nonce aad text
  | 3 => chachaTag k nonce aad text
  | _ => gcmTag k nonce aad text)

end Sys2Proof.Machine
end

