-- ==== Sys2Proof/Machine/Curve.lean ====
section
/-! DEFINITION. Elliptic-curve operations on P-384 (FIPS 186-5, SP 800-56A) and the verification of LMS/HSS signatures (SP 800-208), as
Table FLO-1 names them (PRESUMED from the standards, log entry 5). -/

namespace Sys2Proof.Machine

/-! ## P-384 -/

/-- The field prime, the curve's constant term (the linear one is -3), the order of its group, and the base point. -/
def p384P : Nat := 2 ^ 384 - 2 ^ 128 - 2 ^ 96 + 2 ^ 32 - 1

def p384B : Nat := 0xB3312FA7E23EE7E4988E056BE3F82D19181D9C6EFE8141120314088F5013875AC656398D8A2ED19D2A85C8EDD3EC2AEF

def p384N : Nat := 0xFFFFFFFFFFFFFFFFFFFFFFFFFFFFFFFFFFFFFFFFFFFFFFFFC7634D81F4372DDF581A0DB248B0A77AECEC196ACCC52973

def p384Gx : Nat := 0xAA87CA22BE8B05378EB1C71EF320AD746E1D3B628BA79B9859F741E082542A385502F25DBF55296C3A545E3872760AB7

def p384Gy : Nat := 0x3617DE4A96262C6F5D9E98BF9292DC29F8F41DBD289A147CE9DA3113B5F0B8C00A60B1CE1D7E819D7A431D7C90EA0E5F

/-- `b` to the power `e` (below 2^384) modulo `m`. -/
def modPow (b e m : Nat) : Nat :=
  (List.range 384).foldl (fun r i => let r := r * r % m; if e.testBit (383 - i) then r * b % m else r) 1

/-- The inverse modulo a prime. -/
def modInverse (a m : Nat) : Nat := modPow a (m - 2) m

def subMod (a b m : Nat) : Nat := (a + (m - b % m)) % m

/-- A point x/z², y/z³; the point at infinity has z 0. -/
structure EcPoint where
  x : Nat
  y : Nat
  z : Nat
  deriving DecidableEq, Repr

def ecInfinity : EcPoint := ⟨1, 1, 0⟩

def ecBase : EcPoint := ⟨p384Gx, p384Gy, 1⟩

def ecDouble (a : EcPoint) : EcPoint :=
  let p := p384P
  if a.z = 0 ∨ a.y = 0 then ecInfinity
  else
    let yy := a.y * a.y % p
    let zz := a.z * a.z % p
    let s := 4 * a.x * yy % p
    let m := 3 * subMod a.x zz p * (a.x + zz) % p
    let x := subMod (m * m) (2 * s) p
    ⟨x, subMod (m * subMod s x p) (8 * yy * yy) p, 2 * a.y * a.z % p⟩

def ecAdd (a b : EcPoint) : EcPoint :=
  let p := p384P
  if a.z = 0 then b
  else if b.z = 0 then a
  else
    let za := a.z * a.z % p
    let zb := b.z * b.z % p
    let u := a.x * zb % p
    let s := a.y * b.z * zb % p
    let h := subMod (b.x * za) u p
    let r := subMod (b.y * a.z * za) s p
    if h = 0 then if r = 0 then ecDouble a else ecInfinity
    else
      let hh := h * h % p
      let x := subMod (r * r) (hh * h + 2 * u * hh) p
      ⟨x, subMod (r * subMod (u * hh) x p) (s * hh * h) p, a.z * b.z * h % p⟩

/-- `k` times a point. -/
def ecMul (k : Nat) (a : EcPoint) : EcPoint :=
  (List.range 384).foldl (fun r i => let r := ecDouble r; if k.testBit (383 - i) then ecAdd r a else r) ecInfinity

/-- The affine coordinates of a point other than the one at infinity. -/
def EcPoint.affine (a : EcPoint) : Option (Nat × Nat) :=
  if a.z = 0 then none
  else
    let i := modInverse a.z p384P
    some (a.x * (i * i) % p384P, a.y * (i * i % p384P * i) % p384P)

/-- A public key 0x04 ‖ X ‖ Y (R456): the coordinates lie below the prime, on the curve. Its group has no other subgroup. -/
@[irreducible] def p384Point (b : Bytes) : Option EcPoint :=
  let x := beAt b 1 48
  let y := beAt b 49 48
  if b.length = 97 ∧ leAt b 0 1 = 4 ∧ x < p384P ∧ y < p384P ∧ y * y % p384P = (x * x * x + (p384P - 3) * x + p384B) % p384P then
    some ⟨x, y, 1⟩
  else none

/-- X ‖ Y of the public key of private key `d`; zeros for a private key that is 0 modulo the order, which FIPS 186-5 rules out. -/
@[irreducible] def p384Public (d : Bytes) : Bytes := match (ecMul (ofBe d % p384N) ecBase).affine with
  | some (x, y) => beBytes 48 x ++ beBytes 48 y
  | none => zeros 96

/-- The 48-byte X coordinate that ECDH gives with a peer's point; none for the point at infinity (SP 800-56A). -/
@[irreducible] def ecdhSecret (d : Bytes) (q : EcPoint) : Option Bytes := (ecMul (ofBe d % p384N) q).affine.map fun a => beBytes 48 a.1

/-- A number in 1 to n - 1 from a 48-byte draw, as rejection sampling accepts one; a draw that it rejects stands for the next one
(log entry 5). -/
def p384Scalar (r : Bytes) : Nat :=
  let c := ofBe r
  if 0 < c ∧ c < p384N then c else c % (p384N - 1) + 1

/-- r and s of an ECDSA signature of hash `h` with per-signature `k`; none where FIPS 186-5 draws another `k`. -/
def ecdsaWith (d h : Bytes) (k : Nat) : Option Bytes := match (ecMul k ecBase).affine with
  | some (x, _) =>
    let r := x % p384N
    let s := modInverse k p384N * (ofBe (h.take 48) + r * ofBe d) % p384N
    if r = 0 ∨ s = 0 then none else some (beBytes 48 r ++ beBytes 48 s)
  | none => none

/-- ECDSA signature of a SHA-384 hash, r ‖ s, with the random bytes that `k` is made of. -/
@[irreducible] def ecdsaSign (d rnd h : Bytes) : Bytes :=
  fitTo 96 (((List.range 8).findSome? fun i => ecdsaWith d h ((p384Scalar rnd + i) % p384N)).getD [])

@[irreducible] def ecdsaVerify (q : EcPoint) (sig h : Bytes) : Bool :=
  let r := beAt sig 0 48
  let s := beAt sig 48 48
  if r = 0 ∨ s = 0 ∨ p384N ≤ r ∨ p384N ≤ s then false
  else
    let w := modInverse s p384N
    match (ecAdd (ecMul (ofBe (h.take 48) * w % p384N) ecBase) (ecMul (r * w % p384N) q)).affine with
    | some (x, _) => x % p384N == r
    | none => false

/-! ## LMS and HSS (SP 800-208 over RFC 8554) -/

/-- Bytes of the hash of an LMS type: 32 for SHA-256/256 (types 5 to 9), 24 for SHA-256/192 (10 to 14), 0 for any other. -/
def lmsBytes (t : Nat) : Nat := if 5 ≤ t ∧ t ≤ 9 then 32 else if 10 ≤ t ∧ t ≤ 14 then 24 else 0

/-- The height of the tree of an LMS type: 5, 10, 15, 20 or 25. -/
def lmsHeight (t : Nat) : Nat := 5 * (t % 5 + 1)

/-- An LM-OTS type: hash bytes, W, number of chains, shift of the checksum. -/
structure OtsType where
  n : Nat
  w : Nat
  p : Nat
  ls : Nat
  deriving DecidableEq, Repr

def otsType : Nat → Option OtsType
  | 1 => some ⟨32, 1, 265, 7⟩
  | 2 => some ⟨32, 2, 133, 6⟩
  | 3 => some ⟨32, 4, 67, 4⟩
  | 4 => some ⟨32, 8, 34, 0⟩
  | 5 => some ⟨24, 1, 200, 8⟩
  | 6 => some ⟨24, 2, 101, 6⟩
  | 7 => some ⟨24, 4, 51, 4⟩
  | 8 => some ⟨24, 8, 26, 0⟩
  | _ => none

/-- The LM-OTS type of an LMS public key, where both its types are supported and have one hash (Table FLO-1). -/
def lmsKeyType (pub : Bytes) : Option OtsType := match otsType (beAt pub 4 4) with
  | some o => if lmsBytes (beAt pub 0 4) = o.n then some o else none
  | none => none

/-- The length of a signature under an LMS public key with LM-OTS type `o`. -/
def lmsSigLen (pub : Bytes) (o : OtsType) : Nat := 12 + o.n * (1 + o.p + lmsHeight (beAt pub 0 4))

/-- Field `i` of `w` bits of a string, the highest bits first. -/
def otsCoef (b : Bytes) (i w : Nat) : Nat := (leAt b (i * w / 8) 1 >>> (8 - w * (i % (8 / w)) - w)) % 2 ^ w

/-- The public key that an LM-OTS signature gives for a message; `pre` is I ‖ q. -/
def otsCandidate (o : OtsType) (pre sig msg : Bytes) : Bytes :=
  let q := digest 1 o.n (pre ++ beBytes 2 0x8181 ++ slice sig 4 o.n ++ msg)
  let sum := ((List.range (8 * o.n / o.w)).map fun i => 2 ^ o.w - 1 - otsCoef q i o.w).sum
  let q := q ++ beBytes 2 (sum <<< o.ls)
  let z := (List.range o.p).map fun i =>
    let a := otsCoef q i o.w
    (List.range (2 ^ o.w - 1 - a)).foldl (fun x j => digest 1 o.n (pre ++ beBytes 2 i ++ beBytes 1 (a + j) ++ x))
      (slice sig (4 + o.n + o.n * i) o.n)
  digest 1 o.n (pre ++ beBytes 2 0x8080 ++ z.flatten)

/-- LMS verification: `sig` has the length that the key's types give. -/
@[irreducible] def lmsVerify (pub sig msg : Bytes) : Bool := match lmsKeyType pub with
  | none => false
  | some o =>
    let t := beAt pub 0 4
    let h := lmsHeight t
    let q := beAt sig 0 4
    let id := slice pub 8 16
    let path := 12 + o.n * (1 + o.p)
    if beAt sig 4 4 ≠ beAt pub 4 4 ∨ beAt sig (path - 4) 4 ≠ t ∨ 2 ^ h ≤ q then false
    else
      let leaf := digest 1 o.n (id ++ beBytes 4 (2 ^ h + q) ++ beBytes 2 0x8282 ++
        otsCandidate o (id ++ beBytes 4 q) (sig.drop 4) msg)
      let root := (List.range h).foldl (fun x i =>
        let node := (2 ^ h + q) / 2 ^ i
        let side := slice sig (path + o.n * i) o.n
        digest 1 o.n (id ++ beBytes 4 (node / 2) ++ beBytes 2 0x8383 ++ if node % 2 = 1 then side ++ x else x ++ side)) leaf
      root == slice pub 24 o.n

/-- What the type fields say of an HSS signature: it ends before its parts do; it has an unsupported type or disagrees with its key; or
its levels, each a public key and a signature under it, with their length. -/
inductive HssShape where
  | short
  | bad
  | ok (levels : List (Bytes × Bytes)) (len : Nat)
  deriving DecidableEq, Repr

/-- The levels of `sig`, which `n` more follow, the first under LMS public key `pub`. -/
def hssLevels : Nat → Bytes → Bytes → HssShape
  | n, pub, sig => match lmsKeyType pub with
    | none => .bad
    | some o =>
      let l := lmsSigLen pub o
      if sig.length < l then .short
      else
        let rest := sig.drop l
        let m := lmsBytes (beAt rest 0 4)
        match n with
        | 0 => .ok [(pub, sig.take l)] l
        | n + 1 =>
          if rest.length < 8 then .short
          else if m = 0 then .bad
          else if rest.length < 24 + m then .short
          else match hssLevels n (rest.take (24 + m)) (rest.drop (24 + m)) with
            | .ok ls k => .ok ((pub, sig.take l) :: ls) (l + 24 + m + k)
            | .short => .short
            | .bad => .bad

/-- The shape of an HSS signature under an HSS public key, whose level count it must repeat (R449). -/
def hssShape (pk sig : Bytes) : HssShape :=
  let levels := beAt pk 0 4
  if levels = 0 ∨ 8 < levels then .bad
  else if sig.length < 4 then .short
  else if beAt sig 0 4 + 1 ≠ levels then .bad
  else match hssLevels (levels - 1) (pk.drop 4) (sig.drop 4) with
    | .ok ls k => .ok ls (k + 4)
    | .short => .short
    | .bad => .bad

/-- Each level's signature covers the public key of the next, and the last one's the message. -/
def hssChain : List (Bytes × Bytes) → Bytes → Bool
  | [], _ => false
  | [(p, g)], msg => lmsVerify p g msg
  | (p, g) :: (p2, g2) :: r, msg => lmsVerify p g p2 && hssChain ((p2, g2) :: r) msg

/-- HSS verification (SP 800-208, R98): every level of a set of Table FLO-1, and nothing behind the signature. -/
@[irreducible] def hssVerify (pk sig msg : Bytes) : Bool := match hssShape pk sig with
  | .ok ls k => pk.length == 28 + lmsBytes (beAt pk 4 4) && sig.length == k && hssChain ls msg
  | _ => false

/-- An HSS public key's length follows from its top-level LMS type: 60 bytes for SHA-256/256 (types 5 to 9), 52 for
SHA-256/192 (types 10 to 14), 0 for any other (R138, Table FLO-1). -/
def hssKeyLen (pk : Bytes) : Nat :=
  let n := lmsBytes (beAt pk 4 4)
  if n = 0 then 0 else 28 + n

end Sys2Proof.Machine
end

