-- ==== Sys2Proof/Machine/Lattice.lean ====
section
/-! DEFINITION. ML-KEM-1024 (FIPS 203) and ML-DSA-87 (FIPS 204), as Table FLO-1 names them. A polynomial is the list of its 256
coefficients (PRESUMED from the standards, log entry 5). -/

namespace Sys2Proof.Machine

/-! ## Polynomials over a prime -/

/-- A ring of polynomials modulo x^256 + 1 with its number-theoretic transform: the prime, the root of unity and its order, the bits of an
index, and the layers. -/
structure PolyRing where
  q : Nat
  root : Nat
  order : Nat
  bits : Nat
  layers : Nat
  deriving DecidableEq, Repr

def kemRing : PolyRing := ⟨3329, 17, 256, 7, 7⟩

def dsaRing : PolyRing := ⟨8380417, 1753, 512, 8, 8⟩

/-- The `n` low bits of `x` in reverse order. -/
def bitRev (n x : Nat) : Nat := (List.range n).foldl (fun r i => 2 * r + x / 2 ^ i % 2) 0

def PolyRing.zeta (r : PolyRing) (m : Nat) : Nat := r.root ^ bitRev r.bits m % r.q

def PolyRing.zetaInv (r : PolyRing) (m : Nat) : Nat := r.root ^ (r.order - bitRev r.bits m) % r.q

def PolyRing.add (r : PolyRing) (a b : List Nat) : List Nat := List.zipWith (fun x y => (x + y) % r.q) a b

def PolyRing.sub (r : PolyRing) (a b : List Nat) : List Nat := List.zipWith (fun x y => (x + (r.q - y)) % r.q) a b

def PolyRing.scale (r : PolyRing) (c : Nat) (a : List Nat) : List Nat := a.map (c * · % r.q)

/-- `d` layers of the transform of the block of index `m` and those below it. -/
def PolyRing.down (r : PolyRing) : Nat → Nat → List Nat → List Nat
  | 0, _, w => w
  | d + 1, m, w =>
    let lo := w.take (w.length / 2)
    let t := r.scale (r.zeta m) (w.drop (w.length / 2))
    r.down d (2 * m) (r.add lo t) ++ r.down d (2 * m + 1) (r.sub lo t)

def PolyRing.up (r : PolyRing) : Nat → Nat → List Nat → List Nat
  | 0, _, w => w
  | d + 1, m, w =>
    let lo := r.up d (2 * m) (w.take (w.length / 2))
    let hi := r.up d (2 * m + 1) (w.drop (w.length / 2))
    r.add lo hi ++ r.scale (r.zetaInv m) (r.sub lo hi)

def PolyRing.ntt (r : PolyRing) (w : List Nat) : List Nat := r.down r.layers 1 w

/-- The inverse transform; each layer has doubled its values. -/
def PolyRing.inv (r : PolyRing) (w : List Nat) : List Nat := r.scale (((r.q + 1) / 2) ^ r.layers % r.q) (r.up r.layers 1 w)

def polyZero : List Nat := List.replicate 256 0

/-- The sum of products of two vectors of transformed polynomials, by the ring's product of two. -/
def PolyRing.dot (r : PolyRing) (mul : List Nat → List Nat → List Nat) (a b : List (List Nat)) : List Nat :=
  (List.zipWith mul a b).foldl r.add polyZero

/-! ## Byte encodings -/

/-- Numbers of `d` bits each, the first in the lowest bits. -/
def packBits (d : Nat) (l : List Nat) : Bytes := leBytes (d * l.length / 8) (l.foldr (fun x a => x + a <<< d) 0)

def unpackBits (d n : Nat) (b : Bytes) : List Nat :=
  let v := ofLe b
  (List.range n).map fun i => (v >>> (d * i)) % 2 ^ d

/-- `l` cut or filled with zeros to 256 coefficients: FIPS 203 and 204 let a sampler that finds fewer in the bytes it may draw stop. -/
def fitPoly (l : List Nat) : List Nat := l.take 256 ++ List.replicate (256 - l.length) 0

/-- The 3-byte groups of a string as numbers. -/
def triples (b : Bytes) : List Nat := ((inBlocks 3 b).filter (·.length == 3)).map ofLe

def shake128 (n : Nat) (m : Bytes) : Bytes := digest 7 n m

def shake256 (n : Nat) (m : Bytes) : Bytes := digest 8 n m

def sha3of512 (m : Bytes) : Bytes := digest 6 64 m

/-! ## ML-KEM-1024: k = 4, both etas 2, du = 11, dv = 5 -/

/-- SampleNTT. -/
def kemSample (seed : Bytes) : List Nat :=
  fitPoly (((triples (shake128 840 seed)).flatMap fun x => [x % 4096, x / 4096]).filter fun x => decide (x < 3329))

/-- Entry i, j of the matrix. -/
def kemMatrix (rho : Bytes) (i j : Nat) : List Nat := kemSample (rho ++ [BitVec.ofNat 8 j, BitVec.ofNat 8 i])

/-- SamplePolyCBD with eta 2, from the pseudorandom function with counter `n`. -/
def kemNoise (seed : Bytes) (n : Nat) : List Nat :=
  (unpackBits 4 256 (shake256 128 (seed ++ [BitVec.ofNat 8 n]))).map fun x =>
    (x % 2 + x / 2 % 2 + (3329 - x / 4 % 2) + (3329 - x / 8)) % 3329

/-- Product of two transformed polynomials: pairs modulo x² - zeta^(2 BitRev(i) + 1). -/
def kemMul (a b : List Nat) : List Nat := (List.range 128).flatMap fun i =>
  let a0 := a.getD (2 * i) 0
  let a1 := a.getD (2 * i + 1) 0
  let b0 := b.getD (2 * i) 0
  let b1 := b.getD (2 * i + 1) 0
  let g := 17 ^ (2 * bitRev 7 i + 1) % 3329
  [(a0 * b0 + a1 * b1 % 3329 * g) % 3329, (a0 * b1 + a1 * b0) % 3329]

def kemCompress (d : Nat) (l : List Nat) : List Nat := l.map fun x => (2 ^ (d + 1) * x + 3329) / 6658 % 2 ^ d

def kemExpand (d : Nat) (l : List Nat) : List Nat := l.map fun y => (6658 * y + 2 ^ d) / 2 ^ (d + 1)

/-- The secret vector, transformed, and the public key of seed `d`. -/
def kemKeyGen (d : Bytes) : List (List Nat) × Bytes :=
  let r := kemRing
  let g := sha3of512 (d ++ [4])
  let rho := g.take 32
  let sigma := g.drop 32
  let s := (List.range 4).map fun i => r.ntt (kemNoise sigma i)
  let t := (List.range 4).map fun i =>
    r.add (r.dot kemMul ((List.range 4).map fun j => kemMatrix rho i j) s) (r.ntt (kemNoise sigma (4 + i)))
  (s, (t.map (packBits 12)).flatten ++ rho)

/-- The encapsulation key of the seeds `d ‖ z`. -/
@[irreducible] def kemPublic (seeds : Bytes) : Bytes := fitTo 1568 (kemKeyGen (seeds.take 32)).2

/-- The 4 polynomials of an encapsulation key. -/
def kemKeyPolys (ek : Bytes) : List (List Nat) := (List.range 4).map fun i => unpackBits 12 256 (slice ek (384 * i) 384)

/-- The check of an encapsulation key (FIPS 203, section 7.2): its length, and that every coefficient lies below the prime. -/
@[irreducible] def kemKeyOk (ek : Bytes) : Bool := ek.length == 1568 && (kemKeyPolys ek).flatten.all fun x => decide (x < 3329)

/-- K-PKE.Encrypt. -/
def kemEncrypt (ek m rnd : Bytes) : Bytes :=
  let r := kemRing
  let rho := slice ek 1536 32
  let y := (List.range 4).map fun i => r.ntt (kemNoise rnd i)
  let u := (List.range 4).map fun i =>
    r.add (r.inv (r.dot kemMul ((List.range 4).map fun j => kemMatrix rho j i) y)) (kemNoise rnd (4 + i))
  let v := r.add (r.add (r.inv (r.dot kemMul (kemKeyPolys ek) y)) (kemNoise rnd 8)) (kemExpand 1 (unpackBits 1 256 m))
  (u.map fun p => packBits 11 (kemCompress 11 p)).flatten ++ packBits 5 (kemCompress 5 v)

/-- ML-KEM-1024 encapsulation with randomness `m`: ciphertext (1,568 B) and shared secret (32 B). -/
@[irreducible] def kemEncaps (ek m : Bytes) : Bytes × Bytes :=
  let g := sha3of512 (m ++ digest 4 32 ek)
  (fitTo 1568 (kemEncrypt ek m (g.drop 32)), fitTo 32 (g.take 32))

/-- K-PKE.Decrypt. -/
def kemDecrypt (s : List (List Nat)) (ct : Bytes) : Bytes :=
  let r := kemRing
  let u := (List.range 4).map fun i => r.ntt (kemExpand 11 (unpackBits 11 256 (slice ct (352 * i) 352)))
  let v := kemExpand 5 (unpackBits 5 256 (slice ct 1408 160))
  packBits 1 (kemCompress 1 (r.sub v (r.inv (r.dot kemMul s u))))

/-- ML-KEM-1024 decapsulation with the seeds `d ‖ z`; a ciphertext that does not come back is rejected implicitly (R459). -/
@[irreducible] def kemDecaps (seeds ct : Bytes) : Bytes :=
  let k := kemKeyGen (seeds.take 32)
  let m := kemDecrypt k.1 ct
  let g := sha3of512 (m ++ digest 4 32 k.2)
  fitTo 32 (if kemEncrypt k.2 m (g.drop 32) = ct then g.take 32 else shake256 32 (seeds.drop 32 ++ ct))

/-! ## ML-DSA-87: (k, l) = (8, 7), eta 2, tau 60, gamma1 = 2^19, gamma2 = 261,888, beta 120, omega 75, d = 13 -/

abbrev dsaQ : Nat := 8380417
abbrev dsaGamma2 : Nat := 261888

/-- RejNTTPoly. -/
def dsaUniform (seed : Bytes) : List Nat :=
  fitPoly (((triples (shake128 894 seed)).map (· % 2 ^ 23)).filter fun x => decide (x < dsaQ))

/-- RejBoundedPoly. -/
def dsaBounded (seed : Bytes) (n : Nat) : List Nat :=
  fitPoly (((shake256 481 (seed ++ leBytes 2 n)).flatMap fun b => [b.toNat % 16, b.toNat / 16]).filterMap fun x =>
    if x < 15 then some ((2 + dsaQ - x % 5) % dsaQ) else none)

/-- ExpandMask. -/
def dsaMask (seed : Bytes) (n : Nat) : List Nat :=
  (unpackBits 20 256 (shake256 640 (seed ++ leBytes 2 n))).map fun x => (2 ^ 19 + dsaQ - x) % dsaQ

/-- One step of SampleInBall: coefficient `i` and its sign, from the bytes that are left. -/
def dsaBallStep (x : List Nat × Bytes) (i : Nat) (neg : Bool) : List Nat × Bytes :=
  match x.2.dropWhile fun b => decide (i < b.toNat) with
  | j :: r => ((x.1.set i (x.1.getD j.toNat 0)).set j.toNat (if neg then dsaQ - 1 else 1), r)
  | [] => x

/-- SampleInBall. -/
def dsaBall (c : Bytes) : List Nat :=
  let b := shake256 272 c
  let signs := ofLe (b.take 8)
  ((List.range 60).foldl (fun x i => dsaBallStep x (196 + i) (signs.testBit i)) (polyZero, b.drop 8)).1

/-- The distance of a coefficient from 0. -/
def dsaAbs (x : Nat) : Nat := min x (dsaQ - x)

def dsaBelow (bound : Nat) (l : List (List Nat)) : Bool := l.all fun p => p.all fun x => decide (dsaAbs x < bound)

/-- HighBits of a coefficient; LowBits of it, modulo the prime. -/
def dsaHigh (x : Nat) : Nat := (x + 261887) / 523776 % 16

def dsaLow (x : Nat) : Nat :=
  let h := (x + 261887) / 523776
  if h = 16 then x else (x + dsaQ - 523776 * h) % dsaQ

/-- UseHint. -/
def dsaUseHint (hint : Bool) (x : Nat) : Nat :=
  if hint then if 0 < dsaLow x ∧ dsaLow x ≤ dsaGamma2 then (dsaHigh x + 1) % 16 else (dsaHigh x + 15) % 16
  else dsaHigh x

def dsaMul (a b : List Nat) : List Nat := List.zipWith (fun x y => x * y % dsaQ) a b

/-- Row `i` of the matrix of `rho` times a transformed vector, transformed. -/
def dsaRow (rho : Bytes) (i : Nat) (v : List (List Nat)) : List Nat :=
  dsaRing.dot dsaMul ((List.range 7).map fun j => dsaUniform (rho ++ [BitVec.ofNat 8 j, BitVec.ofNat 8 i])) v

/-- A key pair: rho, the signing seed K, both secret vectors, t0 and t1, and the public key. -/
structure DsaKey where
  rho : Bytes
  seed : Bytes
  s1 : List (List Nat)
  s2 : List (List Nat)
  t0 : List (List Nat)
  pk : Bytes
  deriving DecidableEq, Repr

/-- ML-DSA.KeyGen of the seed xi; the secret vectors and t0 stand transformed. -/
def dsaKeyGen (xi : Bytes) : DsaKey :=
  let r := dsaRing
  let g := shake256 128 (xi ++ [8, 7])
  let rho := g.take 32
  let s1 := (List.range 7).map fun i => r.ntt (dsaBounded (slice g 32 64) i)
  let s2 := (List.range 8).map fun i => dsaBounded (slice g 32 64) (7 + i)
  let t := (List.range 8).map fun i => r.add (r.inv (dsaRow rho i s1)) (s2.getD i [])
  let t1 := t.map fun p => p.map fun x => (x + 4095) / 8192
  let t0 := t.map fun p => r.ntt (p.map fun x => (x + dsaQ - 8192 * ((x + 4095) / 8192)) % dsaQ)
  ⟨rho, g.drop 96, s1, s2.map r.ntt, t0, rho ++ (t1.map (packBits 10)).flatten⟩

/-- The public key of the seed xi. -/
@[irreducible] def mldsaPublic (xi : Bytes) : Bytes := fitTo 2592 (dsaKeyGen xi).pk

/-- The message representative of the pure form, under a context. -/
def dsaMu (pk ctx msg : Bytes) : Bytes :=
  shake256 64 (shake256 64 pk ++ [0, BitVec.ofNat 8 ctx.length] ++ ctx ++ msg)

/-- HintBitPack: the positions of each polynomial's hints, then where each polynomial's end. -/
def dsaHintPack (h : List (List Nat)) : Bytes :=
  let ends := (List.range 8).map fun i => ((h.take (i + 1)).map List.length).sum
  fitTo 75 (h.flatten.map (BitVec.ofNat 8)) ++ ends.map (BitVec.ofNat 8)

/-- HintBitUnpack: the positions, rising within a polynomial, and zeros behind the last. -/
def dsaHintUnpack (b : Bytes) : Option (List (List Nat)) :=
  let ends := 0 :: (List.range 8).map fun i => leAt b (75 + i) 1
  let parts := (List.range 8).map fun i =>
    (slice b (ends.getD i 0) (ends.getD (i + 1) 0 - ends.getD i 0)).map BitVec.toNat
  let rising (l : List Nat) : Bool := (List.zipWith (fun x y => decide (x < y)) l l.tail).all id
  let ordered := (List.range 8).all fun i => decide (ends.getD i 0 ≤ ends.getD (i + 1) 0)
  if ordered && decide (ends.getD 8 0 ≤ 75) && parts.all rising &&
      (slice b (ends.getD 8 0) (75 - ends.getD 8 0)).all (· == 0) then
    some parts
  else none

/-- One iteration of ML-DSA.Sign with counter `kappa`; none where it rejects. -/
def dsaTry (k : DsaKey) (mu rho2 : Bytes) (kappa : Nat) : Option Bytes :=
  let r := dsaRing
  let y := (List.range 7).map fun i => dsaMask rho2 (kappa + i)
  let yh := y.map r.ntt
  let w := (List.range 8).map fun i => r.inv (dsaRow k.rho i yh)
  let c := shake256 64 (mu ++ (w.map fun p => packBits 4 (p.map dsaHigh)).flatten)
  let ch := r.ntt (dsaBall c)
  let z := List.zipWith (fun y s => r.add y (r.inv (dsaMul ch s))) y k.s1
  let low := List.zipWith (fun w s => r.sub w (r.inv (dsaMul ch s))) w k.s2
  if !dsaBelow 524168 z || !dsaBelow 261768 (low.map fun p => p.map dsaLow) then none
  else
    let ct0 := k.t0.map fun t => r.inv (dsaMul ch t)
    let hints := List.zipWith (fun l t => (List.range 256).filter fun i =>
      dsaHigh (l.getD i 0) != dsaHigh ((l.getD i 0 + t.getD i 0) % dsaQ)) low ct0
    if !dsaBelow dsaGamma2 ct0 || decide (75 < hints.flatten.length) then none
    else some (c ++ (z.map fun p => packBits 20 (p.map fun x => (2 ^ 19 + dsaQ - x) % dsaQ)).flatten ++ dsaHintPack hints)

def dsaLoop (k : DsaKey) (mu rho2 : Bytes) : Nat → Nat → Option Bytes
  | 0, _ => none
  | n + 1, kappa => match dsaTry k mu rho2 kappa with
    | some g => some g
    | none => dsaLoop k mu rho2 n (kappa + 7)

/-- ML-DSA-87 signature, hedged with `rnd`; none after 814 rejections (R452). -/
@[irreducible] def mldsaSign (xi rnd ctx msg : Bytes) : Option Bytes :=
  let k := dsaKeyGen xi
  let mu := dsaMu k.pk ctx msg
  (dsaLoop k mu (shake256 64 (k.seed ++ rnd ++ mu)) 814 0).map (fitTo 4627)

/-- ML-DSA-87 verification, pure form with a context string. -/
@[irreducible] def mldsaVerify (pk sig ctx msg : Bytes) : Bool :=
  let r := dsaRing
  let z := (List.range 7).map fun i => (unpackBits 20 256 (slice sig (64 + 640 * i) 640)).map fun x => (2 ^ 19 + dsaQ - x) % dsaQ
  pk.length == 2592 && sig.length == 4627 && decide (ctx.length ≤ 255) && dsaBelow 524168 z &&
    match dsaHintUnpack (sig.drop 4544) with
    | none => false
    | some h =>
      let rho := pk.take 32
      let ch := r.ntt (dsaBall (sig.take 64))
      let zh := z.map r.ntt
      let w := (List.range 8).map fun i =>
        let t := r.ntt ((unpackBits 10 256 (slice pk (32 + 320 * i) 320)).map (8192 * ·))
        let u := r.inv (r.sub (dsaRow rho i zh) (dsaMul ch t))
        (List.range 256).map fun j => dsaUseHint ((h.getD i []).contains j) (u.getD j 0)
      shake256 64 (dsaMu pk ctx msg ++ (w.map (packBits 4)).flatten) == sig.take 64

end Sys2Proof.Machine
end

