-- ==== Sys2Proof/Machine/Crypto.lean ====
section
/-! DEFINITION. What the spec builds from the published algorithms of Table SCO-7: key derivation, sealing and opening whole or in part,
and words as bytes. -/

namespace Sys2Proof.Machine

/-- RSV_KDF(K, label, context, 8 n): SP 800-108 counter mode with HMAC-SHA-384 (R320). -/
def rsvKdf (k : Bytes) (label : String) (context : Bytes) (n : Nat) : Bytes :=
  let fixed := ascii label ++ [0] ++ context ++ beBytes 4 (8 * n)
  (((List.range ((n + 47) / 48)).map fun i => hmac384 k (beBytes 4 (i + 1) ++ fixed)).flatten).take n

/-- The same with a label given as bytes (KEY_DERIVE, R570a). -/
def rsvKdfBytes (k label context : Bytes) (n : Nat) : Bytes :=
  let fixed := label ++ [0] ++ context ++ beBytes 4 (8 * n)
  (((List.range ((n + 47) / 48)).map fun i => hmac384 k (beBytes 4 (i + 1) ++ fixed)).flatten).take n

/-! ## AEADs: 1 AES-256-GCM, 2 AES-256-GCM-SIV, 3 ChaCha20-Poly1305 (Table NIB-2) -/

/-- Seal: ciphertext and tag. GCM-SIV tags the plaintext and keys its stream with the tag; the others tag the
ciphertext. -/
def aeadSeal (alg : Nat) (k nonce aad pt : Bytes) : Bytes × Bytes :=
  if alg = 2 then
    let t := aeadTag alg k nonce aad pt
    (xorBytes pt (keyStream alg k nonce t pt.length), t)
  else
    let ct := xorBytes pt (keyStream alg k nonce [] pt.length)
    (ct, aeadTag alg k nonce aad ct)

/-- Open: the plaintext when the tag holds. -/
def aeadOpen (alg : Nat) (k nonce aad ct tag : Bytes) : Option Bytes :=
  if alg = 2 then
    let pt := xorBytes ct (keyStream alg k nonce tag ct.length)
    if aeadTag alg k nonce aad pt = tag then some pt else none
  else if aeadTag alg k nonce aad ct = tag then some (xorBytes ct (keyStream alg k nonce [] ct.length)) else none

/-- What sealing a text of `n` bytes has put out once `b` has been read of it: the ciphertext so far, and the tag at the end. GCM-SIV
reads the text twice, first for the tag and then for the ciphertext (R421). -/
def sealPart (alg : Nat) (k nonce aad : Bytes) (n : Nat) (b : Bytes) : Bytes :=
  if alg = 2 then
    if b.length < n then []
    else
      let t := aeadTag alg k nonce aad (b.take n)
      let ct := xorBytes (b.drop n) (keyStream alg k nonce t (b.length - n))
      if b.length = 2 * n then ct ++ t else ct
  else
    let ct := xorBytes b (keyStream alg k nonce [] b.length)
    if b.length = n then ct ++ aeadTag alg k nonce aad ct else ct

/-- The input bytes that sealing a text of `n` bytes reads. -/
def sealInput (alg n : Nat) : Nat := if alg = 2 then 2 * n else n

/-- The text that opening has put out once `b` has been read of a ciphertext of `n` bytes and its tag. GCM-SIV needs the tag first:
nothing is put out before it has been read (DESIGN CHOICE, log entry 61). -/
def openPart (alg : Nat) (k nonce : Bytes) (n : Nat) (b : Bytes) : Bytes :=
  if alg = 2 then if b.length < n + 16 then [] else xorBytes (b.take n) (keyStream alg k nonce (b.drop n) n)
  else xorBytes (b.take n) (keyStream alg k nonce [] (min n b.length))

/-- The bytes of a word list, each word least significant byte first (R3). -/
def bytesOfWords (ws : List Word) : Bytes := (ws.map fun w => leBytes 4 w.toNat).flatten

/-- The words of a byte string. -/
def wordsOfBytes (b : Bytes) : List Word := (List.range (b.length / 4)).map fun i => BitVec.ofNat 32 (leAt b (4 * i) 4)

end Sys2Proof.Machine
end

