-- ==== Sys2Proof/Machine/Entropy.lean ====
section
/-! DEFINITION. Chapter 11, entropy: noise sources, conditioned entropy, the DRBG instances. -/

namespace Sys2Proof.Machine

/-! ## Sources (R465 to R474) -/

/-- SRC of source `n` in ENT_STAT: 0 OFF, 1 STARTING, 2 HEALTHY, 3 FAILED. -/
def State.srcState (s : State) (n : Nat) : Nat := s.fld Reg.ENT_STAT (2 * n + 9) (2 * n + 8)
def State.setSrc (s : State) (n v : Nat) : State := s.setf Reg.ENT_STAT (2 * n + 9) (2 * n + 8) v
def State.srcEnabled (s : State) (n : Nat) : Bool := s.bit Reg.ENT_SRC_CTL n

/-- The raw tap takes source `n` (R474). -/
def State.tapped (s : State) (n : Nat) : Bool := s.bit Reg.ENT_RAW_CTL 31 && s.fld Reg.ENT_RAW_CTL 1 0 == n

def State.anyHealthy (s : State) : Bool := (List.range 4).any fun n => s.srcState n == 2

/-- Conditioned entropy is available now (R465, R474, R486). -/
def State.entropyOk (s : State) : Bool :=
  ((List.range 4).any fun n => s.srcState n == 2 && s.srcEnabled n && !s.tapped n) &&
  !s.bit Reg.ENT_STAT 20 && s.proof.slice != some 19

/-- NO_ENTROPY follows the sources, and source 336 is raised as it sets (R473). -/
def State.noEntropyUpdate (s : State) (booting : Bool) : State :=
  if s.anyHealthy then s.setb Reg.ENT_STAT 21 false
  else if booting || s.bit Reg.ENT_STAT 21 then s
  else (s.setb Reg.ENT_STAT 21 true).raise 336

/-- Source `n` fails a health test: `rct` and `apt` say which (R470, R471). -/
def State.sourceFail (s : State) (n : Nat) (rct apt : Bool) : State :=
  let s := s.setSrc n 3
  let s := if rct then s.incSat (Reg.ENT_FAIL n) 15 0 else s
  let s := if apt then s.incSat (Reg.ENT_FAIL n) 31 16 else s
  let c := s.ent.fails.getD n 0 + 1
  let s := ({ s with ent := { s.ent with fails := s.ent.fails.set n c } }).raise (331 + n)
  let s := if c = 3 then (s.setb Reg.ENT_STAT (16 + n) true).raise 335 else s
  s

/-- NOISE_SOURCE_FAIL (R470): a test of a source that produces bits fails. -/
def execNoiseSourceFail (n : Nat) (rct apt : Bool) (s : State) : Result :=
  if 4 ≤ n ∨ s.srcState n ≠ 2 ∨ (rct || apt) = false then .next s
  else .next ((s.sourceFail n rct apt).noEntropyUpdate false)

/-- A NONCE request draws its nonce, or is held, in progress, while there is no conditioned entropy (R168, R181, R473). -/
def State.lcyNonce (s : State) : State :=
  if s.entropyOk then
    let (b, s) := s.freshBytes 32
    let s := { s with lcy := { s.lcy with nonce := some b, nonceHeld := false } }
    ((s.setRegBytes (Reg.LCY_NONCE 0) b).setb Reg.LCY_CMD 30 false).wr Reg.LCY_RESULT 0
  else ({ s with lcy := { s.lcy with nonceHeld := true } }).wr Reg.LCY_RESULT 0x00800000

/-- A NONCE request that was held draws its nonce once there is entropy (R473). -/
def State.lcyNonceRetry (s : State) : State := if s.lcy.nonceHeld && s.entropyOk then s.lcyNonce else s

/-- SOURCE_STARTUP_TEST_DONE (R469, R473): 4,096 bits have been tested and discarded; a NONCE request that waited is served. -/
def execSourceStartupTestDone (n : Nat) (rctFail aptFail : Bool) (s : State) : Result :=
  if 4 ≤ n ∨ s.srcState n ≠ 1 then .next s
  else
    let s := s.setb Reg.ENT_SRC_CTL (4 + n) false
    let s := if rctFail || aptFail then s.sourceFail n rctFail aptFail else s.setSrc n 2
    .next (s.noEntropyUpdate ((List.range 4).any fun k => s.srcState k == 1)).lcyNonceRetry

/-- Start (or restart) a source: its start-up test runs (R469). -/
def State.sourceStart (s : State) (n : Nat) : State := s.setSrc n 1

/-- ENT_SOURCE_RESTART (R471, Table FLO-9): a Scribe write of ENT_SRC_CTL. A source enabled again starts anew, but a PERSISTENT one
stays FAILED (log entry 61); a disabled one is OFF; RESTART acts on a FAILED source that is not PERSISTENT, and reads 1 until its
start-up test has ended. -/
def execEntSourceRestart (v : Word) (s : State) : Result :=
  let locked := s.bit Reg.ENT_SRC_CTL 31
  let s := if v.getLsbD 31 then s.setb Reg.ENT_SRC_CTL 31 true else s
  let s := if locked then s else
    (List.range 4).foldl (fun s n =>
      if v.getLsbD n = s.srcEnabled n then s
      else if v.getLsbD n then
        let s := s.setb Reg.ENT_SRC_CTL n true
        if s.bit Reg.ENT_STAT (16 + n) then s.setSrc n 3 else s.sourceStart n
      else ((s.setb Reg.ENT_SRC_CTL n false).setb Reg.ENT_SRC_CTL (4 + n) false).setSrc n 0) s
  let s := (List.range 4).foldl (fun s n =>
    if v.getLsbD (4 + n) && s.srcState n == 3 && s.srcEnabled n && !s.bit Reg.ENT_STAT (16 + n) then
      (s.setb Reg.ENT_SRC_CTL (4 + n) true).sourceStart n
    else s) s
  .next (s.noEntropyUpdate ((List.range 4).any fun k => s.srcState k == 1))

/-! ## DRBG instances (R475 to R484) -/

def State.drbgUp (s : State) (i : Nat) : Bool := s.bit Reg.ENT_DRBG_STAT (8 * i + 7)

/-- Instance `i` must reseed before the last of `k` requests (R478, R480). -/
def State.drbgDueBy (s : State) (i k : Nat) : Bool :=
  s.ent.due.contains i || decide (s.fld Reg.ENT_RESEED_INTERVAL 20 0 < s.ent.ctr.getD i 0 + k)

/-- Instance `i` must reseed before its next request. -/
def State.drbgDue (s : State) (i : Nat) : Bool := s.drbgDueBy i 1

/-- Instance `i` can serve `k` requests now. -/
def State.drbgServes (s : State) (i k : Nat) : Bool := s.drbgUp i && (!s.drbgDueBy i k || s.entropyOk)

/-- Instance `i` can serve a request now. -/
def State.drbgReady (s : State) (i : Nat) : Bool := s.drbgServes i 1

/-- Reseed instance `i` from conditioned entropy; a RESEED bit that asked for it clears (R480). -/
def State.drbgReseed (s : State) (i : Nat) : State :=
  let s := (s.incSat (Reg.ENT_RESEED_COUNT i) 31 0).setb Reg.ENT_DRBG_CMD i false
  { s with ent := { s.ent with ctr := s.ent.ctr.set i 0, due := s.ent.due.filter (· != i) } }

/-- One generate request of instance `i` (R478). -/
def State.drbgRequest (s : State) (i : Nat) (resist : Bool) : State :=
  let s := if s.drbgDue i || resist then s.drbgReseed i else s
  { s with ent := { s.ent with ctr := s.ent.ctr.set i (s.ent.ctr.getD i 0 + 1) } }

/-- Draw `n` bytes from instance `i`, in requests of at most 65,536 bytes; the bytes are free values (log entry 4). -/
def State.drbgDraw (s : State) (i n : Nat) : Bytes × State :=
  ((List.range ((n + 65535) / 65536)).foldl (fun s _ => s.drbgRequest i false) s).freshBytes n

/-- Instance `i` is instantiated from conditioned entropy (R475, R477). -/
def State.drbgStart (s : State) (i : Nat) : State :=
  let s := (s.setb Reg.ENT_DRBG_STAT (8 * i + 7) true).setb Reg.ENT_DRBG_CMD i false
  { s with ent := { s.ent with ctr := s.ent.ctr.set i 0, due := s.ent.due.filter (· != i) } }

/-- Instantiate every instance that is not, if entropy is available; otherwise they stay wanted (R477). -/
def State.drbgInstantiate (s : State) (event : Bool) : State :=
  let s := { s with ent := { s.ent with wanted := true } }
  if s.entropyOk && (List.range 4).any (fun i => !s.drbgUp i) then
    let s := (List.range 4).foldl (fun s i => if s.drbgUp i then s else s.drbgStart i) s
    if event then s.raise 338 else s
  else s

/-- DRBG_INSTANTIATE (R477): instances that wait for entropy are instantiated when it becomes available. -/
def execDrbgInstantiate (s : State) : Result :=
  if s.ent.wanted then .next (s.drbgInstantiate true) else .next s

/-- The state of every instance is erased (R487); they are wanted again. -/
def State.drbgErase (s : State) : State :=
  let s := (List.range 4).foldl (fun s i => s.setb Reg.ENT_DRBG_STAT (8 * i + 7) false) s
  { s with ent := { s.ent with ctr := [0, 0, 0, 0], due := [] } }

/-- ENT_DRBG_RESEED (R480): a Scribe write of ENT_DRBG_CMD. A RESEED bit reads 1 until its instance has reseeded (R6). -/
def execEntDrbgReseed (v : Word) (s : State) : Result :=
  .next { s.wr Reg.ENT_DRBG_CMD (s.rd Reg.ENT_DRBG_CMD ||| (v &&& 0xF)) with ent := { s.ent with
    due := (List.range 4).foldl (fun l i => if v.getLsbD i then insertNat i l else l) s.ent.due } }

/-- A read of ENT_RNG_S or ENT_RNG_D: instance, and its bit of ENT_RNG_ERR (R479, R484). -/
def State.rngRead (s : State) (i errBit : Nat) : State :=
  if s.drbgReady i then
    let (v, s) := (s.drbgRequest i false).freshWord
    s.emit (.value v.toNat)
  else ((s.setb Reg.ENT_RNG_ERR errBit true).raise 339).emit (.value 0)

/-- ENT_RNG_S (R484): a Scribe read. -/
def execEntRngS (s : State) : Result := .next (s.rngRead 0 0)

/-- ENT_RNG_D (R484): a Draft read. -/
def execEntRngD (s : State) : Result := .next (s.rngRead 2 1)

end Sys2Proof.Machine
end

