-- ==== Sys2Proof/Machine/HostDma.lean ====
section
/-! DEFINITION. The device as a requester (R496 to R499, R560 to R564): host reads and writes of operations, with their
ruling checks, and scatter-gather lists. -/

namespace Sys2Proof.Machine

/-- Status codes of Table RNG-11. -/
abbrev St.ok : Nat := 0x00
abbrev St.duplicate : Nat := 0x01
abbrev St.late : Nat := 0x02
abbrev St.badOpcode : Nat := 0x10
abbrev St.badLength : Nat := 0x11
abbrev St.badAddress : Nat := 0x12
abbrev St.sglMismatch : Nat := 0x13
abbrev St.keyAbsent : Nat := 0x20
abbrev St.denied : Nat := 0x21
abbrev St.slotFull : Nat := 0x22
abbrev St.authFailed : Nat := 0x30
abbrev St.serviceAbsent : Nat := 0x40
abbrev St.engineFenced : Nat := 0x41
abbrev St.aborted : Nat := 0x50
abbrev St.alarmErased : Nat := 0x51
abbrev St.blotted : Nat := 0x52
abbrev St.gateTimeout : Nat := 0x60

/-- The device initiator bit of host transfers that no engine makes (log entry 10). -/
def ringInit : Nat := 9 + Config.hostInitiator % 12

/-- The device initiator bit of SRAM accesses that a Reservoir, CUST or LCY command, a live load, the boot ROM or the Scribe mailbox
makes: the Scribe-world DMA engine, the one device initiator of Table RUL-3 that moves data for the Scribe world (DEDUCED, log
entry 60). -/
def scribeInit : Nat := 9

/-- Each range that such a command accesses passes its unit, in the Scribe world and with no folio; the first refused one is captured
and ends the check (R276, R289). -/
def State.ruleRanges : List (Nat × Nat × AccKind) → State → State × Bool
  | [], s => (s, true)
  | (a, n, k) :: rest, s =>
    let r := s.rule ((unitOf a).getD 0) ⟨a, n, k, scribeInit, .scribe, .m, none⟩
    if r.2 then State.ruleRanges rest r.1 else (r.1, false)

/-- A command reads `n` bytes of SRAM: none where they lie elsewhere, are refused or hold a poisoned word (R276, R793). -/
def State.scribeRead (s : State) (a n : Nat) : State × Option Bytes :=
  if !inSram a n then (s, none)
  else
    let r := s.ruleRanges [(a, n, .read)]
    (r.1, if r.2 && !s.poisoned a n then some (s.memBytes a n) else none)

/-- The bytes the host answers for `n` bytes at `a`; none is Unsupported Request. -/
def hostBytes (m : HostMem) (a n : Nat) : Option Bytes :=
  (m.find? fun b => decide (b.1 ≤ a ∧ a + n ≤ b.1 + b.2.length)).map fun b => slice b.2 (a - b.1) n

/-! ## Configuration registers (Tables HST-1, HST-2)

Registers of the header are named by their standard offset; registers of a capability, whose place the spec leaves to the
part, by the codes below (log entry 23). -/

abbrev Cfg.command : Nat := 0x04
abbrev Cfg.pmcsr : Nat := 0x100
abbrev Cfg.devCtl : Nat := 0x101
abbrev Cfg.devCtl2 : Nat := 0x102
abbrev Cfg.linkCtl : Nat := 0x103
abbrev Cfg.msixCtl : Nat := 0x104
abbrev Cfg.atsCtl : Nat := 0x105
abbrev Cfg.pasidCtl : Nat := 0x106
abbrev Cfg.serialLo : Nat := 0x107
abbrev Cfg.serialHi : Nat := 0x108
abbrev Cfg.aerUncor : Nat := 0x109
abbrev Cfg.aerCor : Nat := 0x10A
abbrev Cfg.ltr : Nat := 0x10B
abbrev Cfg.l1ss : Nat := 0x10C
abbrev Cfg.pmCap : Nat := 0x10D
abbrev Cfg.devCap : Nat := 0x10E
abbrev Cfg.devCap2 : Nat := 0x10F
abbrev Cfg.linkCap : Nat := 0x110
abbrev Cfg.linkCap2 : Nat := 0x111
abbrev Cfg.msixTable : Nat := 0x112
abbrev Cfg.msixPba : Nat := 0x113
abbrev Cfg.l1ssCap : Nat := 0x114
abbrev Cfg.dlfCap : Nat := 0x115
abbrev Cfg.aerCap : Nat := 0x116
abbrev Cfg.aerUncorMask : Nat := 0x117
abbrev Cfg.aerUncorSev : Nat := 0x118
abbrev Cfg.aerCorMask : Nat := 0x119

/-- Reset value of a configuration register. -/
def cfgReset (r : Nat) : Word := match r with
  | 0x00 => 0xB9601F6A
  | 0x04 => 0x00100000
  | 0x08 => 0x10800001
  | 0x10 => 0x00000004
  | 0x18 => 0x00000004
  | 0x20 => 0x00000004
  | 0x2C => 0x00961F6A
  | 0x100 => 0x00000008
  | 0x101 => 0x00002810
  | 0x104 => 0x01FF0000
  | 0x105 => 0x00000060
  | 0x106 => 0x00001400
  | 0x10D => 0xC0030001
  | 0x118 => 0x00462030
  | 0x119 => 0x0000E000
  | 0x10E => 0x10008022
  | 0x10F => 0x0003081F
  | 0x110 => 0x00400905
  | 0x111 => 0x0000003E
  | 0x112 => 0x00000004
  | 0x113 => 0x00008004
  | 0x114 => 0x00210A1F
  | 0x115 => 0x80000001
  | 0x116 => 0x000000A0
  | _ => 0

/-- A configuration register as it is stored. -/
def State.cfg (s : State) (r : Nat) : Word := Tab.get cfgReset s.host.cfg r

/-! ## Requests (R496 to R498, R507 to R514) -/

/-- The largest read and write that Device Control allows: Max Read Request Size, and Max Payload Size up to 512 B (Table HST-2). -/
def State.readMax (s : State) : Nat := min 4096 (128 * 2 ^ fieldOf (s.cfg Cfg.devCtl) 14 12)
def State.writeMax (s : State) : Nat := min 512 (128 * 2 ^ fieldOf (s.cfg Cfg.devCtl) 7 5)

/-- A contiguous range as requests of at most `lim` bytes, none of which crosses a 4 KiB boundary. -/
def hostPages (lim : Nat) : Nat → Nat → Nat → List (Nat × Nat)
  | 0, _, _ => []
  | k + 1, a, n =>
    if n = 0 then [] else
      let here := min n (min lim (4096 - a % 4096))
      (a, here) :: hostPages lim k (a + here) (n - here)

def splitPages (lim a n : Nat) : List (Nat × Nat) := hostPages lim (n / lim + n / 4096 + 2) a n

/-- Who makes a transfer, and how: its initiator bit, folio and PASID, and whether it may carry Relaxed Ordering (R497). -/
structure HostCtx where
  who : HostReader
  init : Nat
  folio : Nat
  pasid : Option Nat := none
  ro : Bool := false
  /-- Words of ruling entries as the operation found them at its admission, where live swaps have replaced them (R120). -/
  old : List (Nat × Word) := []
  deriving DecidableEq, Repr

/-- A transfer that the boot ROM or the Scribe mailbox makes: it carries no PASID and folio 0 (R211, R508, R528). -/
def scribeCtx (who : HostReader) : HostCtx := { who, init := scribeInit, folio := 0 }

/-- The PASID of ring pair `n`'s transfers; none for folio 0 with NOPASID (R507). -/
def State.ringPasid (s : State) (n : Nat) : Option Nat :=
  let f := s.fld (Reg.RING_CFG n) 29 24
  if f == 0 && s.bit (Reg.FOL_CFG 0) 0 then none
  else some (s.fld (Reg.FOL_PASID f (s.fld (Reg.RING_CFG n) 31 30)) 19 0)

/-- The check of an access that carries a folio, under the entries that the operation completes under (R120, R276); a refusal sets
RUL_FAULT in its FOL_ERR. -/
def State.ruleFolio (s : State) (c : HostCtx) (u a n : Nat) (k : AccKind) : State × Bool :=
  let acc : Access := ⟨a, n, k, c.init, if c.init = 9 then .scribe else .draft, .m, some c.folio⟩
  match (c.old.foldl (fun s p => s.wr p.1 p.2) s).ruleRefuses u acc with
  | none => (s, true)
  | some (why, region) => ((s.ruleFault u acc why region).folErr c.folio 4, false)

/-- No status of Table RNG-11: the transfer waits for a translation. -/
abbrev St.wait : Nat := 0x100

/-- How many non-posted requests may be outstanding (R498). -/
def State.npLimit (s : State) : Nat :=
  if (s.cfg Cfg.devCtl2).getLsbD 12 then 768 else if (s.cfg Cfg.devCtl).getLsbD 8 then 256 else 32

/-- A non-posted request can be issued: those that wait for an answer across commands are the Translation Requests. -/
def State.npFree (s : State) : Bool := decide (s.host.xlReqs.length < s.npLimit)

def AtsEnt.covers (e : AtsEnt) (pasid : Option Nat) (a : Nat) (write : Bool) : Bool :=
  e.pasid == pasid && decide (e.base ≤ a ∧ a < e.base + e.size) && (if write then e.wr else e.rd)

/-- The translation that a transfer uses for `a`: one granted to it, or a cache entry, which becomes the most recently used. -/
def State.xlFind (s : State) (c : HostCtx) (a : Nat) (write : Bool) : State × Option AtsEnt :=
  match s.host.granted.find? fun g => g.1 == c.who && g.2.covers c.pasid a write with
  | some g => (s, some g.2)
  | none => match s.host.ats.find? (·.covers c.pasid a write) with
    | some e => ({ s with host := { s.host with ats := e :: s.host.ats.filter (· != e) } }, some e)
    | none => (s, none)

/-- Send a Translation Request, unless the same one is outstanding or the limit of R498 is reached. -/
def State.xlAsk (s : State) (c : HostCtx) (a : Nat) (write : Bool) : State :=
  let q : XlReq := ⟨c.who, c.pasid, a, write⟩
  if s.host.xlReqs.contains q || !s.npFree then s
  else ({ s with host := { s.host with xlReqs := s.host.xlReqs ++ [q] } }).emit (.translationRequest c.pasid a write)

/-- The request that a transfer makes at `a`, or none while it waits for the translation (R509). -/
def State.hostReq (s : State) (c : HostCtx) (a : Nat) (write : Bool) : State × Option HostReq :=
  let ro := c.ro && (s.cfg Cfg.devCtl).getLsbD 4
  if !s.host.atsEnable then (s, some { folio := c.folio, addr := a, pasid := c.pasid, ro })
  else match s.xlFind c a write with
    | (s, some e) => (s, some { folio := c.folio, addr := e.dest + (a - e.base), pasid := c.pasid, ro, translated := true })
    | (s, none) => (s.xlAsk c a write, none)

/-- A transfer that has to wait leaves the state as it was, but for the Translation Requests it has sent. -/
def State.xlWait (s t : State) : State :=
  let new := t.host.xlReqs.drop s.host.xlReqs.length
  { s with host := { s.host with xlReqs := t.host.xlReqs }
           out := s.out ++ new.map fun q => .translationRequest q.pasid q.addr q.write }

/-- The transfer is over, or has gone on: what was granted to it is not kept. -/
def State.xlDone (s : State) (who : HostReader) : State :=
  { s with host := { s.host with granted := s.host.granted.filter (·.1 != who) } }

/-- One host read: the state, and the bytes or the status that stops the operation (R289, R499). -/
def State.hostRead1 (s : State) (m : HostMem) (c : HostCtx) (a n : Nat) : State × Except Nat Bytes :=
  let r := s.ruleFolio c 4 a n .read
  if !r.2 then (r.1, .error St.badAddress)
  else match r.1.hostReq c a false with
    | (s, none) => (s, .error St.wait)
    | (s, some q) =>
      if !s.npFree then (s, .error St.wait)
      else
        let s := s.emit (.hostRead q n)
        match hostBytes m a n with
        | some b => (s, .ok b)
        | none => (s.folErr c.folio 1, .error St.badAddress)

/-- Reads in order, stopping at the first that fails: the bytes read before it, and its status. -/
def State.hostReads (s : State) (m : HostMem) (c : HostCtx) (ps : List (Nat × Nat)) : State × Bytes × Option Nat :=
  ps.foldl (fun (x : State × Bytes × Option Nat) p =>
    if x.2.2.isSome then x else
      match x.1.hostRead1 m c p.1 p.2 with
      | (s, .ok b) => (s, x.2.1 ++ b, none)
      | (s, .error e) => (s, x.2.1, some e)) (s, [], none)

/-- A contiguous read. -/
def State.hostRead (s : State) (m : HostMem) (c : HostCtx) (a n : Nat) : State × Bytes × Option Nat :=
  s.hostReads m c (splitPages s.readMax a n)

/-- One host write: the state, and the status that stops it (R289). -/
def State.hostWrite1 (s : State) (c : HostCtx) (a : Nat) (b : Bytes) : State × Option Nat :=
  let r := s.ruleFolio c 4 a b.length .write
  if !r.2 then (r.1, some St.badAddress)
  else match r.1.hostReq c a true with
    | (s, none) => (s, some St.wait)
    | (s, some q) => (s.emit (.hostWrite q b), none)

/-- Writes in order, stopping at the first that fails: the state, the number of bytes written, and its status (R289). -/
def State.hostWrites (s : State) (c : HostCtx) (ps : List (Nat × Nat)) (b : Bytes) : State × Nat × Option Nat :=
  ps.foldl (fun (x : State × Nat × Option Nat) p =>
    if x.2.2.isSome || decide (b.length ≤ x.2.1) then x else
      let n := min p.2 (b.length - x.2.1)
      match x.1.hostWrite1 c p.1 (slice b x.2.1 n) with
      | (s, none) => (s, x.2.1 + n, none)
      | (s, some e) => (s, x.2.1, some e)) (s, 0, none)

/-! ## Scatter-gather lists (R560 to R564) -/

/-- What walking a list gives. -/
inductive Sgl where
  | ok (entries : List (Nat × Nat))
  | bad (status : Nat)
  deriving DecidableEq, Repr

/-- Walk a list from `a`, at most `fuel` entries. -/
def State.sglWalk (m : HostMem) (c : HostCtx) : Nat → State → Nat → List (Nat × Nat) → State × Sgl
  | 0, s, _, _ => (s, .bad St.sglMismatch)
  | k + 1, s, a, acc =>
    if a % 16 ≠ 0 then (s, .bad St.sglMismatch) else
    match s.hostRead1 m c a 16 with
    | (s, .error e) => (s, .bad e)
    | (s, .ok b) =>
      let addr := leAt b 0 8
      let len := leAt b 8 4
      let w := leAt b 12 4
      let link := w.testBit 31
      let last := w.testBit 30
      if w % 2 ^ 30 ≠ 0 ∨ (link && last) = true ∨ (link = true ∧ len ≠ 0) then (s, .bad St.sglMismatch)
      else if link then State.sglWalk m c k s addr acc
      else
        let acc := if len = 0 then acc else acc ++ [(addr, len)]
        if last then (s, .ok acc) else State.sglWalk m c k s (a + 16) acc

def State.sglList (s : State) (m : HostMem) (c : HostCtx) (a : Nat) : State × Sgl := State.sglWalk m c 65536 s a []

def sglTotal (l : List (Nat × Nat)) : Nat := (l.map (·.2)).foldl (· + ·) 0

/-- A contiguous range whose last byte lies beyond 2^64 - 1 (R559). -/
def wraps (a n : Nat) : Bool := decide (n ≠ 0 ∧ 2 ^ 64 < a + n)

/-- The initiator bit under which engine `e` reads. -/
def readInit (e : Nat) : Nat :=
  if 0x10 ≤ e ∧ e ≤ 0x13 then 11 + (e - 0x10)
  else if 0x18 ≤ e ∧ e ≤ 0x19 then 11 + 2 * (e - 0x18)
  else if 0x20 ≤ e ∧ e ≤ 0x21 then 15 + (e - 0x20)
  else if e = 0x30 then 17
  else ringInit

/-- The initiator bit under which engine `e` writes: the encrypt lane of a pair. -/
def writeInit (e : Nat) : Nat := if 0x18 ≤ e ∧ e ≤ 0x19 then 12 + 2 * (e - 0x18) else readInit e

/-- Bytes `off` to `off + n - 1` of a list of pieces, as pieces. -/
def cutPieces : List (Nat × Nat) → Nat → Nat → List (Nat × Nat)
  | [], _, _ => []
  | (a, l) :: rest, off, n =>
    if n = 0 then []
    else if l ≤ off then cutPieces rest (off - l) n
    else
      let k := min n (l - off)
      (a + off, k) :: cutPieces rest 0 (n - k)

/-- The ruling check of an access of a BSP operation to the staging region (R655). The allocation of staging is not
given; the check is made at the region's start (log entry 21). -/
def State.stageOk (s : State) (c : HostCtx) (n : Nat) (k : AccKind) : State × Bool :=
  s.ruleFolio c 1 ((s.rd64 (Reg.PORT_STAGE_BASE 0)).toNat % 2 ^ 40) (max n 1) k

/-- Two contiguous ranges share a byte. -/
def overlap (a n b m : Nat) : Bool := decide (n ≠ 0 ∧ m ≠ 0 ∧ a < b + m ∧ b < a + n)

end Sys2Proof.Machine
end

