-- ==== Sys2Proof/Machine/Keys.lean ====
section
/-! DEFINITION. Chapter 08, keys: derivation, records, blobs, the open-domain table, slots and key resolution. -/

namespace Sys2Proof.Machine

/-! ## Limits from FOLIOS_RINGS (Table DUC-4) -/

def State.folioWord (s : State) (i : Nat) : Word := (s.section_ 0x05).getD i 0
def State.maxSlots (s : State) (f : Nat) : Nat := fieldOf (s.folioWord (2 * f)) 28 16
def State.maxRings (s : State) (f : Nat) : Nat := fieldOf (s.folioWord (2 * f)) 4 0
def State.tagMin (s : State) (f : Nat) : Nat := fieldOf (s.folioWord (2 * f + 1)) 26 16
def State.tagCap (s : State) (f : Nat) : Nat := fieldOf (s.folioWord (2 * f + 1)) 10 0
def State.portTagCap (s : State) (p : Nat) : Nat := fieldOf (s.folioWord (128 + p)) 12 0

/-! ## Derivation (R320, R321) -/

/-- The device-unique secret (Table RSV-1). -/
def dus : Bytes := (List.range 32).map Config.dusByte

def kdr (brk : Bytes) (domain : Nat) : Bytes := rsvKdf (brk ++ dus) "BN96-DOMREC" (beBytes 2 domain) 32

def kbw (key : Bytes) (domain gen : Nat) : Bytes := rsvKdf key "BN96-BLOB" (beBytes 2 domain ++ beBytes 4 gen) 32

/-- Wrap with AES-256-GCM-SIV: the plain part, the ciphertext, the nonce, the tag and four pad bytes (R322). -/
def wrapRecord (key nonce aad pt : Bytes) : Bytes :=
  let c := aeadSeal 2 key nonce aad pt
  aad ++ c.1 ++ nonce ++ c.2 ++ zeros 4

/-- Unwrap a record whose additional data is its first `a` bytes and whose ciphertext is the next `n`. -/
def unwrapRecord (key b : Bytes) (a n : Nat) : Option Bytes :=
  aeadOpen 2 key (slice b (a + n) 12) (slice b 0 a) (slice b a n) (slice b (a + n + 12) 16)

/-! ## Domain and generation records (Tables RSV-3, RSV-4) -/

def domHeader (domain quorum : Nat) (pol0 : Bytes) (pol1 : Option Bytes) : Bytes :=
  leBytes 4 0x44565352 ++ leBytes 2 1 ++ leBytes 2 pol1.isSome.toNat ++ leBytes 2 domain ++ leBytes 1 quorum ++ zeros 21 ++
    slice pol0 0 48 ++ slice (pol1.getD (zeros 48)) 0 48

def genHeader (domain gen created : Nat) : Bytes :=
  leBytes 4 0x47565352 ++ leBytes 2 1 ++ zeros 2 ++ leBytes 2 domain ++ zeros 2 ++ leBytes 4 gen ++ leBytes 8 created ++ zeros 8

/-- A domain record as its plain part says: domain, quorum, policies. -/
structure DomRec where
  domain : Nat
  quorum : Nat
  pol0 : Bytes
  pol1 : Option Bytes
  dwk : Bytes
  deriving DecidableEq, Repr

/-- Check 7 of Table RSV-6 on a domain record, and its DWK. -/
def openDomRec (brk b : Bytes) : Option DomRec :=
  let flags := leAt b 6 2
  let domain := leAt b 8 2
  if leAt b 0 4 ≠ 0x44565352 ∨ leAt b 4 2 ≠ 1 ∨ 2 ≤ flags ∨ slice b 0x0B 21 ≠ zeros 21 ∨ slice b 0xBC 4 ≠ zeros 4 then none
  else (unwrapRecord (kdr brk domain) b 0x80 32).map fun k =>
    { domain, quorum := leAt b 10 1, pol0 := slice b 0x20 48, pol1 := if flags = 1 then some (slice b 0x50 48) else none, dwk := k }

/-- Check 7 of Table RSV-6 on a generation record of domain `domain`: its generation and data key. -/
def openGenRec (dwk b : Bytes) (domain : Nat) : Option (Nat × Bytes) :=
  if leAt b 0 4 ≠ 0x47565352 ∨ leAt b 4 2 ≠ 1 ∨ leAt b 6 2 ≠ 0 ∨ leAt b 8 2 ≠ domain ∨ leAt b 10 2 ≠ 0 ∨ leAt b 12 4 = 0 ∨
      slice b 0x18 8 ≠ zeros 8 ∨ slice b 0x5C 4 ≠ zeros 4 then none
  else (unwrapRecord dwk b 0x20 32).map fun k => (leAt b 12 4, k)

def makeDomRec (brk nonce : Bytes) (r : DomRec) : Bytes :=
  wrapRecord (kdr brk r.domain) nonce (domHeader r.domain r.quorum r.pol0 r.pol1) r.dwk

def makeGenRec (dwk nonce : Bytes) (domain gen created : Nat) (key : Bytes) : Bytes :=
  wrapRecord dwk nonce (genHeader domain gen created) key

/-! ## The open-domain table (R323, R324) -/

def State.rootValid (s : State) : Bool := s.rsv.brk.isSome

def State.domAt (s : State) (d : Nat) : Option DomEntry := s.rsv.doms.find? (·.domain == d)

def State.setDom (s : State) (e : DomEntry) : State :=
  { s with rsv := { s.rsv with doms := s.rsv.doms.map fun x => if x.idx = e.idx then e else x } }

def DomEntry.genOf (e : DomEntry) (half : Nat) : Nat := if half = 0 then e.gen0 else e.gen1
def DomEntry.keyOf (e : DomEntry) (half : Nat) : Bytes := if half = 0 then e.key0 else e.key1

/-- A half that holds `g` and is not being displaced (R353). -/
def DomEntry.halfOf (e : DomEntry) (g : Nat) : Option Nat :=
  if g = 0 then none
  else if e.gen0 = g ∧ e.leaving ≠ some 0 then some 0
  else if e.gen1 = g ∧ e.leaving ≠ some 1 then some 1
  else none

def DomEntry.setHalf (e : DomEntry) (half g : Nat) (k : Bytes) : DomEntry :=
  if half = 0 then { e with gen0 := g, key0 := k } else { e with gen1 := g, key1 := k }

/-- The current generation, 0 when its half is empty (R356). -/
def DomEntry.curGen (e : DomEntry) : Nat := e.genOf e.cur

/-- The resident generations that are not being displaced, with their keys. -/
def DomEntry.resident (e : DomEntry) : List (Nat × Bytes) :=
  ([0, 1].filter fun h => e.genOf h != 0 && e.leaving != some h).map fun h => (e.genOf h, e.keyOf h)

/-- The data key of generation `g` of domain `d`, while resident. -/
def State.dataKey (s : State) (d g : Nat) : Option Bytes :=
  match s.domAt d with
  | some e => (e.halfOf g).map e.keyOf
  | none => none

/-- The current generation of domain `d` with its key. -/
def State.currentKey (s : State) (d : Nat) : Option (Nat × Bytes) :=
  match s.domAt d with
  | some e => (s.dataKey d e.curGen).map fun k => (e.curGen, k)
  | none => none

/-- Make generation `g` of domain `d` current (R334); false when it is not resident. -/
def State.genSwitch (s : State) (d g : Nat) : State × Bool :=
  match s.domAt d with
  | some e => match e.halfOf g with
    | some h => (s.setDom { e with cur := h }, true)
    | none => (s, false)
  | none => (s, false)

/-! ## Blobs (Tables RSV-7, RSV-8) -/

abbrev Kt.sym : Nat := 1
abbrev Kt.mac : Nat := 2
abbrev Kt.kdk : Nat := 3
abbrev Kt.p384 : Nat := 4
abbrev Kt.mldsa : Nat := 5
abbrev Kt.mlkem : Nat := 6

/-- Whether `n` bytes of material suit key type `t` (Table RSV-8). -/
def materialOk (t n : Nat) : Bool := match t with
  | 1 => n == 32
  | 2 => decide (16 ≤ n ∧ n ≤ 96)
  | 3 => decide (32 ≤ n ∧ n ≤ 64)
  | 4 => n == 48
  | 5 => n == 32
  | 6 => n == 64
  | _ => false

/-- The usage bits of Table RSV-8 with WRAP and SUCCESSION. -/
def usageSet (t : Nat) : Nat := 0x280 + (match t with
  | 1 => 0x0F
  | 2 => 0x30
  | 3 => 0x40
  | 4 => 0x50
  | 5 => 0x10
  | 6 => 0x100
  | _ => 0)

def subset (a b : Nat) : Bool := a &&& b == a

structure BlobHdr where
  type : Nat
  len : Nat
  domain : Nat
  usage : Nat
  gen : Nat
  policy : Nat
  deriving DecidableEq, Repr

def BlobHdr.bytes (h : BlobHdr) : Bytes :=
  leBytes 4 0x42565352 ++ leBytes 2 1 ++ leBytes 1 h.type ++ leBytes 1 h.len ++ leBytes 2 h.domain ++ leBytes 2 h.usage ++
    leBytes 4 h.gen ++ leBytes 8 h.policy ++ zeros 8

def blobHdr (b : Bytes) : BlobHdr :=
  { type := leAt b 6 1, len := leAt b 7 1, domain := leAt b 8 2, usage := leAt b 10 2, gen := leAt b 12 4, policy := leAt b 16 8 }

/-- Step 4 of Table RSV-11: the material of a blob under the data key of its generation. -/
def openBlob (key b : Bytes) : Option Bytes :=
  let h := blobHdr b
  if leAt b 0 4 ≠ 0x42565352 ∨ leAt b 4 2 ≠ 1 ∨ 0x400 ≤ h.usage ∨ slice b 0x18 8 ≠ zeros 8 ∨ slice b 0x9C 4 ≠ zeros 4 ∨
      materialOk h.type h.len = false then none
  else (unwrapRecord (kbw key h.domain h.gen) b 0x20 96).map fun m => m.take h.len

/-- A blob of material under the data key `key` of the generation its header names (R337). -/
def makeBlob (key nonce : Bytes) (h : BlobHdr) (material : Bytes) : Bytes :=
  wrapRecord (kbw key h.domain h.gen) nonce h.bytes (slice material 0 96)

/-! ## Quota slots (R325, R344) -/

def State.slotAt (s : State) (f h : Nat) : Option QuotaSlot := s.rsv.slots.find? fun q => q.folio == f && q.handle == h

def State.slotsOf (s : State) (f : Nat) : List QuotaSlot := s.rsv.slots.filter (·.folio == f)

/-- The lowest free handle of folio `f`, while it holds fewer than MAX_SLOTS keys. -/
def State.freeHandle (s : State) (f : Nat) : Option Nat :=
  if s.maxSlots f ≤ (s.slotsOf f).length then none
  else (List.range (s.maxSlots f)).find? fun h => (s.slotAt f h).isNone

/-- The lowest free physical slot of the pool; which one is taken is visible to no party (R325). -/
def State.freeSlot (s : State) : Option Nat :=
  (List.range 7104).findSome? fun i => if s.rsv.slots.any (·.slot == 1088 + i) then none else some (1088 + i)

/-- Load a key into the lowest free handle of folio `f`. -/
def State.loadSlot (s : State) (f : Nat) (hdr tag material : Bytes) : Option (State × Nat) :=
  match s.freeHandle f, s.freeSlot with
  | some h, some p =>
    some ({ s with rsv := { s.rsv with slots := s.rsv.slots ++
      [{ slot := p, folio := f, handle := h, hdr := hdr, tag := tag, material := material }] } }, h)
  | _, _ => none

/-! ## Access lists and resolution (Tables RSV-10, RSV-11) -/

/-- Domain `d` is in the access list of folio `f` (R515). -/
def State.aclHas (s : State) (f d : Nat) : Bool :=
  (List.range 64).any fun i => s.bit (Reg.FOL_ACL f i) 31 && s.fld (Reg.FOL_ACL f i) 15 0 == d

/-- What a reference asks of a key. -/
structure KeyAsk where
  folio : Nat
  ref : Nat
  /-- DOMAIN of the descriptor. -/
  domain : Nat
  /-- The usage bit needed (Table RSV-9). -/
  need : Nat
  /-- A kind 01 reference is valid for the opcode (R342). -/
  dataOk : Bool
  /-- A kind 10 reference is valid here (R431, R654). -/
  inlineOk : Bool
  deriving DecidableEq, Repr

def refKind (r : Nat) : Nat := r / 2 ^ 30 % 4

/-- Step 1 of Table RSV-11. -/
def refShape (a : KeyAsk) : Option Nat :=
  let r := a.ref
  match refKind r with
  | 0 => if r % 2 ^ 30 / 2 ^ 13 = 0 then none else some St.keyAbsent
  | 1 => if r % 2 ^ 30 / 2 ^ 16 ≠ 0 then some St.keyAbsent
         else if a.dataOk = false ∨ r % 2 ^ 16 ≠ a.domain then some St.denied else none
  | 2 => if r % 2 ^ 30 ≠ 0 ∨ a.inlineOk = false then some St.keyAbsent else none
  | _ => some St.keyAbsent

/-- Steps 5 and 6 of Table RSV-11 on a working key's header. -/
def keyUsable (a : KeyAsk) (h : BlobHdr) : Bool :=
  h.policy.testBit a.folio && h.usage.testBit a.need && !h.usage.testBit 9

def workingKey (h : BlobHdr) (material : Bytes) (kind handle : Nat) : Key :=
  { kind, type := h.type, material, domain := h.domain, gen := 0, usage := h.usage, policy := h.policy, handle }

/-- The key of generation `g` that an operation admitted with key `k` reads under: one resident at its admission, or resident
now (R342, R444). -/
def State.keyOfGen (s : State) (k : Key) (g : Nat) : Option Bytes := match k.alts.find? (·.1 == g) with
  | some x => some x.2
  | none => s.dataKey k.domain g

/-- Resolve a key (R343); `blob` is the inline blob of a kind 10 reference. A kind 01 reference resolves to the current
generation; `headerGen` leaves the generation open, to be taken from a header, with the generations resident now (R342, R444). -/
def State.resolveKey (s : State) (a : KeyAsk) (blob : Bytes) (headerGen : Bool) : KeyRes :=
  match refShape a with
  | some st => .fail st
  | none => match refKind a.ref with
    | 0 =>
      let hd := a.ref % 2 ^ 13
      match (s.slotAt a.folio hd).filter (fun q => !q.leaving) with
      | none => .fail St.keyAbsent
      | some q =>
        let h := blobHdr q.hdr
        if !s.aclHas a.folio h.domain then .fail St.denied
        else if keyUsable a h then .key (workingKey h q.material 0 hd) else .fail St.denied
    | 1 =>
      if !s.aclHas a.folio a.domain then .fail St.denied
      else if headerGen then match s.domAt a.domain with
        | some e => .key { kind := 1, type := 0, material := [], domain := a.domain, gen := 0, usage := 0, policy := 0, handle := 0,
                           alts := e.resident }
        | none => .fail St.keyAbsent
      else match s.currentKey a.domain with
        | some (g, k) => .key { kind := 1, type := 0, material := k, domain := a.domain, gen := g, usage := 0, policy := 0, handle := 0 }
        | none => .fail St.keyAbsent
    | _ =>
      let h := blobHdr blob
      if !s.aclHas a.folio h.domain then .fail St.denied
      else match s.dataKey h.domain h.gen with
        | none => .fail St.keyAbsent
        | some k => match openBlob k blob with
          | none => .fail St.authFailed
          | some m => if keyUsable a h then .key (workingKey h m 2 0) else .fail St.denied

end Sys2Proof.Machine
end

