-- ==== Sys2Proof/Machine/BspOut.lean ====
section
/-! DEFINITION. Chapter 15, what the device sends over BSP: reply frames, protected datagrams, responses, the end of a
session. -/

namespace Sys2Proof.Machine

/-! ## Reply frames (R640, R642) -/

/-- The tags of a reply: those received, with the outer PCP replaced. -/
def replyTags (tags : Bytes) (pcp : Nat) : Bytes :=
  if tags.length < 4 then []
  else tags.take 2 ++ beBytes 2 (pcp * 8192 + beAt tags 2 2 % 8192) ++ tags.drop 4

/-- The UDP segment with its checksum over the pseudo-header `addrs`; a computed zero is sent as all ones. -/
def udpSegment (addrs : Bytes) (sport dport : Nat) (pay : Bytes) : Bytes :=
  let len := 8 + pay.length
  let head := beBytes 2 sport ++ beBytes 2 dport ++ beBytes 2 len
  let sum := 0xFFFF - onesSum (addrs ++ beBytes 2 17 ++ beBytes 2 len ++ head ++ [0, 0] ++ pay)
  head ++ beBytes 2 (if sum = 0 then 0xFFFF else sum) ++ pay

/-- An IPv4 header without options. -/
def ip4Header (dscp len ident frag : Nat) (src dst : Bytes) : Bytes :=
  let h := fun (c : Nat) => [0x45] ++ beBytes 1 (4 * dscp) ++ beBytes 2 len ++ beBytes 2 ident ++ beBytes 2 frag ++ [64, 17] ++
    beBytes 2 c ++ src ++ dst
  h (0xFFFF - onesSum (h 0))

def ip6Header (dscp flow len : Nat) (src dst : Bytes) : Bytes :=
  beBytes 4 (6 * 2 ^ 28 + dscp * 2 ^ 22 + flow) ++ beBytes 2 len ++ [17, 64] ++ src ++ dst

/-- Send a BSP datagram to the party at `a`; the IP identification and flow label are free values (log entry 4). -/
def State.bspSend (s : State) (a : BspAddr) (pay : Bytes) : State :=
  let cfg := Reg.PORT_BSP_CFG a.port
  let pcp := s.fld cfg 18 16
  let port := s.fld cfg 15 0
  let (w, s) := s.freshWord
  let ip := if a.v6 then
      let me := s.portIp6 a.port
      let u := udpSegment (me ++ a.ip) port a.udp pay
      beBytes 2 0x86DD ++ ip6Header a.dscp (w.toNat % 2 ^ 20) u.length me a.ip ++ u
    else
      let me := s.portIp4 a.port
      let u := udpSegment (me ++ a.ip) port a.udp pay
      beBytes 2 0x0800 ++ ip4Header a.dscp (20 + u.length) (w.toNat % 65536) (w.toNat / 65536 % 2 * 0x4000) me a.ip ++ u
  let f := a.mac ++ s.portMac a.port ++ replyTags a.tags pcp ++ ip
  s.portSend a.port (f ++ zeros (60 - f.length)) (if a.tags.length < 4 then 0 else pcp)

/-- A BSP header (Table NET-3). -/
def bspHeader (type session seq tenant opcode len status reqId frag : Nat) : Bytes :=
  beBytes 2 0xB5D0 ++ [1] ++ beBytes 1 type ++ beBytes 4 session ++ beBytes 8 seq ++ beBytes 3 tenant ++ beBytes 1 opcode ++
    beBytes 2 len ++ beBytes 2 status ++ beBytes 4 reqId ++ beBytes 4 frag

/-- The nonce of R648. -/
def bspNonce (fromDevice : Bool) (seq : Nat) : Bytes := beBytes 1 fromDevice.toNat ++ zeros 3 ++ beBytes 8 seq

/-! ## Sessions -/

def State.session (s : State) (id : Nat) : Option Session := s.net.sessions.find? (·.id == id)

def State.setSession (s : State) (x : Session) : State :=
  { s with net := { s.net with sessions := s.net.sessions.map fun y => if y.id = x.id then x else y } }

def Op.ofSession (o : Op) (id : Nat) : Bool := match o.src with
  | .bsp i _ _ => i == id
  | .ring _ _ => false

/-- One protected datagram of a session, under the next device sequence (R648). -/
def State.sendProtected (s : State) (id type opcode status reqId frag : Nat) (body : Bytes) : State :=
  match s.session id with
  | none => s
  | some x =>
    let seq := x.devSeq + 1
    let s := s.setSession { x with devSeq := seq, closing := if 2 ^ 40 ≤ seq ∧ x.closing = 0 then 2 else x.closing }
    let h := bspHeader type id seq x.tenant opcode (body.length + 16) status reqId frag
    let c := aeadSeal 1 x.kDC (bspNonce true seq) h body
    s.bspSend x.src (h ++ c.1 ++ c.2)

/-- The bytes of staging a message of `n` bytes holds, in 4 KiB units (R652). -/
def stageUnits (n : Nat) : Nat := (n + 4095) / 4096

def State.freeStage (s : State) (units : Nat) : State := { s with net := { s.net with stageUsed := s.net.stageUsed - units } }

/-- End a session: its keys and window are erased, its unfinished requests dropped (R659). -/
def State.endSession (s : State) (id : Nat) : State :=
  match s.session id with
  | none => s
  | some x =>
    let s := s.freeStage ((x.reasm.map (·.units)).foldl (· + ·) 0)
    let s := { s with net := { s.net with sessions := s.net.sessions.filter (·.id != id) } }
    if x.established then s.raise 267 else s

/-- Send CLOSE and end a session (Table NET-8). -/
def State.closeSession (s : State) (id reason : Nat) : State :=
  (s.sendProtected id 0x05 0 0 0 0x80000000 (beBytes 2 reason)).endSession id

/-- A session that must close does so once its requests in progress have been answered. -/
def State.closeIfIdle (s : State) (id : Nat) : State :=
  match s.session id with
  | some x => if x.closing ≠ 0 && !s.ops.any (fun o => o.ofSession id) then s.closeSession id x.closing else s
  | none => s

/-! ## Responses (R656, R657) -/

/-- Send a message in fragments of `n` bytes, the last with LAST. -/
def State.sendFragments (id type opcode status reqId n : Nat) : Nat → Nat → State → Bytes → State
  | 0, _, s, _ => s
  | k + 1, i, s, b =>
    if b.length ≤ n then s.sendProtected id type opcode status reqId (0x80000000 + i) b
    else State.sendFragments id type opcode status reqId n k (i + 1)
      (s.sendProtected id type opcode status reqId i (b.take n)) (b.drop n)

/-- A response message of a session. -/
def State.bspRespond (s : State) (id opcode reqId status bytesOut r0 r1 : Nat) (output : Bytes) : State :=
  match s.session id with
  | none => s
  | some x =>
    let b := beBytes 8 bytesOut ++ beBytes 4 r0 ++ beBytes 4 r1 ++ output
    State.sendFragments id 0x11 opcode status reqId x.frag (b.length / max x.frag 1 + 1) 0 s b

/-- Keep the result of the request whose LAST fragment had sequence `seq` (R658). -/
def State.keepResult (s : State) (id seq : Nat) (r : OpRes) : State :=
  match s.session id with
  | none => s
  | some x => s.setSession { x with results := x.results.map fun k =>
      if k.seq = seq then { k with done := true, admitted := true, status := r.status, bytesOut := r.bytesOut, result0 := r.r0 }
      else k }

/-- Answer one duplicate of a completed request's LAST fragment (R657). -/
def State.answerDup (s : State) (id : Nat) (k : BspResult) : State :=
  s.bspRespond id k.opcode k.reqId St.duplicate k.bytesOut k.status k.result0 []

/-- Answer the duplicates that waited for request `seq` to complete (R657). -/
def State.answerDups (s : State) (id seq : Nat) : State :=
  match s.session id with
  | none => s
  | some x => match x.results.find? (·.seq == seq) with
    | none => s
    | some k =>
      let s := s.setSession { x with results := x.results.map fun r => if r.seq = seq then { r with dups := 0 } else r }
      (List.range k.dups).foldl (fun s _ => s.answerDup id k) s

end Sys2Proof.Machine
end

