-- ==== Sys2Proof/Machine/Time.lean ====
section
/-! DEFINITION. Chapter 02: STIME, its rate and steps, the Lumro link. Strokes are applied in Strokes.lean. -/

namespace Sys2Proof.Machine

/-! ## Strokes that fall due -/

/-- The armed strokes, in ascending index order. -/
def State.armed (s : State) : List Nat :=
  s.regs.filterMap fun e =>
    if repeatedAt (Reg.STRK_W0 0) 1024 0x20 1 0x20 e.1 && e.2.getLsbD 31 then some ((e.1 - Reg.STRK_W0 0) / 0x20) else none

def State.strokeTime (s : State) (n : Nat) : Nat := (s.rd64 (Reg.STRK_TIME n)).toNat
def State.strokePeriod (s : State) (n : Nat) : Nat := (s.rd64 (Reg.STRK_PERIOD n)).toNat

/-- Stroke `n` waits to be applied, or for its port's lock. -/
def State.strokeQueued (s : State) (n : Nat) : Bool :=
  s.strokes.due.any (fun d => d.idx == n) || s.strokes.waitingPort.contains n

/-- Put a stroke into the queue: by the cycle in which it fell due, and within one cycle by index (R72). -/
def insertDue (d : DueStroke) : List DueStroke → List DueStroke
  | [] => [d]
  | e :: r => if d.since < e.since ∨ (d.since = e.since ∧ d.idx < e.idx) then d :: e :: r else e :: insertDue d r

/-- Stroke `n` falls due in this cycle. -/
def State.enqueueStroke (s : State) (n : Nat) (late stepped : Bool) : State :=
  { s with strokes := { s.strokes with due := insertDue ⟨n, late, stepped, s.stime.cycle⟩ s.strokes.due } }

/-- A late stroke with LATE_DISCARD: it clears ENABLE, is marked, and raises source 440 (R67, R989). -/
def State.discardStroke (s : State) (n : Nat) : State :=
  let s := s.setb (Reg.STRK_W0 n) 31 false
  let s := s.setb (Reg.STRK_STATUS n) 30 true
  let s := s.setb (Reg.STRK_STATUS n) 29 false
  (s.setb (Reg.STRK_STATUS n) 28 true).raise 440

/-- Stroke `n`, armed or made valid at an instant above its TIME, is late: run at once or discarded (R67). -/
def State.lateStroke (s : State) (n : Nat) : State :=
  if s.bit (Reg.STRK_W0 n) 29 then s.discardStroke n else s.enqueueStroke n true false

/-- Every armed stroke whose TIME has been reached falls due, in ascending index order (R65, R72). -/
def State.strokesDue (s : State) : State :=
  s.armed.foldl (fun s n =>
    if decide (s.strokeTime n ≤ s.ns) && !s.strokeQueued n then s.enqueueStroke n false false else s) s

/-- A step from `old`: every armed stroke it passes launches in the step's cycle, marked STEPPED, and source 441 is
raised when one has been passed (R69; log entry 7). -/
def State.strokesStepped (s : State) (old : Nat) : State :=
  let passed := s.armed.filter fun n => decide (old < s.strokeTime n) && decide (s.strokeTime n ≤ s.ns) && !s.strokeQueued n
  let s := passed.foldl (fun s n => s.enqueueStroke n false true) s
  if passed.isEmpty then s else s.raise 441

/-- VALID has just been set: each armed stroke whose TIME lies below STIME NS is late (R67, R71). -/
def State.strokesAtValid (s : State) : State :=
  s.armed.foldl (fun s n =>
    if s.strokeQueued n then s
    else if s.strokeTime n < s.ns then s.lateStroke n
    else if s.strokeTime n = s.ns then s.enqueueStroke n false false
    else s) s

/-- STRK_NEXT as it reads: the earliest TIME among armed strokes. -/
def State.strkNext (s : State) : Nat := (s.armed.map s.strokeTime).foldl min (2 ^ 64 - 1)

/-! ## Latency budgets (R887 to R891, R902, R903) -/

/-- Exit latency of a power state in ns (Table PWR-1). -/
def exitNs (st : Nat) : Nat := match st with
  | 1 => 200
  | 2 => 40000
  | 3 => 600000
  | _ => 0

def entryNs (st : Nat) : Nat := match st with
  | 1 => 50
  | 2 => 10000
  | 3 => 100000
  | _ => 0

/-- A word of the POWER section in force. -/
def State.powerWord (s : State) (i : Nat) : Nat :=
  (((s.duct.inForce.find? fun (e : Nat × List Word) => e.1 == 9).map fun (e : Nat × List Word) => e.2).getD [] |>.getD i 0).toNat

/-- B_min; none when it is unbounded. -/
def State.bMin (s : State) : Option Nat :=
  let fol := (List.range 64).map fun f =>
    if s.fld (Reg.FOL_CTL f) 2 0 ≠ 0 ∧ !s.host.d3 ∧
        (List.range 128).any (fun r => s.fld (Reg.RING_CFG r) 29 24 == f && s.fld (Reg.RING_STAT r) 31 30 == 1) then
      s.rdn (Reg.FOL_LAT_BUDGET f) else 0
  let port := (List.range 2).map fun p => if s.fld (Reg.PORT_STAT p) 7 4 = 0 then 0 else s.powerWord (1 + p)
  ((fol ++ port).filter (· != 0)).min?

/-- The deadline D: the earliest armed stroke or parked descriptor; all ones when there is neither. -/
def State.gateNext (s : State) : Nat :=
  (s.ops.filterMap fun o => match o.at_ with
    | .parkTime _ => if o.res.isNone then some o.desc.notBefore else none
    | _ => none).foldl min (2 ^ 64 - 1)

def State.deadline (s : State) : Nat := min s.strkNext s.gateNext

/-- The deepest state the hint in force permits (Table PWR-4). -/
def State.hintLimit (s : State) : Nat := match s.fld Reg.PWR_HINT 2 0 with
  | 1 => 0
  | 2 => 1
  | 3 => 2
  | _ => 3

/-- The LTR field for a tolerance in ns: the smallest scale whose value fits (R903). -/
def ltrField (n : Nat) : Nat :=
  let k := ((List.range 8).find? fun k => decide (n / 32 ^ k < 1024)).getD 7
  2 ^ 15 + k * 2 ^ 10 + n / 32 ^ k % 1024

/-- A Max Snoop or No-Snoop Latency of the host, in ns. -/
def latencyOf (w : Nat) : Nat := w % 1024 * 32 ^ (w / 1024 % 8)

/-- Send LTR when the value to report has changed and the host has enabled it (R902). -/
def State.ltrUpdate (s : State) : State :=
  let hostMax := (Tab.get (fun _ => (0 : Word)) s.host.cfg 0x10B).toNat
  let v := match s.bMin with
    | none => 0
    | some b => ltrField (min (b - exitNs (s.fld Reg.PWR_STAT 2 0)) (min (latencyOf (hostMax % 65536)) (latencyOf (hostMax / 65536))))
  let w : Word := BitVec.ofNat 32 (v * 65537)
  if (Tab.get (fun _ => (0 : Word)) s.host.cfg 0x102).getLsbD 10 && !s.host.perst && w != s.rd Reg.PWR_LTR then
    (s.wr Reg.PWR_LTR w).emit (.pcie "LTR")
  else s

/-- The budget, hint or permission no longer allows the current state: the device leaves it (R891, R128). The spec names no wake
cause for a permission that a swapped-in POWER section withdraws: BUDGET is latched as for the others (DESIGN CHOICE, log
entry 56). -/
def State.powerReview (s : State) : State :=
  let st := s.fld Reg.PWR_STAT 2 0
  let tight := s.bMin.any fun b => decide (b < exitNs st)
  let s := if decide (1 ≤ st ∧ st ≤ 3) && !s.pwr.exiting &&
      (tight || decide (s.hintLimit < st) || !s.bit Reg.PWR_CFG (24 + st)) then s.wakeBy 10 else s
  s.ltrUpdate

/-- A deadline newly closer than the current state's exit latency allows (R891, Table PWR-6). -/
def State.deadlineReview (s : State) : State :=
  let st := s.fld Reg.PWR_STAT 2 0
  if 1 ≤ st ∧ st ≤ 3 ∧ !s.pwr.exiting ∧ s.deadline < s.ns + exitNs st + 2000 then s.wakeBy 10 else s

/-! ## Arming (R61, R64) -/

/-- Why arming an entry is refused, as STRK_ERR REASON codes it: 2 ACTION, 3 TARGET, 4 PERIOD (R64, R124, R297, R607, R626,
R894). The partition test of PROOF_SLICE stands apart (R775). R64 gives its cases no order: of an entry that breaks several,
the first of ACTION, TARGET, ARG, PERIOD is recorded (DESIGN CHOICE, log entry 55). -/
def armReason (w0 arg : Word) (period : Nat) : Option Nat :=
  let action := fieldOf w0 23 16
  let target := fieldOf w0 15 0
  let draft := w0.getLsbD 30
  let scribeOnly := [1, 2, 4, 0x0A].contains action
  let targetMax := match action with
    | 1 => 0xFFFF
    | 2 => 6
    | 4 => 19
    | 6 => 23
    | 7 => 1
    | 9 => 63
    | _ => 0
  if 0x0A < action ∨ (scribeOnly ∧ draft) then some 2
  else if targetMax < target then some 3
  else
    let bad : Option Nat := match action with
      | 1 => none
      | 2 => if 2 ≤ arg.toNat then some 3 else none
      | 3 => if 2 ≤ arg.toNat then some 3 else none
      | 7 => if 5 ≤ arg.toNat then some 3 else none
      | 8 => if 5 ≤ arg.toNat ∨ (arg.toNat = 4 ∧ draft) then some 2 else none
      | 9 => if 64 ≤ arg.toNat then some 2 else none
      | 0x0A => if arg &&& 0xFFFF6C4F = 0 then none else some 2
      | _ => if arg = 0 then none else some 3
    match bad with
    | some r => some r
    | none => if 1 ≤ period ∧ period ≤ 999 then some 4 else none

/-- Record an entry and a reason in STRK_ERR (Table TIM-10). -/
def State.strokeErr (s : State) (n reason : Nat) : State :=
  s.wr Reg.STRK_ERR (BitVec.ofNat 32 (2 ^ 31 + reason * 2 ^ 28 + n))

/-- Entry `n` refuses arming, or a launch refuses its action: REFUSED, STRK_ERR and source 442 (R64, R73). -/
def State.strokeRefuse (s : State) (n reason : Nat) : State :=
  ((s.setb (Reg.STRK_STATUS n) 27 true).strokeErr n reason).raise 442

/-- Why arming entry `n` as it stands is refused. -/
def State.armRefusal (s : State) (n : Nat) : Option Nat :=
  let w0 := s.rd (Reg.STRK_W0 n)
  match armReason w0 (s.rd (Reg.STRK_ARG n)) (s.strokePeriod n) with
  | some r => some r
  | none => if fieldOf w0 23 16 = 4 ∧ !s.bit Reg.PROOF_CFG (fieldOf w0 15 0) then some 3 else none

/-- Arm entry `n` (R64, R67, R989): ENABLE becomes 1 and its four status bits clear; an entry whose TIME has been reached is
late or due. -/
def State.arm (s : State) (n : Nat) : State :=
  match s.armRefusal n with
  | some r => s.strokeRefuse n r
  | none =>
    let s := (s.setb (Reg.STRK_W0 n) 31 true).setf (Reg.STRK_STATUS n) 31 28 0
    if s.strokeTime n < s.ns then s.lateStroke n
    else if s.strokeTime n = s.ns then s.enqueueStroke n false false
    else s

/-- Entries written by a STROKES section with ENABLE and DEFER become armed in the cycle in which VALID is set (R96), unless
what stands in the entry then is what R64 refuses (log entry 55). -/
def State.armDeferred (s : State) : State :=
  let d := s.duct.deferred
  d.foldl (fun s n => match s.armRefusal n with
    | some r => s.strokeRefuse n r
    | none => (s.setb (Reg.STRK_W0 n) 31 true).setf (Reg.STRK_STATUS n) 31 28 0)
    { s with duct := { s.duct with deferred := [] } }

/-! ## STIME -/

/-- Set NS to `v` when it lies in 64 bits; past the scale's end the spec defines no behaviour, and NS is a free value
(Table TIM-6; log entry 4). -/
def State.setNs (s : State) (v : Int) : State :=
  if 0 ≤ v ∧ v < 2 ^ 64 then { s with stime := { s.stime with ns := BitVec.ofInt 64 v } }
  else
    let (f, s) := s.freshWord
    { s with stime := { s.stime with ns := f } }

/-- The increment of one CLK_FAB cycle in units of 2^-32 ns (R38). -/
def State.stimeInc (s : State) : Int :=
  (s.fld (Reg.TIME_INCR + 4) 7 0 : Int) * 2 ^ 32 + s.rdn Reg.TIME_INCR + (s.rd Reg.TIME_RATE_D).toInt

/-- Add `d` units of 2^-32 ns to STIME, carrying from FRAC into NS. -/
def State.stimeAdd (s : State) (d : Int) : State :=
  let t : Int := (s.ns : Int) * 2 ^ 32 + s.stime.frac.toNat + d
  let s := { s with stime := { s.stime with frac := BitVec.ofInt 32 t } }
  s.setNs (t / 2 ^ 32)

/-- The 64-bit operand of a write in halves, and whether the write acts (R924). -/
def State.halfWrite (s : State) (a : Nat) (w : HalfWrite) : State × Option DWord :=
  match w with
  | .lower v => (s.wr a v, none)
  | .upper v => let s := s.wr (a + 4) v; (s, some (s.rd64 a))
  | .both v => (s.wr64 a v, some v)

/-- The main PLL is off: the device is in DEEP_NAP and no exit has begun (R47, Table PWR-1). -/
def State.pllOff (s : State) : Bool := s.fld Reg.PWR_STAT 2 0 == 3 && !s.pwr.exiting

/-- KEEPER_HANDOVER (R47): the main PLL loses lock and STIME passes to the REFCLK keeper, or the PLL has returned and STIME passes
back, with no step. While the PLL is off it does not pass back. -/
def execKeeperHandover (toKeeper : Bool) (s : State) : Result :=
  if !toKeeper && s.pllOff then .next s else .next (s.setb Reg.TIME_STAT 3 toKeeper)

/-- A Draft rate write or step refused: its guard flag, and source 445 (R42). -/
def State.guardRefuse (s : State) (flag : Nat) : State := (s.setb Reg.TIME_STAT flag true).raise 445

/-- A Draft step of this cycle is taken back, with the strokes it passed that have not launched, and refused (R44). -/
def State.takeBackDraft (s : State) : State := match s.stime.draftUndo with
  | some (c, ns, last) =>
    if c = s.stime.cycle then
      let s := { s with stime := { s.stime with ns := ns, lastDraftStep := last, draftUndo := none } }
      let gone := fun (d : DueStroke) => d.stepped && d.since == c && decide (s.ns < s.strokeTime d.idx)
      State.guardRefuse { s with strokes := { s.strokes with due := s.strokes.due.filter fun d => !gone d } } 2
    else s
  | none => s

/-- A Scribe set or step happens in this cycle: no Draft step of the cycle stands (R44). -/
def State.markScribeChange (s : State) : State :=
  let s := s.takeBackDraft
  { s with stime := { s.stime with scribeChangeAt := some s.stime.cycle } }

/-- STIME is loaded with `v` by the Scribe world (R43, R45, R71, R747). -/
def State.setTime (s : State) (v : DWord) : State :=
  let s := s.markScribeChange
  let old := s.ns
  let wasValid := s.timeValid
  let s := { s with stime := { s.stime with ns := v, frac := 0 } }
  if wasValid then s.strokesStepped old
  else ((s.setb Reg.TIME_STAT 0 true).coloFirstStime).armDeferred.strokesAtValid

/-- TIME_SET (R39, R43, R45, R71, R924). -/
def execTimeSet (w : HalfWrite) (s : State) : Result :=
  match s.halfWrite Reg.TIME_SET w with
  | (s, some v) => .next (s.setTime v)
  | (s, none) => .next s

/-- A signed step of NS (R43, R69, R70). -/
def State.stepTime (s : State) (d : Int) : State :=
  let old := s.ns
  (s.setNs (old + d)).strokesStepped old

/-- TIME_STEP_S (R39, R43, R924): a Scribe step, without limit. -/
def execTimeStepS (w : HalfWrite) (s : State) : Result :=
  match s.halfWrite Reg.TIME_STEP_S w with
  | (s, some v) => .next (s.markScribeChange.stepTime v.toInt)
  | (s, none) => .next s

/-- A Draft step is permitted: at most 1,000 ns, a second after the last one applied, and no Scribe change in this cycle
(R41, R44). -/
def State.draftStepOk (s : State) (v : Word) : Bool :=
  decide (v.toInt.natAbs ≤ 1000) &&
  (match s.stime.lastDraftStep with | none => true | some c => decide (c + 800000000 ≤ s.stime.cycle)) &&
  s.stime.scribeChangeAt != some s.stime.cycle

/-- TIME_STEP_D (R41 to R44). -/
def execTimeStepD (v : Word) (s : State) : Result :=
  if s.draftStepOk v then
    .next (({ s with stime := { s.stime with
      lastDraftStep := some s.stime.cycle
      draftUndo := some (s.stime.cycle, s.stime.ns, s.stime.lastDraftStep) } }).stepTime v.toInt)
  else .next (s.guardRefuse 2)

/-- TIME_RATE_D (R40, R42): a Scribe write as written, a Draft write within ±500 ppm. -/
def execTimeRateD (p : Party) (v : Word) (s : State) : Result :=
  match p with
  | .scribe => .next (s.wr Reg.TIME_RATE_D v)
  | .draft =>
    if -2684354 ≤ v.toInt ∧ v.toInt ≤ 2684354 then .next (s.wr Reg.TIME_RATE_D v) else .next (s.guardRefuse 1)
  | _ => .next s

/-- TIME_NOW_LO (R46): a read latches NS[63:32] and FRAC; a 64-bit read returns one sample of NS. -/
def execTimeNowLo (wide : Bool) (s : State) : Result :=
  let s := (s.wr Reg.TIME_NOW_HI ((s.stime.ns >>> 32).truncate 32)).wr Reg.TIME_NOW_FRAC s.stime.frac
  .next (s.emit (.value (if wide then s.ns else s.ns % 2 ^ 32)))

/-! ## PPS and the Lumro link -/

/-- The cycles of a PPS_OUT pulse: TIME_PPS_WIDTH microseconds, 0 treated as 1 (R56). -/
def State.ppsCycles (s : State) : Nat := 800 * max 1 (s.rdn Reg.TIME_PPS_WIDTH)

/-- PPS_OUT rises at a PPS_EMIT stroke (R54, R56). The width is the one that stands at the rise (log entry 55). -/
def State.ppsEmit (s : State) : State :=
  ({ s with lumro := { s.lumro with
    ppsOut := true
    ppsEnd := s.stime.cycle + s.ppsCycles
    txEdges := s.lumro.txEdges ++ [(s.ns, s.stime.cycle)] } }).emit (.pin .ppsOut true)

/-- PPS_PULSE_END (R56): TIME_PPS_WIDTH has passed since the rise. -/
def execPpsPulseEnd (s : State) : Result :=
  if s.lumro.ppsOut && decide (s.lumro.ppsEnd ≤ s.stime.cycle) then .next (({ s with lumro := { s.lumro with ppsOut := false } }).emit (.pin .ppsOut false))
  else .next s

/-- The Lumro frame for the PPS_OUT edge at `edge` ns (Table TIM-3). -/
def State.lumroFrame (s : State) (edge : Nat) : Bytes :=
  let c := Reg.TIME_LUMRO_CTL
  let flags := (if s.timeValid then 1 else 0) + (if s.bit c 3 then 2 else 0)
  let b := beBytes 2 0x4C4D ++ beBytes 1 1 ++ beBytes 1 flags ++ beBytes 8 (edge / 1000000000 + 1)
    ++ beBytes 2 (s.fld c 31 16) ++ beBytes 1 (s.fld c 15 8) ++ beBytes 1 (s.fld c 7 4) ++ beBytes 4 s.lumro.seq.toNat
  b ++ beBytes 4 (crc32c b)

/-- LUMRO_FRAME_TX (R54): 500 ms after a PPS_OUT edge, at the earliest 499 ms after it, with TX_EN set; each edge has its
frame, in their order. -/
def execLumroFrameTx (s : State) : Result :=
  match s.lumro.txEdges with
  | (e, c) :: r =>
    if s.stime.cycle < c + 399200000 then .next s
    else if s.bit Reg.TIME_LUMRO_CTL 0 then
      let f := s.lumroFrame e
      .next (({ s with lumro := { s.lumro with txEdges := r, seq := s.lumro.seq + 1 } }).emit (.tod f))
    else .next { s with lumro := { s.lumro with txEdges := r } }
  | [] => .next s

/-- LUMRO_FRAME_RX (R58, R59): a frame of 24 bytes whose last stop bit ends now. A bad CRC counts whatever MAGIC and VERSION
say. -/
def execLumroFrameRx (f : Bytes) (s : State) : Result :=
  if s.bit Reg.TIME_LUMRO_CTL 1 && f.length == 24 then
    if beAt f 20 4 ≠ crc32c (slice f 0 20) then .next ((s.incSat Reg.TIME_LUMRO_STAT 31 16).countLink 7)
    else if beAt f 0 2 = 0x4C4D ∧ beAt f 2 1 = 1 then
      let s := s.wr64 Reg.TIME_LUMRO_RXSEC (BitVec.ofNat 64 (beAt f 4 8))
      let s := s.setb Reg.TIME_LUMRO_STAT 0 false
      .next { s with lumro := { s.lumro with rx := s.lumro.rx ++ [(beAt f 4 8, s.stime.cycle)] } }
    else .next s
  else .next s

/-- The edge at this cycle falls in the window of a frame received at `c`: 100 ms to 900 ms after it (R58). -/
def State.inLumroWindow (s : State) (c : Nat) : Bool :=
  decide (c + 80000000 ≤ s.stime.cycle) && decide (s.stime.cycle ≤ c + 720000000)

/-- TIME_LUMRO_OFFSET for a frame of SECOND `sec` and an edge captured at `ns`, rounded to whole nanoseconds; a tie the
spec does not settle goes the way of `up` (R58). -/
def State.lumroOffset (s : State) (sec ns : Nat) (up : Bool) : Int :=
  let t : Int := 256 * ((sec * 1000000000 : Nat) : Int) + (s.rdn Reg.TIME_LUMRO_DELAY : Int) - 256 * (ns : Int)
  if t % 256 < 128 ∨ (t % 256 = 128 ∧ up = false) then t / 256 else t / 256 + 1

/-- PPS_IN_EDGE (R57, R58): capture STIME, and pair with the frames whose window holds the edge. -/
def execPpsInEdge (s : State) : Result :=
  if s.bit Reg.TIME_LUMRO_CTL 1 then
    let s := s.wr64 Reg.TIME_LUMRO_CAP s.stime.ns
    let (f, s) := s.freshWord
    match s.lumro.rx.filter (fun r => s.inLumroWindow r.2) with
    | [] => .next s
    | m =>
      let s := m.foldl (fun s r =>
        (s.wr64 Reg.TIME_LUMRO_OFFSET (BitVec.ofInt 64 (s.lumroOffset r.1 s.ns (f.getLsbD 0)))).raise 446) s
      let s := s.setb Reg.TIME_LUMRO_STAT 0 true
      .next { s with lumro := { s.lumro with rx := s.lumro.rx.filter fun r => !s.inLumroWindow r.2 } }
  else .next s

/-- LUMRO_WINDOW_EXPIRY (R59): each frame whose window has ended with no edge counts in WINDOW_ERR. -/
def execLumroWindowExpiry (s : State) : Result :=
  let ended := fun (r : Nat × Nat) => decide (r.2 + 720000000 < s.stime.cycle)
  let n := (s.lumro.rx.filter ended).length
  let s' := { s with lumro := { s.lumro with rx := s.lumro.rx.filter fun r => !ended r } }
  .next ((List.range n).foldl (fun s _ => s.incSat Reg.TIME_LUMRO_STAT 15 1) s')

end Sys2Proof.Machine
end

