-- ==== Sys2Proof/Machine/Rings.lean ====
section
/-! DEFINITION. Chapter 13: ring pairs, doorbells, fetch, the gate, the duplicate window and completion. -/

namespace Sys2Proof.Machine

/-! ## Ring pairs -/

def State.ringSt (s : State) (n : Nat) : RingSt := Tab.get (fun _ => {}) s.rings n
def State.setRing (s : State) (n : Nat) (x : RingSt) : State := { s with rings := Tab.set (fun _ => {}) s.rings n x }

def State.ringFolio (s : State) (n : Nat) : Nat := s.fld (Reg.RING_CFG n) 29 24
def State.ringLocal (s : State) (n : Nat) : Nat := s.fld (Reg.RING_CFG n) 19 16
def State.sqSize (s : State) (n : Nat) : Nat := 2 ^ s.fld (Reg.RING_CFG n) 4 0
def State.cqSize (s : State) (n : Nat) : Nat := 2 ^ s.fld (Reg.RING_CFG n) 12 8

/-- STATE of Table RNG-14: 0 DISABLED, 1 ENABLED, 2 DRAINING, 3 STOPPED. -/
def State.ringState (s : State) (n : Nat) : Nat := s.fld (Reg.RING_STAT n) 31 30
def State.setRingState (s : State) (n v : Nat) : State := s.setf (Reg.RING_STAT n) 31 30 v

def State.sqHead (s : State) (n : Nat) : Nat := s.fld (Reg.RING_SQ_HEAD n) 15 0
def State.sqTail (s : State) (n : Nat) : Nat := s.fld (Reg.RING_SQ_TAIL n) 15 0
def State.cqHead (s : State) (n : Nat) : Nat := s.fld (Reg.RING_CQ_HEAD n) 15 0
def State.cqTail (s : State) (n : Nat) : Nat := s.fld (Reg.RING_CQ_TAIL n) 15 0

/-- STATE of folio `f` (Table HST-4). -/
def State.folioState (s : State) (f : Nat) : Nat := s.fld (Reg.FOL_CTL f) 2 0

/-- The fetch number of an operation of ring `n`. -/
def Op.onRing (o : Op) (n : Nat) : Bool := match o.src with
  | .ring k _ => k == n
  | .bsp _ _ _ => false

def Op.fetchNo (o : Op) : Nat := match o.src with
  | .ring _ k => k
  | .bsp _ _ _ => 0

/-- The operations of ring `n` fetched and not completed, in ring order. -/
def State.ringOps (s : State) (n : Nat) : List Op := s.ops.filter fun o => o.onRing n

def State.op (s : State) (id : Nat) : Option Op := s.ops.find? (·.id == id)
def State.setOp (s : State) (o : Op) : State := { s with ops := s.ops.map fun x => if x.id = o.id then o else x }

/-- The port of a BSP operation. -/
def Op.bspPort (o : Op) : Option Nat := match o.src with
  | .bsp _ _ p => some p
  | .ring _ _ => none

/-- An operation is gone: its tag is free, to be taken again from the next cycle (R612), and its transient slot is erased (R346). -/
def State.dropOp (s : State) (id : Nat) : State :=
  let tags := (s.ops.filter fun o => o.id == id && o.tag).map fun o => (o.folio, o.bspPort)
  let c := s.cyc.of s.stime.cycle
  State.xlDone { s with ops := s.ops.filter (·.id != id)
                        cyc := if tags.isEmpty then s.cyc else { c with freed := tags ++ c.freed }
                        rsv := { s.rsv with trans := s.rsv.trans.filter (·.op != some id) } } (.op id)

/-- An operation that holds a gate slot. -/
def Op.parked (o : Op) : Bool := match o.at_ with
  | .parkTime _ => true
  | .parkChain _ => true
  | .parkDup _ _ => true
  | .parkTag _ => true
  | .cand => false
  | .run _ => false

def State.gateUsed (s : State) : Nat := (s.ops.filter (·.parked)).length
def State.folioGates (s : State) (f : Nat) : Nat := (s.ops.filter fun o => o.parked && o.folio == f).length

/-- A gate slot is free for folio `f` (R82, R615). -/
def State.gateFree (s : State) (f : Nat) : Bool :=
  decide (s.gateUsed < 512) && decide (s.folioGates f < min 512 (s.fld (Reg.SCH_FOL_GATE_CAP f) 9 0))

/-- Note the most gate slots in use at once. -/
def State.gateNote (s : State) : State :=
  if s.fld Reg.STRK_GATE_HWM 9 0 < s.gateUsed then s.setf Reg.STRK_GATE_HWM 9 0 s.gateUsed else s

/-! ## Tags (R609 to R614) -/

def State.folioTags (s : State) (f : Nat) : Nat := (s.ops.filter fun o => o.tag && o.folio == f).length

/-- Tags of folio `f` that cannot be taken: in use, or freed in this cycle (R612). -/
def State.folioTagsHeld (s : State) (f : Nat) : Nat :=
  s.folioTags f + ((s.cyc.of s.stime.cycle).freed.filter (·.1 == f)).length
def State.tagsUsed (s : State) : Nat := (s.ops.filter (·.tag)).length

/-- Free tags of the shared pool. -/
def State.sharedFree (s : State) : Nat :=
  4096 - ((List.range 64).map fun f => s.tagMin f).foldl (· + ·) 0 -
    ((List.range 64).map fun f => s.folioTags f - s.tagMin f).foldl (· + ·) 0

/-- Tags of the shared pool that can be taken now. -/
def State.sharedRoom (s : State) : Nat :=
  4096 - ((List.range 64).map fun f => s.tagMin f).foldl (· + ·) 0 -
    ((List.range 64).map fun f => s.folioTagsHeld f - s.tagMin f).foldl (· + ·) 0

/-- How many tags folio `f` can take now (R609, R612). -/
def State.tagRoom (s : State) (f : Nat) : Nat :=
  min (s.tagCap f - s.folioTagsHeld f) ((s.tagMin f - s.folioTagsHeld f) + s.sharedRoom)

def State.canTag (s : State) (f : Nat) : Bool := decide (0 < s.tagRoom f)

/-- Note the most tags in use at once. -/
def State.tagNote (s : State) : State :=
  if s.fld Reg.SCH_TAG_HWM 12 0 < s.tagsUsed then s.setf Reg.SCH_TAG_HWM 12 0 s.tagsUsed else s

/-! ## Engine classes (Tables SCH-1, SCH-2) -/

/-- The class of an opcode; 6 for CONTROL. -/
def classOf (opcode : Nat) : Nat :=
  if opcode = 0x01 ∨ opcode = 0x02 then 0
  else if opcode = 0x03 then 1
  else if opcode = 0x10 ∨ opcode = 0x11 ∨ opcode = 0x12 then 2
  else if opcode = 0x32 ∨ (0x40 ≤ opcode ∧ opcode ≤ 0x44) then 3
  else if opcode = 0x30 ∨ opcode = 0x31 ∨ opcode = 0x33 ∨ opcode = 0x34 then 4
  else if opcode = 0x20 then 5
  else 6

/-! ## Candidates (R594, R599) -/

/-- The candidates: the oldest fetched and unparked descriptor of each ring, and the oldest request of each folio's BSP
queue. -/
def State.candidates (s : State) : List Op :=
  ((List.range 128).filterMap fun n => (s.ringOps n).find? fun o => o.at_ == .cand) ++
    (List.range 64).filterMap fun f => s.ops.find? fun o => o.folio == f && o.at_ == .cand && s.folioState f == 1 && (match o.src with
      | .bsp _ _ _ => true
      | .ring _ _ => false)

/-- The number of a candidate's source within its folio: its ring's local number, or 16 for BSP. -/
def State.sourceNo (s : State) (o : Op) : Nat := match o.src with
  | .ring n _ => s.ringLocal n
  | .bsp _ _ _ => 16

/-- Key of a folio and class in the scheduler's tables. -/
def fcKey (f c : Nat) : Nat := f * 8 + c

def zeroInt (_ : Nat) : Int := 0
def State.levelB (s : State) (f c : Nat) : Int := Tab.get zeroInt s.sch.levelB (fcKey f c)
def State.levelO (s : State) (f c : Nat) : Int := Tab.get zeroInt s.sch.levelO (fcKey f c)
def State.deficit (s : State) (f c : Nat) : Int := Tab.get zeroInt s.sch.deficit (fcKey f c)
def State.setLevelB (s : State) (f c : Nat) (v : Int) : State :=
  { s with sch := { s.sch with levelB := Tab.set zeroInt s.sch.levelB (fcKey f c) v } }
def State.setLevelO (s : State) (f c : Nat) (v : Int) : State :=
  { s with sch := { s.sch with levelO := Tab.set zeroInt s.sch.levelO (fcKey f c) v } }
def State.setDeficit (s : State) (f c : Nat) (v : Int) : State :=
  { s with sch := { s.sch with deficit := Tab.set zeroInt s.sch.deficit (fcKey f c) v } }

/-- A folio with no candidate of a class keeps no credit in it (R601). -/
def State.dropCredit (s : State) : State :=
  let cs := s.candidates
  (List.range 63).foldl (fun s i => (List.range 6).foldl (fun s c =>
    let f := i + 1
    if 0 < s.deficit f c ∧ !(cs.any fun o => o.folio == f && classOf o.desc.opcode == c) then s.setDeficit f c 0 else s) s) s

/-! ## Completion (R565 to R574, R588) -/

/-- A completion entry (Table RNG-5). -/
def completionEntry (reqId : Nat) (phase : Bool) (stime : Nat) (r : OpRes) : Bytes :=
  leBytes 4 reqId ++ leBytes 4 (phase.toNat * 2 ^ 31 + r.engine * 65536 + r.status) ++ leBytes 8 r.bytesOut ++
    leBytes 8 stime ++ leBytes 4 r.r0 ++ leBytes 4 r.r1

/-- A status on which a chained descriptor may run (R578). -/
def OpRes.chainOk (r : OpRes) : Bool := r.status == St.ok || (r.status == St.duplicate && r.r0 % 65536 == St.ok)

/-- Record a final status for the chain and the duplicate window (R576, R582). -/
def State.ringRecord (s : State) (n no : Nat) (r : OpRes) : State :=
  let x := s.ringSt n
  let needed := fun (k : Nat) => (s.ringOps n).any fun o => match o.at_ with
    | .parkChain _ => o.fetchNo == k + o.desc.chain
    | .parkTime _ => o.fetchNo == k + o.desc.chain
    | _ => false
  s.setRing n { x with
    hist := (x.hist.filter fun e => decide (x.fetched < e.1 + 256) || needed e.1) ++ [(no, r.chainOk)]
    window := x.window.map fun e => if e.fetchNo = no then { e with res := some r } else e }

/-- Source `n` is raised for the pending entries of ring `n`, whose count returns to 0 (R573). -/
def State.ringSignal (s : State) (n : Nat) : State := (s.setRing n { s.ringSt n with pendingIrq := 0 }).raise n

/-- Count a written entry for coalescing (R573, R574). -/
def State.coalesce (s : State) (n : Nat) (noIrq : Bool) : State :=
  let x := s.ringSt n
  let since := if x.pendingIrq = 0 then s.stime.cycle else x.pendSince
  let s := if noIrq then s else s.setRing n { x with pendingIrq := x.pendingIrq + 1, pendSince := since }
  let p := (s.ringSt n).pendingIrq
  if p = 0 then s
  else if max 1 (s.fld (Reg.RING_COAL n) 23 16) ≤ p ∨ (s.ringOps n).isEmpty then s.ringSignal n else s

/-- Discard an entry of a ring whose completion writes are refused (R588); entries written before it are signalled once nothing is
outstanding (R574). -/
def State.lostEntry (s : State) (n : Nat) : State :=
  let s := s.incSat (Reg.RING_LOST n) 31 0
  if (s.ringSt n).pendingIrq ≠ 0 ∧ (s.ringOps n).isEmpty then s.ringSignal n else s

/-- A completion write of ring `n` is refused by a ruling unit or ATS (R588). -/
def State.cplRefused (s : State) (n : Nat) : State :=
  let s := s.setRing n { s.ringSt n with lost := true }
  let s := if s.ringState n = 1 then s.setRingState n 3 else s
  ((s.setb (Reg.RING_STAT n) 4 true).lostEntry n).raise (192 + s.ringFolio n)

/-- How an operation transfers data through initiator `init`: with its ring's PASID, and Relaxed Ordering (R497, R507). -/
def State.opCtx (s : State) (o : Op) (init : Nat) : HostCtx :=
  { who := .op o.id, init, folio := o.folio, ro := true, old := o.oldRul, pasid := match o.src with
    | .ring n _ => s.ringPasid n
    | .bsp _ _ _ => none }

/-- Write the completion entry of a ring operation, or discard it; the operation is then gone, and its tag free. The entry waits for
its translation (R509), and carries no Relaxed Ordering (R497). -/
def State.commitRing (s : State) (o : Op) (n no : Nat) (r : OpRes) : State :=
  let r := if o.desc.opcode = 0x52 ∧ r.status = St.ok then
    { r with r0 := s.rdn Reg.TIME_STAT, r1 := s.stime.frac.toNat } else r
  let s0 := s
  let s := (s.dropOp o.id).ringRecord n no r
  if (s.ringSt n).lost then s.lostEntry n
  else
    let a := (s.rd64 (Reg.RING_CQ_BASE n)).toNat + 32 * s.cqTail n
    let phase := s.bit (Reg.RING_STAT n) 8
    match s.hostWrite1 { s.opCtx o ringInit with ro := false } a (completionEntry o.desc.reqId phase s.ns r) with
    | (t, some e) => if e = St.wait then s0.xlWait t else t.cplRefused n
    | (s, none) =>
      let t := (s.cqTail n + 1) % s.cqSize n
      let s := s.setf (Reg.RING_CQ_TAIL n) 15 0 t
      let s := if t = 0 then s.setb (Reg.RING_STAT n) 8 (!phase) else s
      let s := s.addSat64 (Reg.RING_OPS n) 1
      let s := if r.status = St.duplicate then s.incSat (Reg.RING_DUPS n) 31 0 else s
      s.coalesce n (o.desc.flags.testBit 1)

/-- The response of `o` waits in its transmit buffer: its reservation is freed when its last frame is sent or dropped (R616, R639); `t` is
the state before it was sent. -/
def State.holdTx (s t : State) (o : Op) : State :=
  match o.bspPort with
  | none => s
  | some p =>
    let q := (s.portSt p).txq
    match q.getLast? with
    | some x => if (t.portSt p).txq.length < q.length then s.setPort p { s.portSt p with txq := q.dropLast ++ [{ x with res := o.txRes }] } else s
    | none => s

/-- Answer a BSP operation: the response is placed in its transmit buffer and the tag is free (R612, R656). -/
def State.commitBsp (s : State) (o : Op) (id seq : Nat) (r : OpRes) : State :=
  let s := s.keepResult id seq r
  let s := State.holdTx (s.bspRespond id o.desc.opcode o.desc.reqId r.status r.bytesOut r.r0 r.r1 o.output) s o
  let s := s.answerDups id seq
  let s := (s.dropOp o.id).freeStage (stageUnits (24 + o.stream.length + o.data.length))
  s.closeIfIdle id

/-- An AUTH_FAILED from a lane or from Flourish is counted, and its event raised at most once per 1 ms (R446, R491). -/
def State.authCount (s : State) (r : OpRes) : State :=
  if r.status ≠ St.authFailed then s
  else if 0x10 ≤ r.engine ∧ r.engine < 0x30 then (s.incSat Reg.NIB_AUTH_FAIL 31 0).raiseLimited 326
  else if r.engine = 0x30 then (s.incSat Reg.FLO_AUTH_FAIL 31 0).raiseLimited 329
  else s

/-- The Flourish operation counters (R492). -/
def State.floCount (s : State) (opcode : Nat) : State :=
  s.addSat64 (Reg.FLO_OPS (match opcode with
    | 0x40 => 0
    | 0x41 => 1
    | 0x42 => 2
    | 0x43 => 2
    | _ => 3)) 1

/-- The engine an operation runs on; 0 while it has none. -/
def Op.engine (o : Op) : Nat := match o.at_ with
  | .run e => e
  | _ => 0

/-- Write output bytes from offset `off` of DST: the state, how many bytes were written, and the status of a failure. A BSP response
takes the bytes into the operation's output. -/
def State.writeAt (s : State) (o : Op) (io : Io) (off : Nat) (b : Bytes) : State × Nat × Option Nat :=
  if io.ring then
    s.hostWrites (s.opCtx o (writeInit o.engine)) ((cutPieces io.dstP off b.length).map fun p => splitPages s.writeMax p.1 p.2).flatten b
  else match s.stageOk (s.opCtx o (writeInit o.engine)) b.length .write with
    | (s, true) => (match s.op o.id with
        | some x => s.setOp { x with output := x.output.take off ++ b ++ x.output.drop (off + b.length) }
        | none => s, b.length, none)
    | (s, false) => (s, 0, some St.badAddress)

/-- The zeros that an operation cut short leaves in DST (R441 to R443); whether they wait for a translation. -/
def State.zeroFill (s : State) (o : Op) : State × Bool := match o.fill with
  | some x => match s.writeAt o x.io x.off (zeros x.len) with
    | (s, _, e) => (s, e == some St.wait)
  | none => (s, false)

/-- Commit an operation whose result is known. A ring's entry waits while Bus Master Enable is clear (R496). -/
def State.commit (s : State) (id : Nat) : State :=
  match s.op id with
  | none => s
  | some o => match o.res with
    | none => s
    | some r => match o.src with
      | .ring n no =>
        if !s.host.busMaster then s
        else match s.zeroFill o with
          | (t, true) => s.xlWait t
          | (t, false) =>
            let u := ((if r.engine = 0x30 then t.floCount o.desc.opcode else t).authCount r).commitRing o n no r
            if (u.op id).isSome then s.xlWait u else u
      | .bsp i seq _ =>
        let s := (if r.engine = 0x30 then s.floCount o.desc.opcode else s).zeroFill o |>.1
        (s.authCount r).commitBsp ((s.op id).getD o) i seq r

/-- Set an operation's result: it has left its gate slot or queue, and its key copies are erased (R403). -/
def State.setRes (s : State) (id : Nat) (r : OpRes) : State :=
  match s.op id with
  | some o => s.setOp { o with res := some r, at_ := .run o.engine, key := .none, key2 := .none, blob := [], held := none
                               waitErase := none, suspended := false, job := none }
  | none => s

/-- The part of a chunk that a lane has written and not completed, to be overwritten with zeros (R441 to R443). -/
def LaneJob.fill (j : LaneJob) : Option Fill := if j.part = 0 then none else some { io := j.io, off := j.good, len := j.part }

/-- What an operation reports when another command ends it: BYTES_OUT counts the header and the chunks that a lane has
completed (R442). -/
def Op.endRes (o : Op) (status : Nat) : OpRes := { status, bytesOut := (o.job.map (·.good)).getD 0, engine := o.engine }

/-- An operation that another command ends: its result is set, and committed if it can be. -/
def State.finish (s : State) (id status : Nat) : State :=
  match s.op id with
  | some o => if o.res.isSome then s
              else ((s.setOp { o with fill := o.job.bind LaneJob.fill }).setRes id (o.endRes status)).commit id
  | none => s

/-! ## Descriptors and fetch-time checks (Tables RNG-3, RNG-7, RNG-9, RNG-10) -/

def parseDesc (b : Bytes) : Desc :=
  let w0 := leAt b 0 4
  let w := leAt b 0x3C 4
  { opcode := w0 % 256, flags := w0 / 256 % 256, domain := w0 / 65536, reqId := leAt b 4 4, keyRef := leAt b 8 4
    aadLen := leAt b 12 4, dataLen := leAt b 16 4, param0 := leAt b 20 4, src := leAt b 24 8, dst := leAt b 32 8
    aux := leAt b 40 8, notBefore := leAt b 48 8, param1 := leAt b 56 4, rsvd := w / 65536, chain := w % 65536 }

def opcodes : List Nat := [0x01, 0x02, 0x03, 0x10, 0x11, 0x12, 0x20, 0x30, 0x31, 0x32, 0x33, 0x34, 0x40, 0x41, 0x42, 0x43, 0x44,
  0x50, 0x51, 0x52]

/-- Every field that Table RNG-10 marks unused is 0, and DOMAIN where the opcode names none (R558, log entry 20). -/
def unusedOk (d : Desc) : Bool :=
  let z := fun (l : List Nat) => l.all (· == 0)
  match d.opcode with
  | 0x10 => z [d.domain]
  | 0x11 => z [d.domain]
  | 0x12 => z [d.domain]
  | 0x20 => z [d.domain]
  | 0x30 => z [d.keyRef, d.aadLen, d.dst, d.param0, d.param1]
  | 0x31 => z [d.domain, d.aadLen, d.src, d.dataLen, d.dst, d.param0, d.param1]
  | 0x33 => z [d.src, d.dataLen, d.param1, d.param0 % 512, d.param0 / 1024]
  | 0x34 => z [d.src, d.dataLen, d.param0, d.param1]
  | 0x40 => z [d.domain]
  | 0x41 => z [d.domain]
  | 0x50 => z [d.domain, d.keyRef, d.aadLen, d.src, d.dataLen, d.dst, d.param0, d.param1]
  | 0x51 => z [d.domain, d.keyRef, d.aadLen, d.src, d.dataLen, d.dst]
  | 0x52 => z [d.domain, d.keyRef, d.aadLen, d.src, d.dataLen, d.dst, d.param0, d.param1]
  | _ => true

/-- The last column of Table RNG-9: the operations of the duplicate window. -/
def coveredOp (d : Desc) : Bool :=
  let p := d.param0
  match d.opcode with
  | 0x01 => !p.testBit 31 || (!p.testBit 29 && !(p.testBit 30 && d.aadLen == 144))
  | 0x03 => !p.testBit 29 && !(p.testBit 30 && d.aadLen == 272)
  | 0x20 => true
  | 0x31 => true
  | 0x32 => true
  | 0x33 => p.testBit 9
  | 0x42 => true
  | 0x43 => p.testBit 9
  | 0x44 => p.testBit 9
  | _ => false

/-- Checks 1 to 4 of Table RNG-7. -/
def State.descOk (s : State) (n : Nat) (d : Desc) : Bool :=
  opcodes.contains d.opcode && decide (d.flags < 8) && d.rsvd == 0 && (!d.flags.testBit 2 || d.notBefore != 0) && unusedOk d &&
    (d.chain == 0 || (decide (d.chain ≤ 255) && decide (d.chain < s.sqSize n) && decide (d.chain ≤ (s.ringSt n).fetched)))

/-- Add an operation. -/
def State.addOp (s : State) (src : OpSrc) (folio : Nat) (d : Desc) (at_ : OpAt) (tag covered : Bool) : State :=
  { s with ops := s.ops ++ [{ id := s.nextOp, src, folio, desc := d, at_, tag, covered }], nextOp := s.nextOp + 1 }

/-- The carried result of a duplicate (R582). -/
def dupRes (r : OpRes) : OpRes := { status := St.duplicate, bytesOut := r.bytesOut, r0 := r.status, r1 := r.r0 }

/-- Complete a descriptor at fetch, with ENGINE 0x00. -/
def State.completeAtFetch (s : State) (n no : Nat) (d : Desc) (r : OpRes) : State :=
  let id := s.nextOp
  ((s.addOp (.ring n no) (s.ringFolio n) d (.run 0) false (coveredOp d)).setRes id r).commit id

/-- Park a descriptor, if a slot is free. -/
def State.parkNew (s : State) (n no : Nat) (d : Desc) (at_ : OpAt) : Option State :=
  let f := s.ringFolio n
  if s.gateFree f then some (s.addOp (.ring n no) f d at_ false (coveredOp d)).gateNote else none

/-- The predecessor's outcome: none while it has not completed (R578). -/
def State.predecessor (s : State) (n no chain : Nat) : Option Bool :=
  if chain = 0 then some true else ((s.ringSt n).hist.find? fun e => e.1 + chain == no).map (·.2)

/-- Fetch one descriptor: the checks of Table RNG-7, then the gate. `none` when it needs a gate slot and has none, so the
ring stops at it (R82, R615). -/
def State.fetchOne (s : State) (n : Nat) (d : Desc) : Option State :=
  let now := s.stime.cycle
  let ok := s.descOk n d
  let x := s.ringSt n
  let no := x.fetched + 1
  let s := s.setRing n { x with fetched := no }
  if !ok then some (s.completeAtFetch n no d { status := St.badOpcode })
  else
    let cov := coveredOp d && d.reqId != 0
    match (if cov then (x.window.take 256).find? (·.reqId == d.reqId) else none) with
    | some e => match e.res with
      | some r => some (s.completeAtFetch n no d (dupRes r))
      | none => s.parkNew n no d (.parkDup now e.fetchNo)
    | none =>
      let keep := fun (w : List DupEnt) => w.take 256 ++ (w.drop 256).filter fun e => (s.ringOps n).any fun o => match o.at_ with
        | .parkDup _ k => k == e.fetchNo
        | _ => false
      let s := if cov then s.setRing n { s.ringSt n with window := keep (⟨d.reqId, no, none⟩ :: x.window) } else s
      if d.flags.testBit 2 && decide (d.notBefore < s.ns) then some (s.completeAtFetch n no d { status := St.late })
      else if s.ns < d.notBefore then s.parkNew n no d (.parkTime now)
      else match s.predecessor n no d.chain with
        | none => s.parkNew n no d (.parkChain now)
        | some false => some (s.completeAtFetch n no d { status := St.aborted })
        | some true => some (s.addOp (.ring n no) (s.ringFolio n) d .cand true (coveredOp d)).tagNote

/-- A FENCE of ring `n` is outstanding (R575). -/
def State.fenced (s : State) (n : Nat) : Bool := (s.ringOps n).any fun o => o.desc.opcode == 0x50

/-- CQ head as it counts for the slots of ring `n`: a release takes effect in the next cycle (Table RNG-12). -/
def State.cqFreed (s : State) (n : Nat) : Nat :=
  match (s.cyc.of s.stime.cycle).doors.find? (·.1 == n) with
  | some d => fieldOf d.2.2.1 15 0
  | none => s.cqHead n

/-- Completion slots that ring `n` can still reserve (R554). -/
def State.cqRoom (s : State) (n : Nat) : Nat :=
  let size := s.cqSize n
  size - 1 - ((s.ringOps n).length + (s.cqTail n + size - s.cqFreed n) % size)

/-- How many descriptors ring `n` may fetch in one read (R554, R614): none while it is stopped for a gate slot, so that other rings
proceed (R82, R615). -/
def State.fetchCount (s : State) (n : Nat) : Nat :=
  if s.ringState n ≠ 1 ∨ s.folioState (s.ringFolio n) ≠ 1 ∨ s.fenced n ∨ ((s.ringSt n).gateStop ∧ !s.gateFree (s.ringFolio n)) then 0
  else
    let size := s.sqSize n
    let submitted := (s.sqTail n + size - s.sqHead n) % size
    min (min 8 submitted) (min (min (s.cqRoom n) (s.tagRoom (s.ringFolio n))) (size - s.sqHead n))

/-- The ring pair fetched next: folio 0's first, then round robin by number (R614). -/
def State.fetchRing (s : State) : Option Nat :=
  let can := fun n => decide (0 < s.fetchCount n)
  match (List.range 128).find? fun n => s.ringFolio n == 0 && can n with
  | some n => some n
  | none => ((List.range 128).map fun i => (s.sch.lastRing + 1 + i) % 128).find? can

/-- A fetch of ring `n` fails at SQ head: the ring stops (R587). -/
def State.fetchFailed (s : State) (n : Nat) : State :=
  let s := s.setf (Reg.RING_ERR_INDEX n) 15 0 (s.sqHead n)
  ((s.setRingState n 3).setb (Reg.RING_STAT n) 3 true).raise (192 + s.ringFolio n)

/-- Take at most `k` of the descriptors read, in ring order, until the ring stops at one. -/
def State.fetchMany (n : Nat) : Nat → State → State
  | 0, s => s
  | k + 1, s =>
    if s.fenced n then s else
    match (s.ringSt n).ahead with
    | [] => s
    | b :: rest => match s.fetchOne n (parseDesc b) with
      | none => s.setRing n { s.ringSt n with gateStop := true }
      | some s =>
        let s := s.setRing n { s.ringSt n with gateStop := false, ahead := rest }
        State.fetchMany n k (s.setf (Reg.RING_SQ_HEAD n) 15 0 ((s.sqHead n + 1) % s.sqSize n))

/-- DESCRIPTOR_FETCH (R551, R554 to R556, R587, R614): one read of at most 8 descriptors for the ring whose turn it is; those that a
fence or a full gate held back are not read again. -/
def execDescriptorFetch (m : HostMem) (s : State) : Result :=
  if !s.host.busMaster || s.host.d3 || !s.pwr.mainUp then .next s else
  match s.fetchRing with
  | none => .next s
  | some n =>
    let k := s.fetchCount n
    let f := s.ringFolio n
    let s := if f = 0 then s else { s with sch := { s.sch with lastRing := n } }
    if !(s.ringSt n).ahead.isEmpty then .next (State.fetchMany n k s.dropCredit) else
    let a := (s.rd64 (Reg.RING_SQ_BASE n)).toNat + 64 * s.sqHead n
    let s0 := s
    let (s, b, e) := s.hostRead m { who := .fetch n, init := ringInit, folio := f, pasid := s.ringPasid n, ro := true } a (64 * k)
    if e = some St.wait then .next (s0.xlWait s) else
    let s := s.xlDone (.fetch n)
    let s := s.dropCredit
    let ds := (List.range (b.length / 64)).map fun i => slice b (64 * i) 64
    let s := State.fetchMany n k (s.setRing n { s.ringSt n with ahead := ds })
    .next (if e.isSome && (s.ringSt n).ahead.isEmpty then s.fetchFailed n else s)

/-! ## The gate (R77 to R82, R578, R583) -/

/-- A descriptor leaves its gate slot: it goes to admission with a tag, or keeps its slot until there is one (R611). -/
def State.leaveGate (s : State) (o : Op) (since : Nat) : State :=
  if s.canTag o.folio then (s.dropCredit.setOp { o with at_ := .cand, tag := true }).tagNote
  else s.setOp { o with at_ := .parkTag since }

/-- A descriptor whose own time has passed: its chain decides. -/
def State.chainGate (s : State) (o : Op) (since : Nat) : State :=
  match o.src with
  | .ring n no => match s.predecessor n no o.desc.chain with
    | none => s.setOp { o with at_ := .parkChain since }
    | some true => s.leaveGate o since
    | some false => s.finish o.id St.aborted
  | .bsp _ _ _ => s

/-- Parked operations in the order of R79: ascending ring pair, ring order within a ring. -/
def State.gateOrder (s : State) : List Op := ((List.range 128).map fun n => (s.ringOps n).filter (·.parked)).flatten

/-- GATE_RELEASE (R79, R80, R611): every parked descriptor whose time has come is released, after the strokes of the
cycle (R22, R72). -/
def execGateRelease (s : State) : Result :=
  if !s.strokes.due.isEmpty then .next s else
  .next (s.gateOrder.foldl (fun s o => match o.at_ with
    | .parkTime t => if o.desc.notBefore ≤ s.ns then s.chainGate o t else s
    | .parkTag t => s.leaveGate o t
    | _ => s) s)

/-- CHAIN_RELEASE (R578): chained descriptors whose predecessor has completed. -/
def execChainRelease (s : State) : Result :=
  if !s.strokes.due.isEmpty then .next s else
  .next (s.gateOrder.foldl (fun s o => match o.at_ with
    | .parkChain t => s.chainGate o t
    | _ => s) s)

/-- DUPLICATE_RELEASE (R583): waiting duplicates whose original has completed. -/
def execDuplicateRelease (s : State) : Result :=
  if !s.strokes.due.isEmpty then .next s else
  .next (s.gateOrder.foldl (fun s o => match o.at_, o.src with
    | .parkDup _ k, .ring n _ =>
      match ((s.ringSt n).window.find? (·.fetchNo == k)).bind (·.res) with
      | some r => (s.setRes o.id (dupRes r)).commit o.id
      | none => s
    | _, _ => s) s)

/-- GATE_TIMEOUT (R81, R580): descriptors parked longer than their ring's gate timeout. -/
def execGateTimeout (s : State) : Result :=
  .next (s.gateOrder.foldl (fun s o =>
    let late := fun (n since : Nat) =>
      let ms := s.fld (Reg.RING_GATE_TO n) 19 0
      decide (ms ≠ 0 ∧ ms * 800000 < s.stime.cycle - since)
    let out := match o.src, o.at_ with
      | .ring n _, .parkTime t => late n t
      | .ring n _, .parkChain t => late n t
      | .ring n _, .parkDup t _ => late n t
      | .ring n _, .parkTag t => late n t
      | _, _ => false
    if out then (s.finish o.id St.gateTimeout).raise 444 else s) s)

/-! ## Doorbells (R548 to R553) -/

/-- The enabled ring pair of folio `f` with local number `k`. -/
def State.ringOf (s : State) (f k : Nat) : Option Nat :=
  (List.range 128).find? fun n => s.ringFolio n == f && s.ringLocal n == k && s.ringState n == 1

/-- The folio's doorbells are honoured or recorded (Table HST-4). -/
def State.doorbellsOn (s : State) (f : Nat) : Bool := decide (1 ≤ s.folioState f ∧ s.folioState f ≤ 3)

/-- Note ring pair `n` as it stood before its first doorbell of this cycle (R536). -/
def State.noteDoor (s : State) (n : Nat) : State :=
  let c := s.cyc.of s.stime.cycle
  if c.doors.any (·.1 == n) then s
  else { s with cyc := { c with doors := (n, s.rd (Reg.RING_SQ_TAIL n), s.rd (Reg.RING_CQ_HEAD n), s.rd (Reg.RING_STAT n)) :: c.doors } }

/-- The doorbells of this cycle at folio `f` are discarded: a RESET or DESTROY of the folio falls in it (R536). -/
def State.undoDoors (s : State) (f : Nat) : State :=
  ((s.cyc.of s.stime.cycle).doors.filter fun d => s.ringFolio d.1 == f).foldl (fun s d =>
    ((s.wr (Reg.RING_SQ_TAIL d.1) d.2.1).wr (Reg.RING_CQ_HEAD d.1) d.2.2.1).setf (Reg.RING_STAT d.1) 2 1 (fieldOf d.2.2.2 2 1)) s

/-- The ring pair of folio `f` with local number `k` whose ENABLE was cleared in this cycle: its tail is recorded and not fetched
(Table RNG-12). -/
def State.ringClosed (s : State) (f k : Nat) : Option Nat :=
  (s.cyc.of s.stime.cycle).closed.find? fun n => s.ringFolio n == f && s.ringLocal n == k

/-- A TAIL takes effect (R549, R550, R553). -/
def State.dbSq (s : State) (f k : Nat) (v : Word) : State :=
  match (s.ringOf f k).or (s.ringClosed f k) with
  | none => s
  | some n =>
    if !s.doorbellsOn f then s
    else
    let s := s.noteDoor n
    if 65536 ≤ v.toNat ∨ s.sqSize n ≤ v.toNat then (s.setb (Reg.RING_STAT n) 1 true).raise (192 + f)
    else s.setf (Reg.RING_SQ_TAIL n) 15 0 v.toNat

/-- A HEAD takes effect (R550, R552, R553). -/
def State.dbCq (s : State) (f k : Nat) (v : Word) : State :=
  match s.ringOf f k with
  | none => s
  | some n =>
    let size := s.cqSize n
    if !s.doorbellsOn f then s
    else
    let s := s.noteDoor n
    if 65536 ≤ v.toNat then (s.setb (Reg.RING_STAT n) 1 true).raise (192 + f)
    else if size ≤ v.toNat ∨ (s.cqTail n + size - s.cqHead n) % size < (v.toNat + size - s.cqHead n) % size then
      (s.setb (Reg.RING_STAT n) 2 true).raise (192 + f)
    else s.setf (Reg.RING_CQ_HEAD n) 15 0 v.toNat

/-- The fabric is stopped, or an exit from a low-power state runs: doorbells go to the shadow (R900). -/
def State.shadowing (s : State) : Bool := s.fld Reg.PWR_STAT 2 0 == 3 || s.pwr.exiting

/-- Record a doorbell in the shadow, in place of an earlier one to the same slot. -/
def State.shadowPut (s : State) (f k : Nat) (cq : Bool) (v : Word) : State :=
  { s with pwr := { s.pwr with
    shadow := s.pwr.shadow.filter (fun e => !(e.1 == f && e.2.1 == k && e.2.2.1 == cq)) ++ [(f, k, cq, v)] } }

/-- Apply the doorbell shadow in ascending ring pair number, SQ before CQ. -/
def State.shadowApply (s : State) : State :=
  let l := s.pwr.shadow
  let one := fun (cq : Bool) (s : State) (n : Nat) =>
    match l.find? fun e => s.ringOf e.1 e.2.1 == some n && e.2.2.1 == cq with
    | some e => if cq then s.dbCq e.1 e.2.1 e.2.2.2 else s.dbSq e.1 e.2.1 e.2.2.2
    | none => s
  let s := (List.range 128).foldl (fun s n => one true (one false s n) n) s
  { s with pwr := { s.pwr with shadow := [] } }

/-- RING_DB_SQ (R549, R550, R553, R895, R900). -/
def execRingDbSq (f k : Nat) (v : Word) (s : State) : Result :=
  .next (State.wakeBy (if s.shadowing then s.shadowPut f k false v else s.dbSq f k v) 1)

/-- RING_DB_CQ (R550, R552, R553, R895, R900). -/
def execRingDbCq (f k : Nat) (v : Word) (s : State) : Result :=
  .next (State.wakeBy (if s.shadowing then s.shadowPut f k true v else s.dbCq f k v) 1)

/-! ## Enable and disable (R545, R546, R586) -/

def sizeOk (n : Nat) : Bool := decide (4 ≤ n ∧ n ≤ 16)

/-- The code of the first check of Table RNG-1 that fails; 0 when all pass. -/
def State.enableCode (s : State) (n : Nat) : Nat :=
  let cfg := Reg.RING_CFG n
  let f := s.ringFolio n
  let others := (List.range 128).filter fun k => k != n && s.ringFolio k == f && s.ringState k != 0
  let pasid := s.fld cfg 31 30
  if s.ringState n ≠ 0 then 7
  else if !(sizeOk (s.fld cfg 4 0) && sizeOk (s.fld cfg 12 8)) then 1
  else if s.fld (Reg.RING_SQ_BASE n) 11 0 ≠ 0 ∨ s.fld (Reg.RING_CQ_BASE n) 11 0 ≠ 0 then 2
  else if s.folioState f ≠ 1 then 3
  else if s.maxRings f ≤ others.length then 4
  else if others.any fun k => s.ringLocal k == s.ringLocal n then 5
  else if s.bit (Reg.FOL_PASID f pasid) 31 || (f == 0 && s.bit (Reg.FOL_CFG 0) 0) then 0 else 6

/-- RING_ENABLE (R545, R546): the Manager sets ENABLE. -/
def execRingEnable (n : Nat) (s : State) : Result :=
  if 128 ≤ n then .next s else
  let code := s.enableCode n
  let s := s.setf (Reg.RING_CTL n) 30 28 code
  if code ≠ 0 then .next s
  else
    let s := [Reg.RING_SQ_HEAD n, Reg.RING_SQ_TAIL n, Reg.RING_CQ_TAIL n, Reg.RING_CQ_HEAD n].foldl (fun s a => s.wr a 0) s
    let s := ((s.setb (Reg.RING_STAT n) 8 true).setRingState n 1).setb (Reg.RING_CTL n) 31 true
    .next (s.setRing n {})

/-- Complete with ABORTED every operation of ring `n` that has not been admitted. -/
def State.abortWaiting (s : State) (n : Nat) : State :=
  (s.ringOps n).foldl (fun s o => match o.at_ with
    | .run _ => s
    | _ => s.finish o.id St.aborted) s

/-- RING_DISABLE (R586, R589): ENABLE is cleared. -/
def execRingDisable (n : Nat) (s : State) : Result :=
  if 128 ≤ n then .next s else
  let s := s.setb (Reg.RING_CTL n) 31 false
  let c := s.cyc.of s.stime.cycle
  if s.ringState n = 1 ∨ s.ringState n = 3 then
    .next ((State.setRingState { s with cyc := { c with closed := n :: c.closed } } n 2).abortWaiting n)
  else .next s

/-- RING_DRAINED (R586): a DRAINING ring with no operation left is DISABLED. -/
def execRingDrained (n : Nat) (s : State) : Result :=
  if n < 128 ∧ s.ringState n = 2 ∧ (s.ringOps n).isEmpty then .next (s.setRingState n 0) else .next s

/-- COALESCE_TIMER_EXPIRY (R573): TIME_US has passed since the first pending entry. -/
def execCoalesceTimerExpiry (n : Nat) (s : State) : Result :=
  let t := s.fld (Reg.RING_COAL n) 15 0
  if n < 128 ∧ (s.ringSt n).pendingIrq ≠ 0 ∧ t ≠ 0 ∧ (s.ringSt n).pendSince + 800 * t ≤ s.stime.cycle then .next (s.ringSignal n) else .next s

end Sys2Proof.Machine
end

