-- ==== Sys2Proof/Machine/Sched.lean ====
section
/-! DEFINITION. Chapter 14: engine classes, the admission decision, buckets; and key resolution in the admission's cycle
(R21). -/

namespace Sys2Proof.Machine

/-! ## Control words (R405, R436, R453, R482) -/

def hasAlg (op alg : Nat) : Bool := match op with
  | 0x10 => decide (1 ≤ alg ∧ alg ≤ 8)
  | 0x11 => decide (1 ≤ alg ∧ alg ≤ 6)
  | _ => decide (9 ≤ alg ∧ alg ≤ 10)

/-- The control word and the unused fields of an operation hold; otherwise it completes with BAD_OPCODE before any key is
resolved. -/
def ctlOk (d : Desc) : Bool :=
  let p := d.param0
  let env := p.testBit 31
  let shift := p / 8 % 32
  let alg2 := p % 4
  let alg8 := p % 256
  let pair := fun (b : Bool) => !b || env
  unusedOk d && match d.opcode with
  | 0x01 => pair (p.testBit 30) && pair (p.testBit 29) && p / 2 ^ 8 % 2 ^ 21 == 0 && !p.testBit 2 && alg2 != 0 &&
      (if env then decide (16 ≤ shift ∧ shift ≤ 24) else shift == 0) && d.param1 == 0
  | 0x02 => pair (p.testBit 30) && p / 2 ^ 2 % 2 ^ 28 == 0 && (if env then alg2 == 0 else alg2 != 0) && d.param1 == 0
  | 0x03 => env && p / 2 ^ 10 % 2 ^ 18 == 0 && p % 256 == 0 && (p.testBit 28 || d.param1 == 0)
  | 0x10 => p / 256 == 0 && hasAlg 0x10 alg8 && d.keyRef == 0
  | 0x11 => p / 256 % 2 ^ 23 == 0 && hasAlg 0x11 alg8
  | 0x12 => p / 256 % 2 ^ 23 == 0 && hasAlg 0x12 alg8
  | 0x20 => d.keyRef == 0 && d.aadLen == 0 && d.param1 == 0 && p / 4 == 0 && alg2 != 3
  | 0x40 => p / 2 ^ 24 == 0 && p / 2 ^ 9 % 2 ^ 7 == 0 && d.param1 == 0 &&
      (alg8 == 1 && !p.testBit 8 || alg8 == 3 && p / 2 ^ 16 % 256 == 0)
  | 0x41 => p / 2 ^ 24 == 0 && p / 2 ^ 9 % 2 ^ 7 == 0 && d.param1 == 0 && d.keyRef == 0 &&
      (alg8 == 1 && !p.testBit 8 || alg8 == 3 && p / 2 ^ 16 % 256 == 0 || alg8 == 5 && p / 2 ^ 8 == 0)
  | 0x42 => p / 2 ^ 10 == 0 && p % 512 == 0 && d.param1 == 0 && d.keyRef == 0
  | 0x43 => p / 2 ^ 10 == 0 && p % 512 == 0 && d.param1 == 0
  | 0x44 => p / 2 ^ 10 == 0 && p % 512 == 0 && d.param1 == 0
  | 0x32 => p / 2 ^ 10 == 0 && p % 512 == 0 && d.param1 == 0 && d.keyRef == 0
  | _ => true

/-- The Flourish estimate of Table SCH-2; `keyType` is the template's for KEY_GENERATE. -/
def floEstimate (d : Desc) (keyType : Nat) : Nat := match d.opcode, d.param0 % 256 with
  | 0x40, 1 => 111112
  | 0x40, 3 => 40000
  | 0x41, 1 => 27778
  | 0x41, 3 => 83334
  | 0x41, 5 => 50000
  | 0x42, _ => 14286
  | 0x43, _ => 16667
  | 0x44, _ => 71429
  | 0x32, _ => if keyType = 4 then 40000 else if keyType = 5 then 60000 else if keyType = 6 then 12000
               else Config.symmetricKeygenNs
  | _, _ => 0

/-- The template's KEY_TYPE, where the operation carries one. -/
def templateType (m : HostMem) (o : Op) : Nat := ((hostBytes m o.desc.aux 16).map fun b => leAt b 0 1).getD 0

/-- The cost of an operation in its class's unit. -/
def opCost (m : HostMem) (o : Op) : Nat := match classOf o.desc.opcode with
  | 0 => o.desc.dataLen + o.desc.aadLen + 32768
  | 1 => o.desc.dataLen + o.desc.aadLen + 32768
  | 2 => o.desc.dataLen + o.desc.aadLen + 4096
  | 3 => floEstimate o.desc (templateType m o)
  | 4 => 1
  | 5 => o.desc.dataLen + 4096
  | _ => 0

/-! ## Engines (R404, R621, R622) -/

/-- The stored state of nib lane `i` (0 to 3) or hash lane `i - 4`: 0 unless SUSPENDED, WITHDRAWN, FENCED or DISABLED. -/
def State.laneState (s : State) (i : Nat) : Nat := s.fld Reg.NIB_STAT (4 * i + 3) (4 * i)
def State.setLane (s : State) (i v : Nat) : State := s.setf Reg.NIB_STAT (4 * i + 3) (4 * i) v

/-- Engine `e` has an operation; one whose result is known has left it and waits for its completion only (R31, R616). -/
def State.engineBusy (s : State) (e : Nat) : Bool := s.ops.any fun o => o.at_ == .run e && o.res.isNone

/-- A Proof slice of partition `p` has been asked for: a lane, or Flourish, is withdrawn from admission at once (R439, R621). -/
def State.sliceDue (s : State) (p : Nat) : Bool := s.proof.queue.any (·.1 == p)

/-- Nib lane `i` runs an operation, alone or in its pair. -/
def State.laneBusy (s : State) (i : Nat) : Bool := s.engineBusy (0x10 + i) || s.engineBusy (0x18 + i / 2)

def State.laneIdle (s : State) (i : Nat) : Bool := s.laneState i == 0 && !s.laneBusy i && !s.sliceDue i

def State.pairReserved (s : State) (p : Nat) : Bool := s.bit Reg.NIB_CFG (8 + p)

/-- Engine `e` can take an operation of class `c` now. -/
def State.engineFree (s : State) (c e : Nat) : Bool := match c with
  | 0 => decide (0x10 ≤ e ∧ e ≤ 0x13) && s.laneIdle (e - 0x10) && !s.pairReserved ((e - 0x10) / 2)
  | 1 => decide (0x18 ≤ e ∧ e ≤ 0x19) && s.laneIdle (2 * (e - 0x18)) && s.laneIdle (2 * (e - 0x18) + 1)
  | 2 => decide (0x20 ≤ e ∧ e ≤ 0x21) && s.laneState (e - 0x20 + 4) == 0 && !s.engineBusy e && !s.sliceDue (e - 0x20 + 4)
  | 3 => e == 0x30 && s.fld Reg.FLO_STAT 3 0 == 0 && !s.engineBusy e && !s.sliceDue 6
  | 4 => e == 0x50 && !s.engineBusy e
  | 5 => e == 0x40 && !s.engineBusy e
  | _ => false

/-- An engine of class `c` can ever serve it: one is neither disabled nor fenced nor, for SEAL and OPEN, in a reserved
pair (R622). -/
def State.classServed (s : State) (c : Nat) : Bool :=
  let lane := fun i => decide (s.laneState i < 4)
  match c with
  | 0 => (List.range 4).any fun i => lane i && !s.pairReserved (i / 2)
  | 1 => (List.range 2).any fun p => lane (2 * p) && lane (2 * p + 1)
  | 2 => (List.range 2).any fun i => lane (4 + i)
  | 3 => decide (s.fld Reg.FLO_STAT 3 0 < 4)
  | _ => true

/-- BSP tags in use on port `p` (R613). -/
def State.portTags (s : State) (p : Nat) : Nat := (s.ops.filter fun o => o.tag && o.bspPort == some p).length

/-! ## Buckets (R604 to R608) -/

def State.bytesMode (s : State) (f c : Nat) : Nat := s.fld (Reg.SCH_FC_CTL f c) 1 0
def State.opsMode (s : State) (f c : Nat) : Nat := s.fld (Reg.SCH_FC_CTL f c) 5 4
def State.depthB (s : State) (f c : Nat) : Int := 4096 * (s.rdn (Reg.SCH_FC_DEPTH_B f c) : Nat)
def State.depthO (s : State) (f c : Nat) : Int := 1000000 * (s.fld (Reg.SCH_FC_DEPTH_O f c) 23 0 : Nat)

/-- The buckets of folio `f` for class `c` allow an admission (R605, R606). -/
def State.bucketsAllow (s : State) (f c : Nat) : Bool :=
  (s.bytesMode f c == 0 || (decide (0 < s.levelB f c) && s.depthB f c != 0)) &&
  (s.opsMode f c == 0 || (decide (1000000 ≤ s.levelO f c) && s.depthO f c != 0))

/-- Debit an admission. -/
def State.debit (s : State) (f c bytes : Nat) : State :=
  let s := if s.bytesMode f c = 0 then s else s.setLevelB f c (max (s.levelB f c - bytes) (-(2 ^ 32 + 2 ^ 24)))
  if s.opsMode f c = 0 then s else s.setLevelO f c (s.levelO f c - 1000000)

/-- A register of the buckets of folio `f` for class `c` is written: a refill of the same cycle does not apply (Table SCH-4). -/
def State.bucketWritten (s : State) (f c : Nat) : State :=
  let k := fcKey f c
  let cyc := s.cyc.of s.stime.cycle
  let s := match cyc.refilled with
    | some (b, o) => (s.setLevelB f c (Tab.get zeroInt b k)).setLevelO f c (Tab.get zeroInt o k)
    | none => s
  { s with cyc := { cyc with buckets := k :: cyc.buckets } }

/-- TOKEN_BUCKET_REFILL (R604): one microsecond of the CONTINUOUS buckets, but for those whose registers are written in this cycle. -/
def execTokenBucketRefill (s : State) : Result :=
  let cyc := s.cyc.of s.stime.cycle
  let s := { s with cyc := { cyc with refilled := some (s.sch.levelB, s.sch.levelO) } }
  .next ((List.range 64).foldl (fun s f => (List.range 6).foldl (fun s c =>
    if cyc.buckets.contains (fcKey f c) then s else
    let s := if s.bytesMode f c = 1 then
      s.setLevelB f c (min (s.levelB f c + (s.fld (Reg.SCH_FC_RATE_B f c) 15 0 : Nat)) (s.depthB f c)) else s
    if s.opsMode f c = 1 then
      s.setLevelO f c (min (s.levelO f c + (s.fld (Reg.SCH_FC_RATE_O f c) 23 0 : Nat)) (s.depthO f c)) else s) s) s)

/-- The effect of a RATE_REFILL stroke: the STROKE-mode buckets of the classes in `mask` fill to their depth (R604, R607). -/
def State.rateRefill (s : State) (f mask : Nat) : State :=
  (List.range 6).foldl (fun s c =>
    if mask.testBit c then
      let s := if s.bytesMode f c = 2 then s.setLevelB f c (s.depthB f c) else s
      if s.opsMode f c = 2 then s.setLevelO f c (s.depthO f c) else s
    else s) s

/-- SCH_FC_CTL (R604, Table SCH-7): a write by the Scribe world or the Manager. -/
def execSchFcCtl (f c : Nat) (v : Word) (s : State) : Result :=
  if 64 ≤ f ∨ 6 ≤ c then .next s else
  let a := Reg.SCH_FC_CTL f c
  let s := s.bucketWritten f c
  let s := s.setf a 23 16 (fieldOf v 23 16)
  let b := fieldOf v 1 0
  let o := fieldOf v 5 4
  let s := if b = 3 ∨ o = 3 then s.setb Reg.SCH_STAT 31 true else s
  let s := if b = 3 then s else
    let s := s.setf a 1 0 b
    if b = 0 then s else s.setLevelB f c (s.depthB f c)
  .next (if o = 3 then s else
    let s := s.setf a 5 4 o
    if o = 0 then s else s.setLevelO f c (s.depthO f c))

/-! ## The decision (R597 to R603) -/

def State.weight (s : State) (f c : Nat) : Nat := max 1 (s.fld (Reg.SCH_FC_CTL f c) 23 16)
def State.quantum (s : State) (c : Nat) : Nat := max 1 (s.fld (Reg.SCH_QUANTUM c) 23 0)

/-- The rounds a folio needs (R600). -/
def rounds (cost : Nat) (d : Int) (qw : Nat) : Nat :=
  if (cost : Int) ≤ d then 0 else ((cost - d).toNat + qw - 1) / qw

/-- The folio with the smallest number of rounds; a tie goes to the first after the folio last chosen. -/
def fewestRounds (l : List (Nat × Nat)) (last : Nat) : Option (Nat × Nat) :=
  let order := ((List.range 63).map fun i => (last + i) % 63 + 1).filterMap fun f => l.find? (·.1 == f)
  order.foldl (fun (b : Option (Nat × Nat)) x => match b with
    | none => some x
    | some y => if x.2 < y.2 then some x else some y) none

/-! ## Control operations (R596, Table RNG-10) -/

/-- The candidate of ring `n`, when its opcode is `opcode`; nothing is admitted while a stroke that has fallen due has not taken effect
(R72). -/
def State.controlCandidate (s : State) (n opcode : Nat) : Option Op :=
  if !s.strokes.due.isEmpty then none
  else ((s.ringOps n).find? fun o => o.at_ == .cand).filter fun o => o.desc.opcode == opcode

/-- Admit a control operation of ring `n` and set its result. -/
def State.control (s : State) (n opcode : Nat) (r : Desc → OpRes) : State :=
  match s.controlCandidate n opcode with
  | none => s
  | some o => (s.dropCredit.setOp { o with at_ := .run 0x60 }).setRes o.id { r o.desc with engine := 0x60 }

/-- FENCE (R575): done once every descriptor fetched earlier from its ring has completed. -/
def execFence (n : Nat) (s : State) : Result :=
  match s.controlCandidate n 0x50 with
  | some o => if (s.ringOps n).any fun x => decide (x.fetchNo < o.fetchNo) then .next s
              else .next (s.control n 0x50 fun _ => { status := St.ok })
  | none => .next s

/-- NOP (Table RNG-9): RESULT0 and RESULT1 carry PARAM0 and PARAM1. -/
def execNop (n : Nat) (s : State) : Result :=
  .next (s.control n 0x51 fun d => { status := St.ok, r0 := d.param0, r1 := d.param1 })

/-- TIME_READ (Table RNG-9): TIME_STAT and FRAC are taken when the entry is committed. -/
def execTimeRead (n : Nat) (s : State) : Result :=
  .next (s.control n 0x52 fun _ => { status := St.ok })

/-- OPERATION_COMPLETE (R565 to R568, R602, R612): the completion of an operation whose result is known. `busyNs` is the
actual busy time of a Flourish operation. -/
def execOperationComplete (id busyNs : Nat) (s : State) : Result :=
  match s.op id with
  | none => .next s
  | some o => match o.res with
    | none => .next s
    | some r =>
      let s' := s.commit id
      if (s'.op id).isSome then .next s'
      else if r.engine = 0x30 ∧ o.folio ≠ 0 then
        .next (s'.setDeficit o.folio 3 (s'.deficit o.folio 3 - ((busyNs : Int) - (o.cost : Nat))))
      else .next s'

end Sys2Proof.Machine
end

