-- ==== Sys2Proof/Machine/OpIo.lean ====
section
/-! DEFINITION. How an operation reads and writes: its data, its parameter stream and its output, from a ring or from
BSP staging; and the frame in which every engine runs. -/

namespace Sys2Proof.Machine

/-- What an engine computes: a value (with the state), or the state and the status that stops the operation. -/
abbrev Stop := Except (State × Nat)

/-- Go on, or stop with a status. -/
def State.need (s : State) (b : Bool) (status : Nat) : Stop Unit :=
  if b then .ok () else .error (s, status)

def Op.isRing (o : Op) : Bool := o.bspPort.isNone

def Op.sgl (o : Op) : Bool := o.isRing && o.desc.flags.testBit 0

/-- One list of an operation: a walked scatter-gather list, or the contiguous range. -/
def State.pieces (s : State) (m : HostMem) (o : Op) (a n : Nat) : Stop (State × List (Nat × Nat)) :=
  if !o.isRing then .ok (s, [])
  else if o.sgl then
    match s.sglList m (s.opCtx o (readInit o.engine)) a with
    | (s, .ok l) => .ok (s, l)
    | (s, .bad st) => .error (s, st)
  else .ok (s, if n = 0 then [] else [(a, n)])

/-- The lists of an operation that uses SRC (`useSrc`) and DST (`useDst`), with the SRC total checked (R560, R562). An
unused one must be 0 where SGL is set. `dst` is the output length where the descriptor gives it, else the check waits
for `dstCheck`. -/
def State.openIo (s : State) (m : HostMem) (o : Op) (useSrc useDst : Bool) (dst : Option Nat) : Stop (State × Io) := do
  let d := o.desc
  s.need (!o.sgl || ((useSrc || d.src == 0) && (useDst || d.dst == 0))) St.badOpcode
  let (s, sp) ← if useSrc then s.pieces m o d.src d.dataLen else .ok (s, [])
  s.need (!o.sgl || !useSrc || sglTotal sp == d.dataLen) St.sglMismatch
  let (s, dp) ← if useDst then s.pieces m o d.dst (dst.getD 0) else .ok (s, [])
  s.need (!o.sgl || !useDst || dst.all fun n => decide (n ≤ sglTotal dp)) St.sglMismatch
  return (s, { ring := o.isRing, srcP := sp, dstP := dp })

/-- Check the DST list against an output length known late, and place a contiguous output (R563). -/
def State.dstCheck (s : State) (o : Op) (io : Io) (n : Nat) : Stop (State × Io) := do
  if o.sgl then
    s.need (decide (n ≤ sglTotal io.dstP)) St.sglMismatch
    return (s, io)
  else return (s, { io with dstP := if o.isRing && n != 0 then [(o.desc.dst, n)] else [] })

/-- Requests that read bytes `off` to `off + n - 1` of a list of pieces. -/
def State.readReqs (s : State) (l : List (Nat × Nat)) (off n : Nat) : List (Nat × Nat) :=
  ((cutPieces l off n).map fun p => splitPages s.readMax p.1 p.2).flatten

/-- Read `n` bytes of the data from offset `off`: what was read, and the status of a failure. -/
def State.readSome (s : State) (m : HostMem) (o : Op) (io : Io) (off n : Nat) : State × Bytes × Option Nat :=
  if io.ring then s.hostReads m (s.opCtx o (readInit o.engine)) (s.readReqs io.srcP off n)
  else
    match s.stageOk (s.opCtx o (readInit o.engine)) n .read with
    | (s, true) => (s, slice o.data off n, none)
    | (s, false) => (s, [], some St.badAddress)

/-- Read `n` bytes of the data, or stop. -/
def State.readData (s : State) (m : HostMem) (o : Op) (io : Io) (off n : Nat) : Stop (State × Bytes) :=
  match s.readSome m o io off n with
  | (s, b, none) => .ok (s, b)
  | (s, _, some st) => .error (s, st)

/-- Where the stream starts (R406). -/
def Op.streamAt (o : Op) : Nat := o.desc.aux + (if refKind o.desc.keyRef = 2 then 0xA0 else 0)

/-- Read the parameter or additional-data stream, AAD_LEN bytes. -/
def State.readStream (s : State) (m : HostMem) (o : Op) : Stop (State × Bytes) :=
  if o.desc.aadLen = 0 then .ok (s, [])
  else if o.isRing then
    if wraps o.streamAt o.desc.aadLen then .error (s, St.badAddress)
    else match s.hostRead m (s.opCtx o (readInit o.engine)) o.streamAt o.desc.aadLen with
      | (s, b, none) => .ok (s, b)
      | (s, _, some st) => .error (s, st)
  else match s.stageOk (s.opCtx o (readInit o.engine)) o.desc.aadLen .read with
    | (s, true) => .ok (s, o.stream)
    | (s, false) => .error (s, St.badAddress)

/-- Contiguous ranges that wrap (R559) or overlap (Table NIB-7 step 6), with output length `n`. -/
def Op.rangesOk (o : Op) (useSrc useDst : Bool) (n : Nat) : Bool :=
  let d := o.desc
  let src := if useSrc then d.dataLen else 0
  let dst := if useDst then n else 0
  !o.isRing || o.sgl ||
    (!wraps d.src src && !wraps d.dst dst && !overlap d.src src d.dst dst && !overlap d.src src o.streamAt d.aadLen &&
      !overlap d.dst dst o.streamAt d.aadLen)

/-- The contiguous ranges of an operation do not wrap (R559). -/
def Op.wrapsOk (o : Op) (useSrc : Bool) (n : Nat) : Bool :=
  !o.isRing || o.sgl || (!(useSrc && wraps o.desc.src o.desc.dataLen) && !wraps o.desc.dst n)

/-- Write output, then the result that a success reports; a refused write ends with BAD_ADDRESS and the bytes written
(R289). -/
def State.writeAll (s : State) (o : Op) (io : Io) (b : Bytes) (r : OpRes) : State × OpRes :=
  match s.writeAt o io 0 b with
  | (s, _, none) => (s, r)
  | (s, n, some e) => (s, { r with status := e, bytesOut := n })

/-- The operation `id`, admitted to an engine with this opcode, not suspended, not ended, and able to reach the host. Strokes that
are due go first: an engine resolves keys as it runs (R72, R352). -/
def State.running (s : State) (id opcode : Nat) : Option Op :=
  (s.op id).filter fun o => s.strokes.due.isEmpty && o.desc.opcode == opcode && o.res.isNone && !o.suspended && (match o.at_ with
    | .run _ => true
    | _ => false) && (!o.isRing || s.host.busMaster)

/-- An operation waits for DRBG instance `i` (R479). -/
def State.holdFor (s : State) (o : Op) (i : Nat) : State :=
  (s.setOp { o with held := some i }).setb Reg.ENT_DRBG_STAT (8 * i + 6) true

/-- WAITING of instance `i` follows the operations, and for instance 0 the commands, held for it. -/
def State.waitingUpdate (s : State) (i : Nat) : State :=
  s.setb Reg.ENT_DRBG_STAT (8 * i + 6) (s.ops.any (fun o => o.held == some i && o.res.isNone) ||
    (i == 0 && (s.rsv.cmd.any (·.held == 1) || s.cust.cmd.any (·.held == 1))))

/-- The first of the DRBG instances `l` that cannot serve a request now. -/
def State.notReady (s : State) (l : List Nat) : Option Nat := l.find? fun i => !s.drbgReady i

/-- Operation `o` leaves its engine with a result; WAITING of the instance it was held for follows (R479). -/
def State.engineEnd (s : State) (o : Op) (r : OpRes) : State :=
  let s := s.setRes o.id { r with engine := o.engine }
  match o.held with
  | some i => s.waitingUpdate i
  | none => s

/-- Run an engine's function on operation `id`. `blocked` names a DRBG instance that it needs and that cannot serve it, if
there is one: an operation whose checks pass is then held for it, and does all its work once it is served. An operation that lacks
a translation does all its work once it is granted (R509). -/
def State.runEngine (s : State) (id opcode : Nat) (blocked : State → Op → Option Nat)
    (f : State → Op → Stop (State × OpRes)) : Result :=
  match s.running id opcode with
  | none => .next s
  | some o => match f s o, blocked s o with
    | .error (t, st), _ => .next (if st = St.wait then s.xlWait t else t.engineEnd o { status := st })
    | .ok _, some i => .next (s.holdFor o i)
    | .ok (t, r), none => .next (if r.status = St.wait then s.xlWait t else t.engineEnd o r)

/-- The key of an operation, or the status its resolution gave. -/
def State.needKey (s : State) (k : KeyRes) : Stop Key := match k with
  | .key k => .ok k
  | .fail st => .error (s, st)
  | .none => .error (s, St.keyAbsent)

end Sys2Proof.Machine
end

