-- ==== Sys2Proof/Machine/Nibs.lean ====
section
/-! DEFINITION. Chapter 10: SEAL, OPEN, TRANSCRIBE and the hash lanes. -/

namespace Sys2Proof.Machine

/-! ## Envelopes (R412 to R419) -/

/-- CHUNK_COUNT (R412). -/
def chunkCount (obj shift : Nat) : Nat := if obj = 0 then 1 else (obj + 2 ^ shift - 1) / 2 ^ shift

/-- Plaintext bytes of chunk `i`. -/
def chunkLen (obj shift i : Nat) : Nat :=
  if i + 1 < chunkCount obj shift then 2 ^ shift else obj - i * 2 ^ shift

/-- Plaintext bytes of chunks `start` to `start + k - 1`. -/
def spanLen (obj shift start k : Nat) : Nat := ((List.range k).map fun j => chunkLen obj shift (start + j)).foldl (· + ·) 0

/-- KEY_ID (Table NIB-4). -/
def keyId (dataKey : Bool) (domain gen : Nat) : Bytes :=
  [if dataKey then 1 else 2, 0] ++ beBytes 2 domain ++ beBytes 4 (if dataKey then gen else 0) ++ zeros 8

/-- Header bytes 0x00 to 0x6F (Table NIB-3). -/
def Env.plain (e : Env) : Bytes :=
  leBytes 4 0x4C4C4543 ++ leBytes 1 1 ++ leBytes 1 e.alg ++ leBytes 1 e.shift ++ [0] ++ leBytes 2 e.domain ++ zeros 2 ++
    leBytes 4 e.gen ++ slice e.keyId 0 16 ++ slice e.seed 0 32 ++ leBytes 8 e.obj ++ leBytes 4 (chunkCount e.obj e.shift) ++
    zeros 4 ++ leBytes 8 e.sealedAt ++ zeros 24

/-- K_ENV (R416). -/
def Env.kEnv (e : Env) (key : Bytes) : Bytes :=
  rsvKdf key "BN96-CELLEAL" (beBytes 1 e.alg ++ beBytes 1 e.shift ++ beBytes 2 e.domain ++ beBytes 4 e.gen ++ e.seed) 32

/-- A nonce of Table NIB-5. -/
def envNonce (role i : Nat) : Bytes := zeros 7 ++ beBytes 1 role ++ beBytes 4 i

/-- HEADER_TAG (R418). -/
def headerTag (alg : Nat) (k plain : Bytes) : Bytes := (aeadSeal alg k (envNonce 2 0) plain []).2

/-- The whole header. -/
def Env.header (e : Env) (key : Bytes) : Bytes := e.plain ++ headerTag e.alg (e.kEnv key) e.plain

def parseEnv (h : Bytes) : Env :=
  { alg := leAt h 5 1, shift := leAt h 6 1, domain := leAt h 8 2, gen := leAt h 12 4, keyId := slice h 0x10 16
    seed := slice h 0x20 32, obj := leAt h 0x40 8, sealedAt := leAt h 0x50 8 }

/-- The public fields of a header hold (Table NIB-7 step 4), for a key of a domain, data key or working key. -/
def headerFieldsOk (h : Bytes) (k : Key) : Bool :=
  let e := parseEnv h
  leAt h 0 4 == 0x4C4C4543 && leAt h 4 1 == 1 && decide (1 ≤ e.alg ∧ e.alg ≤ 3) && decide (16 ≤ e.shift ∧ e.shift ≤ 24) &&
    leAt h 7 1 == 0 && leAt h 10 2 == 0 && leAt h 0x4C 4 == 0 && slice h 0x58 24 == zeros 24 && e.domain == k.domain &&
    leAt h 0x48 4 == chunkCount e.obj e.shift && e.keyId == keyId (k.kind == 1) e.domain e.gen && (k.kind == 1 || e.gen == 0)

/-- ROLE of chunk `i` (Table NIB-5). -/
def chunkRole (e : Env) (i : Nat) : Nat := if i + 1 = chunkCount e.obj e.shift then 1 else 0

/-- The additional data of chunk `i` (R419). -/
def chunkAad (header : Bytes) (e : Env) (i : Nat) : Bytes := slice header 0 128 ++ beBytes 4 i ++ beBytes 1 (chunkRole e i)

/-- Seal chunk `i`: ciphertext and tag. -/
def sealChunk (e : Env) (k header : Bytes) (i : Nat) (pt : Bytes) : Bytes :=
  let c := aeadSeal e.alg k (envNonce (chunkRole e i) i) (chunkAad header e i) pt
  c.1 ++ c.2

/-- Open chunk `i` from its ciphertext and tag. -/
def openChunk (e : Env) (k header : Bytes) (i : Nat) (b : Bytes) : Option Bytes :=
  let n := b.length - 16
  aeadOpen e.alg k (envNonce (chunkRole e i) i) (chunkAad header e i) (b.take n) (b.drop n)

/-- How many chunks from `start` a plaintext of `n` bytes spans (R423). -/
def sealSpan (obj shift start n : Nat) : Option Nat :=
  let cnt := chunkCount obj shift
  if cnt ≤ start then none
  else if start * 2 ^ shift + n = obj then some (cnt - start)
  else if n % 2 ^ shift = 0 ∧ 0 < n ∧ start + n / 2 ^ shift < cnt then some (n / 2 ^ shift) else none

/-- How many chunks from `start` an `n`-byte run of sealed chunks spans (R423). -/
def openSpan (obj shift start n : Nat) : Option Nat :=
  let cnt := chunkCount obj shift
  let c := 2 ^ shift + 16
  if cnt ≤ start then none
  else if (obj - start * 2 ^ shift) + 16 * (cnt - start) = n then some (cnt - start)
  else if n % c = 0 ∧ 0 < n ∧ start + n / c < cnt then some (n / c) else none

/-! ## Shared checks -/

/-- Check a header for a key and find its envelope key (Table NIB-7 step 4, R342). A kind 01 key is that of the generation that the
header names, as it stood at admission or is resident now (R444). -/
def State.checkHeader (s : State) (k : Key) (h : Bytes) : Stop (Env × Bytes) := do
  let e := parseEnv h
  s.need (headerFieldsOk h k) St.authFailed
  let dk ← if k.kind = 1 then
      match s.keyOfGen k e.gen with
      | some b => .ok b
      | none => .error (s, St.keyAbsent)
    else .ok k.material
  let ke := e.kEnv dk
  s.need (slice h 0x70 16 == headerTag e.alg ke (slice h 0 0x70)) St.authFailed
  return (e, ke)

/-- Count the bytes a lane processed: both lanes of a pair (R448). -/
def State.laneBytes (s : State) (e n : Nat) : State :=
  if 0x18 ≤ e ∧ e ≤ 0x19 then
    (s.addSat64 (Reg.NIB_LANE_BYTES (2 * (e - 0x18))) n).addSat64 (Reg.NIB_LANE_BYTES (2 * (e - 0x18) + 1)) n
  else if 0x20 ≤ e ∧ e ≤ 0x21 then s.addSat64 (Reg.NIB_HASH_BYTES (e - 0x20)) n
  else s.addSat64 (Reg.NIB_LANE_BYTES (e - 0x10)) n

/-- The generation a completion reports (Table RNG-9). -/
def genUsed (k : Key) (e : Env) : Nat := if k.kind = 1 then e.gen else 0

/-- The segment record of a stream: OBJECT_LEN and START_CHUNK (R422); a non-zero reserved field breaches it. -/
def State.segmentRecord (s : State) (stream : Bytes) : Stop (Nat × Nat) := do
  s.need (leAt stream 12 4 == 0) St.badLength
  return (leAt stream 0 8, leAt stream 8 4)

/-- The span of a segment, or BAD_LENGTH (R423). -/
def State.needSpan (s : State) (n : Option Nat) : Stop Nat := match n with
  | some n => .ok n
  | none => .error (s, St.badLength)

/-! ## Chunks on a lane -/

def LaneWork.raw (w : LaneWork) : Bool := match w with
  | .sealRaw _ _ _ _ _ => true
  | .openRaw _ _ _ _ => true
  | _ => false

/-- Plaintext bytes of chunk `i`. -/
def LaneWork.textLen (w : LaneWork) (i : Nat) : Nat := match w with
  | .sealRaw _ _ _ _ n => n
  | .openRaw _ _ _ n => n - 28
  | .sealEnv e _ _ => chunkLen e.obj e.shift i
  | .openEnv e _ _ => chunkLen e.obj e.shift i
  | .trans e _ _ _ _ _ => chunkLen e.obj e.shift i

/-- What the lane reads of SRC for chunk `i`, in order, with the operation's first chunk `start` at `base`. A text to be sealed with
GCM-SIV is read twice (R421), and so is a source chunk to be re-sealed with it (R434). -/
def LaneWork.reads (w : LaneWork) (base start i : Nat) : List (Nat × Nat) :=
  let n := w.textLen i
  match w with
  | .sealRaw alg _ _ _ _ => if alg = 2 then [(0, n), (0, n)] else [(0, n)]
  | .openRaw _ _ _ len => [(0, len)]
  | .sealEnv e _ _ =>
    let a := (i - start) * 2 ^ e.shift
    if e.alg = 2 then [(a, n), (a, n)] else [(a, n)]
  | .openEnv e _ _ => [(base + (i - start) * (2 ^ e.shift + 16), n + 16)]
  | .trans e _ _ de _ _ =>
    let a := base + (i - start) * (2 ^ e.shift + 16)
    if de.alg = 2 then [(a, n + 16), (a, n)] else [(a, n + 16)]

/-- What re-sealing chunk `i` has put out once `b` has been read: the ciphertext under the destination header, whose tag follows only
after the source tag has verified; and whether that tag is false (R433, R434). -/
def transPart (se : Env) (sk sh : Bytes) (de : Env) (dk dh : Bytes) (i n : Nat) (b : Bytes) : Bytes × Bool :=
  let c := b.take (n + 16)
  let sn := envNonce (chunkRole se i) i
  let bad := c.length == n + 16 && (openChunk se sk sh i c).isNone
  let pt := openPart se.alg sk sn n c
  let again := b.drop (n + 16)
  let pt2 := xorBytes again (keyStream se.alg sk sn (if se.alg = 2 then c.drop n else []) again.length)
  let put := fun (x : Bytes) => sealPart de.alg dk (envNonce (chunkRole de i) i) (chunkAad dh de i) n x
  if de.alg = 2 then (if c.length < n + 16 ∨ bad = true then [] else put (pt ++ pt2), bad)
  else (if c.length < n + 16 ∨ bad = true then (put pt).take n else put pt, bad)

/-- What chunk `i` has put out once `b` has been read of its input, and whether its tag is false (R409, R410, R419, R428, R433). -/
def LaneWork.part (w : LaneWork) (i : Nat) (b : Bytes) : Bytes × Bool :=
  let n := w.textLen i
  match w with
  | .sealRaw alg k nonce aad _ => (nonce ++ sealPart alg k nonce aad n b, false)
  | .openRaw alg k aad len =>
    let c := b.drop 12
    (openPart alg k (b.take 12) n c, b.length == len && (aeadOpen alg k (b.take 12) aad (c.take n) (c.drop n)).isNone)
  | .sealEnv e k h => (sealPart e.alg k (envNonce (chunkRole e i) i) (chunkAad h e i) n b, false)
  | .openEnv e k h => (openPart e.alg k (envNonce (chunkRole e i) i) n b, b.length == n + 16 && (openChunk e k h i b).isNone)
  | .trans se sk sh de dk dh => transPart se sk sh de dk dh i n b

/-- What the completion of a lane operation reports. -/
def LaneJob.res (j : LaneJob) (status bytes : Nat) : OpRes :=
  { status, bytesOut := bytes, r0 := j.gen, r1 := if j.work.raw then 0 else j.done }

/-- Read pieces of SRC in order: what was read, and the status of a failure. -/
def State.readParts (m : HostMem) (o : Op) (io : Io) : List (Nat × Nat) → State → State × Bytes × Option Nat
  | [], s => (s, [], none)
  | (a, n) :: rest, s => match s.readSome m o io a n with
    | (s, b, some st) => (s, b, some st)
    | (s, b, none) =>
      let r := State.readParts m o io rest s
      (r.1, b ++ r.2.1, r.2.2)

/-- How a lane's turn at one chunk ends. -/
inductive ChunkEnd where
  /-- The chunk is complete, its tag written or verified. -/
  | done (j : LaneJob)
  /-- The input of this turn is used up. -/
  | stop (j : LaneJob)
  /-- The operation ends. -/
  | over (r : OpRes)
  deriving DecidableEq, Repr

/-- One chunk of a lane, with at most `budget` bytes of input: what is read, then what that puts out; a false tag overwrites with
zeros what was written of the chunk (R428, R433), a refusal leaves it (R289), and a missing translation stops the lane where it is. -/
def State.laneChunk (s : State) (m : HostMem) (o : Op) (j : LaneJob) (budget : Option Nat) : State × ChunkEnd :=
  let i := j.start + j.done
  let rs := j.work.reads j.base j.start i
  let need := sglTotal rs - j.got.length
  let take := (budget.map (min need)).getD need
  let (s, b, bad) := State.readParts m o j.io (cutPieces rs j.got.length take) s
  let got := j.got ++ b
  let (out, false_) := j.work.part i got
  let new := out.drop j.part
  let (s, w, fail) := s.writeAt o j.io (j.good + j.part) new
  let part := j.part + w
  let stopped := fun (st : Nat) =>
    if st = St.wait then ChunkEnd.stop { j with got := got, part := part } else .over (j.res st (j.good + part))
  if fail.isSome then (s, stopped (fail.getD St.wait))
  else if false_ then ((s.writeAt o j.io j.good (zeros part)).1, .over (j.res St.authFailed j.good))
  else match bad with
    | some st => (s, stopped st)
    | none =>
      if got.length < sglTotal rs then (s, .stop { j with got := got, part := part })
      else (s.laneBytes o.engine (j.work.textLen i), .done { j with done := j.done + 1, got := [], part := 0, good := j.good + part })

/-- The chunks of a lane in order, to the end, to a failure, or until `budget` bytes of input have been taken. -/
def State.laneRun (m : HostMem) (o : Op) : Nat → State → LaneJob → Option Nat → State × ChunkEnd
  | 0, s, j, _ => (s, .over (j.res St.ok j.good))
  | k + 1, s, j, budget => match s.laneChunk m o j budget with
    | (s, .done j') =>
      let used := sglTotal (j.work.reads j.base j.start (j.start + j.done)) - j.got.length
      State.laneRun m o k s j' (budget.map (· - used))
    | r => r

/-- The lane keeps the state of its operation. -/
def State.laneKeep (s : State) (o : Op) (j : LaneJob) : State := s.setOp { (s.op o.id).getD o with job := some j }

/-- A lane goes on with an operation: it ends, or it stops with its state kept (R439). -/
def State.laneTurn (s : State) (m : HostMem) (o : Op) (j : LaneJob) (budget : Option Nat) : State :=
  match State.laneRun m o (j.count - j.done) s j budget with
  | (s, .over r) => s.engineEnd o r
  | (s, .done j) => s.laneKeep o j
  | (s, .stop j) => s.laneKeep o j

/-- What the checks of an operation leave to be done: the bytes to draw from DRBG instance 3, and from them and the time the lane's
work with the header that goes first. -/
structure LanePlan where
  draw : Nat
  make : Bytes → Nat → LaneJob × Bytes

/-- Begin an operation on a lane: draw, write the header, go on to the chunks. `s0` is the state before its checks. -/
def State.laneBegin (s s0 : State) (m : HostMem) (o : Op) (p : LanePlan) (upto : Option Nat) : State :=
  let (b, s) := if p.draw = 0 then ([], s) else s.drbgDraw 3 p.draw
  let (j, header) := p.make b s.ns
  match s.writeAt o j.io 0 header with
  | (t, w, some e) => if e = St.wait then s0.xlWait t else t.engineEnd o (j.res e w)
  | (s, w, none) =>
    let s := s.setOp { (s.op o.id).getD o with job := some { j with good := w }, held := none }
    let s := match o.held with
      | some i => s.waitingUpdate i
      | none => s
    s.laneTurn m { o with held := none } { j with good := w } (upto.map (4096 * · - j.base))

/-- Run operation `id` on its lane: its checks, and then its chunks, in the commands that it takes. `upto` is the number of 4 KiB
blocks of input after which the lane stops, if it does not run to the end. An operation that draws is held while DRBG instance 3
cannot serve it (R479). -/
def State.runLane (s : State) (id opcode : Nat) (m : HostMem) (upto : Option Nat)
    (plan : State → HostMem → Op → Stop (State × LanePlan)) : Result :=
  match s.running id opcode with
  | none => .next s
  | some o => match o.job with
    | some j => .next (s.laneTurn m o j (upto.map (4096 * ·)))
    | none => match plan s m o with
      | .error (t, st) => .next (if st = St.wait then s.xlWait t else t.engineEnd o { status := st })
      | .ok (t, p) =>
        if p.draw ≠ 0 ∧ s.drbgReady 3 = false then .next (s.holdFor o 3) else .next (t.laneBegin s m o p upto)

/-! ## SEAL -/

/-- A raw SEAL (R409). -/
def State.planSealRaw (s : State) (m : HostMem) (o : Op) : Stop (State × LanePlan) := do
  let d := o.desc
  s.need (decide (d.aadLen ≤ 0x01000000)) St.badLength
  let (s, io) ← s.openIo m o true true (some (d.dataLen + 28))
  let k ← s.needKey o.key
  s.need (o.rangesOk true true (d.dataLen + 28)) St.badAddress
  let (s, aad) ← s.readStream m o
  return (s, { draw := 12, make := fun nonce _ =>
    ({ work := .sealRaw (d.param0 % 4) k.material nonce aad d.dataLen, io, base := 0, start := 0, count := 1, gen := k.gen }, []) })

/-- An envelope SEAL that makes the header (Table NIB-6), of an object of `obj` bytes. -/
def State.planSealFirst (s : State) (o : Op) (io : Io) (k : Key) (stream : Bytes) (obj : Nat) : Stop (State × LanePlan) := do
  let d := o.desc
  let p := d.param0
  let shift := p / 8 % 32
  s.need (decide (chunkCount obj shift ≤ 0xFFFFFFFF)) St.badLength
  let n ← s.needSpan (sealSpan obj shift 0 d.dataLen)
  s.need (o.rangesOk true true (128 + d.dataLen + 16 * n)) St.badAddress
  let supplied := p.testBit 29
  return (s, { draw := if supplied then 0 else 32, make := fun seed now =>
    let e : Env := { alg := p % 4, shift, domain := k.domain, gen := k.gen, keyId := keyId (k.kind == 1) k.domain k.gen
                     seed := if supplied then stream.drop (stream.length - 32) else seed, obj
                     sealedAt := if supplied then 0 else now }
    ({ work := .sealEnv e (e.kEnv k.material) (e.header k.material), io, base := 0, start := 0, count := n, gen := genUsed k e },
      e.header k.material) })

/-- A later SEAL segment (R424): every field from the header in the stream. -/
def State.planSealLater (s : State) (o : Op) (io : Io) (k : Key) (stream : Bytes) (obj start : Nat) : Stop (State × LanePlan) := do
  let d := o.desc
  let header := slice stream 16 128
  let (e, ke) ← s.checkHeader k header
  s.need (!d.param0.testBit 29 || e.alg == 2) St.denied
  s.need (e.obj == obj) St.badLength
  let n ← s.needSpan (sealSpan obj e.shift start d.dataLen)
  let outLen := d.dataLen + 16 * n
  let (s, io) ← s.dstCheck o io outLen
  s.need (o.rangesOk true true outLen) St.badAddress
  return (s, { draw := 0, make := fun _ _ =>
    ({ work := .sealEnv e ke header, io, base := 0, start, count := n, gen := genUsed k e }, []) })

/-- An envelope SEAL (Tables NIB-6, NIB-7). -/
def State.planSealEnv (s : State) (m : HostMem) (o : Op) : Stop (State × LanePlan) := do
  let d := o.desc
  let p := d.param0
  let seg := p.testBit 30
  let first := (if seg then 16 else 0) + (if p.testBit 29 then 32 else 0)
  s.need (d.aadLen == first || (seg && d.aadLen == 144)) St.badLength
  let (s, stream) ← s.readStream m o
  let (obj, start) ← if seg then s.segmentRecord stream else .ok (d.dataLen, 0)
  s.need (d.aadLen == (if start = 0 then first else 144)) St.badLength
  let shift := p / 8 % 32
  let outLen := 128 + d.dataLen + 16 * max 1 ((d.dataLen + 2 ^ shift - 1) / 2 ^ shift)
  let (s, io) ← s.openIo m o true true (if start = 0 then some outLen else none)
  let k ← s.needKey o.key
  s.need (!p.testBit 29 || p % 4 == 2) St.denied
  if start = 0 then s.planSealFirst o io k stream obj else s.planSealLater o io k stream obj start

/-- The checks of SEAL, in the order of Table NIB-7. -/
def State.planSeal (s : State) (m : HostMem) (o : Op) : Stop (State × LanePlan) := do
  s.need (ctlOk o.desc) St.badOpcode
  if o.desc.param0.testBit 31 then s.planSealEnv m o else s.planSealRaw m o

/-- SEAL (R19, R400 to R429): operation `id`, on the nib lane that admitted it; `m` is what the host answers. -/
def execSeal (id : Nat) (x : LaneEnv) (s : State) : Result := s.runLane id 0x01 x.mem x.upto State.planSeal

/-! ## OPEN -/

/-- A raw OPEN (R410, R428). -/
def State.planOpenRaw (s : State) (m : HostMem) (o : Op) : Stop (State × LanePlan) := do
  let d := o.desc
  let n := d.dataLen - 28
  s.need (decide (d.aadLen ≤ 0x01000000)) St.badLength
  let (s, io) ← s.openIo m o true true (some n)
  let k ← s.needKey o.key
  s.need (decide (28 ≤ d.dataLen)) St.badLength
  s.need (o.rangesOk true true n) St.badAddress
  let (s, aad) ← s.readStream m o
  return (s, { draw := 0, make := fun _ _ =>
    ({ work := .openRaw (d.param0 % 4) k.material aad d.dataLen, io, base := 0, start := 0, count := 1, gen := k.gen }, []) })

/-- An envelope OPEN (Tables NIB-6, NIB-7, R428). -/
def State.planOpenEnv (s : State) (m : HostMem) (o : Op) : Stop (State × LanePlan) := do
  let d := o.desc
  let seg := d.param0.testBit 30
  s.need (d.aadLen == (if seg then 144 else 0)) St.badLength
  let (s, stream) ← s.readStream m o
  let (rObj, start) ← if seg then s.segmentRecord stream else .ok (0, 0)
  let (s, io) ← s.openIo m o true true none
  let k ← s.needKey o.key
  s.need (seg || decide (128 ≤ d.dataLen)) St.badLength
  s.need (o.wrapsOk true 0) St.badAddress
  let (s, header) ← if seg then .ok (s, slice stream 16 128) else s.readData m o io 0 128
  let (e, ke) ← s.checkHeader k header
  s.need (!seg || rObj == e.obj) St.badLength
  let off := if seg then 0 else 128
  let n ← s.needSpan (openSpan e.obj e.shift start (d.dataLen - off))
  s.need (seg || n == chunkCount e.obj e.shift) St.badLength
  let outLen := d.dataLen - off - 16 * n
  let (s, io) ← s.dstCheck o io outLen
  s.need (o.rangesOk true true outLen) St.badAddress
  return (s, { draw := 0, make := fun _ _ =>
    ({ work := .openEnv e ke header, io, base := off, start, count := n, gen := genUsed k e }, []) })

/-- The checks of OPEN. -/
def State.planOpen (s : State) (m : HostMem) (o : Op) : Stop (State × LanePlan) := do
  s.need (ctlOk o.desc) St.badOpcode
  if o.desc.param0.testBit 31 then s.planOpenEnv m o else s.planOpenRaw m o

/-- OPEN (R410, R428). -/
def execOpenNib (id : Nat) (x : LaneEnv) (s : State) : Result := s.runLane id 0x02 x.mem x.upto State.planOpen

/-! ## TRANSCRIBE (R430 to R435) -/

/-- The destination header of the first segment or of a whole envelope (R432). -/
def transEnv (se : Env) (k : Key) (alg : Nat) (seed : Bytes) (sealedAt : Nat) : Env :=
  { se with alg := alg, domain := k.domain, gen := k.gen, keyId := keyId (k.kind == 1) k.domain k.gen, seed := seed
            sealedAt := sealedAt }

/-- The carried destination header of a later segment (R424), which keeps the source's object and chunks and takes `alg` (R432,
log entry 61); a supplied seed needs ALG 2 (R420). -/
def State.laterHeader (s : State) (k : Key) (se : Env) (dh : Bytes) (alg : Nat) (supplied : Bool) : Stop (Env × Bytes) := do
  let (de, dk) ← s.checkHeader k dh
  s.need (de.shift == se.shift && de.alg == alg) St.authFailed
  s.need (!supplied || de.alg == 2) St.denied
  s.need (de.obj == se.obj) St.badLength
  return (de, dk)

/-- The checks of TRANSCRIBE on a lane pair, in the order of Table NIB-7. -/
def State.planTranscribe (s : State) (m : HostMem) (o : Op) : Stop (State × LanePlan) := do
  let d := o.desc
  let p := d.param0
  let seg := p.testBit 30
  let supplied := p.testBit 29
  let first := (if seg then 16 else 0) + (if supplied then 32 else 0)
  let dstAlg := p / 256 % 4
  s.need (ctlOk d) St.badOpcode
  s.need (d.aadLen == first || (seg && d.aadLen == 272)) St.badLength
  let (s, stream) ← s.readStream m o
  let (rObj, start) ← if seg then s.segmentRecord stream else .ok (0, 0)
  s.need (d.aadLen == (if start = 0 then first else 272)) St.badLength
  let (s, io) ← s.openIo m o true true (some d.dataLen)
  let k ← s.needKey o.key
  let k2 ← s.needKey o.key2
  s.need (!supplied || dstAlg == 0 || dstAlg == 2) St.denied
  s.need (start != 0 || decide (128 ≤ d.dataLen)) St.badLength
  s.need (o.wrapsOk true 0) St.badAddress
  let (s, sh) ← if start = 0 then s.readData m o io 0 128 else .ok (s, slice stream 16 128)
  let (se, sk) ← s.checkHeader k sh
  let alg := if dstAlg = 0 then se.alg else dstAlg
  let later ← if start = 0 then .ok none else (s.laterHeader k2 se (slice stream 144 128) alg supplied).map some
  s.need (!supplied || alg == 2) St.denied
  s.need (!seg || rObj == se.obj) St.badLength
  let off := if start = 0 then 128 else 0
  let n ← s.needSpan (openSpan se.obj se.shift start (d.dataLen - off))
  s.need (seg || n == chunkCount se.obj se.shift) St.badLength
  s.need (o.rangesOk true true d.dataLen) St.badAddress
  return (s, { draw := if supplied || later.isSome then 0 else 32, make := fun seed now =>
    let job := fun (de : Env) (dk dh : Bytes) =>
      ({ work := .trans se sk sh de dk dh, io, base := off, start, count := n, gen := genUsed k2 de } : LaneJob)
    match later with
    | some (de, dk) => (job de dk (slice stream 144 128), [])
    | none =>
      let de := if supplied then transEnv se k2 alg (stream.drop (stream.length - 32)) 0 else transEnv se k2 alg seed now
      (job de (de.kEnv k2.material) (de.header k2.material), de.header k2.material) })

/-- TRANSCRIBE (R430 to R435). -/
def execTranscribe (id : Nat) (x : LaneEnv) (s : State) : Result := s.runLane id 0x03 x.mem x.upto State.planTranscribe

/-! ## Hash lanes (R436 to R438) -/

/-- The output of a hash-lane operation: HASH, HMAC, or KMAC with its customisation string. -/
def hashOut (opcode alg n : Nat) (key custom msg : Bytes) : Bytes := match opcode with
  | 0x10 => digest alg n msg
  | 0x11 => hmac alg n key msg
  | _ => kmac alg n key custom msg

/-- Read the expected output from DST: a read without Relaxed Ordering (R437, R497). -/
def State.readBack (s : State) (m : HostMem) (o : Op) (io : Io) (n : Nat) : Stop (State × Bytes) :=
  match s.hostReads m { s.opCtx o (readInit o.engine) with ro := false } (s.readReqs io.dstP 0 n) with
  | (s, b, none) => .ok (s, b)
  | (s, _, some st) => .error (s, st)

/-- HASH, HMAC and KMAC. -/
def State.hashRun (s : State) (m : HostMem) (o : Op) : Stop (State × OpRes) := do
  let d := o.desc
  s.need (ctlOk d) St.badOpcode
  let alg := d.param0 % 256
  let fixed := hashLen alg
  s.need (if fixed = 0 then decide (1 ≤ d.param1 ∧ d.param1 ≤ 65536) else d.param1 == 0) St.badLength
  s.need (if d.opcode = 0x12 then decide (d.aadLen ≤ 256) else d.aadLen == 0) St.badLength
  let n := if fixed = 0 then d.param1 else fixed
  let (s, io) ← s.openIo m o true true (some n)
  let key ← if d.opcode = 0x10 then .ok [] else (s.needKey o.key).map (·.material)
  s.need (o.wrapsOk true n) St.badAddress
  let (s, custom) ← s.readStream m o
  let (s, msg) ← s.readData m o io 0 d.dataLen
  let out := hashOut d.opcode alg n key custom msg
  let s := s.laneBytes o.engine d.dataLen
  if d.param0.testBit 31 then
    let (s, want) ← if o.isRing then s.readBack m o io n else
      let (b, s) := s.freshBytes n
      .ok (s, b)
    return (s, { status := if want = out then St.ok else St.authFailed })
  else return s.writeAll o io out { status := St.ok, bytesOut := n }

/-- HASH. -/
def execHash (id : Nat) (m : HostMem) (s : State) : Result := s.runEngine id 0x10 (fun _ _ => none) fun s o => s.hashRun m o

/-- HMAC. -/
def execHmac (id : Nat) (m : HostMem) (s : State) : Result := s.runEngine id 0x11 (fun _ _ => none) fun s o => s.hashRun m o

/-- KMAC. -/
def execKmac (id : Nat) (m : HostMem) (s : State) : Result := s.runEngine id 0x12 (fun _ _ => none) fun s o => s.hashRun m o

end Sys2Proof.Machine
end

