-- ==== Sys2Proof/Machine/KeyOps.lean ====
section
/-! DEFINITION. Chapter 11's operations of Flourish and the DRBG, and chapter 13's operations of the Reservoir. -/

namespace Sys2Proof.Machine

/-! ## Key templates and produced keys (R461 to R463) -/

/-- A key template (Table FLO-5). -/
structure Template where
  type : Nat
  len : Nat
  usage : Nat
  rsvd : Nat
  policy : Nat
  deriving DecidableEq, Repr

def parseTemplate (b : Bytes) : Template :=
  { type := leAt b 0 1, len := leAt b 1 1, usage := leAt b 2 2, rsvd := leAt b 4 4, policy := leAt b 8 8 }

/-- KEY_TYPE and MATERIAL_LEN that an opcode may produce (Table FLO-5, R570a). -/
def templateOk (opcode : Nat) (t : Template) : Bool := match opcode with
  | 0x32 => materialOk t.type t.len
  | 0x33 => (t.type == Kt.sym || t.type == Kt.mac || t.type == Kt.kdk) && materialOk t.type t.len
  | 0x44 => t.type == Kt.kdk && t.len == 48
  | _ => (t.type == Kt.sym || t.type == Kt.kdk) && t.len == 32

/-- Steps 3 and 4 of R462. -/
def State.needTemplate (s : State) (opcode : Nat) (t : Template) : Stop Unit := do
  s.need (templateOk opcode t && t.rsvd == 0) St.badLength
  s.need (subset t.usage (usageSet t.type) && !t.usage.testBit 9) St.denied

/-- Steps 6 to 8 of R462: the current generation of the operation's domain, with its key. -/
def State.needTarget (s : State) (o : Op) (outSlot : Bool) : Stop (Nat × Bytes) := do
  let d := o.desc
  s.need (s.aclHas o.folio d.domain) St.denied
  let gk ← match s.currentKey d.domain with
    | some gk => .ok gk
    | none => .error (s, St.keyAbsent)
  s.need (!outSlot || ((s.freeHandle o.folio).isSome && s.freeSlot.isSome)) St.slotFull
  return gk

/-- Make the blob of a produced key, write it between `pre` and `post`, and load it where OUT_SLOT asks (R461, R463). -/
def State.produce (s : State) (o : Op) (io : Io) (t : Template) (gk : Nat × Bytes) (material pre post : Bytes)
    (outSlot : Bool) : State × OpRes :=
  let h : BlobHdr := { type := t.type, len := t.len, domain := o.desc.domain, usage := t.usage, gen := gk.1, policy := t.policy }
  let (nonce, s) := s.drbgDraw 0 12
  let blob := makeBlob gk.2 nonce h material
  let out := pre ++ blob ++ post
  let (s, r) := s.writeAll o io out { status := St.ok, bytesOut := out.length }
  if r.status = St.ok ∧ outSlot = true then
    match s.loadSlot o.folio h.bytes (slice blob 0x8C 16) material with
    | some (s, hd) => (s, { r with r0 := hd })
    | none => (s, { r with status := St.slotFull })
  else (s, r)

/-! ## SIGN and VERIFY -/

/-- The length of the message of a SIGN or VERIFY holds (Table FLO-4). -/
def msgLenOk (d : Desc) : Bool := if d.param0.testBit 8 then d.dataLen == 48 else decide (d.dataLen ≤ 65536)

/-- What SIGN computes (R451 to R457). -/
def State.signRun (s : State) (m : HostMem) (o : Op) : Stop (State × OpRes) := do
  let d := o.desc
  let dsa := d.param0 % 256 == 1
  let ctxLen := d.param0 / 2 ^ 16 % 256
  let n := if dsa then 4627 else 96
  s.need (ctlOk d) St.badOpcode
  s.need (msgLenOk d && d.aadLen == (if dsa then ctxLen else 0)) St.badLength
  let (s, io) ← s.openIo m o true true (some n)
  let k ← s.needKey o.key
  s.need (o.wrapsOk true n) St.badAddress
  let (s, ctx) ← s.readStream m o
  let (s, msg) ← s.readData m o io 0 d.dataLen
  let (rnd, s) := s.drbgDraw 1 (if dsa then 32 else 48)
  match if dsa then mldsaSign k.material rnd ctx msg
    else some (ecdsaSign k.material rnd (if d.param0.testBit 8 then msg else sha384 msg)) with
  | none => return ((s.incSat Reg.FLO_LOOP_ABORT 31 0).raise 330, { status := St.aborted })
  | some sig => return s.writeAll o io sig { status := St.ok, bytesOut := n }

/-- SIGN (R451 to R457). -/
def execSign (id : Nat) (m : HostMem) (s : State) : Result :=
  s.runEngine id 0x40 (fun s _ => s.notReady [1]) fun s o => s.signRun m o

/-- The signature of a VERIFY's stream is true (R458); none where AAD_LEN does not equal its parts. -/
def verifyStream (d : Desc) (stream msg : Bytes) : Option Bool :=
  match d.param0 % 256 with
  | 1 =>
    let ctxLen := d.param0 / 2 ^ 16 % 256
    if stream.length ≠ 2592 + 4627 + ctxLen then none
    else some (mldsaVerify (stream.take 2592) (slice stream 2592 4627) (stream.drop 7219) msg)
  | 3 =>
    if stream.length ≠ 97 + 96 then none
    else
      let h := if d.param0.testBit 8 then msg else sha384 msg
      some (match p384Point (stream.take 97) with
        | some q => ecdsaVerify q (stream.drop 97) h
        | none => false)
  | _ =>
    if stream.length < 8 then none
    else
      let kl := hssKeyLen stream
      if kl = 0 then some false
      else if stream.length < kl then none
      else match hssShape (stream.take kl) (stream.drop kl) with
        | .short => none
        | .bad => some false
        | .ok _ n => if stream.length = kl + n then some (hssVerify (stream.take kl) (stream.drop kl) msg) else none

/-- What VERIFY computes (R454, R455, R458). -/
def State.verifyRun (s : State) (m : HostMem) (o : Op) : Stop (State × OpRes) := do
  let d := o.desc
  s.need (ctlOk d) St.badOpcode
  s.need (msgLenOk d) St.badLength
  let (s, io) ← s.openIo m o true false (some 0)
  s.need (o.wrapsOk true 0) St.badAddress
  let (s, stream) ← s.readStream m o
  s.need ((verifyStream d stream []).isSome) St.badLength
  let (s, msg) ← s.readData m o io 0 d.dataLen
  return (s, { status := if verifyStream d stream msg = some true then St.ok else St.authFailed })

/-- VERIFY (R454, R455, R458). -/
def execVerify (id : Nat) (m : HostMem) (s : State) : Result :=
  s.runEngine id 0x41 (fun _ _ => none) fun s o => s.verifyRun m o

/-! ## ENCAPS, DECAPS, ECDH, KEY_GENERATE -/

/-- The part of a key-producing operation before its own work: lengths, template, input key, target (R462). Answers the
I/O, the stream, the template and the target. -/
def State.producer (s : State) (m : HostMem) (o : Op) (aadLen : Nat) (outLen : Template → Nat) :
    Stop (State × Io × Bytes × Template × (Nat × Bytes)) := do
  let d := o.desc
  s.need (ctlOk d) St.badOpcode
  s.need (d.aadLen == aadLen && d.dataLen == 0) St.badLength
  let (s, stream) ← s.readStream m o
  let t := parseTemplate stream
  let (s, io) ← s.openIo m o false true (some (outLen t))
  s.needTemplate d.opcode t
  match o.key with
  | .fail st => .error (s, st)
  | _ => pure ()
  let gk ← s.needTarget o (d.param0.testBit 9)
  s.need (o.wrapsOk false (outLen t)) St.badAddress
  return (s, io, stream, t, gk)

/-- What ENCAPS computes (R454, R459). -/
def State.encapsRun (s : State) (m : HostMem) (o : Op) : Stop (State × OpRes) := do
  let (s, io, stream, t, gk) ← s.producer m o 1584 (fun _ => 1728)
  let ek := stream.drop 16
  s.need (kemKeyOk ek) St.authFailed
  let (r, s) := s.drbgDraw 1 32
  let c := kemEncaps ek r
  return s.produce o io t gk c.2 c.1 [] (o.desc.param0.testBit 9)

/-- ENCAPS (R454, R459). -/
def execEncaps (id : Nat) (m : HostMem) (s : State) : Result :=
  s.runEngine id 0x42 (fun s _ => s.notReady [1, 0]) fun s o => s.encapsRun m o

/-- What DECAPS computes: implicit rejection, always OK for a ciphertext of the right length (R459). -/
def State.decapsRun (s : State) (m : HostMem) (o : Op) : Stop (State × OpRes) := do
  let (s, io, stream, t, gk) ← s.producer m o 1584 (fun _ => 160)
  let k ← s.needKey o.key
  return s.produce o io t gk (kemDecaps k.material (stream.drop 16)) [] [] (o.desc.param0.testBit 9)

/-- DECAPS (R459). -/
def execDecaps (id : Nat) (m : HostMem) (s : State) : Result :=
  s.runEngine id 0x43 (fun s _ => s.notReady [0]) fun s o => s.decapsRun m o

/-- What ECDH computes (R460). -/
def State.ecdhRun (s : State) (m : HostMem) (o : Op) : Stop (State × OpRes) := do
  let (s, io, stream, t, gk) ← s.producer m o 113 (fun _ => 160)
  let k ← s.needKey o.key
  match (p384Point (stream.drop 16)).bind (ecdhSecret k.material) with
  | none => .error (s, St.authFailed)
  | some z => return s.produce o io t gk z [] [] (o.desc.param0.testBit 9)

/-- ECDH (R460). -/
def execEcdh (id : Nat) (m : HostMem) (s : State) : Result :=
  s.runEngine id 0x44 (fun s _ => s.notReady [0]) fun s o => s.ecdhRun m o

/-- The public key that KEY_GENERATE appends (R464). -/
def publicKey (type : Nat) (material : Bytes) : Bytes := match type with
  | 4 => [4] ++ p384Public material
  | 5 => mldsaPublic material
  | 6 => kemPublic material
  | _ => []

def publicKeyLen (type : Nat) : Nat := match type with
  | 4 => 97
  | 5 => 2592
  | 6 => 1568
  | _ => 0

/-- What KEY_GENERATE computes (R455, R464). -/
def State.keygenRun (s : State) (m : HostMem) (o : Op) : Stop (State × OpRes) := do
  s.need (!s.bit Reg.LCY_STATE 10) St.denied
  let (s, io, _, t, gk) ← s.producer m o 16 (fun t => 160 + publicKeyLen t.type)
  let (r, s) := s.drbgDraw 1 t.len
  let material := if t.type = Kt.p384 then beBytes 48 (p384Scalar r) else r
  return s.produce o io t gk material [] (publicKey t.type material) (o.desc.param0.testBit 9)

/-- KEY_GENERATE (R455, R464). -/
def execKeyGenerate (id : Nat) (m : HostMem) (s : State) : Result :=
  s.runEngine id 0x32 (fun s _ => s.notReady [1, 0]) fun s o => s.keygenRun m o

/-! ## RANDOM (R482, R483) -/

/-- Prediction resistance of a RANDOM: its own, or PRED_RESIST of the ENGINES section. -/
def State.predResist (s : State) (d : Desc) : Bool := match d.param0 % 4 with
  | 0 => ((s.section_ 0x06).getD 2 0).getLsbD 0
  | 1 => false
  | _ => true

/-- What RANDOM computes (R482, R483). -/
def State.randomRun (s : State) (m : HostMem) (o : Op) : Stop (State × OpRes) := do
  let d := o.desc
  s.need (ctlOk d) St.badOpcode
  let (s, io) ← s.openIo m o false true (some d.dataLen)
  s.need (o.wrapsOk false d.dataLen) St.badAddress
  let s := (List.range ((d.dataLen + 65535) / 65536)).foldl (fun s _ => s.drbgRequest 2 (s.predResist d)) s
  let (b, s) := s.freshBytes d.dataLen
  return s.writeAll o io b { status := St.ok, bytesOut := d.dataLen }

/-- RANDOM. -/
def execRandom (id : Nat) (m : HostMem) (s : State) : Result :=
  s.runEngine id 0x20
    (fun s o => if o.desc.dataLen = 0 then none
                else if (s.predResist o.desc && !s.entropyOk) || !s.drbgServes 2 ((o.desc.dataLen + 65535) / 65536) then some 2
                else none)
    fun s o => s.randomRun m o

/-! ## Operations of the Reservoir (R344, R345, R570a to R572) -/

/-- What BLOB_LOAD computes (R344, R345). -/
def State.blobLoadRun (s : State) (m : HostMem) (o : Op) : Stop (State × OpRes) := do
  let d := o.desc
  s.need (!s.bit Reg.LCY_STATE 10) St.denied
  s.need (d.dataLen == 160) St.badLength
  let (s, io) ← s.openIo m o true false (some 0)
  s.need (o.wrapsOk true 0) St.badAddress
  let (s, b) ← s.readData m o io 0 160
  let h := blobHdr b
  s.need (h.domain == d.domain && s.aclHas o.folio h.domain) St.denied
  let key ← match s.dataKey h.domain h.gen with
    | some k => .ok k
    | none => .error (s, St.keyAbsent)
  let material ← match openBlob key b with
    | some x => .ok x
    | none => .error (s, St.authFailed)
  s.need (h.policy.testBit o.folio) St.denied
  let hdr := slice b 0 32
  let tag := slice b 0x8C 16
  match (s.slotsOf o.folio).find? fun q => q.hdr == hdr && q.tag == tag && !q.leaving with
  | some q => return (s, { status := St.ok, r0 := q.handle })
  | none => match s.loadSlot o.folio hdr tag material with
    | some (s, hd) => return (s, { status := St.ok, r0 := hd })
    | none => .error (s, St.slotFull)

/-- BLOB_LOAD. -/
def execBlobLoad (id : Nat) (m : HostMem) (s : State) : Result :=
  s.runEngine id 0x30 (fun _ _ => none) fun s o => s.blobLoadRun m o

/-- Request the erase of a quota slot: new resolutions of its key fail from now on (R347). -/
def State.leaveSlot (s : State) (slot : Nat) : State :=
  { s with rsv := { s.rsv with slots := s.rsv.slots.map fun q => if q.slot = slot then { q with leaving := true } else q } }

/-- BLOB_EVICT (R342, R572): the slot's erase is requested; the operation completes when it is done. -/
def execBlobEvict (id : Nat) (s : State) : Result :=
  match s.running id 0x31 with
  | none => .next s
  | some o =>
    if o.waitErase.isSome then .next s
    else match refShape { folio := o.folio, ref := o.desc.keyRef, domain := o.desc.domain, need := 0, dataOk := false, inlineOk := false },
        (s.slotAt o.folio (o.desc.keyRef % 2 ^ 13)).filter (fun q => !q.leaving) with
      | some st, _ => .next (s.setRes id { status := st, engine := o.engine })
      | none, none => .next (s.setRes id { status := St.keyAbsent, engine := o.engine })
      | none, some q => .next ((s.leaveSlot q.slot).setOp { o with waitErase := some q.slot })

/-- An admitted operation still holds the key of quota slot `q` (R347). -/
def State.slotHeld (s : State) (q : QuotaSlot) : Bool :=
  s.ops.any fun o => o.res.isNone && o.folio == q.folio && (match o.key with
    | .key k => k.kind == 0 && k.handle == q.handle
    | _ => false) || o.res.isNone && o.folio == q.folio && (match o.key2 with
    | .key k => k.kind == 0 && k.handle == q.handle
    | _ => false)

/-- SLOT_ERASE_DONE (R347, R348, R572): every leaving slot that no operation holds is erased, and the evictions that wait
for it complete. -/
def execSlotEraseDone (s : State) : Result :=
  let gone := (s.rsv.slots.filter fun q => q.leaving && !s.slotHeld q).map (·.slot)
  let s := { s with rsv := { s.rsv with slots := s.rsv.slots.filter fun q => !gone.contains q.slot } }
  .next (s.ops.foldl (fun s o => match o.waitErase with
    | some p => if gone.contains p then (s.setRes o.id { status := St.ok, engine := o.engine }).commit o.id else s
    | none => s) s)

/-- KEY_REWRAP (R339, R570a). -/
def State.keyRewrap (s : State) (m : HostMem) (o : Op) : Stop (State × OpRes) := do
  let d := o.desc
  s.need (d.aadLen == 16) St.badLength
  let (s, stream) ← s.readStream m o
  let t := parseTemplate stream
  let (s, io) ← s.openIo m o false true (some 160)
  s.need (t.rsvd == 0) St.badLength
  let k ← s.needKey o.key
  s.need (t.type == k.type && t.len == k.material.length) St.badLength
  s.need (subset t.usage (usageSet t.type) && subset t.usage k.usage && subset t.policy k.policy && d.domain == k.domain) St.denied
  let gk ← s.needTarget o false
  s.need (o.wrapsOk false 160) St.badAddress
  return s.produce o io t gk k.material [] [] false

/-- KEY_DERIVE (R570a). -/
def State.keyDerive (s : State) (m : HostMem) (o : Op) : Stop (State × OpRes) := do
  let d := o.desc
  s.need (decide (19 ≤ d.aadLen ∧ d.aadLen ≤ 1040)) St.badLength
  let (s, stream) ← s.readStream m o
  let t := parseTemplate stream
  let labelLen := leAt stream 16 2
  s.need (decide (1 ≤ labelLen ∧ labelLen ≤ 64 ∧ 18 + labelLen ≤ d.aadLen)) St.badLength
  let (s, io) ← s.openIo m o false true (some 160)
  s.needTemplate 0x33 t
  let k ← s.needKey o.key
  s.need (d.domain == k.domain) St.denied
  let outSlot := d.param0.testBit 9
  let gk ← s.needTarget o outSlot
  s.need (o.wrapsOk false 160) St.badAddress
  let material := rsvKdfBytes k.material (slice stream 18 labelLen) (stream.drop (18 + labelLen)) t.len
  return s.produce o io t gk material [] [] outSlot

/-- KEY_REWRAP, and KEY_DERIVE, which the table gives no row of its own: the Reservoir's two operations that write a blob
from an existing key (log entry 22). -/
def execKeyRewrap (id : Nat) (m : HostMem) (s : State) : Result :=
  if (s.running id 0x33).isSome then s.runEngine id 0x33 (fun s _ => s.notReady [0]) fun s o => s.keyDerive m o
  else s.runEngine id 0x34 (fun s _ => s.notReady [0]) fun s o => s.keyRewrap m o

end Sys2Proof.Machine
end

