-- ==== Sys2Proof/Machine/Erase.lean ====
section
/-! DEFINITION. Chapter 08, erase scopes (Table RSV-12), and the user-secret erase of chapter 04. -/

namespace Sys2Proof.Machine

/-- An operation in progress whose key, or second key, satisfies `p`. -/
def Op.keyBy (o : Op) (p : Key → Bool) : Bool :=
  o.res.isNone && ((match o.key with
    | .key k => p k
    | _ => false) || (match o.key2 with
    | .key k => p k
    | _ => false))

/-- An operation in progress on an engine that computes: a nib lane, a hash lane, Flourish, the Reservoir or the DRBG. -/
def Op.engaged (o : Op) : Bool := o.res.isNone && decide (0x10 ≤ o.engine ∧ o.engine ≤ 0x50)

/-- End every operation that satisfies `p` with a status (R348). -/
def State.endOps (s : State) (p : Op → Bool) (status : Nat) : State :=
  (s.ops.filter p).foldl (fun s o => s.finish o.id status) s

/-- Quota slots that satisfy `p` are erased, and the evictions that wait for one of them end with a status. -/
def State.dropSlots (s : State) (p : QuotaSlot → Bool) (status : Nat) : State :=
  let gone := (s.rsv.slots.filter p).map (·.slot)
  let s := { s with rsv := { s.rsv with slots := s.rsv.slots.filter fun q => !p q } }
  s.endOps (fun o => o.res.isNone && o.waitErase.any gone.contains) status

/-- Folio erase (Table RSV-12): the quota slots of folio `f`; the operations on their keys end ABORTED. -/
def State.eraseFolio (s : State) (f : Nat) : State :=
  (s.endOps (fun o => o.folio == f && o.keyBy (·.kind == 0)) St.aborted).dropSlots (·.folio == f) St.aborted

/-- Domain erase (Table RSV-12): the pinned entry, slots and lane keys of domain `d`. -/
def State.eraseDomain (s : State) (d : Nat) : State :=
  let s := s.endOps (fun o => o.keyBy (·.domain == d)) St.aborted
  let s := s.dropSlots (fun q => (blobHdr q.hdr).domain == d) St.aborted
  State.eraseDone { s with rsv := { s.rsv with doms := s.rsv.doms.filter (·.domain != d) } }

/-- Every slot, entry and lane key is cleared; the operations that satisfy `p` end with a status (Table RSV-12). -/
def State.eraseKeys (s : State) (p : Op → Bool) (status : Nat) : State :=
  let s := (s.endOps p status).dropSlots (fun _ => true) status
  { s with rsv := { s.rsv with doms := [], trans := [] } }

/-- All erase (Table RSV-12): the BRK is kept. -/
def State.eraseAll (s : State) : State := (s.eraseKeys (Op.keyBy · fun _ => true) St.aborted).eraseDone

/-! ## Commands cut short (R354, R395) -/

/-- Write a Reservoir command's result, last, its DWK erased, and raise source 352 (R331, R354). -/
def State.rsvFinish (s : State) (code : Nat) : State :=
  let doms := s.rsv.doms.map fun e => { e with leaving := none }
  let s := { s with rsv := { s.rsv with cmd := none, doms := doms, trans := s.rsv.trans.filter (·.slot < 1080) } }
  ((s.setb Reg.RSV_CMD 31 false).wr Reg.RSV_RESULT (BitVec.ofNat 32 (code * 2 ^ 24))).raise 352

/-- A Reservoir command in progress reports ABORTED. -/
def State.rsvAbort (s : State) : State := if s.rsv.cmd.isSome then s.rsvFinish 0x08 else s

/-- The operations whose completion raises source 364. -/
def isSuccession (op : Nat) : Bool := decide (0x20 ≤ op ∧ op ≤ 0x25)

/-- Write a CUST command's result. -/
def State.custFinish (s : State) (op code : Nat) : State :=
  let s := { s with cust := { s.cust with cmd := none } }
  let s := (s.setb Reg.CUST_CMD 31 false).wr Reg.CUST_RESULT (BitVec.ofNat 32 (code * 2 ^ 24))
  if isSuccession op then s.raise 364 else s

def State.custAbort (s : State) : State := match s.cust.cmd with
  | some c => s.custFinish c.op 0x0E
  | none => s

/-- Ceremony slot `n` holds nothing: its nonce, ephemeral key and shares are erased. -/
def State.cerDrop (s : State) (n : Nat) : State :=
  { s with cust := { s.cust with slots := s.cust.slots.set n {} } }

/-- Slot `n` returns to FREE. -/
def State.cerFree (s : State) (n : Nat) : State :=
  (((s.cerDrop n).wr (Reg.CUST_CER_STAT n) 0).wr (Reg.CUST_CER_COUNTED n) 0).wr64 (Reg.CUST_CER_EXPIRES n)
    (BitVec.allOnes 64)

/-- A Scribe failure, an alarm erase or BLOT frees every ceremony slot (R395). -/
def State.cerClear (s : State) : State := ((List.range 4).foldl State.cerFree s).custAbort

/-! ## Alarm, BLOT and user-secret erase -/

/-- Sessions end with no message (Table NET-8). -/
def State.dropSessions (s : State) : State :=
  let s := s.net.sessions.foldl (fun s x => s.endSession x.id) s
  { s with net := { s.net with client := none } }

/-- The BRK is erased, and with it the service key that was wrapped under it. -/
def State.dropRoot (s : State) : State :=
  let s := { s with rsv := { s.rsv with brk := none }, net := { s.net with svcDk := [] } }
  s.resetRegs (Reg.PORT_SVC_EK 0) (Reg.PORT_SVC_EK 0 + 1568)

/-- Lane keys are erased: source 327 (R446). -/
def State.lanesErased (s : State) : State :=
  if s.ops.any fun o => o.engaged && decide (o.engine < 0x30) && o.keyBy fun _ => true then s.raise 327 else s

/-- What alarm and BLOT erases have in common: sessions end, operations on the engines end with a status, every key, the
state of the DRBG and every ceremony are erased. -/
def State.eraseEngines (s : State) (status : Nat) : State :=
  (((s.lanesErased.dropSessions.eraseKeys (fun o => o.engaged || o.keyBy fun _ => true) status).drbgErase).rsvAbort).cerClear

/-- Alarm erase (Table RSV-12, R349, R442, R487). -/
def State.eraseAlarm (s : State) : State := ((s.eraseEngines St.alarmErased).setb Reg.RSV_STAT 30 true).eraseDone

/-- BLOT erase of the key stores: the BRK first, then everything else (Table RSV-12). Its end is BLOT_ERASE_DONE. -/
def State.eraseBlot (s : State) : State := (s.dropRoot.eraseEngines St.blotted).eraseSecretSram

/-- The user-secret erase of the on-die stores (R149, R150), and the start of the flash part: the secret regions, or the
whole user region (Table LCY-4); the erase is complete when that has ended (R350). -/
def State.eraseUserSecret (s : State) (wholeUser : Bool) : State :=
  let s := s.dropRoot.eraseKeys (fun o => o.engaged || o.keyBy fun _ => true) St.aborted
  (s.drbgErase.rsvAbort.eraseSecretSram).startWipe wholeUser

end Sys2Proof.Machine
end

