-- ==== Sys2Proof/Machine/Succession.lean ====
section
/-! DEFINITION. Chapter 09, succession packages: Shamir sharing, member key entries, ceremony slots as other commands
read them. -/

namespace Sys2Proof.Machine

/-! ## Shares over GF(2^8) modulo x^8 + x^4 + x^3 + x + 1 (R380), the field of AES -/

/-- A polynomial, constant term first, at `x`. -/
def gfEval (c : List Nat) (x : Nat) : Nat := c.foldr (fun k acc => k ^^^ gfMul acc x) 0

/-- The 32-byte share of `sk` at `x`, with the coefficient strings `coefs`. -/
def shamirShare (sk : Bytes) (coefs : List Bytes) (x : Nat) : Bytes :=
  (List.range 32).map fun i =>
    BitVec.ofNat 8 (gfEval ((sk.getD i 0).toNat :: coefs.map fun c => (c.getD i 0).toNat) x)

/-- The Lagrange weight at zero of position `x` among positions `xs`. -/
def lagrange (xs : List Nat) (x : Nat) : Nat :=
  (xs.filter (· != x)).foldl (fun p y => gfMul p (gfMul y (gfInverse (x ^^^ y)))) 1

/-- Recombine shares by Lagrange interpolation at zero (R384). -/
def shamirJoin (shares : List (Nat × Bytes)) : Bytes :=
  let xs := shares.map (·.1)
  (List.range 32).map fun i =>
    BitVec.ofNat 8 (shares.foldl (fun acc p => acc ^^^ gfMul (p.2.getD i 0).toNat (lagrange xs p.1)) 0)

/-! ## Member key entries (R361) -/

def State.custRow (s : State) (i : Nat) : CustRow := s.otp.rows.getD i {}

/-- A row is active (R362). -/
def CustRow.active (r : CustRow) : Bool := r.enrolled && !r.revoked

def State.rowActive (s : State) (i : Nat) : Bool := decide (i < 32) && (s.custRow i).active

/-- The mask of active rows. -/
def State.activeMask (s : State) : Word :=
  BitVec.ofNat 32 ((List.range 32).foldl (fun m i => if s.rowActive i then m + 2 ^ i else m) 0)

def maskCount (m : Word) : Nat := ((List.range 32).filter m.getLsbD).length

/-- DEV_M: the set bits of DEVM, at least 2 (R363). -/
def State.devM (s : State) : Nat := max 2 ((List.range 8).filter s.otp.devm.getLsbD).length

/-- The unit is in bootstrap (R388). -/
def State.bootstrap (s : State) : Bool := decide (maskCount s.activeMask < 2)

/-- The member key entries of `n` members, in order. -/
def memberKeys (b : Bytes) (n : Nat) : List Bytes := (List.range n).map fun i => slice b (4160 * i) 4160

/-- Each entry matches the OTP row named at its position (R381). -/
def State.membersOk (s : State) (rows : Bytes) (keys : List Bytes) : Bool :=
  (keys.zipIdx).all fun p => s.rowActive (leAt rows p.2 1) && sha384 p.1 == (s.custRow (leAt rows p.2 1)).digest

/-! ## The package (Table CUS-6, R380) -/

def packageLen (n : Nat) : Nat := 0xC0 + 0x660 * n

def packageHeader (quorum domain seq serial created : Nat) (rows : Bytes) : Bytes :=
  leBytes 4 0x53565352 ++ leBytes 2 1 ++ leBytes 1 quorum ++ [0] ++ leBytes 2 domain ++ [0, 0] ++ leBytes 4 seq ++
    leBytes 8 serial ++ leBytes 8 created ++ slice rows 0 8 ++ zeros 88

def shareKek (ss : Bytes) (domain x seq : Nat) : Bytes :=
  rsvKdf ss "BN96-SHARE" (beBytes 2 domain ++ beBytes 1 x ++ beBytes 4 seq) 32

/-- One member's part of a package: position `x`, its encapsulation key, its share. -/
def State.packageShare (s : State) (header ek y : Bytes) (domain x seq : Nat) : Bytes × State :=
  let (r, s) := s.drbgDraw 0 32
  let (nonce, s) := s.drbgDraw 0 12
  let k := kemEncaps ek r
  let c := aeadSeal 2 (shareKek k.2 domain x seq) nonce (header ++ beBytes 1 x) y
  (beBytes 1 x ++ zeros 3 ++ k.1 ++ c.1 ++ nonce ++ c.2, s)

/-- Build a package of `dwk` for the member keys `keys`, MEMBERS `rows` and threshold `quorum / 16`. -/
def State.buildPackage (s : State) (quorum domain seq : Nat) (rows dwk : Bytes) (keys : List Bytes) : Bytes × State :=
  let header := packageHeader quorum domain seq s.otp.serial s.ns rows
  let (sk, s) := s.drbgDraw 0 32
  let (cs, s) := s.drbgDraw 0 (32 * (quorum / 16 - 1))
  let coefs := (List.range (quorum / 16 - 1)).map fun j => slice cs (32 * j) 32
  let (nonce, s) := s.drbgDraw 0 12
  let c := aeadSeal 2 sk nonce header dwk
  (keys.zipIdx).foldl (fun p k =>
    let x := k.2 + 1
    let (b, s) := p.2.packageShare header (k.1.drop 2592) (shamirShare sk coefs x) domain x seq
    (p.1 ++ b, s)) (header ++ c.1 ++ nonce ++ c.2 ++ zeros 4, s)

/-- The package digest (R380). -/
def packageDigest (p : Bytes) : Bytes := sha384 (p.take 0xC0)

/-! ## Ceremony slots -/

def State.cerState (s : State) (n : Nat) : Nat := s.fld (Reg.CUST_CER_STAT n) 31 30
def State.cerAction (s : State) (n : Nat) : Nat := s.fld (Reg.CUST_CER_STAT n) 15 8
def State.cerSlot (s : State) (n : Nat) : CerSlot := s.cust.slots.getD n {}
def State.setCer (s : State) (n : Nat) (c : CerSlot) : State :=
  { s with cust := { s.cust with slots := s.cust.slots.set n c } }

/-- A running command consumes slot `n` (Table CUS-1): it began before the slot expired (R392). -/
def State.cerInUse (s : State) (n : Nat) : Bool :=
  s.cust.cmd.any (fun c => c.slot == n && [0x01, 0x02, 0x03, 0x20, 0x23, 0x24, 0x25].contains c.op) ||
    s.rsv.cmd.any fun c => c.op == 2 && c.succ.getLsbD 31 && fieldOf c.succ 1 0 == n

/-- STIME has reached EXPIRES of slot `n`. -/
def State.cerPast (s : State) (n : Nat) : Bool := decide ((s.rd64 (Reg.CUST_CER_EXPIRES n)).toNat ≤ s.ns)

/-- Slot `n` expires if STIME has reached EXPIRES (R376). -/
def State.cerExpire (s : State) (n : Nat) : State :=
  if (s.cerState n = 1 ∨ s.cerState n = 2) ∧ s.cerPast n ∧ !s.cerInUse n then
    ((s.cerDrop n).setf (Reg.CUST_CER_STAT n) 31 30 3).raise 361
  else s

/-- What has run out at the moment a command begins has expired (R376, R392). -/
def State.cerExpireAll (s : State) : State := (List.range 4).foldl State.cerExpire s

/-! ## The members of a domain as the Scribe runtime knows them (R390) -/

/-- A package of domain `d` with threshold `m` and MEMBERS `rows` has been built here, or has brought the domain here. -/
def State.notePackage (s : State) (d m : Nat) (rows : Bytes) : State :=
  { s with cust := { s.cust with packages := s.cust.packages.filter (·.1 != d) ++ [(d, m, rows)] } }

/-- Revoking row `i` would leave a domain that it holds a share of with fewer than M active members (R390). -/
def State.revokeBarred (s : State) (i : Nat) : Bool :=
  s.cust.packages.any fun p =>
    let rows := p.2.2.map (·.toNat)
    rows.contains i && decide ((rows.filter fun r => r != i && s.rowActive r).length < p.2.1)

/-- Fields of a parameter record (Table CUS-2). -/
def paramQuorum (p : Bytes) : Nat := leAt p 1 1
def paramDomain (p : Bytes) : Nat := leAt p 2 2
def paramIndex (p : Bytes) : Nat := leAt p 4 1
def paramSerial (p : Bytes) : Nat := leAt p 8 8
def paramMembers (p : Bytes) : Bytes := slice p 0x10 8
def paramDigestA (p : Bytes) : Bytes := slice p 0x18 48
def paramPolicy0 (p : Bytes) : Bytes := slice p 0x78 48
/-- The second policy where FLAGS has POLICY1_VALID. -/
def paramPolicy1 (p : Bytes) : Option Bytes := if leAt p 5 1 % 2 = 1 then some (slice p 0xA8 48) else none

/-- Flourish serves internal users (R488). -/
def State.flourishUp (s : State) : Bool := decide (s.fld Reg.FLO_STAT 3 0 < 4)

/-! ## SRAM as these commands use it -/

/-- Read `n` bytes for a Reservoir or CUST command; nothing where a word is poisoned (R793). -/
def State.keyRead (s : State) (a n : Nat) : Option Bytes := if s.poisoned a n then none else some (s.memBytes a n)

/-- Write an output; a partial write of a poisoned word is refused (R799). -/
def State.keyWrite (s : State) (a : Nat) (b : Bytes) : State := (s.eccWrite scribeInit a b .clean).1

/-- The value of BOOT_MEASn. -/
def State.meas (s : State) (n : Nat) : Bytes := s.regBytes (Reg.BOOT_MEAS n 0) 48

/-! ## The service key -/

/-- Publish the service key, generating it where the unit has a BRK and no key yet. -/
def State.serviceKey (s : State) : State :=
  if !s.rootValid then s
  else
    let s := if s.net.svcDk.isEmpty && s.drbgReady 0 then
        let (d, s) := s.drbgDraw 0 64
        { s with net := { s.net with svcDk := d } }
      else s
    if s.net.svcDk.isEmpty then s else s.setRegBytes (Reg.PORT_SVC_EK 0) (kemPublic s.net.svcDk)

end Sys2Proof.Machine
end

