-- ==== Sys2Proof/Machine/Reservoir.lean ====
section
/-! DEFINITION. Chapter 08, the Reservoir's commands: one row starts each (RSV_CMD), one completes whichever runs. -/

namespace Sys2Proof.Machine

/-- A write of RSV_CMD with GO and operation `op`: the command starts, or finds another in progress (Table RSV-6, R11). -/
def State.rsvStart (s : State) (op : Nat) (v : Word) : State :=
  let v := setFieldOf v 7 0 op
  if s.rsv.cmd.isSome then (s.wr Reg.RSV_CMD (v &&& 0x00FF03FF#32 ||| 0x80000000#32)).setf Reg.RSV_RESULT 31 24 0x0A
  else
    let s := s.cerExpireAll
    let c : RsvCmd :=
      { op, quorum := fieldOf v 23 16, policy1Valid := v.getLsbD 9, makeCurrent := v.getLsbD 8, arg := s.rdn Reg.RSV_ARG
        argGen := s.rdn Reg.RSV_ARG_GEN, addr := (List.range 4).map fun i => (s.rd64 (Reg.RSV_ADDR i)).toNat % 2 ^ 40
        pol0 := s.regBytes (Reg.RSV_POLICY0 0) 48, pol1 := s.regBytes (Reg.RSV_POLICY1 0) 48
        badField := fieldOf v 30 24 != 0 || fieldOf v 15 10 != 0
        succ := s.rd Reg.CUST_SUCC_SLOT, keysAt := (s.rd64 (Reg.CUST_ADDR 2)).toNat % 2 ^ 40 }
    (({ s with rsv := { s.rsv with cmd := some c } }).wr Reg.RSV_CMD (v &&& 0x00FF03FF#32 ||| 0x80000000#32)).setb
      Reg.RSV_RESULT 23 true

def RsvCmd.at_ (c : RsvCmd) (i : Nat) : Nat := c.addr.getD i 0
def RsvCmd.domain (c : RsvCmd) : Nat := c.arg % 2 ^ 16
def RsvCmd.policy1 (c : RsvCmd) : Option Bytes := if c.policy1Valid then some c.pol1 else none

/-- SRAM ranges an operation names, with what it does there (R330). -/
def RsvCmd.ranges (c : RsvCmd) : List (Nat × Nat × AccKind) := match c.op with
  | 0x02 => [(c.at_ 1, 192, .write), (c.at_ 2, 96, .write), (c.at_ 3, packageLen (c.quorum % 16), .write),
      (c.keysAt, 4160 * (c.quorum % 16), .read)]
  | 0x03 => [(c.at_ 0, 192, .read), (c.at_ 1, 96, .read)] ++ (if c.at_ 2 = 0 then [] else [(c.at_ 2, 96, .read)])
  | 0x04 => [(c.at_ 0, 192, .read), (c.at_ 1, 96, .read)]
  | 0x05 => [(c.at_ 0, 192, .read), (c.at_ 1, 96, .write)]
  | 0x08 => [(c.at_ 0, 192, .read), (c.at_ 1, 192, .write)]
  | _ => []

/-- DOM_CREATE names a satisfied DOM_CREATE slot whose parameters equal the command's (R364, R381). -/
def State.succOk (s : State) (c : RsvCmd) : Bool :=
  let n := fieldOf c.succ 1 0
  let p := (s.cerSlot n).params
  c.succ.getLsbD 31 && s.cerState n == 2 && s.cerAction n == 1 && paramDomain p == c.domain && paramQuorum p == c.quorum &&
    paramPolicy0 p == c.pol0 && paramPolicy1 p == c.policy1

/-- Checks 2 to 6 of Table RSV-6. -/
def State.rsvCheck (s : State) (c : RsvCmd) : Option Nat :=
  let life := s.fld Reg.LCY_STATE 3 0
  if s.bit Reg.RSV_STAT 29 && c.op != 0x0C then some 0x0B
  else if c.op = 0x01 ∧ s.rootValid then some 0x0E
  else if c.op ≠ 0x01 ∧ !s.rootValid then some 0x01
  else if s.bit Reg.LCY_STATE 10 then some 0x0C
  else if c.op = 0x01 ∧ life ≠ 3 ∧ life ≠ 4 then some 0x0C
  else if [0x02, 0x03, 0x04, 0x05, 0x08].contains c.op ∧ (life = 5 ∨ life = 6) then some 0x0C
  else if c.op = 0x02 ∧ !s.succOk c then some 0x0C
  else if c.op = 0x01 ∧ (s.rd Reg.BLOT_CAUSE ≠ 0 ∨ s.bit Reg.BLOT_STAT 30) then some 0x09
  else if [0x02, 0x03, 0x04, 0x05].contains c.op ∧ s.bit Reg.RSV_STAT 30 then some 0x09
  else if c.badField || c.op == 0 || decide (0x0C < c.op) || (c.op == 0x09 && c.domain / 2 ^ 13 != 0) ||
      c.ranges.any (fun r => !inSram r.1 r.2.1) then some 0x0D
  else none

/-- A policy matches BOOT_MEAS2 (R332). -/
def State.policyOk (s : State) (p0 : Bytes) (p1 : Option Bytes) : Bool := p0 == s.meas 2 || p1 == some (s.meas 2)

/-- The distinct policies that open domains refer to, with those of one more domain (R335). -/
def State.policies (s : State) (p0 : Bytes) (p1 : Option Bytes) : List Bytes :=
  (s.rsv.doms.foldl (fun l d => l ++ [d.policy0] ++ d.policy1.toList) ([p0] ++ p1.toList)).eraseDups

/-- A free table entry and free policy-table entries (check 10). -/
def State.tableRoom (s : State) (p0 : Bytes) (p1 : Option Bytes) : Bool :=
  decide (s.rsv.doms.length < 1024 ∧ (s.policies p0 p1).length ≤ 32)

/-- The lowest free entry of the open-domain table. -/
def State.freeEntry (s : State) : Nat := ((List.range 1024).find? fun i => s.rsv.doms.all (·.idx != i)).getD 0

def State.openDomain (s : State) (e : DomEntry) : State :=
  { s with rsv := { s.rsv with doms := s.rsv.doms ++ [{ e with idx := s.freeEntry }] } }

/-- Record checks of check 7 on a domain record at an address. -/
def State.domRecAt (s : State) (a : Nat) : Option DomRec :=
  match s.rsv.brk, s.keyRead a 192 with
  | some k, some b => openDomRec k b
  | _, _ => none

def State.genRecAt (s : State) (r : DomRec) (a : Nat) : Option (Nat × Bytes) := (s.keyRead a 96).bind fun b => openGenRec r.dwk b r.domain

/-- Draw a domain record's nonce and write the record. -/
def State.writeDomRec (s : State) (a : Nat) (r : DomRec) : State :=
  let (nonce, s) := s.drbgDraw 0 12
  s.keyWrite a (makeDomRec (s.rsv.brk.getD []) nonce r)

/-- An admitted operation refers to generation `g` of domain `d`, or may find it in a header (R353, R444). -/
def State.genHeld (s : State) (d g : Nat) : Bool :=
  s.ops.any fun o => o.keyBy fun k => k.kind == 1 && k.domain == d && (k.gen == g || k.alts.any (·.1 == g))

/-- Make generation `g` resident in the half that is not current, once the generation it displaces is free (R333, R353);
none while it is not. -/
def State.makeResident (s : State) (e : DomEntry) (g : Nat) (k : Bytes) (makeCurrent : Bool) : Option State :=
  let t := 1 - e.cur
  if e.genOf t ≠ 0 ∧ s.genHeld e.domain (e.genOf t) then none
  else some (s.setDom { (e.setHalf t g k) with leaving := none, cur := if makeCurrent then t else e.cur })

/-- The displaced half is leaving: new resolutions of its generation fail (R353). -/
def State.leaveHalf (s : State) (e : DomEntry) : State := s.setDom { e with leaving := some (1 - e.cur) }

/-- How a command stands after an attempt to complete it: its code, or what it waits for (0 the operations on the key it
displaces, 1 DRBG instance 0, 2 a direct draw). -/
inductive CmdEnd where
  | done (code : Nat)
  | wait (on : Nat)
  deriving DecidableEq, Repr

/-- ROOT_GENERATE (R326); the Scribe runtime then makes the service key (chapter 15). -/
def State.rsvRoot (s : State) : State × CmdEnd :=
  if !s.entropyOk then (s, .wait 2)
  else
    let (k, s) := s.freshBytes 32
    (State.serviceKey { s with rsv := { s.rsv with brk := some k } }, .done 0)

/-- DOM_CREATE from check 7 on (R330, R381). -/
def State.rsvCreate (s : State) (c : RsvCmd) : State × CmdEnd :=
  let n := fieldOf c.succ 1 0
  let rows := paramMembers (s.cerSlot n).params
  match s.keyRead c.keysAt (4160 * (c.quorum % 16)) with
  | none => (s, .done 0x02)
  | some b =>
    let keys := memberKeys b (c.quorum % 16)
    if !s.membersOk rows keys then (s, .done 0x02)
    else if (s.domAt c.domain).isSome then (s, .done 0x06)
    else if !s.tableRoom c.pol0 c.policy1 then (s, .done 0x05)
    else if !s.flourishUp then (s, .done 0x08)
    else if !s.drbgReady 0 then (s, .wait 1)
    else
      let (dwk, s) := s.drbgDraw 0 32
      let (k, s) := s.drbgDraw 0 32
      let s := s.writeDomRec (c.at_ 1) { domain := c.domain, quorum := c.quorum, pol0 := c.pol0, pol1 := c.policy1, dwk }
      let (nonce, s) := s.drbgDraw 0 12
      let s := s.keyWrite (c.at_ 2) (makeGenRec dwk nonce c.domain 1 s.ns k)
      let (p, s) := s.buildPackage c.quorum c.domain 1 rows dwk keys
      let s := ((s.keyWrite (c.at_ 3) p).cerFree n).notePackage c.domain (c.quorum / 16) rows
      (s.openDomain { idx := 0, domain := c.domain, gen0 := 1, key0 := k, policy0 := c.pol0, policy1 := c.policy1 }, .done 0)

/-- Open a domain whose records are good: record, current generation and, where there is one, the previous (R332, R333). The
Scribe runtime refuses a destroyed domain (R367); that it reports DENIED is the model's choice (log entry 58). -/
def State.openRecords (s : State) (r : DomRec) (g1 : Nat × Bytes) (g2 : Option (Nat × Bytes)) : State × CmdEnd :=
  if s.cust.destroyed.contains r.domain then (s, .done 0x0C)
  else if !s.policyOk r.pol0 r.pol1 then (s, .done 0x03)
  else if (s.domAt r.domain).isSome then (s, .done 0x06)
  else if !s.tableRoom r.pol0 r.pol1 then (s, .done 0x05)
  else if g2.any (·.1 == g1.1) then (s, .done 0x07)
  else (s.openDomain { idx := 0, domain := r.domain, gen0 := g1.1, key0 := g1.2, gen1 := (g2.map (·.1)).getD 0
                       key1 := (g2.map (·.2)).getD [], policy0 := r.pol0, policy1 := r.pol1 }, .done 0)

/-- DOM_OPEN from check 7 on (R332, R333). -/
def State.rsvOpen (s : State) (c : RsvCmd) : State × CmdEnd :=
  match s.domRecAt (c.at_ 0) with
  | none => (s, .done 0x02)
  | some r =>
    match s.genRecAt r (c.at_ 1), (if c.at_ 2 = 0 then some none else (s.genRecAt r (c.at_ 2)).map some) with
    | some g1, some g2 => s.openRecords r g1 g2
    | _, _ => (s, .done 0x02)

/-- GEN_LOAD from check 7 on (R333). -/
def State.rsvGenLoad (s : State) (c : RsvCmd) : State × CmdEnd :=
  match s.domRecAt (c.at_ 0) with
  | none => (s, .done 0x02)
  | some r => match s.genRecAt r (c.at_ 1), s.domAt r.domain with
    | none, _ => (s, .done 0x02)
    | some _, none => (s, .done 0x06)
    | some (g, k), some e =>
      if (e.halfOf g).isSome then (s, .done 0)
      else match s.makeResident e g k c.makeCurrent with
        | some s => (s, .done 0)
        | none => (s.leaveHalf e, .wait 0)

/-- GEN_CREATE from check 7 on (R333). -/
def State.rsvGenCreate (s : State) (c : RsvCmd) : State × CmdEnd :=
  match s.domRecAt (c.at_ 0) with
  | none => (s, .done 0x02)
  | some r => match s.domAt r.domain with
    | none => (s, .done 0x06)
    | some e =>
      if c.argGen ≤ max e.gen0 e.gen1 then (s, .done 0x07)
      else if e.genOf (1 - e.cur) ≠ 0 ∧ s.genHeld e.domain (e.genOf (1 - e.cur)) then (s.leaveHalf e, .wait 0)
      else if !s.drbgReady 0 then (s, .wait 1)
      else
        let (k, s) := s.drbgDraw 0 32
        let (nonce, s) := s.drbgDraw 0 12
        let s := s.keyWrite (c.at_ 1) (makeGenRec r.dwk nonce r.domain c.argGen s.ns k)
        ((s.makeResident e c.argGen k c.makeCurrent).getD s, .done 0)

/-- DOM_REWRITE from check 7 on (R330, R332). -/
def State.rsvRewrite (s : State) (c : RsvCmd) : State × CmdEnd :=
  match s.domRecAt (c.at_ 0) with
  | none => (s, .done 0x02)
  | some r =>
    if !s.policyOk r.pol0 r.pol1 then (s, .done 0x03)
    else if !s.drbgReady 0 then (s, .wait 1)
    else (s.writeDomRec (c.at_ 1) { r with quorum := c.quorum, pol0 := c.pol0, pol1 := c.policy1 }, .done 0)

/-- ERASE_SLOT: the handle's key is erased, or leaves and is erased by SLOT_ERASE_DONE (R347). -/
def State.rsvEraseSlot (s : State) (c : RsvCmd) : State × CmdEnd :=
  match c.erasing with
  | some p => (s, if s.rsv.slots.any fun q => q.slot == p && q.leaving then .wait 0 else .done 0)
  | none => match s.slotAt (c.arg / 2 ^ 26) (c.arg % 2 ^ 13) with
    | none => (s, .done 0)
    | some q =>
      if s.slotHeld q then
        let s := s.leaveSlot q.slot
        ({ s with rsv := { s.rsv with cmd := some { c with erasing := some q.slot } } }, .wait 0)
      else (s.dropSlots (·.slot == q.slot) St.ok, .done 0)

/-- REVALIDATE (R336). -/
def State.rsvRevalidate (s : State) : State :=
  let bad := s.rsv.doms.filter fun e => !s.policyOk e.policy0 e.policy1
  let s := (bad.foldl (fun s e => s.eraseDomain e.domain) s).setb Reg.RSV_STAT 29 false
  if bad.isEmpty then s else s.raise 356

/-- The effect of a command that has passed its checks, and how it ends. -/
def State.rsvAct (s : State) (c : RsvCmd) : State × CmdEnd := match c.op with
  | 0x01 => s.rsvRoot
  | 0x02 => s.rsvCreate c
  | 0x03 => s.rsvOpen c
  | 0x04 => s.rsvGenLoad c
  | 0x05 => s.rsvGenCreate c
  | 0x06 => match s.domAt c.domain with
    | none => (s, .done 0x06)
    | some _ => match s.genSwitch c.domain c.argGen with
      | (s, true) => (s, .done 0)
      | (s, false) => (s, .done 0x07)
  | 0x07 => if (s.domAt c.domain).isSome then (s.eraseDomain c.domain, .done 0) else (s, .done 0x06)
  | 0x08 => s.rsvRewrite c
  | 0x09 => s.rsvEraseSlot c
  | 0x0A => (s.eraseFolio (c.arg / 2 ^ 26), .done 0)
  | 0x0B => (s.eraseAll, .done 0)
  | _ => (s.rsvRevalidate, .done 0)

/-- The command in progress: its checks, the ruling of the ranges it names (a refused one ends it as a range outside SRAM does, log
entry 60), and its effect. -/
def State.rsvRun (s : State) (c : RsvCmd) : State × CmdEnd :=
  match s.rsvCheck c with
  | some code => (s, .done code)
  | none =>
    let r := s.ruleRanges c.ranges
    if r.2 then r.1.rsvAct c else (r.1, .done 0x0D)

/-- The DWK that a command which waits holds in slot 1,080 until its RESULT is written (R331). -/
def State.holdDwk (s : State) (c : RsvCmd) : State :=
  let dwk := if [0x04, 0x05, 0x08].contains c.op then (s.domRecAt (c.at_ 0)).map (·.dwk) else none
  { s with rsv := { s.rsv with trans := s.rsv.trans.filter (·.slot < 1080) ++ dwk.toList.map fun k => { slot := 1080, material := k } } }

/-- The command in progress, if any, completes, or goes on waiting. -/
def State.rsvComplete (s : State) : State :=
  match s.rsv.cmd with
  | none => s
  | some c => match s.rsvRun c with
    | (s, .done code) =>
      let s := if c.op = 0x0C then s.setb Reg.RSV_STAT 29 false else s
      (s.rsvFinish code).waitingUpdate 0
    | (s, .wait on) =>
      State.waitingUpdate (({ s with rsv := { s.rsv with cmd := s.rsv.cmd.map fun (c : RsvCmd) => { c with held := on } } }).holdDwk c) 0

/-! ## The domain records of the user flash region (R378) -/

/-- Where a record with the magic number `m` may begin in the user flash region, rising. -/
def State.recordsAt (s : State) (m : Nat) : List Nat :=
  (s.mem.flash.map (·.1)).filter fun o => decide (leAt (s.memBytes (0x40000000 + o) 4) 0 4 = m) && decide (s.userRegion.1 ≤ o ∧ o < s.userRegion.2)

/-- The domain records that open under the BRK. -/
def State.flashDomains (s : State) : List DomRec :=
  (s.recordsAt 0x44565352).filterMap fun o => s.rsv.brk.bind fun k => openDomRec k (s.memBytes (0x40000000 + o) 192)

/-- The generation records of a domain, the highest generation first. -/
def State.flashGens (s : State) (r : DomRec) : List (Nat × Bytes) :=
  ((s.recordsAt 0x47565352).filterMap fun o => openGenRec r.dwk (s.memBytes (0x40000000 + o) 96) r.domain).mergeSort
    fun x y => decide (y.1 ≤ x.1)

/-- The Scribe runtime issues DOM_OPEN for every domain record with its two highest generations, one after another (R378). The
device refuses them as it refuses any DOM_OPEN; RSV_RESULT shows the last (DEDUCED, log entry 58). -/
def State.bootDomains (s : State) : State :=
  if !s.rootValid || s.fld Reg.RSV_STAT 30 29 != 0 || s.rsv.cmd.isSome then s
  else s.flashDomains.foldl (fun s r => match s.flashGens r with
    | [] => s
    | g :: more =>
      let t := s.openRecords r g ((more.find? (·.1 != g.1)))
      match t.2 with
      | .done code => t.1.rsvFinish code
      | .wait _ => t.1) s

/-- ROOT_GENERATE (R326): a Scribe write of RSV_CMD with OP 0x01 and GO. -/
def execRootGenerate (v : Word) (s : State) : Result := .next (s.rsvStart 0x01 v)
/-- DOM_CREATE (R330). -/
def execDomCreate (v : Word) (s : State) : Result := .next (s.rsvStart 0x02 v)
/-- DOM_OPEN (R332). -/
def execDomOpen (v : Word) (s : State) : Result := .next (s.rsvStart 0x03 v)
/-- GEN_LOAD (R333). -/
def execGenLoad (v : Word) (s : State) : Result := .next (s.rsvStart 0x04 v)
/-- GEN_CREATE (R333). -/
def execGenCreate (v : Word) (s : State) : Result := .next (s.rsvStart 0x05 v)
/-- GEN_SWITCH (R334). -/
def execGenSwitch (v : Word) (s : State) : Result := .next (s.rsvStart 0x06 v)
/-- DOM_CLOSE (R348). -/
def execDomClose (v : Word) (s : State) : Result := .next (s.rsvStart 0x07 v)
/-- DOM_REWRITE (R330). -/
def execDomRewrite (v : Word) (s : State) : Result := .next (s.rsvStart 0x08 v)
/-- ERASE_SLOT (R330). -/
def execEraseSlot (v : Word) (s : State) : Result := .next (s.rsvStart 0x09 v)
/-- ERASE_FOLIO (R348). -/
def execEraseFolio (v : Word) (s : State) : Result := .next (s.rsvStart 0x0A v)
/-- ERASE_ALL (R348). -/
def execEraseAll (v : Word) (s : State) : Result := .next (s.rsvStart 0x0B v)
/-- REVALIDATE (R336). -/
def execRevalidate (v : Word) (s : State) : Result := .next (s.rsvStart 0x0C v)

/-! ## Waits that run out (R473, R479) -/

/-- DRBG_HOLD_EXPIRY (R479): what instance `i` has held for 10 ms fails: operations with ENGINE_FENCED, a Reservoir or
CUST command with ABORTED. -/
def execDrbgHoldExpiry (i : Nat) (s : State) : Result :=
  let held := s.ops.filter fun o => o.held == some i && o.res.isNone
  let r := i == 0 && s.rsv.cmd.any (·.held == 1)
  let c := i == 0 && s.cust.cmd.any (·.held == 1)
  if held.isEmpty && !r && !c then .next s
  else
    let s := held.foldl (fun s o => s.finish o.id St.engineFenced) s
    let s := if r then s.rsvAbort else s
    let s := if c then s.custAbort else s
    .next ((s.waitingUpdate i).raise 339)

/-- The life-cycle request in progress ends with a code (Table LCY-7). -/
def State.lcyFinish (s : State) (code : Nat) : State :=
  let s := { s with lcy := { s.lcy with req := none, fromCmd := false } }
  (s.setf Reg.LCY_CMD 31 31 0).wr Reg.LCY_RESULT (BitVec.ofNat 32 (code * 2 ^ 24))

/-- DIRECT_DRAW_TIMEOUT (R473): direct draws that have found no conditioned entropy for 10 ms: their commands end with
ABORTED, and a NONCE request leaves no nonce. -/
def execDirectDrawTimeout (s : State) : Result :=
  let s := if s.rsv.cmd.any (·.held == 2) then s.rsvAbort else s
  let s := if s.cust.cmd.any (·.held == 2) then s.custAbort else s
  let s := if s.lcy.nonceHeld then
      let s := { s with lcy := { s.lcy with nonceHeld := false, nonce := none } }
      (s.setb Reg.LCY_CMD 30 false).wr Reg.LCY_RESULT (BitVec.ofNat 32 (0x0B * 2 ^ 24))
    else s
  .next s

/-! ## Key SRAM errors (R356) and SCRUB_STEP (R801) -/

/-- An operation whose transient slot is erased has no key left. -/
def Op.loseKey (o : Op) : Op := if o.res.isNone then { o with key := .fail St.keyAbsent } else o

/-- Slot `p` holds an uncorrectable error in half `h`: it is erased, or its half emptied; what resolves to it, or reads it as its
transient slot, fails with KEY_ABSENT, and an eviction that waits for it completes (R356, R572). -/
def State.slotEccErase (s : State) (p h : Nat) : State :=
  let owners := (s.rsv.trans.filter (·.slot == p)).filterMap (·.op)
  let s := s.dropSlots (·.slot == p) St.ok
  let s := { s with ops := s.ops.map fun (o : Op) => if owners.contains o.id then o.loseKey else o
                    rsv := { s.rsv with
    trans := s.rsv.trans.filter (·.slot != p)
    doms := s.rsv.doms.map fun (e : DomEntry) => if e.idx = p then e.setHalf h 0 [] else e } }
  s.raise 353

/-- A read of word `w` of the key SRAM (eight to a slot) finds `e`. -/
def State.keyEcc (s : State) (w : Nat) (e : EccFind) : State :=
  let hit := fun (s : State) (hi lo : Nat) (b : Bool) =>
    let s := (s.incSat Reg.RSV_ECC hi lo).countEcc 0 b
    { s with rsv := { s.rsv with eccRun := s.rsv.eccRun + 1 } }
  match e with
  | .corrected _ => hit s 31 16 true
  | .uncorrectable _ => (hit s 15 0 false).slotEccErase (w / 8) (w % 8 / 4)
  | _ => s

/-- SCRUB_STEP (R801, R802): scrubber `k` (0 Scribe SRAM, 1 shared SRAM, 2 key SRAM) reads its next word. -/
def execScrubStep (k : Nat) (e : EccFind) (s : State) : Result :=
  let e := if e.inCache then .clean else e
  if 3 ≤ k ∨ !s.scrubRuns k then .next s
  else
    let w := s.mem.scrub.getD k 0
    let s := if k = 2 then s.keyEcc w e else (s.eccRead 2 ringInit ((scrubSpan k).1 + 8 * w) e).1
    .next (s.scrubAdvance k)

end Sys2Proof.Machine
end

