-- ==== Sys2Proof/Machine/Admission.lean ====
section
/-! DEFINITION. Chapter 14, the admission decision: the candidate of a class, what is reserved for it, and the resolution of its keys in
the same cycle (R21). -/

namespace Sys2Proof.Machine

/-! ## Reservations (R346, R613, R616) -/

/-- Transient slots that inline blobs hold (R346). -/
def State.transientUsed (s : State) : Nat := (s.rsv.trans.filter (·.slot < 1080)).length

/-- The lowest free transient slot for an inline blob (R346). -/
def State.freeTrans (s : State) : Option Nat :=
  (List.range 56).findSome? fun i => if s.rsv.trans.any (·.slot == 1024 + i) then none else some (1024 + i)

/-- The most output that a BSP request of these parameters can produce (Tables NIB-3, FLO-1, RNG-9). -/
def maxOutput (d : Desc) : Nat :=
  let shift := d.param0 / 8 % 32
  let chunks := max 1 ((d.dataLen + 2 ^ shift - 1) / 2 ^ shift)
  match d.opcode with
  | 0x01 => if d.param0.testBit 31 then 128 + d.dataLen + 16 * chunks else d.dataLen + 16
  | 0x02 => d.dataLen
  | 0x03 => 128 + d.dataLen
  | 0x20 => d.dataLen
  | _ => if d.param1 = 0 then 64 else d.param1

/-- The longest response frame that a request of session `x` can produce, FCS included, rounded up to 256 B (R616, R642, R656). -/
def respFrame (x : Session) (d : Desc) : Nat :=
  let ip := if x.src.v6 then 40 else 20
  (max 64 (14 + x.src.tags.length + ip + 8 + 32 + 16 + min x.frag (16 + maxOutput d) + 4) + 255) / 256 * 256

/-- The transmit reservation that a BSP operation needs; none for a ring's. -/
def State.txNeed (s : State) (o : Op) : Nat := match o.src with
  | .bsp id _ _ => ((s.session id).map fun x => respFrame x o.desc).getD 0
  | .ring _ _ => 0

/-- Bytes of port `p`'s transmit buffer reserved: by admitted operations, and by responses that wait to be sent (R616, R639). -/
def State.txHeld (s : State) (p : Nat) : Nat :=
  ((s.ops.filter fun o => o.bspPort == some p).map (·.txRes)).sum + ((s.portSt p).txq.map (·.res)).sum

/-- The resources an operation needs before it starts are there (R346, R612, R613, R616); `tx` is the size of its port's transmit buffer,
which the spec does not give. -/
def State.canStart (s : State) (o : Op) (tx : Nat) : Bool := match o.bspPort with
  | none => refKind o.desc.keyRef != 2 || s.freeTrans.isSome
  | some p =>
    let freed := ((s.cyc.of s.stime.cycle).freed.filter (·.2 == some p)).length
    s.canTag o.folio && decide (s.portTags p + freed < s.portTagCap p) && decide (s.txHeld p + s.txNeed o ≤ tx)

/-- Folio `f`'s candidate of class `c`, in the round robin of R599. -/
def State.folioCandidate (s : State) (f c : Nat) (tx : Nat) : Option Op :=
  let cs := s.candidates.filter fun o => o.folio == f && classOf o.desc.opcode == c && s.canStart o tx
  let last := Tab.get (fun _ => 16) s.sch.lastSrc (fcKey f c)
  ((List.range 17).map fun i => (last + 1 + i) % 17).findSome? fun k => cs.find? fun o => s.sourceNo o == k

/-- The candidate admitted next for class `c`, with the deficits as the choice leaves them. -/
def State.decide_ (s : State) (c : Nat) (tx : Nat) (m : HostMem) : Option (Op × State) :=
  let pick := fun f => if s.bucketsAllow f c then s.folioCandidate f c tx else none
  match pick 0 with
  | some o => some (o, s)
  | none =>
    let el := (List.range 63).filterMap fun i => (pick (i + 1)).map fun o => (i + 1, o)
    let rs := el.map fun p => (p.1, rounds (opCost m p.2) (s.deficit p.1 c) (s.quantum c * s.weight p.1 c))
    match fewestRounds rs (s.sch.lastFolio.getD c 63) with
    | none => none
    | some (f, r) =>
      match el.find? (·.1 == f) with
      | none => none
      | some (_, o) =>
        let s := el.foldl (fun s p => s.setDeficit p.1 c (s.deficit p.1 c + (r * s.quantum c * s.weight p.1 c : Nat))) s
        let s := s.setDeficit f c (s.deficit f c - opCost m o)
        some (o, { s with sch := { s.sch with lastFolio := s.sch.lastFolio.set c f } })

/-! ## Key resolution at admission (R21, R342, R343, R402, R431) -/

/-- The usage bit an opcode needs of its KEY_REF (Table RSV-9). -/
def needOf (d : Desc) : Option Nat := match d.opcode with
  | 0x01 => some 0
  | 0x02 => some 1
  | 0x03 => some 2
  | 0x11 => some (if d.param0.testBit 31 then 5 else 4)
  | 0x12 => some (if d.param0.testBit 31 then 5 else 4)
  | 0x33 => some 6
  | 0x34 => some 7
  | 0x40 => some 4
  | 0x43 => some 8
  | 0x44 => some 6
  | _ => none

/-- The key types an opcode takes (R402, R436, R454, Table RNG-10); 0 is a domain data key. -/
def typeOk (d : Desc) (t : Nat) : Bool := match d.opcode with
  | 0x01 => t == 0 || t == Kt.sym
  | 0x02 => t == 0 || t == Kt.sym
  | 0x03 => t == 0 || t == Kt.sym
  | 0x11 => t == Kt.mac
  | 0x12 => t == Kt.mac
  | 0x33 => t == Kt.kdk
  | 0x40 => t == (if d.param0 % 256 = 1 then Kt.mldsa else Kt.p384)
  | 0x43 => t == Kt.mlkem
  | 0x44 => t == Kt.p384
  | _ => true

def KeyRes.typed (d : Desc) (k : KeyRes) : KeyRes := match k with
  | .key x => if typeOk d x.type then .key x else .fail St.denied
  | r => r

/-- Read the inline blob of a kind 10 reference: the blob, or the status that stops the operation. It carries no Relaxed Ordering, which
R497 does not name for it. -/
def State.readBlob (s : State) (m : HostMem) (e : Nat) (o : Op) : State × Bytes × Option Nat :=
  if wraps o.desc.aux 160 then (s, [], some St.badAddress)
  else s.hostRead m { s.opCtx o (readInit e) with ro := false } o.desc.aux 160

/-- What operation `o` asks of its key, where its opcode takes one and its control word holds. -/
def Op.keyAsk (o : Op) : Option KeyAsk :=
  if !ctlOk o.desc then none
  else (needOf o.desc).map fun need =>
    { folio := o.folio, ref := o.desc.keyRef, domain := o.desc.domain, need, dataOk := decide (o.desc.opcode ≤ 3)
      inlineOk := o.bspPort.isNone }

/-- The operation carries an inline blob that is read at its admission. -/
def Op.takesBlob (o : Op) : Bool := o.keyAsk.any fun a => refKind a.ref == 2 && refShape a == none

/-- The key of an operation, and the destination's of a TRANSCRIBE, by the access lists and domains as they stand (R342, R343). -/
def State.resolveKeys (s : State) (o : Op) (ask : KeyAsk) : KeyRes × KeyRes :=
  let d := o.desc
  let later := d.param0.testBit 30 && d.aadLen == (if d.opcode = 3 then 272 else 144)
  let fromHeader := d.opcode == 3 || (d.opcode == 2 && d.param0.testBit 31) || (d.opcode == 1 && later)
  ((s.resolveKey ask o.blob fromHeader).typed d,
   if d.opcode ≠ 3 then .none
   else if d.param0.testBit 28 then (s.resolveKey { ask with ref := d.param1, need := 3, inlineOk := false } [] later).typed d
   else if refKind d.keyRef = 1 then (s.resolveKey { ask with need := 3 } [] later).typed d
   else .fail St.denied)

/-- The word of the key SRAM that a resolved key is read at. -/
def State.keyWord (s : State) (o : Op) (k : Key) : Option Nat := match k.kind with
  | 0 => (s.slotAt o.folio k.handle).map fun q => 8 * q.slot
  | 1 => (s.domAt k.domain).map fun e => 8 * e.idx + 4 * e.cur
  | _ => (s.rsv.trans.find? (·.op == some o.id)).map fun t => 8 * t.slot

/-- The transient slot of operation `o` holds the material of its inline blob. -/
def State.fillTrans (s : State) (o : Op) (material : Bytes) : State :=
  { s with rsv := { s.rsv with trans := s.rsv.trans.map fun t => if t.op = some o.id then { t with material } else t } }

/-- The keys that operation `o` resolves to; the read of the first one's slot finds `find` (R356). -/
def State.withKeys (s : State) (o : Op) (ask : KeyAsk) (find : EccFind) : State × Op :=
  let k := s.resolveKeys o ask
  match k.1 with
  | .key x =>
    let s := if x.kind = 2 then s.fillTrans o x.material else s
    match s.keyWord o x with
    | none => (s, { o with key := k.1, key2 := k.2 })
    | some w =>
      let s := s.keyEcc w find
      (s, { o with key := match find with | .uncorrectable _ => .fail St.keyAbsent | _ => k.1, key2 := k.2 })
  | _ => (s, { o with key := k.1, key2 := k.2 })

/-- Resolve the keys of an operation as engine `e` admits it; none while the inline blob's read waits for a translation. -/
def State.resolveOp (s : State) (m : HostMem) (e : Nat) (o : Op) (find : EccFind) : State × Option Op :=
  match o.keyAsk with
  | none => (s, some o)
  | some ask =>
    if !o.takesBlob then
      let r := s.withKeys o ask find
      (r.1, some r.2)
    else match s.readBlob m e o with
      | (s, b, none) =>
        let r := s.withKeys { o with blob := b } ask find
        (r.1, some r.2)
      | (s, _, some st) => (s, if st = St.wait then none else some { o with key := .fail st })

/-- A transient slot is reserved for an operation with a kind 10 reference (R346). -/
def State.takeTrans (s : State) (o : Op) : State :=
  match if refKind o.desc.keyRef = 2 ∧ o.bspPort.isNone then s.freeTrans else none with
  | some p => { s with rsv := { s.rsv with trans := s.rsv.trans ++ [{ slot := p, op := some o.id, material := [] }] } }
  | none => s

/-- Note an admission of this cycle (R518). -/
def State.noteAdmitted (s : State) (id : Nat) : State :=
  let c := s.cyc.of s.stime.cycle
  { s with cyc := { c with admitted := id :: c.admitted } }

/-- The access list of folio `f` changes: the operations of the folio admitted in this cycle, and not begun, see it as it stands now
(R518). -/
def State.aclChanged (s : State) (f : Nat) : State :=
  let now := (s.cyc.of s.stime.cycle).admitted
  { s with ops := s.ops.map fun (o : Op) =>
    match if o.folio == f && now.contains o.id && o.res.isNone && o.job.isNone then o.keyAsk else none with
    | some ask =>
      let k := s.resolveKeys o ask
      { o with key := if o.takesBlob && o.blob.isEmpty then o.key else k.1, key2 := k.2 }
    | none => o }

/-- The position in KEY_OPS at which an opcode is counted (Table COL-4). -/
def keyOpClass (opcode : Nat) : Nat := match opcode with
  | 0x01 => 0
  | 0x02 => 1
  | 0x03 => 2
  | 0x10 | 0x11 | 0x12 => 3
  | 0x40 => 4
  | 0x41 => 5
  | 0x42 | 0x43 => 6
  | 0x44 => 7
  | 0x32 => 8
  | 0x33 | 0x34 => 9
  | 0x30 | 0x31 => 10
  | _ => 11

/-- ADMISSION (R21, R72, R343, R346, R356, R597 to R605, R616, R622): one decision of class `c`, for engine `e`. `tx` is the size of the
transmit buffer of the port at which a BSP request arrived; `x` gives what the read of the key's slot finds, and the host's answers for an
inline blob. In a low-power state the idle engines are gated: the device leaves it first. -/
def execAdmission (c e tx : Nat) (x : AdmitEnv) (s : State) : Result :=
  if !s.strokes.due.isEmpty ∨ 6 ≤ c then .next s
  else if s.fld Reg.PWR_STAT 2 0 ≠ 0 then .next (if s.candidates.isEmpty then s else s.exitBegin)
  else
    let s := s.dropCredit
    if !s.classServed c then
      .next ((s.candidates.filter fun o => classOf o.desc.opcode == c).foldl (fun s o => s.finish o.id St.engineFenced) s)
    else if !s.engineFree c e then .next s
    else match s.decide_ c tx x.mem with
      | none => .next s
      | some (o, t) =>
        let t := t.debit o.folio c (o.desc.dataLen + o.desc.aadLen)
        let t := { t with sch := { t.sch with lastSrc := Tab.set (fun _ => 16) t.sch.lastSrc (fcKey o.folio c) (t.sourceNo o) } }
        let o := { o with at_ := .run e, tag := true, cost := opCost x.mem o, txRes := t.txNeed o }
        match ((t.takeTrans o).setOp o).resolveOp x.mem e o x.find with
        | (t, none) => .next (s.xlWait t)
        | (t, some o) => .next ((((t.setOp o).countKeyOp (keyOpClass o.desc.opcode)).noteAdmitted o.id).tagNote.dropCredit)

end Sys2Proof.Machine
end

