-- ==== Sys2Proof/Machine/Custodians.lean ====
section
/-! DEFINITION. Chapter 09, custodians: ceremonies, enrolment, succession, restoration and handover. -/

namespace Sys2Proof.Machine

/-! ## Ceremony slots (R368 to R376) -/

/-- Requests of 168 bytes (Table CUS-3). -/
def requestRecord (serial : Nat) (nonce : Bytes) (action required domain : Nat) (members : Word) (expires : Nat)
    (params ek : Bytes) : Bytes :=
  slice (ascii "BN96-CEREMONY") 0 16 ++ leBytes 8 serial ++ slice nonce 0 32 ++ leBytes 1 action ++ leBytes 1 required ++
    leBytes 2 domain ++ leBytes 4 members.toNat ++ leBytes 8 expires ++ sha384 params ++
    (if ek.isEmpty then zeros 48 else sha384 ek)

def State.cerCounted (s : State) (n : Nat) : Word := s.rd (Reg.CUST_CER_COUNTED n)
def State.cerRequired (s : State) (n : Nat) : Nat := s.fld (Reg.CUST_CER_STAT n) 23 20

/-- The counted members reach REQUIRED and every candidate is counted (R373). -/
def State.cerMet (s : State) (n : Nat) : Bool :=
  let c := s.cerSlot n
  let k := s.cerCounted n
  decide (s.cerRequired n ≤ maskCount (k &&& c.members)) && c.candidates &&& ~~~k == 0

/-- Bring COUNT and the state of an open or satisfied slot up to date (R373, R392 to R394). -/
def State.cerUpdate (s : State) (n : Nat) : State :=
  let r := Reg.CUST_CER_STAT n
  let s := s.setf r 29 24 (maskCount (s.cerCounted n))
  match s.cerState n with
  | 1 => if s.cerMet n && !s.cerPast n then (s.setf r 31 30 2).raise 360 else s
  | 2 => if s.cerMet n then s else s.setf r 31 30 1
  | _ => s

/-- CEREMONY_EXPIRY (R376). -/
def execCeremonyExpiry (s : State) : Result := .next s.cerExpireAll

/-- A write of CUST_CMD with GO and operation `op`: the command starts, or finds another in progress (R368, R11). -/
def State.custStart (s : State) (op : Nat) (v : Word) : State :=
  if s.cust.cmd.isSome then
    (s.wr Reg.CUST_CMD ((setFieldOf v 7 0 op &&& 0x000300FF#32) ||| 0x80000000#32)).setf Reg.CUST_RESULT 31 24 0x01
  else
    let s := s.cerExpireAll
    let c : CustCmd :=
      { op, slot := fieldOf v 17 16, addr := (List.range 3).map fun i => (s.rd64 (Reg.CUST_ADDR i)).toNat % 2 ^ 40
        arg := s.rd Reg.CUST_ARG, window := s.fld Reg.CUST_WINDOW 16 0, members := s.rd Reg.CUST_MEMBERS
        candidates := s.rd Reg.CUST_CANDIDATES }
    (({ s with cust := { s.cust with cmd := some c } }).wr Reg.CUST_CMD
      ((setFieldOf v 7 0 op &&& 0x000300FF#32) ||| 0x80000000#32)).setb Reg.CUST_RESULT 23 true

def CustCmd.at_ (c : CustCmd) (i : Nat) : Nat := c.addr.getD i 0

/-! ## CER_OPEN (R369, R370) -/

/-- Offsets of a parameter record that an action uses beside ACTION, DOMAIN and reserved bytes (Table CUS-2). -/
def paramUses (action o : Nat) : Bool :=
  let f := fun (l : List Nat) => l.contains action
  if o = 0 then true
  else if o = 1 then f [1, 2, 4, 5]
  else if o < 4 then decide (action ≤ 6)
  else if o = 4 then f [8, 9, 10, 11, 12]
  else if o = 5 then f [1, 5, 6]
  else if o < 8 then false
  else if o < 0x10 then f [4, 5]
  else if o < 0x18 then f [1, 2, 5]
  else if o < 0x48 then f [2, 4, 6, 7, 8, 9, 10]
  else if o < 0x78 then f [8]
  else f [1, 5, 6]

/-- The record binds the action and domain of CUST_ARG, and the fields its action does not use are 0 (R365, R369). -/
def paramsOk (p : Bytes) (arg : Word) : Bool :=
  let a := leAt p 0 1
  a == fieldOf arg 31 24 && paramDomain p == fieldOf arg 15 0 && decide (1 ≤ a ∧ a ≤ 12) &&
    (p.zipIdx).all (fun b => paramUses a b.2 || b.1 == 0) && (!(a == 10 || a == 11) || decide (paramIndex p < 32))

/-- MEMBER_MASK, REQUIRED and CANDIDATE_MASK of a new ceremony; none for LIMIT (R369). -/
def State.cerMasks (s : State) (c : CustCmd) (p : Bytes) : Option (Word × Nat × Word) :=
  let a := fieldOf c.arg 31 24
  if a ≤ 6 then
    let req := fieldOf c.arg 23 20
    let n := maskCount c.members
    let cand := if a = 2 then c.candidates else 0
    if 2 ≤ req ∧ req ≤ n ∧ n ≤ 8 ∧ c.members &&& ~~~s.activeMask = 0 ∧ cand &&& ~~~(s.activeMask &&& ~~~c.members) = 0 then
      some (c.members, req, cand)
    else none
  else if a = 10 then some (s.activeMask, if s.bootstrap then 0 else s.devM, BitVec.ofNat 32 (2 ^ paramIndex p))
  else some (s.activeMask, s.devM, 0)

/-- The action makes an ephemeral ML-KEM key (R370). -/
def needsEk (action : Nat) : Bool := action == 5 || action == 6

/-- The SRAM ranges a CUST command names lie in SRAM and pass their units (R276); otherwise the command ends with ADDRESS. -/
def State.custRanges (s : State) (l : List (Nat × Nat × AccKind)) : State × Bool :=
  if l.any fun r => !inSram r.1 r.2.1 then (s, false) else s.ruleRanges l

def State.custOpen (s : State) (c : CustCmd) : State × CmdEnd :=
  let a := fieldOf c.arg 31 24
  if s.cerState c.slot ≠ 0 then (s, .done 0x02)
  else
  let r := s.custRanges ([(c.at_ 0, 216, .read), (c.at_ 2, 168, .write)] ++ (if needsEk a then [(c.at_ 1, 1568, .write)] else []))
  let s := r.1
  if !r.2 then (s, .done 0x0F)
  else match s.keyRead (c.at_ 0) 216 with
    | none => (s, .done 0x0A)
    | some p =>
      if !paramsOk p c.arg then (s, .done 0x0A)
      else match s.cerMasks c p with
        | none => (s, .done 0x0D)
        | some (members, req, cand) =>
          if !s.timeValid then (s, .done 0x03)
          else if c.window < 60 ∨ 86400 < c.window then (s, .done 0x0D)
          else if needsEk a && !s.flourishUp then (s, .done 0x0E)
          else if !s.entropyOk then (s, .wait 2)
          else if needsEk a && !s.drbgReady 0 then (s, .wait 1)
          else
            let (nonce, s) := s.freshBytes 32
            let (seeds, s) := if needsEk a then s.drbgDraw 0 64 else ([], s)
            let ek := if needsEk a then kemPublic seeds else []
            let expires := s.ns + c.window * 10 ^ 9
            let rec_ := requestRecord s.otp.serial nonce a req (fieldOf c.arg 15 0) members expires p ek
            let s := if needsEk a then s.keyWrite (c.at_ 1) ek else s
            let s := s.keyWrite (c.at_ 2) rec_
            let s := s.setCer c.slot { members := members, candidates := cand, params := p, record := rec_, ek := ek
                                       seeds := seeds, bootstrap := a == 10 && s.bootstrap }
            let s := s.wr (Reg.CUST_CER_STAT c.slot) (BitVec.ofNat 32 (2 ^ 30 + req * 2 ^ 20 + a * 2 ^ 8))
            let s := s.wr (Reg.CUST_CER_COUNTED c.slot) 0
            (s.wr64 (Reg.CUST_CER_EXPIRES c.slot) (BitVec.ofNat 64 expires), .done 0)

/-! ## CER_COUNT (R371 to R374) -/

/-- The checks of Table CUS-5 on record `b`: the custodian counted, or the code of the first failure. -/
def State.countCheck (s : State) (n : Nat) (b : Bytes) : Except Nat Nat :=
  let c := s.cerSlot n
  let i := leAt b 4 1
  let m := s.cerState n
  if m = 3 ∨ (m ≠ 0 ∧ s.cerPast n) then .error 0x04
  else if m = 0 then .error 0x02
  else if leAt b 0 4 ≠ 0x47495343 ∨ leAt b 5 1 ≠ n ∨ leAt b 6 2 ≠ 0 ∨ leAt b 0x228B 1 ≠ 0 then .error 0x13
  else if 32 ≤ i ∨ !(c.members.getLsbD i || c.candidates.getLsbD i) then .error 0x05
  else
    let keys := slice b 0x38 4160
    let cand := s.cerAction n == 10 && c.candidates.getLsbD i
    let digest := if cand then paramDigestA c.params else (s.custRow i).digest
    let req := sha384 c.record
    if sha384 keys ≠ digest ∨ slice b 8 48 ≠ req ∨
        !mldsaVerify (keys.take 2592) (slice b 0x1078 4627) (ascii "BN96-COUNTERSIGN") req then .error 0x08
    else if (s.cerCounted n).getLsbD i then .error 0x07
    else .ok i

def State.custCount (s : State) (c : CustCmd) : State × CmdEnd :=
  let r := s.custRanges ([(c.at_ 0, 8844, .read)])
  let s := r.1
  if !r.2 then (s, .done 0x0F)
  else if !s.flourishUp then (s, .done 0x0E)
  else match s.countCheck c.slot ((s.keyRead (c.at_ 0) 8844).getD []) with
    | .ok i => ((s.wr (Reg.CUST_CER_COUNTED c.slot) (s.cerCounted c.slot ||| BitVec.ofNat 32 (2 ^ i))).cerUpdate c.slot, .done 0)
    | .error code => (if code = 0x07 then s else s.raise 362, .done code)

/-! ## Enrolment (R388 to R391, R398) -/

def State.setRow (s : State) (i : Nat) (r : CustRow) : State := { s with otp := { s.otp with rows := s.otp.rows.set i r } }

/-- The first `n` bits of a digest, in ascending bit order: what a programming stopped there has written. -/
def bitsBelow (b : Bytes) (n : Nat) : Bytes :=
  (b.zipIdx).map fun x => if 8 * x.2 + 8 ≤ n then x.1 else if n ≤ 8 * x.2 then 0 else x.1 &&& BitVec.ofNat 8 (2 ^ (n - 8 * x.2) - 1)

/-- A row holds a set bit (R362). -/
def CustRow.used (r : CustRow) : Bool := r.enrolled || r.revoked || r.digest.any (· != 0)

/-- ENROL (R389); `fail` is how many bits were programmed before one failed. -/
def State.custEnrol (s : State) (c : CustCmd) (fail : Option Nat) : State × CmdEnd :=
  let p := (s.cerSlot c.slot).params
  let i := paramIndex p
  if (s.custRow i).used then (s, .done 0x0C)
  else match fail with
    | some n => ((s.cerFree c.slot).setRow i { digest := bitsBelow (paramDigestA p) n }, .done 0x10)
    | none =>
      let was := s.bootstrap
      let s := (s.cerFree c.slot).setRow i { digest := paramDigestA p, enrolled := true }
      let s := if was && !s.bootstrap then
          (List.range 4).foldl (fun s n => if (s.cerSlot n).bootstrap then s.cerFree n else s) s
        else s
      (s.raise 363, .done 0)

/-- A revoked row leaves every open slot (R393). -/
def State.cerForget (s : State) (i : Nat) : State :=
  let keep : Word := ~~~(BitVec.ofNat 32 (2 ^ i))
  (List.range 4).foldl (fun s n =>
    if s.cerState n = 1 ∨ s.cerState n = 2 then
      let c := s.cerSlot n
      let s := s.setCer n { c with members := c.members &&& keep, candidates := c.candidates &&& keep }
      (s.wr (Reg.CUST_CER_COUNTED n) (s.cerCounted n &&& keep)).cerUpdate n
    else s) s

/-- REVOKE (R390, R393). -/
def State.custRevoke (s : State) (c : CustCmd) (fail : Option Nat) : State × CmdEnd :=
  let i := paramIndex (s.cerSlot c.slot).params
  if maskCount (s.activeMask &&& ~~~(BitVec.ofNat 32 (2 ^ i))) < s.devM then (s, .done 0x0D)
  else if fail.isSome then (s.cerFree c.slot, .done 0x10)
  else
    let s := (s.cerFree c.slot).setRow i { s.custRow i with revoked := true }
    ((s.cerForget i).raise 363, .done 0)

/-- Set bits of DEVM in ascending order until `n` more are set. -/
def devmRaise (v : BitVec 8) (n : Nat) : BitVec 8 :=
  ((List.range 8).foldl (fun p i => if p.2 = 0 ∨ p.1.getLsbD i then p else (p.1 ||| BitVec.ofNat 8 (2 ^ i), p.2 - 1)) (v, n)).1

/-- DEVM_RAISE (R391, R394). -/
def State.custDevm (s : State) (c : CustCmd) (fail : Option Nat) : State × CmdEnd :=
  let t := paramIndex (s.cerSlot c.slot).params
  if t ≤ s.devM ∨ 8 < t ∨ maskCount s.activeMask < t then (s, .done 0x0D)
  else
    let n := t - ((List.range 8).filter s.otp.devm.getLsbD).length
    let s := s.cerFree c.slot
    let s := { s with otp := { s.otp with devm := devmRaise s.otp.devm (match fail with
      | some k => min k n
      | none => n) } }
    let s := (List.range 4).foldl (fun s n =>
      if (s.cerState n = 1 ∨ s.cerState n = 2) ∧ 7 ≤ s.cerAction n then
        (s.setf (Reg.CUST_CER_STAT n) 23 20 (max (s.cerRequired n) s.devM)).cerUpdate n
      else s) s
    (s, .done (if fail.isSome then 0x10 else 0))

/-! ## Succession, restoration, handover (R381 to R387) -/

/-- SUCC_BUILD (R381). -/
def State.custBuild (s : State) (c : CustCmd) : State × CmdEnd :=
  let p := (s.cerSlot c.slot).params
  let n := paramQuorum p % 16
  let r := s.custRanges ([(c.at_ 0, 192, .read), (c.at_ 1, packageLen n, .write), (c.at_ 2, 4160 * n, .read)])
  let s := r.1
  if !r.2 then (s, .done 0x0F)
  else match s.domRecAt (c.at_ 0), s.keyRead (c.at_ 1) 0xC0, s.keyRead (c.at_ 2) (4160 * n) with
    | some r, some old, some kb =>
      let keys := memberKeys kb n
      if packageDigest old ≠ paramDigestA p ∨ r.domain ≠ paramDomain p then (s, .done 0x0B)
      else if !s.membersOk (paramMembers p) keys then (s, .done 0x08)
      else if !s.flourishUp then (s, .done 0x0E)
      else if !s.drbgReady 0 then (s, .wait 1)
      else
        let (b, s) := s.buildPackage (paramQuorum p) r.domain (leAt old 0x0C 4 + 1) (paramMembers p) r.dwk keys
        (((s.keyWrite (c.at_ 1) b).cerFree c.slot).notePackage r.domain (paramQuorum p / 16) (paramMembers p), .done 0)
    | _, _, _ => (s, .done 0x08)

/-- The share that a delivery record carries (R383). -/
def openShare (slot : CerSlot) (b : Bytes) : Option Bytes :=
  let ss := kemDecaps slot.seeds (slice b 8 1568)
  let kek := rsvKdf ss "BN96-RESTORE" (beBytes 2 (leAt slot.record 0x3A 2) ++ beBytes 1 (leAt b 5 1) ++ slice slot.record 0x18 32) 32
  aeadOpen 2 kek (slice b 0x648 12) (slice b 0 8 ++ sha384 slot.record) (slice b 0x628 32) (slice b 0x654 16)

/-- RESTORE_SHARE (R382, R383, R397). -/
def State.custShare (s : State) (c : CustCmd) : State × CmdEnd :=
  let slot := s.cerSlot c.slot
  let st := s.cerState c.slot
  if st = 3 ∨ (st ≠ 0 ∧ s.cerPast c.slot) then (s, .done 0x04)
  else if st = 0 ∨ s.cerAction c.slot ≠ 6 then (s, .done 0x02)
  else
  let r := s.custRanges ([(c.at_ 0, 1640, .read), (c.at_ 1, 0xC0, .read)])
  let s := r.1
  if !r.2 then (s, .done 0x0F)
  else match s.keyRead (c.at_ 0) 1640, s.keyRead (c.at_ 1) 0xC0 with
    | some b, some pkg =>
      let i := leAt b 4 1
      let x := leAt b 5 1
      if leAt b 0 4 ≠ 0x44524853 ∨ leAt b 6 2 ≠ 0 ∨ leAt b 0x664 4 ≠ 0 then (s, .done 0x13)
      else if 32 ≤ i ∨ !(s.cerCounted c.slot).getLsbD i then (s, .done 0x05)
      else if x = 0 ∨ 8 < x ∨ leAt pkg (0x1F + x) 1 ≠ i then (s, .done 0x0B)
      else if slot.shares.any (·.1 == x) then (s, .done 0x07)
      else if !s.flourishUp then (s, .done 0x0E)
      else match openShare slot b with
        | none => (s, .done 0x08)
        | some y => (s.setCer c.slot { slot with shares := slot.shares ++ [(x, y)] }, .done 0)
    | _, _ => (s, .done 0x08)

/-- RESTORE_FINISH (R384, R397). -/
def State.custRestore (s : State) (c : CustCmd) : State × CmdEnd :=
  let slot := s.cerSlot c.slot
  let r := s.custRanges ([(c.at_ 0, 0xC0, .read), (c.at_ 1, 192, .write)])
  let s := r.1
  if !r.2 then (s, .done 0x0F)
  else match s.keyRead (c.at_ 0) 0xC0 with
    | none => (s, .done 0x08)
    | some pkg =>
      let m := leAt pkg 6 1 / 16
      if packageDigest pkg ≠ paramDigestA slot.params then (s, .done 0x0B)
      else if (s.domAt (leAt pkg 8 2)).isSome then (s, .done 0x15)
      else if slot.shares.length < m then (s, .done 0x08)
      else match unwrapRecord (shamirJoin (slot.shares.take m)) pkg 0x80 32 with
        | none => (s, .done 0x08)
        | some dwk =>
          if !s.drbgReady 0 then (s, .wait 1)
          else
            let s := s.writeDomRec (c.at_ 1) { domain := leAt pkg 8 2, quorum := leAt pkg 6 1, pol0 := paramPolicy0 slot.params
                                               pol1 := paramPolicy1 slot.params, dwk := dwk }
            ((s.cerFree c.slot).notePackage (leAt pkg 8 2) m (slice pkg 0x20 8), .done 0)

def handoverKey (ss : Bytes) (domain pred succ : Nat) : Bytes :=
  rsvKdf ss "BN96-HANDOVER" (beBytes 2 domain ++ beBytes 8 pred ++ beBytes 8 succ) 32

/-- HANDOVER_EXPORT (R386). -/
def State.custExport (s : State) (c : CustCmd) : State × CmdEnd :=
  let p := (s.cerSlot c.slot).params
  let r := s.custRanges ([(c.at_ 0, 192, .read), (c.at_ 1, 1568, .read), (c.at_ 2, 1712, .write)])
  let s := r.1
  if !r.2 then (s, .done 0x0F)
  else match s.domRecAt (c.at_ 0), s.keyRead (c.at_ 1) 1568 with
    | some r, some ek =>
      if r.domain ≠ paramDomain p ∨ sha384 ek ≠ paramDigestA p then (s, .done 0x0B)
      else if !s.flourishUp then (s, .done 0x0E)
      else if !s.drbgReady 0 then (s, .wait 1)
      else
        let (rnd, s) := s.drbgDraw 0 32
        let (nonce, s) := s.drbgDraw 0 12
        let k := kemEncaps ek rnd
        let head := leBytes 4 0x56444E48 ++ leBytes 2 1 ++ leBytes 1 r.quorum ++ [0] ++ leBytes 2 r.domain ++ zeros 6 ++
          leBytes 8 s.otp.serial ++ leBytes 8 (paramSerial p) ++ sha384 ek
        let w := aeadSeal 2 (handoverKey k.2 r.domain s.otp.serial (paramSerial p)) nonce head r.dwk
        ((s.keyWrite (c.at_ 2) (head ++ k.1 ++ w.1 ++ nonce ++ w.2 ++ zeros 4)).cerFree c.slot, .done 0)
    | _, _ => (s, .done 0x08)

/-- HANDOVER_IMPORT (R387, R397). -/
def State.custImport (s : State) (c : CustCmd) : State × CmdEnd :=
  let slot := s.cerSlot c.slot
  let p := slot.params
  let r := s.custRanges ([(c.at_ 0, 1712, .read), (c.at_ 1, 192, .write)])
  let s := r.1
  if !r.2 then (s, .done 0x0F)
  else match s.keyRead (c.at_ 0) 1712 with
    | none => (s, .done 0x08)
    | some b =>
      let domain := leAt b 8 2
      if leAt b 0 4 ≠ 0x56444E48 ∨ leAt b 4 2 ≠ 1 ∨ leAt b 7 1 ≠ 0 ∨ slice b 10 6 ≠ zeros 6 ∨ leAt b 0x6AC 4 ≠ 0 then
        (s, .done 0x13)
      else if leAt b 0x18 8 ≠ s.otp.serial ∨ leAt b 0x10 8 ≠ paramSerial p ∨ domain ≠ paramDomain p ∨
          leAt b 6 1 ≠ paramQuorum p ∨ slice b 0x20 48 ≠ sha384 slot.ek then (s, .done 0x0B)
      else if (s.domAt domain).isSome then (s, .done 0x15)
      else if !s.flourishUp then (s, .done 0x0E)
      else
        let ss := kemDecaps slot.seeds (slice b 0x50 1568)
        match aeadOpen 2 (handoverKey ss domain (leAt b 0x10 8) (leAt b 0x18 8)) (slice b 0x690 12) (slice b 0 0x50)
            (slice b 0x670 32) (slice b 0x69C 16) with
        | none => (s, .done 0x08)
        | some dwk =>
          if !s.drbgReady 0 then (s, .wait 1)
          else
            let s := s.writeDomRec (c.at_ 1) { domain := domain, quorum := leAt b 6 1, pol0 := paramPolicy0 p
                                               pol1 := paramPolicy1 p, dwk := dwk }
            ((s.cerFree c.slot).notePackage domain (paramQuorum p / 16) (paramMembers p), .done 0)

/-! ## Completion -/

/-- The action a consuming command consumes (Table CUS-1). -/
def consumes (op : Nat) : Option Nat := match op with
  | 0x01 => some 10
  | 0x02 => some 11
  | 0x03 => some 12
  | 0x20 => some 2
  | 0x23 => some 6
  | 0x24 => some 4
  | 0x25 => some 5
  | _ => none

/-- The command needs KDR (R142). -/
def needsKdr (op : Nat) : Bool := [0x20, 0x23, 0x24, 0x25].contains op

/-- What stops a command before its own checks: a debug session, a state without KDR, a slot that is not satisfied for it,
a missing BRK (R142, R396, R397). -/
def State.custCheck (s : State) (c : CustCmd) : Option Nat :=
  let life := s.fld Reg.LCY_STATE 3 0
  if c.op ≠ 0x12 ∧ s.bit Reg.LCY_STATE 10 then some 0x12
  else if (consumes c.op).any (fun a => s.cerState c.slot != 2 || s.cerAction c.slot != a) then some 0x14
  else if needsKdr c.op && !s.rootValid then some 0x11
  else if needsKdr c.op && (life == 5 || life == 6) then some 0x12
  else none

/-- The effect of the command in progress, and how it ends. -/
def State.custRun (s : State) (c : CustCmd) (otpFail : Option Nat) : State × CmdEnd :=
  match s.custCheck c with
  | some code => (s, .done code)
  | none => match c.op with
    | 0x10 => s.custOpen c
    | 0x11 => s.custCount c
    | 0x12 => if s.cerState c.slot = 0 then (s, .done 0x02) else (s.cerFree c.slot, .done 0)
    | 0x01 => s.custEnrol c otpFail
    | 0x02 => s.custRevoke c otpFail
    | 0x03 => s.custDevm c otpFail
    | 0x20 => s.custBuild c
    | 0x22 => s.custShare c
    | 0x23 => s.custRestore c
    | 0x24 => s.custExport c
    | 0x25 => s.custImport c
    | _ => (s, .done 0x13)

/-- CUST_COMMAND_COMPLETE: the command in progress completes, or goes on waiting. `otpFail` tells, for an OTP write, how
many bits were programmed before one failed verification three times (R398). -/
def execCustCommandComplete (otpFail : Option Nat) (s : State) : Result :=
  match s.cust.cmd with
  | none => .next s
  | some c => .next (match s.custRun c otpFail with
    | (s, .done code) => (s.custFinish c.op code).waitingUpdate 0
    | (s, .wait on) => ({ s with cust := { s.cust with cmd := some { c with held := on } } }).waitingUpdate 0)

/-- The parameter record asks for a revocation that the Scribe runtime opens no ceremony for (R390). -/
def State.cerBarred (s : State) (p : Bytes) : Bool := leAt p 0 1 == 11 && s.revokeBarred (paramIndex p)

/-- CER_OPEN (R369): a Scribe write of CUST_CMD with OP 0x10 and GO. The Scribe runtime makes none that R390 bars: then nothing
changes (DEDUCED, log entry 58). -/
def execCerOpen (v : Word) (s : State) : Result :=
  .next (if s.cerBarred (s.memBytes ((s.rd64 (Reg.CUST_ADDR 0)).toNat % 2 ^ 40) 216) then s else s.custStart 0x10 v)
/-- CER_COUNT (R372). -/
def execCerCount (v : Word) (s : State) : Result := .next (s.custStart 0x11 v)
/-- CER_CLOSE (R375). -/
def execCerClose (v : Word) (s : State) : Result := .next (s.custStart 0x12 v)
/-- ENROL (R389). -/
def execEnrol (v : Word) (s : State) : Result := .next (s.custStart 0x01 v)
/-- REVOKE (R390). -/
def execRevoke (v : Word) (s : State) : Result := .next (s.custStart 0x02 v)
/-- DEVM_RAISE (R391). -/
def execDevmRaise (v : Word) (s : State) : Result := .next (s.custStart 0x03 v)
/-- SUCC_BUILD (R381). -/
def execSuccBuild (v : Word) (s : State) : Result := .next (s.custStart 0x20 v)
/-- RESTORE_SHARE (R382). -/
def execRestoreShare (v : Word) (s : State) : Result := .next (s.custStart 0x22 v)
/-- RESTORE_FINISH (R384). -/
def execRestoreFinish (v : Word) (s : State) : Result := .next (s.custStart 0x23 v)
/-- HANDOVER_EXPORT (R386). -/
def execHandoverExport (v : Word) (s : State) : Result := .next (s.custStart 0x24 v)
/-- HANDOVER_IMPORT (R387). -/
def execHandoverImport (v : Word) (s : State) : Result := .next (s.custStart 0x25 v)

end Sys2Proof.Machine
end

