-- ==== Sys2Proof/Machine/BspIn.lean ====
section
/-! DEFINITION. Chapter 15, what the device receives over BSP: handshakes, requests, handover, and the tenant table. -/

namespace Sys2Proof.Machine

/-! ## Headers (Table NET-3) -/

def BspDatagram.type (d : BspDatagram) : Nat := beAt d.hdr 3 1
def BspDatagram.session (d : BspDatagram) : Nat := beAt d.hdr 4 4
def BspDatagram.seq (d : BspDatagram) : Nat := beAt d.hdr 8 8
def BspDatagram.tenant (d : BspDatagram) : Nat := beAt d.hdr 16 3
def BspDatagram.opcode (d : BspDatagram) : Nat := beAt d.hdr 19 1
def BspDatagram.status (d : BspDatagram) : Nat := beAt d.hdr 22 2
def BspDatagram.reqId (d : BspDatagram) : Nat := beAt d.hdr 24 4
def BspDatagram.last (d : BspDatagram) : Bool := (beAt d.hdr 28 4).testBit 31
def BspDatagram.index (d : BspDatagram) : Nat := beAt d.hdr 28 4 % 2 ^ 20

/-- The datagram at the front, when its type is one of `types`; it leaves the queue. -/
def State.takeBsp (s : State) (types : List Nat) : Option (State × BspDatagram) :=
  match s.net.rxBsp with
  | d :: rest => if types.contains d.type then some ({ s with net := { s.net with rxBsp := rest } }, d) else none
  | [] => none

/-! ## Fragments -/

/-- Add a fragment; one that repeats an index is discarded. -/
def addFrag (l : List (Nat × Bytes)) (i : Nat) (b : Bytes) : List (Nat × Bytes) :=
  if l.any (·.1 == i) then l else l ++ [(i, b)]

/-- The message, when every fragment up to the last is there. -/
def joinFrags (l : List (Nat × Bytes)) (last : Option Nat) : Option Bytes :=
  match last with
  | none => none
  | some n =>
    let parts := (List.range (n + 1)).map fun i => (l.find? (·.1 == i)).map (·.2)
    if parts.all Option.isSome then some (parts.map (·.getD [])).flatten else none

/-! ## Tenant entries (Table NET-11) -/

def State.tenantWord (s : State) (n : Nat) : Word := s.rd (Reg.TENANT_W0 n)

/-- The VALID entry of a tenant ID. -/
def State.tenantEntry (s : State) (t : Nat) : Option Nat :=
  (List.range 256).find? fun n => (s.tenantWord n).getLsbD 31 && fieldOf (s.tenantWord n) 23 0 == t

def State.tenantDigest (s : State) (n : Nat) : Bytes := s.regBytes (Reg.TENANT_EK_DIGEST n 0) 48

/-- A handover is being run: an EXPORT or IMPORT ceremony is open or satisfied. -/
def State.handoverRuns (s : State) : Bool :=
  (List.range 4).any fun n => (s.cerState n == 1 || s.cerState n == 2) && (s.cerAction n == 4 || s.cerAction n == 5)

/-- How the Scribe world stands towards a request of service class `c`: serve, wait or refuse (R261). -/
inductive Serve where
  | now | wait | refuse
  deriving DecidableEq, Repr

def State.serve (s : State) (c : Nat) : Serve :=
  match s.fld Reg.WRLD_STAT 1 0 with
  | 0 => .now
  | 1 => if s.bit Reg.WRLD_CFG (24 + c) && !s.wrld.budgetOut then .wait else .refuse
  | 2 => .refuse
  | _ => .wait

/-! ## Handshake (R643 to R647) -/

/-- A datagram that no session protects. -/
def State.sendClear (s : State) (a : BspAddr) (type session tenant status reqId frag : Nat) (body : Bytes) : State :=
  s.bspSend a (bspHeader type session 0 tenant 0 body.length status reqId frag ++ body)

/-- A clear handshake message, in fragments of 1,024 bytes. -/
def State.sendHandshake (s : State) (a : BspAddr) (type session tenant reqId : Nat) (body : Bytes) : State :=
  let n := (body.length + 1023) / 1024
  (List.range n).foldl (fun s i =>
    s.sendClear a type session tenant 0 reqId (i + if i + 1 = n then 2 ^ 31 else 0) ((body.drop (1024 * i)).take 1024)) s

def State.hsReject (s : State) (h : Handshake) (status : Nat) : State :=
  (s.sendClear h.src 0x06 0 h.tenant status h.reqId (2 ^ 31) []).raise 268

/-- The largest FRAG_SIZE of a port (R646). -/
def State.maxFrag (s : State) (p : Nat) : Nat := (s.maxFrame p - 122) / 64 * 64

/-- Session keys from the three secrets (R645). -/
def bspKeys (ss th : Bytes) (session tenant : Nat) : Bytes :=
  rsvKdf ss "BN96-BSP" (th ++ beBytes 4 session ++ beBytes 3 tenant) 96

/-- Checks 1 to 4 of R644 on a complete HS_INIT: the entry, or the status that refuses it. -/
def State.hsCheck (s : State) (h : Handshake) (body : Bytes) : Except Nat Nat :=
  let frag := beAt body 0 2
  if body.length ≠ 4740 ∨ frag < 1024 ∨ 8192 < frag ∨ frag % 64 ≠ 0 ∨ beAt body 2 2 ≠ 0 then .error St.badLength
  else match s.tenantEntry h.tenant with
    | none => .error St.denied
    | some n =>
      let peer := (s.tenantWord n).getLsbD 30
      if (if peer then !s.handoverRuns else s.folioState (fieldOf (s.tenantWord n) 29 24) != 1) then .error St.denied
      else if sha384 (slice body 36 1568) ≠ s.tenantDigest n then .error St.authFailed
      else if 1024 ≤ s.net.sessions.length then .error St.slotFull
      else .ok n

/-- R645: answer a good HS_INIT with HS_RESP; the session waits for HS_FIN. -/
def State.hsAnswer (s : State) (h : Handshake) (body : Bytes) (n : Nat) : State :=
  let w := s.tenantWord n
  let (r1, s) := s.drbgDraw 0 32
  let (r2, s) := s.drbgDraw 0 32
  let (nd, s) := s.drbgDraw 0 32
  let e := kemEncaps (slice body 1604 1568) r1
  let c := kemEncaps (slice body 36 1568) r2
  let ssS := kemDecaps s.net.svcDk (slice body 3172 1568)
  let frag := min (beAt body 0 2) (s.maxFrag h.src.port)
  let id := s.net.nextSession
  let head := beBytes 2 frag ++ zeros 2 ++ nd ++ e.1 ++ c.1
  let th := sha384 (body ++ head)
  let okm := bspKeys (ssS ++ e.2 ++ c.2) th id h.tenant
  let x : Session :=
    { id := id, entry := n, tenant := h.tenant, folio := fieldOf w 29 24, peer := w.getLsbD 30, src := h.src
      kCD := slice okm 0 32, kDC := slice okm 32 32, kConf := slice okm 64 32, th := th, frag := frag, established := false
      h := 0, seen := [], devSeq := 0, reasm := [], results := [], closing := 0 }
  let s := { s with net := { s.net with sessions := s.net.sessions ++ [x], nextSession := id + 1 } }
  s.sendHandshake h.src 0x02 id h.tenant h.reqId (head ++ hmac384 x.kConf (ascii "BSP-D" ++ th))

/-- What becomes of a complete HS_INIT: refused, answered, or left waiting (R644). -/
def State.hsServe (s : State) (h : Handshake) (body : Bytes) : State :=
  match s.hsCheck h body with
  | .error st => s.hsReject h st
  | .ok n => match s.serve 2 with
    | .refuse => s.hsReject h St.serviceAbsent
    | .wait => { s with net := { s.net with handshakes := s.net.handshakes ++ [{ h with waiting := true }] } }
    | .now =>
      if s.net.svcDk.isEmpty then s.hsReject h St.serviceAbsent
      else if !s.flourishUp || !s.drbgReady 0 then s.hsReject h St.aborted
      else s.hsAnswer h body n

/-- The handshake of a sender and tenant being reassembled. -/
def Handshake.is (h : Handshake) (src : BspAddr) (t : Nat) : Bool := !h.waiting && h.src == src && h.tenant == t

/-- Every fragment of a handshake body but the last holds 1,024 bytes (R643). -/
def hsForm (frags : List (Nat × Bytes)) (last : Option Nat) : Bool := frags.all fun f => f.2.length == 1024 || last == some f.1

/-- HS_INIT (R643, R644): the fragment at the front of the queue; a complete body is served. -/
def execHsInit (s : State) : Result :=
  match s.takeBsp [0x01] with
  | none => .next s
  | some (s, d) =>
    let h := (s.net.handshakes.find? (·.is d.src d.tenant)).getD { src := d.src, tenant := d.tenant, frags := [], reqId := d.reqId }
    let rest := s.net.handshakes.filter fun x => !x.is d.src d.tenant
    let h := { h with frags := addFrag h.frags d.index d.body, last := if d.last then some d.index else h.last }
    .next (match joinFrags h.frags h.last with
      | some body =>
        let s := { s with net := { s.net with handshakes := rest } }
        if hsForm h.frags h.last then s.hsServe h body else s.hsReject h St.badLength
      | none =>
        if 4740 < (h.frags.map (·.2.length)).foldl (· + ·) 0 then
          State.hsReject { s with net := { s.net with handshakes := rest } } h St.badLength
        else { s with net := { s.net with handshakes := rest ++ [h] } })

/-- Remove a session that was never established. -/
def State.dropUnestablished (s : State) (id : Nat) : State :=
  { s with net := { s.net with sessions := s.net.sessions.filter (·.id != id) } }

/-- HS_FIN (R647). -/
def execHsFin (s : State) : Result :=
  match s.takeBsp [0x03] with
  | none => .next s
  | some (s, d) => match (s.session d.session).filter (fun x => !x.established && x.tenant == d.tenant) with
    | none => .next (s.portCount d.src.port 10)
    | some x =>
      if d.body = hmac384 x.kConf (ascii "BSP-C" ++ x.th) then
        let s := s.setSession { x with established := true, kConf := [] }
        .next ((s.sendProtected x.id 0x04 0 0 0 (2 ^ 31) []).raise 266)
      else .next ((s.dropUnestablished x.id).raise 268)

/-- HANDSHAKE_TIMEOUT (R643, R647): a session that has waited 100 ms for HS_FIN, or (session 0) a tenant's handshake not
complete 100 ms after its first fragment. One that waits for the Scribe world is not dropped (R664). -/
def execHandshakeTimeout (session tenant : Nat) (s : State) : Result :=
  if session ≠ 0 then
    match (s.session session).filter (!·.established) with
    | some x => .next ((s.dropUnestablished x.id).raise 268)
    | none => .next s
  else match s.net.handshakes.find? fun h => !h.waiting && h.tenant == tenant with
    | some h => .next (State.raise { s with net := { s.net with handshakes := s.net.handshakes.filter (· != h) } } 268)
    | none => .next s

/-! ## Protected datagrams (R648, R649) -/

/-- Where a sequence stands in a session's window. -/
inductive SeqPlace where
  | fresh | duplicate | below
  deriving DecidableEq, Repr

def Session.place (x : Session) (seq : Nat) : SeqPlace :=
  if seq = 0 then .below
  else if x.h < seq then .fresh
  else if x.h < seq + 1024 then (if x.seen.contains (x.h - seq) then .duplicate else .fresh)
  else .below

/-- Accept a sequence: the window advances, and results below it are forgotten. -/
def Session.accept (x : Session) (seq : Nat) : Session :=
  if x.h < seq then
    let k := seq - x.h
    { x with h := seq, seen := 0 :: (x.seen.map (· + k)).filter (· < 1024)
             results := x.results.filter fun r => decide (seq < r.seq + 1024) }
  else { x with seen := x.seen ++ [x.h - seq] }

/-- What opening a protected datagram gives. -/
inductive Opened where
  | dropped (s : State)
  | duplicate (s : State) (x : Session)
  | fresh (s : State) (x : Session) (pt : Bytes)

/-- Checks 3 to 5 of Table NET-6. -/
def State.openBsp (s : State) (d : BspDatagram) : Opened :=
  match (s.session d.session).filter (fun x => x.established && x.tenant == d.tenant) with
  | none => .dropped (s.portCount d.src.port 10)
  | some x =>
    let n := d.body.length - 16
    match (if d.body.length < 16 then none else
        aeadOpen 1 x.kCD (bspNonce false d.seq) d.hdr (d.body.take n) (d.body.drop n)) with
    | none => .dropped (s.portCount d.src.port 11)
    | some pt => match x.place d.seq with
      | .below => .dropped (s.portCount d.src.port 12)
      | .duplicate => .duplicate s x
      | .fresh =>
        let x := x.accept d.seq
        let x := if 2 ^ 40 ≤ d.seq ∧ x.closing = 0 then { x with closing := 2 } else x
        .fresh (s.setSession x) x pt

/-! ## Requests (R651 to R654) -/

/-- The length of a request message, from its parameter block. -/
def reqLen (b : Bytes) : Nat := 24 + beAt b 16 4 + beAt b 20 4

/-- The opcodes that a request may carry (R654). -/
def bspOpcodes : List Nat := [0x01, 0x02, 0x03, 0x10, 0x11, 0x12, 0x20]

/-- Staging in all, in 4 KiB units. -/
def State.stageTotal (s : State) : Nat := s.rdn (Reg.PORT_STAGE_SIZE 0) / 4096

/-- Drop a request in reassembly (R652). -/
def State.dropReasm (s : State) (x : Session) (r : Reassembly) (port : Nat) : State :=
  let s := s.setSession { x with reasm := x.reasm.filter (·.reqId != r.reqId) }
  ((s.freeStage r.units).portCount port 13).raise 269

/-- A request that is not run is answered at once. -/
def State.refuseRequest (s : State) (id seq : Nat) (r : Reassembly) (status : Nat) : State :=
  let s := s.keepResult id seq { status }
  (s.bspRespond id r.opcode r.reqId status 0 0 0 []).freeStage r.units

/-- A complete request goes to its folio's queue, or is answered (R617, R653, R654). -/
def State.queueRequest (s : State) (x : Session) (r : Reassembly) (b : Bytes) (port : Nat) : State :=
  let s := s.setSession { x with reasm := x.reasm.filter (·.reqId != r.reqId)
                                 results := x.results ++ [{ seq := r.lastSeq, reqId := r.reqId, opcode := r.opcode, done := false
                                                            admitted := false, status := 0, bytesOut := 0, result0 := 0 }] }
  let aad := beAt b 16 4
  if x.peer ∨ s.folioState x.folio ≠ 1 then s.refuseRequest x.id r.lastSeq r St.aborted
  else if !bspOpcodes.contains r.opcode then s.refuseRequest x.id r.lastSeq r St.badOpcode
  else if 64 ≤ (s.ops.filter fun o => o.folio == x.folio && o.bspPort.isSome && o.at_ == .cand).length then
    (s.incSat (Reg.SCH_BSP_DROP x.folio) 31 0).freeStage r.units
  else
    let d : Desc :=
      { opcode := r.opcode, flags := 0, domain := beAt b 4 2, reqId := r.reqId, keyRef := beAt b 0 4, aadLen := aad
        dataLen := beAt b 20 4, param0 := beAt b 8 4, src := 0, dst := 0, aux := 0, notBefore := 0, param1 := beAt b 12 4
        rsvd := 0, chain := 0 }
    let o : Op := { id := s.nextOp, src := .bsp x.id r.lastSeq port, folio := x.folio, desc := d, at_ := .cand, tag := false
                    stream := slice b 24 aad, data := slice b (24 + aad) (beAt b 20 4) }
    { s.dropCredit with ops := s.ops ++ [o], nextOp := s.nextOp + 1 }

/-- A fragment fits FRAG_SIZE, the message bound, and the lengths of the parameter block where it is known (R652). -/
def fragOk (frag index len : Nat) (last : Bool) (total : Option Nat) : Bool :=
  decide (len ≤ frag) && (last || len == frag) && decide (frag * index + len ≤ 17 * 2 ^ 20) &&
    total.all fun t => if last then frag * index + len == t else decide (frag * index + len < t)

/-- A REQUEST fragment of session `x` (R651, R652). -/
def State.requestFrag (s : State) (x : Session) (d : BspDatagram) (pt : Bytes) : State :=
  let r := (x.reasm.find? (·.reqId == d.reqId)).getD
    { reqId := d.reqId, opcode := d.opcode, frags := [], last := none, lastSeq := 0, units := 0 }
  let frags := addFrag r.frags d.index pt
  let total := ((frags.find? (·.1 == 0)).filter (fun f => decide (24 ≤ f.2.length))).map fun f => reqLen f.2
  let short := frags.any fun f => f.1 == 0 && decide (f.2.length < 24)
  let need := stageUnits (total.getD (x.frag * (d.index + 1)))
  let units := max r.units need
  let r' := { r with frags := frags, last := if d.last then some d.index else r.last
                     lastSeq := if d.last then d.seq else r.lastSeq, units := units }
  let bad := short || d.opcode != r.opcode || total.any (fun t => decide (17 * 2 ^ 20 < t)) ||
    frags.any fun f => !fragOk x.frag f.1 f.2.length (r'.last == some f.1) total
  let x' := { x with reasm := x.reasm.filter (·.reqId != d.reqId) ++ [r'] }
  if bad ∨ s.stageTotal < s.net.stageUsed + (units - r.units) then s.dropReasm x r d.src.port
  else
    let s := { s with net := { s.net with stageUsed := s.net.stageUsed + (units - r.units) } }
    let s := s.setSession x'
    match joinFrags r'.frags r'.last with
    | some b => s.queueRequest x' r' b d.src.port
    | none => s

/-- A duplicate datagram (R657). -/
def State.bspDuplicate (s : State) (x : Session) (d : BspDatagram) : State :=
  if d.type ≠ 0x10 ∨ !d.last then s.portCount d.src.port 14
  else match x.results.find? (·.seq == d.seq) with
    | none => s.portCount d.src.port 14
    | some k =>
      if k.done then s.answerDup x.id k
      else if s.ops.any (fun o => o.ofSession x.id && o.src == .bsp x.id d.seq d.src.port && o.at_ != .cand) then
        s.setSession { x with results := x.results.map fun r => if r.seq = d.seq then { r with dups := r.dups + 1 } else r }
      else s

/-- REQUEST (R648 to R654): a protected datagram other than a handover message; one that is no REQUEST is dropped. -/
def execRequest (s : State) : Result :=
  match s.takeBsp [0x04, 0x05, 0x10, 0x11] with
  | none => .next s
  | some (s, d) => .next (match s.openBsp d with
    | .dropped s => s
    | .duplicate s x => s.bspDuplicate x d
    | .fresh s x pt => (if d.type = 0x10 then s.requestFrag x d pt else s).closeIfIdle x.id)

/-- REASSEMBLY_TIMEOUT (R652): a request of a session is incomplete 100 ms after its first fragment. -/
def execReassemblyTimeout (session reqId : Nat) (s : State) : Result :=
  match s.session session with
  | none => .next s
  | some x => match x.reasm.find? (·.reqId == reqId) with
    | none => .next s
    | some r => .next (s.dropReasm x r x.src.port)

/-! ## Handover, as predecessor (R385, R386, R661) -/

/-- Reassemble a handover message of session `x`. -/
def State.peerFrag (s : State) (x : Session) (d : BspDatagram) (pt : Bytes) : State × Option Bytes :=
  let key := 2 ^ 32 + d.type
  let r := (x.reasm.find? (·.reqId == key)).getD
    { reqId := key, opcode := 0, frags := [], last := none, lastSeq := 0, units := 0 }
  let r := { r with frags := addFrag r.frags d.index pt, last := if d.last then some d.index else r.last }
  match joinFrags r.frags r.last with
  | some b => (s.setSession { x with reasm := x.reasm.filter (·.reqId != key) }, some b)
  | none => (s.setSession { x with reasm := x.reasm.filter (·.reqId != key) ++ [r] }, none)

/-- The satisfied EXPORT slot that an offer of an EK for a domain fits (R385 step 5). -/
def State.exportSlot (s : State) (domain : Nat) (ek : Bytes) : Option Nat :=
  (List.range 4).find? fun n => s.cerState n == 2 && s.cerAction n == 4 && paramDomain (s.cerSlot n).params == domain &&
    paramDigestA (s.cerSlot n).params == sha384 ek

/-- Run a CUST command of the Scribe runtime's own at once: none where it cannot run or would wait. -/
def State.runCust (s : State) (op slot : Nat) (addr : List Nat) (arg : Word) (otpFail : Option Nat := none) :
    Option (State × Nat) :=
  if s.cust.cmd.isSome then none
  else
    let s := (addr.zipIdx).foldl (fun s a => s.wr64 (Reg.CUST_ADDR a.2) (BitVec.ofNat 64 a.1)) s
    let s := (s.wr Reg.CUST_ARG arg).custStart op (BitVec.ofNat 32 (slot * 2 ^ 16))
    match s.cust.cmd with
    | none => none
    | some c => match s.custRun c otpFail with
      | (s, .done code) => some (s.custFinish op code, code)
      | (_, .wait _) => none

/-- HANDOVER_REFUSE with a reason. -/
def State.offerRefuse (s : State) (o : Offer) (status : Nat) : State := s.sendProtected o.session 0x22 0 status o.reqId (2 ^ 31) []

/-- The Scribe runtime runs HANDOVER_EXPORT for an offer that fits slot `n`; none while the command cannot run. -/
def State.offerExport (s : State) (o : Offer) (n frag : Nat) : Option State :=
  let r := s.ruleRanges [(o.ekAt, 1568, .write)]
  if !r.2 then some (r.1.offerRefuse o St.denied)
  else match (r.1.keyWrite o.ekAt (slice o.body 2 1568)).runCust 0x24 n [o.recAt, o.ekAt, o.outAt] 0 with
    | some (s, 0) => some (match s.scribeRead o.outAt 1712 with
      | (s, some b) => State.sendFragments o.session 0x21 0 0 o.reqId frag (1712 / max frag 1 + 1) 0 s b
      | (s, none) => s.offerRefuse o St.denied)
    | some (s, _) => some (s.offerRefuse o St.denied)
    | none => none

/-- An offer waits with the Scribe runtime (R261). -/
def State.offerHold (s : State) (o : Offer) : State := { s with net := { s.net with offers := s.net.offers ++ [o] } }

/-- A complete offer is answered with the package or refused, waits for the Scribe world, or is refused for want of it (R261, R385,
R661). -/
def State.offerServe (s : State) (o : Offer) : State :=
  match s.session o.session with
  | none => s
  | some x => match s.serve 6 with
    | .refuse => s.offerRefuse o St.serviceAbsent
    | .wait => s.offerHold o
    | .now =>
      match (if o.body.length = 1570 ∧ inSram o.ekAt 1568 then s.exportSlot (beAt o.body 0 2) (slice o.body 2 1568) else none) with
      | none => s.offerRefuse o St.denied
      | some n => (s.offerExport o n x.frag).getD (s.offerHold o)

/-- Serve every handshake and every offer that waits for the Scribe world (R261, R664). -/
def State.hsResume (s : State) : State :=
  let w := s.net.handshakes.filter (·.waiting)
  let offers := s.net.offers
  let s := { s with net := { s.net with handshakes := s.net.handshakes.filter (fun h => !h.waiting), offers := [] } }
  offers.foldl State.offerServe (w.foldl (fun s h => s.hsServe h ((joinFrags h.frags h.last).getD [])) s)

/-- HANDOVER_OFFER (R385, R661): the offer at the front. The Scribe runtime has the domain record at `recAt`; it puts the EK
at `ekAt` and the package at `outAt`. Offers that wait for a CUST command to end go first. -/
def execHandoverOffer (recAt ekAt outAt : Nat) (s : State) : Result :=
  let offers := s.net.offers
  let s := offers.foldl State.offerServe { s with net := { s.net with offers := [] } }
  match s.takeBsp [0x20] with
  | none => .next s
  | some (s, d) => .next (match s.openBsp d with
    | .dropped s => s
    | .duplicate s x => s.bspDuplicate x d
    | .fresh s x pt =>
      if !x.peer then s.portCount d.src.port 10
      else match s.peerFrag x d pt with
        | (s, none) => s
        | (s, some b) => s.offerServe { session := x.id, reqId := d.reqId, body := b, recAt, ekAt, outAt })

/-! ## Handover, as successor (R660) -/

/-- The peer's address as its entry gives it. -/
def State.peerAddr (s : State) (n : Nat) : BspAddr :=
  let ip := s.regBytes (Reg.TENANT_IP n 0) 16
  let v4 := ip.take 12 == zeros 10 ++ [0xFF, 0xFF]
  let mt := s.regBytes (Reg.TENANT_MACTCI n 0) 12
  let tags := s.fld (Reg.TENANT_TAGS n) 1 0
  let tci := fun i => [0x81, 0x00] ++ beBytes 2 (leAt mt (8 + 2 * i) 2)
  { port := s.fld (Reg.TENANT_PEER n) 17 16 % 2, mac := mt.take 6
    tags := if tags = 0 then [] else if tags = 1 then tci 0 else [0x88, 0xA8] ++ (tci 0).drop 2 ++ tci 1
    v6 := !v4, ip := if v4 then ip.drop 12 else ip, udp := s.fld (Reg.TENANT_PEER n) 15 0, dscp := 0 }

/-- Start a handover session to the peer of entry `n`, whose service key is `ek`, for ceremony slot `slot` (R660). -/
def State.clientStart (s : State) (n slot : Nat) (ek : Bytes) : State :=
  let (eph, s) := s.drbgDraw 0 64
  let (r, s) := s.drbgDraw 0 32
  let (nc, s) := s.drbgDraw 0 32
  let k := kemEncaps ek r
  let a := s.peerAddr n
  let body := beBytes 2 (min 8192 (s.maxFrag a.port)) ++ zeros 2 ++ nc ++ kemPublic s.net.svcDk ++ kemPublic eph ++ k.1
  let t := fieldOf (s.tenantWord n) 23 0
  let s := { s with net := { s.net with client := some { entry := n, slot := slot, peer := a, tenant := t, body := body
                                                         eph := eph, ssS := k.2 } } }
  s.sendHandshake a 0x01 0 t 0 body

def State.setClient (s : State) (c : Option ClientSt) : State := { s with net := { s.net with client := c } }

/-- HS_RESP (R645, R647, R660): a fragment of the predecessor's answer; a good one is answered with HS_FIN. -/
def execHsResp (s : State) : Result :=
  match s.takeBsp [0x02] with
  | none => .next s
  | some (s, d) => match s.net.client.filter (fun c => !c.finSent && c.tenant == d.tenant) with
    | none => .next (s.portCount d.src.port 10)
    | some c =>
      let c := { c with frags := addFrag c.frags d.index d.body, last := if d.last then some d.index else c.last }
      match joinFrags c.frags c.last with
      | none => .next (s.setClient (some c))
      | some b =>
        let th := sha384 (c.body ++ b.take 3172)
        let ss := c.ssS ++ kemDecaps c.eph (slice b 36 1568) ++ kemDecaps s.net.svcDk (slice b 1604 1568)
        let okm := bspKeys ss th d.session d.tenant
        let kConf := slice okm 64 32
        if b.length ≠ 3220 ∨ !hsForm c.frags c.last ∨ slice b 3172 48 ≠ hmac384 kConf (ascii "BSP-D" ++ th) then .next ((s.setClient none).raise 268)
        else
          let c := { c with sessionId := d.session, frag := beAt b 0 2, finSent := true, kCD := slice okm 0 32
                            kDC := slice okm 32 32, eph := [], ssS := [], frags := [], last := none }
          .next ((s.setClient (some c)).sendClear c.peer 0x03 d.session d.tenant 0 d.reqId (2 ^ 31)
            (hmac384 kConf (ascii "BSP-C" ++ th)))

/-- One protected datagram of the client. -/
def State.clientSend (s : State) (type frag : Nat) (body : Bytes) : State :=
  match s.net.client with
  | none => s
  | some c =>
    let s := s.setClient (some { c with seq := c.seq + 1 })
    let h := bspHeader type c.sessionId (c.seq + 1) c.tenant 0 (body.length + 16) 0 0 frag
    let x := aeadSeal 1 c.kCD (bspNonce false (c.seq + 1)) h body
    s.bspSend c.peer (h ++ x.1 ++ x.2)

/-- A message of the client, in fragments. -/
def State.clientMessage (s : State) (type frag : Nat) (b : Bytes) : State :=
  let n := max 1 ((b.length + frag - 1) / max frag 1)
  (List.range n).foldl (fun s i =>
    s.clientSend type (i + if i + 1 = n then 2 ^ 31 else 0) ((b.drop (frag * i)).take frag)) s

/-- Open a datagram from the predecessor; sequences must rise. -/
def State.clientOpen (s : State) (d : BspDatagram) : State × Option Bytes :=
  match s.net.client.filter (fun c => c.finSent && c.sessionId == d.session && c.tenant == d.tenant) with
  | none => (s.portCount d.src.port 10, none)
  | some c =>
    let n := d.body.length - 16
    match (if d.body.length < 16 then none else
        aeadOpen 1 c.kDC (bspNonce true d.seq) d.hdr (d.body.take n) (d.body.drop n)) with
    | none => (s.portCount d.src.port 11, none)
    | some pt =>
      if d.seq ≤ c.devSeq then (s.portCount d.src.port 12, none)
      else (s.setClient (some { c with devSeq := d.seq }), some pt)

/-- HS_DONE (R660): the session to the predecessor is established, and the offer is sent (R385 step 4). -/
def execHsDone (s : State) : Result :=
  if s.net.client.isNone then .next s
  else match s.takeBsp [0x04] with
    | none => .next s
    | some (s, d) => match s.clientOpen d with
      | (s, none) => .next s
      | (s, some _) => match s.net.client with
        | none => .next s
        | some c =>
          let slot := s.cerSlot c.slot
          .next (((s.setClient (some { c with established := true })).raise 266).clientMessage 0x20 c.frag
            (beBytes 2 (paramDomain slot.params) ++ slot.ek))

/-- HS_REJECT (R644): the successor abandons its handshake. -/
def execHsReject (s : State) : Result :=
  match s.takeBsp [0x06] with
  | none => .next s
  | some (s, d) => match s.net.client.filter (fun c => !c.established && c.tenant == d.tenant) with
    | none => .next (s.portCount d.src.port 10)
    | some _ => .next ((s.setClient none).raise 268)

/-- HANDOVER_PACKAGE (R387): the package reaches the successor's Scribe runtime, which puts it at `outAt`. -/
def execHandoverPackage (outAt : Nat) (s : State) : Result :=
  match s.takeBsp [0x21] with
  | none => .next s
  | some (s, d) => match s.clientOpen d with
    | (s, none) => .next s
    | (s, some pt) => match s.net.client with
      | none => .next s
      | some c =>
        let c := { c with msg := addFrag c.msg d.index pt, msgLast := if d.last then some d.index else c.msgLast }
        match joinFrags c.msg c.msgLast with
        | none => .next (s.setClient (some c))
        | some b =>
          let s := s.setClient (some { c with msg := [], msgLast := none })
          let r := s.ruleRanges [(outAt, b.length, .write)]
          .next (if inSram outAt b.length then (if r.2 then r.1.keyWrite outAt b else r.1) else s)

/-- HANDOVER_REFUSE (R661): the successor receives the refusal and gives the handover up. -/
def execHandoverRefuse (s : State) : Result :=
  match s.takeBsp [0x22] with
  | none => .next s
  | some (s, d) => match s.clientOpen d with
    | (s, none) => .next s
    | (s, some _) => .next (s.setClient none)

/-! ## The tenant table (R665, R670) -/

/-- The bits of word `w` of a tenant entry that a party writes (Table NET-11). -/
def tenantMask (p : Party) (w : Nat) : Word :=
  let m := fun (b : Word) => match p with
    | .scribe => b
    | _ => 0
  if w = 0 then (match p with
    | .scribe => 0xFFFFFFFF
    | .manager => 0xBFFFFFFF
    | _ => 0)
  else if w = 1 then m 0x0003FFFF
  else if w < 4 then m 0xFFFFFFFF
  else if w < 16 then (match p with
    | .scribe => 0xFFFFFFFF
    | .manager => 0xFFFFFFFF
    | _ => 0)
  else if w < 23 then m 0xFFFFFFFF
  else if w = 23 then m 0x00000003
  else 0

/-- The sessions of tenant entry `n` close once their requests are answered (R665). -/
def State.tenantEnd (s : State) (n : Nat) : State :=
  let ids := (s.net.sessions.filter fun x => x.entry == n && x.established).map (·.id)
  ids.foldl (fun s id => match s.session id with
    | some x => (s.setSession { x with closing := if x.closing = 0 then 3 else x.closing }).closeIfIdle id
    | none => s) s

/-- TENANT_ENTRY_WRITE (R9, R665, R670): a write of word `w` of entry `n`; 3 tags are reserved. -/
def execTenantEntryWrite (p : Party) (n w : Nat) (v : Word) (s : State) : Result :=
  if 256 ≤ n ∨ 32 ≤ w ∨ (w = 23 ∧ fieldOf v 1 0 = 3) then .next s
  else
    let a := Reg.TENANT_W0 n + 4 * w
    let old := s.rd a
    let m := tenantMask p w
    let new := (old &&& ~~~m) ||| (v &&& m)
    if (p = .manager ∧ (s.tenantWord n).getLsbD 30) ∨
        (w = 0 ∧ new.getLsbD 31 ∧ (List.range 256).any (fun k => k != n && (s.tenantWord k).getLsbD 31 &&
          fieldOf (s.tenantWord k) 23 0 == fieldOf new 23 0)) then .next s
    else
      let s := s.wr a new
      let ends := (w = 0 ∧ (fieldOf old 29 24 ≠ fieldOf new 29 24 ∨ (old.getLsbD 31 ∧ !new.getLsbD 31))) ∨
        (4 ≤ w ∧ w < 16 ∧ old ≠ new)
      .next (if ends then s.tenantEnd n else s)

end Sys2Proof.Machine
end

