-- ==== Sys2Proof/Machine/Consoles.lean ====
section
/-! DEFINITION. Chapter 21, the console ports and the custodian framing on CON0. -/

namespace Sys2Proof.Machine

/-! ## The ports -/

def State.con (s : State) (n : Nat) : ConSt := if n = 0 then s.con0 else s.con1
def State.setCon (s : State) (n : Nat) (c : ConSt) : State := if n = 0 then { s with con0 := c } else { s with con1 := c }

/-- The base of a port's CON block. -/
def conBase (n : Nat) : Nat := if n = 0 then Reg.CON0_CFG else Reg.CON1_CFG
def conCfg (n : Nat) : Nat := conBase n
def conBaud (n : Nat) : Nat := conBase n + 0x04
def conFlow (n : Nat) : Nat := conBase n + 0x08
def conRs485 (n : Nat) : Nat := conBase n + 0x0C
def conStat (n : Nat) : Nat := conBase n + 0x14
def conThresh (n : Nat) : Nat := conBase n + 0x24
def conErrcnt (n : Nat) : Nat := conBase n + 0x28

def State.conEn (s : State) (n : Nat) : Bool := s.bit (conCfg n) 31
def State.conMode (s : State) (n : Nat) : Nat := s.fld (conCfg n) 18 16
def State.conBits (s : State) (n : Nat) : Nat := s.fld (conCfg n) 11 8
def State.conSelf (s : State) (n : Nat) : Bool := s.bit (conCfg n) 1
def State.xonEn (s : State) (n : Nat) : Bool := s.bit (conFlow n) 31

/-- The port answers its registers and pins: CON1 only once the boot ROM has released it (R820). -/
def State.conOpen (s : State) (n : Nat) : Bool := n == 0 || (n == 1 && s.con1Open)

/-- The port's clock runs (R841). -/
def State.conRuns (s : State) : Bool := s.pwr.mainUp && decide (s.fld Reg.PWR_STAT 2 0 ≤ 2)

def State.conDataEvent (s : State) (n : Nat) : State := s.raise (496 + 2 * n)

/-- Set a condition bit of CON_STAT and raise the port's condition event (R840). -/
def State.conCond (s : State) (n i : Nat) : State := (s.setb (conStat n) i true).raise (497 + 2 * n)

/-- CFG_ERR and its event (R828). -/
def State.conCfgErr (s : State) (n : Nat) : State := (s.setb (conCfg n) 30 true).raise (497 + 2 * n)

/-- Drive CONn_DE and show its level. -/
def State.conDe (s : State) (n : Nat) (v : Bool) : State :=
  if s.bit (conStat n) 24 = v then s
  else (s.setb (conStat n) 24 v).emit (.pin (if n = 0 then .con0De else .con1De) v)

def conTxd (n : Nat) : Pin := if n = 0 then .con0Txd else .con1Txd

/-! ## Transmitter -/

/-- What the transmitter sends next: its own flow characters, a break, an echo, then the FIFO (R830, R832, R837). -/
def ConSt.next (c : ConSt) (paused : Bool) : Option (ConTx × ConSt) :=
  match c.flow with
  | x :: r => some (.char x, { c with flow := r })
  | [] =>
    if c.breakDue then some (.brk, { c with breakDue := false })
    else if paused then none
    else match c.echo with
      | x :: r => some (.char x, { c with echo := r })
      | [] => match c.tx with
        | x :: r => some (.char x, { c with tx := r })
        | [] => none

/-- TX_LEVEL went from `was` to its present value (R840). -/
def State.conTxFell (s : State) (n was : Nat) : State :=
  let t := s.fld (conThresh n) 7 0
  if t < was ∧ (s.con n).tx.length ≤ t then s.conDataEvent n else s

/-- The length of a bit in CLK_FAB cycles, four of which make a CLK_PER cycle (R822). -/
def State.conBit (s : State) (n : Nat) : Nat := 64 * s.fld (conBaud n) 27 16 + s.fld (conBaud n) 5 0

/-- The bits of a character: start, data, parity, stop (R821). -/
def State.conCharBits (s : State) (n : Nat) : Nat :=
  2 + s.conBits n + (if s.fld (conCfg n) 5 4 = 0 then 0 else 1) + (s.bit (conCfg n) 2).toNat

/-- CON0 transmits nothing while the Scribe world is absent (R264). -/
def State.conSilent (s : State) (n : Nat) : Bool :=
  n == 0 && (s.fld Reg.WRLD_STAT 1 0 == 1 || s.fld Reg.WRLD_STAT 1 0 == 2)

/-- Start the next character where the transmitter is idle and may send (R264, R829, R831, R834, R839); DE rises LEAD bit times before
the first after an idle period. -/
def State.conKick (s : State) (n : Nat) : State :=
  let c := s.con n
  if !s.conEn n || c.busy != .idle || s.bit (conStat n) 28 || s.conSilent n then s
  else match c.next (s.bit (conStat n) 31) with
    | none => s
    | some (b, d) =>
      let lead := if s.conMode n == 1 && !s.bit (conStat n) 24 then s.fld (conRs485 n) 23 16 else 0
      let bits := if b == .brk then 2 * s.conCharBits n else s.conCharBits n
      let s := s.setCon n { d with busy := b, tail := false, endsAt := s.stime.cycle + (lead + bits) * s.conBit n }
      let s := s.setb (conStat n) 23 true
      let s := if s.conMode n = 1 then s.conDe n true else s
      let s := if b = .brk ∧ s.conMode n ≠ 2 then s.emit (.pin (conTxd n) false) else s
      s.conTxFell n c.tx.length

/-- After the last character in RS485 mode the tail starts; a TAIL of 0 ends at once (R834). -/
def State.conIdle (s : State) (n : Nat) : State :=
  let c := s.con n
  if s.bit (conStat n) 24 && c.busy == .idle && !c.tail && (c.tx.isEmpty || !s.conEn n) then
    if s.fld (conRs485 n) 15 8 = 0 then s.conDe n false
    else s.setCon n { c with tail := true, endsAt := s.stime.cycle + s.fld (conRs485 n) 15 8 * s.conBit n }
  else s

/-! ## Receiver -/

/-- RX_LEVEL rose from `was` (R830, R840). -/
def State.conRxRose (s : State) (n was : Nat) : State :=
  let now := (s.con n).rx.length
  let crosses := fun t => decide (was < t ∧ t ≤ now)
  let s := if crosses (s.fld (conThresh n) 15 8) then s.conDataEvent n else s
  if s.xonEn n && crosses (s.fld (conThresh n) 31 24) then
    ((s.setCon n { s.con n with flow := (s.con n).flow ++ [s.fld (conFlow n) 15 8] }).setb (conStat n) 30 true).conKick n
  else s

/-- RX_LEVEL fell from `was` (R830). -/
def State.conRxFell (s : State) (n was : Nat) : State :=
  let t := s.fld (conThresh n) 23 16
  if s.xonEn n && s.bit (conStat n) 30 && decide (t < was ∧ (s.con n).rx.length ≤ t) then
    ((s.setCon n { s.con n with flow := (s.con n).flow ++ [s.fld (conFlow n) 23 16] }).setb (conStat n) 30 false).conKick n
  else s

/-- Store a received character (R825), and retransmit it in ECHO mode (R837). -/
def State.conStore (s : State) (n ch : Nat) : State :=
  let c := s.con n
  if 256 ≤ c.rx.length then (s.incSat (conErrcnt n) 7 0).conCond n 27
  else
    let echo := s.conMode n == 3 && !ch.testBit 15 && !ch.testBit 14
    let s := s.setCon n { c with rx := c.rx ++ [ch], rxAt := some s.stime.cycle, echo := if echo then c.echo ++ [ch % 512] else c.echo }
    (s.conRxRose n c.rx.length).conKick n

/-- TX_PAUSED is cleared, and the transmitter goes on. -/
def State.conUnpause (s : State) (n : Nat) : State :=
  ((s.setCon n { s.con n with pausedAt := none }).setb (conStat n) 31 false).conKick n

/-- A received flow character is acted on (R831); the time of R833 counts from when TX_PAUSED is set. -/
def State.conFlowChar (s : State) (n d : Nat) : State :=
  if d = s.fld (conFlow n) 15 8 then
    let c := s.con n
    let since := if s.bit (conStat n) 31 then c.pausedAt else some s.stime.cycle
    (s.setCon n { c with xoffAt := some s.stime.cycle, pausedAt := since }).setb (conStat n) 31 true
  else s.conUnpause n

/-- The word of a received character: data and flags (R824). The parity bit of PARITY 1 makes the ones even, of 2 odd. -/
def State.conFlags (s : State) (n : Nat) (c : RxChar) : Nat :=
  let d := c.data % 2 ^ s.conBits n
  let mode := s.fld (conCfg n) 5 4
  let odd := ((List.range 9).filter d.testBit).length % 2 == 1
  let par := mode != 0 && c.parity != (odd != (mode == 2))
  let brk := d == 0 && !c.stop && (mode == 0 || !c.parity)
  d + 4096 * c.noise.toNat + 8192 * par.toNat + 16384 * (!c.stop).toNat + 32768 * brk.toNat

/-- A character has been sampled. -/
def State.conReceive (s : State) (n : Nat) (c : RxChar) : State :=
  let ch := s.conFlags n c
  let s := if ch.testBit 12 then s.incSat (conErrcnt n) 31 24 else s
  let s := if ch.testBit 13 then s.incSat (conErrcnt n) 15 8 else s
  let s := if ch.testBit 14 then s.incSat (conErrcnt n) 23 16 else s
  if ch.testBit 15 then
    (((s.setCon n { s.con n with lineLow := true }).conStore n ch).conCond n 25)
  else
    let d := ch % 512
    let isFlow := s.xonEn n && !ch.testBit 13 && !ch.testBit 14 &&
      (d == s.fld (conFlow n) 15 8 || d == s.fld (conFlow n) 23 16)
    if isFlow then
      let s := s.conFlowChar n d
      if s.bit (conFlow n) 30 then s.conStore n ch else s
    else s.conStore n ch

/-- The receiver takes no character from the line: its pin ignored, or the port's own sending not received (R836, R839). -/
def State.conDeaf (s : State) (n : Nat) : Bool := match s.conMode n with
  | 1 => s.bit (conStat n) 24 && !s.conSelf n
  | 2 => true
  | 4 => (s.con n).busy != .idle && !s.conSelf n
  | _ => false

/-- CON_CHAR_RECEIVED (R823 to R826, R829). -/
def execConCharReceived (n : Nat) (c : RxChar) (s : State) : Result :=
  if !s.conOpen n || !s.conRuns || !c.begun || (s.con n).lineLow || s.conDeaf n then .next s
  else .next (s.conReceive n c)

/-- CON_BREAK_END (R824). -/
def execConBreakEnd (n : Nat) (s : State) : Result :=
  if s.conOpen n then .next (s.setCon n { s.con n with lineLow := false }) else .next s

/-- The end of what the transmitter was sending; in LOOPBACK it goes to the receiver and TXD stays high (Table CON-2). -/
def State.conSent (s : State) (n : Nat) (collision : Bool) : State :=
  let c := s.con n
  let s := (s.setCon n { c with busy := .idle }).setb (conStat n) 23 false
  let loops := s.conMode n == 2
  match c.busy with
  | .idle => s
  | .brk =>
    let s := s.setb (conBase n + 0x10) 28 false
    if loops then
      let s := s.conReceive n ⟨0, false, false, false, true⟩
      s.setCon n { s.con n with lineLow := false }
    else s.emit (.pin (conTxd n) true)
  | .char x =>
    if collision && s.conMode n == 4 then s.conCond n 28
    else
      let x := x % 2 ^ s.conBits n
      let parity := (((List.range 9).filter x.testBit).length % 2 == 1) != (s.fld (conCfg n) 5 4 == 2)
      if loops then s.conReceive n ⟨x, parity, true, false, true⟩ else s.emit (.conChar n x)

/-- CON_CHAR_SENT (R821, R822, R838, R839): the character ends, in SINGLE_WIRE perhaps by a collision, and the next one starts. The edge
falls within one CLK_PER cycle of its time. -/
def execConCharSent (n : Nat) (collision : Bool) (s : State) : Result :=
  let c := s.con n
  if !s.conOpen n || !s.conRuns || c.busy == .idle then .next s
  else if s.stime.cycle + 4 < c.endsAt && !(collision && s.conMode n == 4) then .next s
  else .next (((s.conSent n collision).conKick n).conIdle n)

/-! ## Software -/

/-- CON_TXDATA (R825, R837). -/
def execConTxdata (n : Nat) (v : Word) (s : State) : Result :=
  let c := s.con n
  if !s.conOpen n then .next s
  else if s.conMode n = 3 then .next (s.conCond n 22)
  else if 256 ≤ c.tx.length then .next (s.conCond n 26)
  else .next ((s.setCon n { c with tx := c.tx ++ [v.toNat % 512] }).conKick n)

/-- CON_RXDATA (R850): the value read, and the character popped. -/
def execConRxdata (n : Nat) (s : State) : Result :=
  let c := s.con n
  if !s.conOpen n then .next (s.emit (.value 0))
  else match c.rx with
    | [] => .next (s.emit (.value 0))
    | x :: r => .next (((s.setCon n { c with rx := r }).emit (.value (2 ^ 31 + x))).conRxFell n c.rx.length)

def conOff : ConReg → Nat
  | .cfg => 0
  | .baud => 4
  | .flow => 8
  | .rs485 => 0x0C
  | .thresh => 0x24

/-- The writable bits of a configuration register (Table CON-8); CFG_ERR stands apart. -/
def conMask : ConReg → Word
  | .cfg => 0x80070F36
  | .baud => 0x0FFF003F
  | .flow => 0xC0FFFFFF
  | .rs485 => 0x00FFFF00
  | .thresh => 0xFFFFFFFF

/-- A combination of Table CON-3. -/
def conBadCombo (cfg baud flow thresh : Word) : Bool :=
  let mode := fieldOf cfg 18 16
  let bits := fieldOf cfg 11 8
  let xon := flow.getLsbD 31
  (xon && (mode == 4 || mode == 3 || bits != 8 || decide (fieldOf thresh 31 24 ≤ fieldOf thresh 23 16))) ||
  (cfg.getLsbD 1 && mode != 1 && mode != 4) ||
  decide (bits < 5 ∨ 9 < bits) || fieldOf cfg 5 4 == 3 || decide (4 < mode) || fieldOf baud 27 16 == 0

/-- The write is refused under R828 or R829. -/
def State.conRefused (s : State) (n : Nat) (r : ConReg) (v : Word) : Bool :=
  let new := v &&& conMask r
  let at_ := fun q => if q = r then new else s.rd (conBase n + conOff q)
  let locked := s.conEn n && (r != .cfg || ((new ^^^ s.rd (conCfg n)) &&& 0x00070F36) != 0)
  locked || conBadCombo (at_ .cfg) (at_ .baud) (at_ .flow) (at_ .thresh)

/-- CON_CFG_WRITE: a write of CON_CFG, CON_BAUD, CON_FLOW, CON_RS485 or CON_THRESH (R828, R829). -/
def execConCfgWrite (n : Nat) (r : ConReg) (v : Word) (s : State) : Result :=
  if !s.conOpen n then .next s
  else if s.conRefused n r v then .next (s.conCfgErr n)
  else
    let err := s.rd (conCfg n) &&& 0x40000000
    let keep := if r = .cfg then (if v.getLsbD 30 then 0 else err) else 0
    .next (((s.wr (conBase n + conOff r) (v &&& conMask r ||| keep)).conKick n).conIdle n)

/-- FLUSH_TX (Table CON-6). -/
def execFlushTx (n : Nat) (s : State) : Result :=
  let c := s.con n
  if s.conOpen n then .next (((s.setCon n { c with tx := [] }).conTxFell n c.tx.length).conIdle n) else .next s

/-- FLUSH_RX (Table CON-6): a character that arrives in the same cycle is kept. -/
def execFlushRx (n : Nat) (s : State) : Result :=
  let c := s.con n
  let kept := if c.rxAt = some s.stime.cycle then c.rx.drop (c.rx.length - 1) else []
  if s.conOpen n then .next ((s.setCon n { c with rx := kept }).conRxFell n c.rx.length) else .next s

/-- CON_RESUME (R831, Table CON-6): an XOFF received in the same cycle stands. -/
def execConResume (n : Nat) (s : State) : Result :=
  if s.conOpen n && (s.con n).xoffAt != some s.stime.cycle then .next (s.conUnpause n) else .next s

/-- SEND_BREAK (R6, R11): the bit reads 1 until the break has been sent, and setting it meanwhile has no effect. -/
def execSendBreak (n : Nat) (s : State) : Result :=
  if s.conOpen n && !s.bit (conBase n + 0x10) 28 then
    .next (((s.setb (conBase n + 0x10) 28 true).setCon n { s.con n with breakDue := true }).conKick n)
  else .next s

/-! ## Timers and wake -/

/-- CON_PAUSE_TIMEOUT (R833): TX_PAUSED has stayed set for PAUSE_TO × 10 ms, 8,000,000 CLK_FAB cycles each; reported once a pause. -/
def execConPauseTimeout (n : Nat) (s : State) : Result :=
  let t := s.fld (conFlow n) 7 0
  match (s.con n).pausedAt with
  | some c =>
    if s.conOpen n && s.bit (conStat n) 31 && t != 0 && decide (c + t * 8000000 ≤ s.stime.cycle) then
      .next ((s.setCon n { s.con n with pausedAt := none }).conCond n 29)
    else .next s
  | none => .next s

/-- RS485_TAIL_END (R834): TAIL bit times after the last stop bit. -/
def execRs485TailEnd (n : Nat) (s : State) : Result :=
  if s.conOpen n && (s.con n).tail && (s.con n).busy == .idle && decide ((s.con n).endsAt ≤ s.stime.cycle + 4) then
    .next ((s.setCon n { s.con n with tail := false }).conDe n false)
  else .next s

/-- CON_RX_IDLE_TIMEOUT (R840). -/
def execConRxIdleTimeout (n : Nat) (s : State) : Result :=
  if s.conOpen n && s.conRuns && !(s.con n).rx.isEmpty then .next (s.conDataEvent n) else .next s

/-- CONSOLE_BREAK (R841): a wake source while the receivers do not run. -/
def execConsoleBreak (n : Nat) (s : State) : Result :=
  if s.conOpen n && s.conEn n && !s.conRuns then .next (s.wakeBy 5) else .next s

/-! ## Custodian framing (R842 to R848) -/

/-- Undo the escapes of R843; none where R844 discards. -/
def unescape : Bytes → Option Bytes
  | [] => some []
  | [b] => if b = 0x7D then none else some [b]
  | a :: b :: r =>
    if a = 0x7D then
      let x := b ^^^ 0x20
      if x = 0x7E ∨ x = 0x7D ∨ x = 0x11 ∨ x = 0x13 then (unescape r).map (x :: ·) else none
    else (unescape (b :: r)).map (a :: ·)

/-- The escapes of R843. -/
def escape (b : Bytes) : Bytes :=
  b.flatMap fun x => if x = 0x7E ∨ x = 0x7D ∨ x = 0x11 ∨ x = 0x13 then [0x7D, x ^^^ 0x20] else [x]

structure CustFrame where
  addr : Byte
  type : Nat
  seq : Bytes
  payload : Bytes
  deriving DecidableEq, Repr

/-- The frame between two flags, from its characters in the form of CON_RXDATA (R844). -/
def custFrame (chars : List Nat) : Option CustFrame :=
  if chars.any fun c => (c / 4096) % 16 != 0 then none
  else match unescape (chars.map fun c => BitVec.ofNat 8 c) with
    | none => none
    | some b =>
      if b.length < 10 ∨ 13248 < beAt b 4 2 ∨ b.length ≠ 10 + beAt b 4 2 ∨
          beAt b (b.length - 4) 4 ≠ crc32c (b.take (b.length - 4)) then none
      else some ⟨b.getD 0 0, beAt b 1 1, slice b 2 2, slice b 6 (beAt b 4 2)⟩

/-- The reply to a frame: its flags, escapes and CRC around the body (R843, R845). -/
def State.custReply (s : State) (f : CustFrame) (type : Nat) (payload : Bytes) : State :=
  let body := [f.addr, BitVec.ofNat 8 type] ++ f.seq ++ beBytes 2 payload.length ++ payload
  s.emit (.custFrame ([0x7E] ++ escape (body ++ beBytes 4 (crc32c body)) ++ [0x7E]))

/-- CON0 carries custodian frames: 8N1, FULL_DUPLEX or RS485, running, with the Scribe world serving (R842, R264). -/
def State.custLine (s : State) : Bool :=
  s.conEn 0 && decide (s.conMode 0 ≤ 1) && s.conBits 0 == 8 && s.fld (conCfg 0) 5 4 == 0 && !s.bit (conCfg 0) 2 &&
  s.serve 0 == .now

/-- The payload lengths Table CON-5 allows. -/
def custLen (type : Nat) : Option Nat := match type with
  | 1 => some 0
  | 2 => some 1
  | 3 => some 1
  | 4 => some 8844
  | 5 => some 1640
  | _ => none

/-- A valid frame of `type` on a line that carries frames. -/
def State.custOf (s : State) (type : Nat) (chars : List Nat) : Option CustFrame :=
  if s.custLine then (custFrame chars).filter fun f => f.type == type && custLen type == some f.payload.length else none

def CustFrame.slot (f : CustFrame) : Nat := leAt f.payload 0 1

/-- STATUS_GET. -/
def execStatusGet (chars : List Nat) (s : State) : Result := match s.custOf 1 chars with
  | none => .next s
  | some f => .next (s.custReply f 0x81 (beBytes 8 (s.rd64 Reg.BOOT_SERIAL).toNat ++ (List.range 4).flatMap fun n =>
      beBytes 4 (s.rdn (Reg.CUST_CER_STAT n)) ++ beBytes 8 (s.rd64 (Reg.CUST_CER_EXPIRES n)).toNat))

/-- The slot is OPEN or SATISFIED. -/
def State.cerHeld (s : State) (n : Nat) : Bool := decide (n < 4) && (s.cerState n == 1 || s.cerState n == 2)

/-- REQUEST_GET (R848). -/
def execRequestGet (chars : List Nat) (s : State) : Result := match s.custOf 2 chars with
  | none => .next s
  | some f => .next (s.custReply f 0x82 (if s.cerHeld f.slot then (s.cerSlot f.slot).record ++ (s.cerSlot f.slot).ek else []))

/-- The package of a RESTORE slot, which the Scribe runtime holds at `pkgAt`: empty unless its digest is the slot's. -/
def State.slotPackage (s : State) (n pkgAt : Nat) : Bytes :=
  let p := s.memBytes pkgAt (packageLen (leAt (s.memBytes pkgAt 16) 6 1 % 16))
  if s.cerHeld n ∧ s.cerAction n = 6 ∧ packageDigest p = paramDigestA (s.cerSlot n).params then p else []

/-- PACKAGE_GET. -/
def execPackageGet (chars : List Nat) (pkgAt : Nat) (s : State) : Result := match s.custOf 3 chars with
  | none => .next s
  | some f => .next (s.custReply f 0x83 (s.slotPackage f.slot pkgAt))

/-- RESULT: the code, and COUNT of the slot after the command. -/
def State.custResult (s : State) (f : CustFrame) (slot code : Nat) : State :=
  s.custReply f 0x84 [BitVec.ofNat 8 code, BitVec.ofNat 8 (s.fld (Reg.CUST_CER_STAT slot) 29 24)]

/-- COUNTERSIGN (R377): the record put at `buf` and passed to CER_COUNT. -/
def execCountersign (chars : List Nat) (buf : Nat) (s : State) : Result := match s.custOf 4 chars with
  | none => .next s
  | some f =>
    let slot := leAt f.payload 5 1 % 4
    match (s.keyWrite buf f.payload).runCust 0x11 slot [buf] 0 with
    | none => .next s
    | some (t, code) => .next (t.custResult f slot code)

/-- SHARE: the record put at `buf` and passed to RESTORE_SHARE for the RESTORE slot `slot`. -/
def execShare (chars : List Nat) (slot buf pkgAt : Nat) (s : State) : Result := match s.custOf 5 chars with
  | none => .next s
  | some f =>
    match (s.keyWrite buf f.payload).runCust 0x22 (slot % 4) [buf, pkgAt] 0 with
    | none => .next s
    | some (t, code) => .next (t.custResult f (slot % 4) code)

/-- UNKNOWN_FRAME: a valid frame that Table CON-5 does not allow. -/
def execUnknownFrame (chars : List Nat) (s : State) : Result :=
  if !s.custLine then .next s
  else match custFrame chars with
    | none => .next s
    | some f => if custLen f.type = some f.payload.length then .next s else .next (s.custReply f 0x8E [])

end Sys2Proof.Machine
end

