-- ==== Sys2Proof/Machine/Stream.lean ====
section
/-! DEFINITION. Chapter 03, the format and verification of Ductus streams (Tables DUC-1 to DUC-8), and the signature blocks of
Table DUC-6 that images and certificates share. -/

namespace Sys2Proof.Machine

/-! ## Codes of Table DUC-8 -/

abbrev Rej.source : Nat := 0x01
abbrev Rej.magic : Nat := 0x02
abbrev Rej.format : Nat := 0x03
abbrev Rej.length : Nat := 0x04
abbrev Rej.table : Nat := 0x05
abbrev Rej.sectionBounds : Nat := 0x06
abbrev Rej.unknownSection : Nat := 0x07
abbrev Rej.missingSection : Nat := 0x08
abbrev Rej.liveSection : Nat := 0x09
abbrev Rej.unsigned : Nat := 0x0A
abbrev Rej.signer : Nat := 0x0B
abbrev Rej.sigFailed : Nat := 0x0C
abbrev Rej.bind_ : Nat := 0x0D
abbrev Rej.rollback : Nat := 0x0E
abbrev Rej.family : Nat := 0x0F
abbrev Rej.field : Nat := 0x10
abbrev Rej.minimum : Nat := 0x11
abbrev Rej.consistency : Nat := 0x12
abbrev Rej.onceField : Nat := 0x13
abbrev Rej.locked : Nat := 0x14
abbrev Rej.shadowBusy : Nat := 0x15

/-! ## Signature blocks (Table DUC-6, R96a, R98, R138) -/

/-- The public key and signature of a block's words; none where a length or the zero padding is wrong. -/
def sigBlock (lms : Bool) (b : List Word) : Option (Bytes × Bytes) :=
  let pk := (b.getD 0 0).toNat
  let sl := (b.getD 1 0).toNat
  let nk := (pk + 3) / 4
  let ns := (sl + 3) / 4
  let lengths := if lms then (pk == 52 || pk == 60) && decide (sl ≤ 65536) else pk == 2592 && sl == 4627
  if !lengths || b.length != 2 + nk + ns then none
  else
    let k := bytesOfWords ((b.drop 2).take nk)
    let g := bytesOfWords ((b.drop (2 + nk)).take ns)
    if (k.drop pk).any (· != 0) || (g.drop sl).any (· != 0) || (lms && hssKeyLen (k.take pk) != pk) then none
    else some (k.take pk, g.take sl)

/-- Both blocks hold keys of this signer's row and signatures over a message; ML-DSA uses the context `ctx` (R99, R100). -/
def sigsOk (row : SignerRow) (lms mldsa : List Word) (ctx : String) (msg : Bytes) : Bool :=
  (match sigBlock true lms with
   | some (k, g) => sha384 k == row.hss && hssVerify k g msg
   | none => false) &&
  (match sigBlock false mldsa with
   | some (k, g) => sha384 k == row.mldsa && mldsaVerify k g (ascii ctx) msg
   | none => false)

def SignerRow.honoured (r : SignerRow) : Bool := r.enrolled && !r.revoked

/-! ## Parsing (R87 to R93) -/

structure Stream where
  /-- The stream's LENGTH_WORDS words. -/
  words : List Word
  /-- Sections in table order: code, offset of the tag word, body. -/
  secs : List (Nat × Nat × List Word)

def Stream.word (t : Stream) (i : Nat) : Word := t.words.getD i 0
def Stream.live (t : Stream) : Bool := (t.word 4).getLsbD 0
def Stream.version (t : Stream) : Nat := fieldOf (t.word 5) 15 0
def Stream.signer (t : Stream) : Nat := fieldOf (t.word 6) 1 0
def Stream.target (t : Stream) : Nat := (t.word 7).toNat + 2 ^ 32 * (t.word 8).toNat
def Stream.id (t : Stream) : Nat := (t.word 9).toNat + 2 ^ 32 * (t.word 10).toNat
def Stream.has (t : Stream) (code : Nat) : Bool := t.secs.any fun e => e.1 == code
def Stream.body (t : Stream) (code : Nat) : Option (List Word) := (t.secs.find? fun e => e.1 == code).map fun e => e.2.2
/-- Both signature sections are present (R92 lets none stand alone). -/
def Stream.signed (t : Stream) : Bool := t.has 0xF0

/-- The signed region (R93). -/
def Stream.signedBytes (t : Stream) : Bytes :=
  match t.secs.find? fun e => e.1 == 0xF0 with
  | some e => bytesOfWords (t.words.take e.2.1)
  | none => bytesOfWords t.words

/-- Known section codes (Table DUC-2). -/
def secKnown (c : Nat) : Bool := decide (1 ≤ c ∧ c ≤ 0x11) || c == 0xF0 || c == 0xF1

/-- The length word of a section is one its form allows (R91); unknown and signature sections have no form here. -/
def secFormOk (c n : Nat) : Bool := match c with
  | 0x01 => n == 10
  | 0x02 => n == 6
  | 0x03 => n == 5
  | 0x04 => decide (21 ≤ n) && (n - 21) % 10 == 0
  | 0x05 => n == 130
  | 0x06 => n == 3
  | 0x07 => decide (4 ≤ n)
  | 0x08 => n == 8
  | 0x09 => n == 4
  | 0x0A => n == 90
  | 0x0B => n == 1
  | 0x0C => n == 512
  | 0x0D => n == 4
  | 0x0E => n == 3
  | 0x0F => n % 9 == 0
  | 0x10 => n == 11
  | 0x11 => n % 17 == 0
  | _ => true

/-- The low byte of word `i`: a section code or count. -/
def lowByte (w : List Word) (i : Nat) : Nat := fieldOf (w.getD i 0) 7 0

/-- What step 5 finds: a breach of R89 to R92, a section that runs past LENGTH_WORDS, and the sections walked. -/
structure Walk where
  bad : Bool
  past : Bool
  secs : List (Nat × Nat × List Word)

/-- Walk `k` table entries from entry `i`; `pos` is where the next section starts (R90, R91). Once a section start leaves no room
for its tag and length words in the stream, neither they nor the entries after it can be judged: that is a section past the
stream's end (DESIGN CHOICE, log entry 56). -/
def walkTable (w : List Word) (len : Nat) : Nat → Nat → Nat → Walk
  | 0, _, pos => ⟨decide (pos < len), decide (len < pos), []⟩
  | k + 1, i, pos =>
    let misplaced := (w.getD (17 + 2 * i) 0).toNat != pos
    if len < pos + 2 then ⟨misplaced, true, []⟩
    else
      let code := lowByte w (16 + 2 * i)
      let tag := w.getD pos 0
      let n := (w.getD (pos + 1) 0).toNat
      let r := walkTable w len k (i + 1) (pos + 2 + n)
      ⟨misplaced || fieldOf tag 7 0 != code || fieldOf tag 31 8 != 1 || !secFormOk code n || r.bad, decide (len < pos + 2 + n) || r.past,
        (code, pos, (w.drop (pos + 2)).take n) :: r.secs⟩

/-- The table entries alone: reserved bits 0, codes strictly ascending, and both signature sections or neither (R89, R90, R92). -/
def entriesOk (w : List Word) (n : Nat) : Bool :=
  let codes := (List.range n).map fun i => lowByte w (16 + 2 * i)
  (List.range n).all (fun i => fieldOf (w.getD (16 + 2 * i) 0) 31 8 == 0) &&
    (List.zipWith (fun a b => decide (a < b)) codes codes.tail).all id && codes.contains 0xF0 == codes.contains 0xF1

/-- Steps 2 to 6 of Table DUC-8 on the words supplied. At step 5 every TABLE fault of the stream comes before
SECTION_BOUNDS, as the table lists them. -/
def parseStream (w : List Word) (live : Bool) : Except Nat Stream :=
  let len := (w.getD 2 0).toNat
  let n := lowByte w 3
  let r := walkTable w len n 0 (16 + 2 * n)
  if w.getD 0 0 ≠ 0x54435544 then .error Rej.magic
  else if w.getD 1 0 ≠ 0x00010000 ∨ (w.getD 4 0).getLsbD 0 ≠ live then .error Rej.format
  else if len < 30 ∨ 1048576 < len ∨ w.length < len then .error Rej.length
  else if n < 1 ∨ 19 < n ∨ len < 16 + 2 * n ∨ entriesOk w n = false ∨ r.bad = true then .error Rej.table
  else if r.past then .error Rej.sectionBounds
  else if r.secs.any fun e => !secKnown e.1 then .error Rej.unknownSection
  else .ok ⟨w.take len, r.secs⟩

/-- Step 7: the required sections, and for a live stream no other than the live column allows. -/
def presence (t : Stream) (live : Bool) : Option Nat :=
  let need := if live then [0x01] else [0x01, 0x02, 0x03, 0x04, 0x05, 0x06, 0x08, 0x09, 0x0C, 0x11]
  if need.any fun c => !t.has c then some Rej.missingSection
  else if live && [0x02, 0x03, 0x06, 0x0A, 0x0B, 0x0D, 0x0E, 0x10, 0x11].any t.has then some Rej.liveSection
  else none

/-! ## Fields (step 13: R94, R95, R988) -/

/-- Words of a body lie within masks of the fields that Tables DUC-3 and DUC-4 name. -/
def masked (b : List Word) (m : List Word) : Bool := (m.zipIdx).all fun e => b.getD e.2 0 &&& ~~~ e.1 == 0

def bw (b : List Word) (i hi lo : Nat) : Nat := fieldOf (b.getD i 0) hi lo

/-- ASCII, zero-padded (IDENT NAME). -/
def nameOk (b : Bytes) : Bool := b.all (fun c => decide (c.toNat < 128)) && (b.dropWhile (· != 0)).all (· == 0)

def portsOk (b : List Word) : Bool :=
  masked b [0xFFFF, 0x3FFF, 0x1FFFF, 0, 0xFFFF, 0x3FFF, 0x1FFFF, 0] &&
  [0, 4].all fun i => decide (bw b i 3 0 ≤ 4 ∧ 64 ≤ bw b (i + 1) 13 0 ∧ bw b (i + 1) 13 0 ≤ 9216)

def foliosOk (b : List Word) : Bool :=
  masked b [] && ((List.range 64).all fun f =>
    let x := b.getD (2 * f) 0
    let y := b.getD (2 * f + 1) 0
    x &&& 0xE000FFE0 == 0 && y &&& 0xF800F800 == 0 && decide (fieldOf x 28 16 ≤ 7104 ∧ fieldOf x 4 0 ≤ 16) &&
    decide (fieldOf y 26 16 ≤ 1024 ∧ fieldOf y 10 0 ≤ 1024 ∧ fieldOf y 26 16 ≤ fieldOf y 10 0)) &&
  decide ((b.getD 128 0).toNat ≤ 4096 ∧ (b.getD 129 0).toNat ≤ 4096)

def routeWordOk (v : Word) : Bool := v &&& 0x0600FFFF == 0 && decide (fieldOf v 29 27 ≤ 4)

/-- The initial values of a console: CON_CFG and CON_BAUD, judged with the reset values of the other registers (R94, R828). -/
def consoleOk (cfg baud : Word) : Bool :=
  cfg &&& ~~~ conMask .cfg == 0 && baud &&& ~~~ conMask .baud == 0 && !conBadCombo cfg baud 0x00111300 0xC0400100

/-- The SMBus addresses that may not be used (R855). -/
def smbReserved (a : Nat) : Bool := decide (a ≤ 8) || [0x0C, 0x28, 0x37, 0x61].contains a || decide (0x78 ≤ a)

def smbusOk (b : List Word) (sel : Nat) : Bool :=
  let slots := (List.range 4).map fun i => bw b 0 6 0 + 8 * sel + i
  let grp := fun a => (a ^^^ bw b 2 6 0) &&& bw b 2 14 8 == 0
  masked b [0x7F, 0xF, 0xFF7F] && slots.all (fun a => decide (a ≤ 0x7F) && !smbReserved a) &&
  (!(b.getD 2 0).getLsbD 15 || (List.range 128).all fun a => !grp a || (!smbReserved a && !slots.contains a))

def signed8 (n : Nat) : Int := (BitVec.ofNat 8 n).toInt

def alarmsOk (b : List Word) : Bool :=
  masked b ([0xFFFFFF, 0xFFFF007F, 0xFFF] ++ List.replicate 8 0xFF) && decide (signed8 (bw b 0 23 16) ≤ 0) &&
  decide (1 ≤ bw b 1 31 16) && (List.range 8).all fun i => decide (1 ≤ bw b (3 + i) 7 0)

/-- Pairwise distinct. -/
def noRepeat : List Nat → Bool
  | [] => true
  | x :: r => !r.contains x && noRepeat r

def rulingOk (b : List Word) : Bool :=
  let recs := (List.range ((b.length - 21) / 10)).map fun i => (b.drop (21 + 10 * i)).take 10
  (List.range 7).all (fun u => b.getD (3 * u) 0 &&& 0xFFFFFFE0 == 0 && bw b (3 * u) 2 0 == u) &&
  recs.all (fun r => r.getD 0 0 &&& 0xFFFFFC00 == 0 && decide (bw r 0 2 0 ≤ 6) && entryReservedOk (bw r 0 2 0) (r.drop 1)) &&
  noRepeat (recs.map fun r => bw r 0 9 0)

def strokeEntries (b : List Word) : List (List Word) := (List.range (b.length / 9)).map fun i => (b.drop (9 * i)).take 9

def strokesOk (b : List Word) : Bool :=
  (strokeEntries b).all (fun e => e.getD 0 0 &&& 0x7FFFFC00 == 0 && e.getD 1 0 &&& 0x1F000000 == 0 &&
    (armReason (e.getD 1 0) (e.getD 2 0) ((e.getD 5 0).toNat + 2 ^ 32 * (e.getD 6 0).toNat)).isNone) &&
  noRepeat ((strokeEntries b).map fun e => bw e 0 9 0)

def imageWordsOk (b : List Word) : Bool :=
  decide (b.length / 17 ≤ 16) &&
  ((List.range (b.length / 17)).all fun i => decide (bw b (17 * i) 31 8 ≤ 1) && bw b (17 * i + 4) 31 8 == 0) &&
  noRepeat ((imagesOf b).map (·.id))

/-- Reserved bits, reserved encodings and values out of range of one Quill entry of table `t` (Tables QUI-1 to QUI-5). -/
def quillEntryOk (t : Nat) (e : List Word) : Bool := match t with
  | 0 => e.getD 0 0 &&& 0x000FFFFF == 0 && (List.range 6).all (fun i => e.getD (i + 1) 0 &&& 0x00FF0000 == 0 &&
        (!(e.getD (i + 1) 0).getLsbD 30 || bw e (i + 1) 15 0 == 0)) &&
      e.getD 7 0 == 0 && decide (bw e 0 30 27 ≤ 8)
  | 1 => e.getD 0 0 &&& 0xFFFF == 0 && e.getD 1 0 &&& 0x3FF == 0 && e.getD 2 0 &&& 0xFFFFF == 0 && e.getD 3 0 &&& 0x1FFF == 0 &&
      decide (bw e 3 22 19 ≤ 14)
  | 2 => e.getD 0 0 &&& 0x07000000 == 0 && e.getD 1 0 &&& 0xFF000000 == 0 && decide (bw e 0 30 27 ≤ 6)
  | _ => e.getD 0 0 &&& 0x003FF000 == 0 && e.getD 1 0 == 0 && decide (1 ≤ bw e 0 28 22 ∧ bw e 0 28 22 ≤ 64)

def quillOk (b : List Word) : Bool :=
  quilCountsOk b &&
  (let n := fun k => (b.getD k 0).toNat
   let start := fun t => 4 + (List.range t).foldl (fun p k => p + quilWords k * n k) 0
   (List.range 4).all fun t => (List.range (n t)).all fun i =>
     quillEntryOk t ((b.drop (start t + quilWords t * i)).take (quilWords t)))

/-- Step 13 on one section; `sel` is the sampled ADDR_SEL. -/
def sectionOk (code : Nat) (b : List Word) (sel : Nat) : Bool := match code with
  | 0x01 => nameOk (bytesOfWords (b.drop 2))
  | 0x02 => masked b [3, 0xFFFFFFFF, 0xFFFFFFFB] && decide ((b.getD 1 0).toNat ≤ 500000)
  | 0x03 => masked b [0x001FFF01, 0x3FFF, 0xFF, 0xFFFF, 0xFF] && decide (bw b 0 20 16 ≤ 14 ∧ 1 ≤ bw b 1 13 0) &&
      decide (1 ≤ bw b 3 15 0 ∧ bw b 3 15 0 ≤ 60000)
  | 0x04 => rulingOk b
  | 0x05 => foliosOk b
  | 0x06 => masked b [0x37F, 0x1FFFFF, 1] && decide (1 ≤ bw b 1 20 0)
  | 0x07 => quillOk b
  | 0x08 => portsOk b
  | 0x09 => masked b [0x1F, 0xFFFFFFFF, 0xFFFFFFFF, 7]
  | 0x0A => masked b [0xFFFFF, 7]
  | 0x0B => masked b [3]
  | 0x0C => b.all routeWordOk
  | 0x0D => consoleOk (b.getD 0 0) (b.getD 1 0) && consoleOk (b.getD 2 0) (b.getD 3 0)
  | 0x0E => smbusOk b sel
  | 0x0F => strokesOk b
  | 0x10 => alarmsOk b
  | 0x11 => imageWordsOk b
  | _ => true

/-- Step 13: the header's reserved fields and every section (R106). -/
def fieldsOk (t : Stream) (sel : Nat) : Bool :=
  fieldOf (t.word 3) 31 8 == 0 && fieldOf (t.word 4) 31 1 == 0 && fieldOf (t.word 5) 31 16 == 0 &&
  fieldOf (t.word 6) 31 2 == 0 && (List.range 5).all (fun i => t.word (11 + i) == 0) &&
  t.secs.all fun e => sectionOk e.1 e.2.2 sel

/-! ## Minimums and consistency (steps 14 and 15) -/

/-- Set bits of a number of `n` bits. -/
def popcount (n v : Nat) : Nat := ((List.range n).filter v.testBit).length

/-- Step 14 (Table DUC-7) on the bodies carried; `sec` gives a body. -/
def minimumsOk (sec : Nat → Option (List Word)) : Bool :=
  (match sec 0x03 with
   | some b => decide (2 ≤ bw b 0 20 16) && decide (popcount 8 (bw b 0 15 8) ≤ 2) &&
       (bw b 0 0 0 == 1 || bw b 0 15 8 == 0) && decide (bw b 1 13 0 ≤ 10000)
   | none => true) &&
  (match sec 0x05 with
   | some b => (List.range 64).all fun f => decide (8 ≤ bw b (2 * f + 1) 26 16)
   | none => true) &&
  (match sec 0x06 with
   | some b => bw b 0 6 6 == 1 && decide (bw b 1 20 0 ≤ 1048576)
   | none => true) &&
  (match sec 0x09 with
   | some b => bw b 0 0 0 == 1
   | none => true) &&
  (match sec 0x10 with
   | some b => decide (-45 ≤ signed8 (bw b 0 23 16))
   | none => true)

def sumOf (l : List Nat) : Nat := l.foldl (· + ·) 0

/-- Step 15 (R107, R698); absent sections carry the empty body. -/
def consistentOk (sec : Nat → Option (List Word)) (flash : Nat) : Bool :=
  let b := fun c => (sec c).getD []
  let fol := fun hi lo o => sumOf ((List.range 64).map fun f => bw (b 5) (2 * f + o) hi lo)
  decide (fol 26 16 1 ≤ 4096) && decide (fol 28 16 0 ≤ 7104) &&
  ((List.range 2).all fun p => !(bw (b 6) 0 9 8).testBit p || (bw (b 6) 0 3 0 >>> (2 * p)) % 4 == 3) &&
  (List.range 8).all (fun c => !(bw (b 3) 0 15 8).testBit c || (bw (b 3) 4 7 0).testBit c) &&
  (strokeEntries (b 0x0F)).all (fun e => bw e 1 23 16 != 4 || (bw (b 0x0A) 0 19 0).testBit (bw e 1 15 0)) &&
  ((imagesOf (b 0x11)).filter fun i => i.cls == 0).length == 1 &&
  (imagesOf (b 0x11)).all (fun i => i.len == 0 || decide (0x800000 ≤ i.off ∧ i.off + i.len ≤ flash)) &&
  (match sec 0x07 with
   | some q => (quilVerdict (quilBody q)).1 == 0
   | none => true)

/-! ## The whole verification -/

/-- A class's anti-rollback floors: class 0 Scribe, 1 Draft, 2 Ductus (R219). -/
def State.otpFloor (s : State) (cls : Nat) : Nat := match cls with
  | 0 => popCount (s.otp.floors.getD 1 0)
  | 1 => popCount (s.otp.floors.getD 2 0)
  | _ => popCount (s.otp.floors.getD 0 0)

def State.blotFloor (s : State) (cls : Nat) : Nat := match cls with
  | 0 => s.fld Reg.BOOT_BFLOOR0 15 0
  | 1 => s.fld Reg.BOOT_BFLOOR0 31 16
  | _ => s.fld Reg.BOOT_BFLOOR1 15 0

def State.floor (s : State) (cls : Nat) : Nat := max (s.otpFloor cls) (s.blotFloor cls)

/-- Life-cycle states by code (Table LCY-1). -/
def State.life (s : State) : Nat := s.fld Reg.LCY_STATE 3 0

/-- The signer row a stream names: a customer row, or in ANALYSIS the vendor row for SIGNER 0 (R100, R141). -/
def State.streamRow (s : State) (signer : Nat) : Option SignerRow :=
  if s.life = 5 then (if signer = 0 then some s.otp.vendor else none)
  else s.otp.customers[signer]?

/-- Steps 8 and 9. -/
def State.streamSigned (s : State) (t : Stream) (live : Bool) : Option Nat :=
  if !t.signed then (if s.life = 3 then none else some Rej.unsigned)
  else match s.streamRow t.signer with
    | none => some Rej.signer
    | some row =>
      if !row.honoured then some Rej.signer
      else if (live && !s.flourishUp) ||
          !sigsOk row ((t.body 0xF0).getD []) ((t.body 0xF1).getD []) "BN96-DUCTUS" t.signedBytes then some Rej.sigFailed
      else none

/-- Step 17 of a live stream: no locked index, and OVERLAP, INITIAL_SET and LOCK_MASK as in the stream in force. -/
def State.rulingLocked (s : State) (b : List Word) : Bool :=
  let cur := s.section_ 0x04
  !((List.range 7).all fun u => b.getD (3 * u) 0 == cur.getD (3 * u) 0 && b.getD (3 * u + 1) 0 == cur.getD (3 * u + 1) 0 &&
      b.getD (3 * u + 2) 0 == cur.getD (3 * u + 2) 0) ||
  (List.range ((b.length - 21) / 10)).any fun i => s.isLocked (bw b (21 + 10 * i) 2 0) (bw b (21 + 10 * i) 9 4)

/-- The body a check of a live stream takes: the one it carries, or the one in force (R107). -/
def State.bodyFor (s : State) (t : Stream) (live : Bool) (code : Nat) : Option (List Word) :=
  match t.body code with
  | some b => some b
  | none => if live then (s.duct.inForce.find? fun e => e.1 == code).map (·.2) else none

/-- Steps 7 to 17 of Table DUC-8 on a parsed stream (R101). -/
def State.streamRefusal (s : State) (t : Stream) (live : Bool) : Option Nat :=
  match presence t live with
  | some c => some c
  | none => match s.streamSigned t live with
    | some c => some c
    | none =>
      if t.target ≠ 0 ∧ t.target ≠ s.otp.serial then some Rej.bind_
      else if t.version < s.floor 2 ∨ (live ∧ t.version < max (s.rdn Reg.DUCT_VERSION) (s.rdn Reg.DUCT_LIVE_VERSION)) then
        some Rej.rollback
      else if live ∧ ((t.body 0x01).getD []).getD 0 0 ≠ s.rd Reg.DUCT_CONFIG_ID then some Rej.family
      else if !fieldsOk t (s.fld Reg.BOOT_STAT 14 13) then some Rej.field
      else if !minimumsOk t.body then some Rej.minimum
      else if !consistentOk (s.bodyFor t live) s.flashSize then some Rej.consistency
      else if t.has 0x0B && s.epochSet && bw ((t.body 0x0B).getD []) 0 1 0 != (s.mramByte 0x20).toNat % 4 then some Rej.onceField
      else if live && s.rulingLocked ((t.body 0x04).getD (s.section_ 0x04 |>.take 21)) then some Rej.locked
      else none

/-- Verify the words of a stream from step 1 (`readOk`: read without uncorrectable error, and where it must lie). -/
def State.verifyStream (s : State) (w : List Word) (live readOk : Bool) : Except Nat Stream :=
  if !readOk then .error Rej.source
  else match parseStream w live with
    | .error c => .error c
    | .ok t => match s.streamRefusal t live with
      | some c => .error c
      | none => .ok t

end Sys2Proof.Machine
end

