-- ==== Sys2Proof/Machine/LifeCycle.lean ====
section
/-! DEFINITION. Chapter 04: the state word, transitions, tokens, certificates, debug sessions and the test access port. -/

namespace Sys2Proof.Machine

/-! ## The state word (R144, R145, Tables LCY-2, LCY-3) -/

/-- A valid codeword: state code, round, word. -/
structure LcyCode where
  state : Nat
  round : Nat
  word : Nat
  deriving DecidableEq, Repr

/-- Rounds 1 to `k` complete. -/
def lcyL (k : Nat) : Nat := 16 ^ k - 1

/-- The mark of a transition to state `st` in round `n` (Table LCY-2). -/
def lcyMark (st n : Nat) : Nat := match st with
  | 1 => 3 * 16 ^ (n - 1)
  | 2 => 12 * 16 ^ (n - 1)
  | 3 => 0xFF * 2 ^ 32
  | 4 => 0xFF * 2 ^ 40
  | 5 => 0xFF * 2 ^ 48
  | _ => 0xFF * 2 ^ 56

/-- The codewords but those of SCRAP. -/
def lcyBase : List LcyCode :=
  ⟨0, 0, 0⟩ :: (List.range 7).flatMap fun i =>
    let l := lcyL (i + 1)
    [⟨1, i + 1, lcyL i + lcyMark 1 (i + 1)⟩, ⟨2, i + 1, l⟩, ⟨3, i + 1, l + lcyMark 3 0⟩,
     ⟨4, i + 1, l + lcyMark 3 0 + lcyMark 4 0⟩, ⟨5, i + 1, l + lcyMark 3 0 + lcyMark 5 0⟩,
     ⟨5, i + 1, l + lcyMark 3 0 + lcyMark 4 0 + lcyMark 5 0⟩]

def lcyCodes : List LcyCode := lcyBase ++ lcyBase.map fun c => ⟨6, c.round, c.word + lcyMark 6 0⟩

/-! ## Transitions (Table LCY-4) -/

inductive LcyAuth where
  | token (slot : Nat)
  | none
  /-- A certificate of a KIND; which classes sign it, and whether LCY_CMD delivers it. -/
  | cert (kind : Nat) (vendor customer cmd : Bool)
  deriving DecidableEq, Repr

/-- What is erased before the first mark bit. -/
inductive LcyErase where
  | none | keyAndScribe | user | userFlash
  deriving DecidableEq, Repr

structure LcyTrans where
  dest : Nat
  round : Nat
  auth : LcyAuth
  erase : LcyErase
  deriving DecidableEq, Repr

/-- The transitions of Table LCY-4 from a state in a round. -/
def lcyFrom (st n : Nat) : List LcyTrans := match st with
  | 0 => [⟨1, 1, .token 1, .none⟩, ⟨6, 0, .none, .userFlash⟩]
  | 1 => [⟨2, n, .none, .none⟩, ⟨6, n, .none, .userFlash⟩]
  | 2 => (if n ≤ 6 then [⟨1, n + 1, .token (n + 1), .none⟩] else []) ++
      [⟨3, n, .cert 2 true false false, .keyAndScribe⟩, ⟨6, n, .none, .userFlash⟩]
  | 3 => [⟨4, n, .cert 3 false true true, .user⟩, ⟨5, n, .cert 4 true true true, .userFlash⟩,
      ⟨6, n, .cert 5 true true true, .userFlash⟩]
  | 4 => [⟨5, n, .cert 4 false true true, .userFlash⟩, ⟨6, n, .cert 5 false true true, .userFlash⟩]
  | 5 => [⟨6, n, .cert 5 true false false, .userFlash⟩]
  | _ => []

def LcyTrans.mark (t : LcyTrans) : Nat := lcyMark t.dest t.round

/-- Every set bit of `a` is set in `b`. -/
def bitsWithin (a b : Nat) : Bool := a ||| b == b

/-- The codewords S that meet R154 for pattern `p`, each with the transition that leads to it. -/
def lcyCompletions (p : Nat) : List (Nat × LcyTrans) :=
  lcyCodes.flatMap fun d =>
    if bitsWithin d.word p && d.word != p then
      (lcyFrom d.state d.round).filterMap fun t =>
        if bitsWithin p (d.word ||| t.mark) then some (d.word ||| t.mark, t) else none
    else []

/-- The one successor a recoverable INVALID pattern leads to (R154). -/
def lcyRecover (p : Nat) : Option LcyTrans := match lcyCompletions p with
  | [] => none
  | (w, t) :: r => if r.all fun x => x.1 == w then some t else none

/-- Decode LCY_WORD into LCY_STATE, with no session and no lockout (R145, R154). -/
def State.lcyDecode (s : State) : State :=
  let w := s.otp.lcyWord.toNat
  let v := match lcyCodes.find? fun c => c.word == w with
    | some c => c.state + 16 * c.round
    | none => match lcyRecover w with
      | some t => 15 + 2 ^ 11 + 4096 * t.dest
      | none => 15
  (s.wr Reg.LCY_STATE (BitVec.ofNat 32 v)).wr Reg.LCY_RIGHTS 0

def State.lcyRound (s : State) : Nat := s.fld Reg.LCY_STATE 7 4
def State.dbgSession (s : State) : Bool := s.bit Reg.LCY_STATE 10

/-- The transitions open now: those of the state, or the recovery of an INVALID unit (R155). -/
def State.lcyOpen (s : State) : List LcyTrans :=
  if s.life = 15 then (lcyRecover s.otp.lcyWord.toNat).toList else lcyFrom s.life s.lcyRound

/-! ## Requests (R146, R148, R181) -/

/-- A request is refused at once with a code; one in progress is not disturbed (R181). -/
def State.lcyRefuse (s : State) (code : Nat) : State := s.setf Reg.LCY_RESULT 31 24 code

/-- A life-cycle request is in progress: one that is being checked or carried out, a self-reset that is due, or a NONCE that
waits for entropy (R181, R473). -/
def State.lcyBusy (s : State) : Bool := s.lcy.req.isSome || s.lcy.resetDue || s.lcy.nonceHeld

def State.lcyBegin (s : State) (g : LcyGoal) : State :=
  ({ s with lcy := { s.lcy with req := some g } }).wr Reg.LCY_RESULT 0x00800000

/-- The erase that comes before the first mark bit. -/
def State.lcyErase (s : State) : LcyErase → State
  | .none => s
  | .keyAndScribe =>
    let s := s.eraseKeys (fun o => o.engaged || o.keyBy fun _ => true) St.aborted
    let hit := fun a => memOf a == .scribe
    { s with mem := { s.mem with sram := Tab.clear s.mem.sram hit, bad := Tab.clear s.mem.bad hit, fix := s.mem.fix.filter fun a => !hit a } }
  | .user => s.eraseUserSecret false
  | .userFlash => s.eraseUserSecret true

/-- An authorised transition starts its erase; its mark follows (R148). -/
def State.lcyTransit (s : State) (t : LcyTrans) : State :=
  (s.lcyErase t.erase).lcyBegin (.mark (s.otp.lcyWord ||| BitVec.ofNat 64 t.mark) (t.erase == .user || t.erase == .userFlash))


/-! ## Certificates (Tables LCY-5 to LCY-7) -/

def certKind (c : Bytes) : Nat := leAt c 6 1
def certSigner (c : Bytes) : Nat := leAt c 7 1
def certRights (c : Bytes) : Nat := leAt c 0x14 4

/-- The words of the two signature blocks, where the lengths fill the certificate. -/
def certBlocks (c : Bytes) : Option (List Word × List Word) :=
  let n := 8 + 4 * ((leAt c 0x40 4 + 3) / 4) + 4 * ((leAt c 0x44 4 + 3) / 4)
  if c.length = 64 + n + 7228 ∧ c.length ≤ 72896 then
    some (wordsOfBytes ((c.drop 64).take n), wordsOfBytes (c.drop (64 + n)))
  else none

/-- Step 1: FORMAT. -/
def certFormOk (c : Bytes) : Bool :=
  decide (72 ≤ c.length) && leAt c 0 4 == 0x4359434C && leAt c 4 2 == 1 && (certSigner c / 4) % 32 == 0 &&
  (decide (128 ≤ certSigner c) || certSigner c == 0) && leAt c 0x38 8 == 0 && decide (certRights c < 64) &&
  (certKind c == 1 || (leAt c 0x10 4 == 0 && certRights c == 0 && leAt c 0x18 32 == 0)) &&
  (match certBlocks c with
   | some (l, m) => (sigBlock true l).isSome && (sigBlock false m).isSome
   | none => false)

/-- The certificate at LCY_CERT_ADDR; one that does not lie in SRAM, is refused or holds a poisoned word is taken as empty. -/
def State.cmdCert (s : State) : State × Bytes :=
  let a := s.fld (Reg.LCY_CERT_ADDR + 4) 7 0 * 2 ^ 32 + s.rdn Reg.LCY_CERT_ADDR
  let r := s.scribeRead a (s.fld Reg.LCY_CERT_LEN 16 0)
  (r.1, r.2.getD [])

/-- DEBUG, ANALYSIS and SCRAP certificates need a ceremony over LCY_CMD (R366). -/
def needsCeremony (c : Bytes) : Bool := [1, 4, 5].contains (certKind c)

/-- The satisfied DEBUG ceremony whose DIGEST_A is the SHA-384 of the certificate's header (R366). -/
def State.cerForCert (s : State) (c : Bytes) : Option Nat :=
  (List.range 4).find? fun n =>
    s.cerState n == 2 && s.cerAction n == 7 && paramDigestA (s.cerSlot n).params == sha384 (c.take 64)

/-- LCY_SUBMIT (R164, R366): the certificate at LCY_CERT_ADDR is taken for checking. The Scribe runtime, whose write this is,
submits a DEBUG, ANALYSIS or SCRAP certificate only under its ceremony, which it closes with the submission; without one nothing is
submitted (DEDUCED, log entry 58). -/
def execLcySubmit (s : State) : Result :=
  if s.lcyBusy then .next (s.lcyRefuse 0x0A)
  else
    let r := s.cmdCert
    let s := r.1
    let c := r.2
    let q := s.cerForCert c
    if needsCeremony c && q.isNone then .next s
    else
      let s := match q with
        | some n => if needsCeremony c then s.cerFree n else s
        | none => s
      let s := (s.lcyBegin (.check c)).setb Reg.LCY_CMD 31 true
      .next { s with lcy := { s.lcy with fromCmd := true } }

/-- The row of the signer a certificate names. -/
def State.certRow (s : State) (c : Bytes) : SignerRow :=
  if certSigner c < 128 then s.otp.vendor else s.otp.customers.getD (certSigner c % 4) {}

/-- Step 2: the transition of the KIND that the state permits on this path; DEBUG has none. -/
def State.certTrans (s : State) (kind : Nat) : Option LcyTrans :=
  s.lcyOpen.find? fun t => match t.auth with
    | .cert k _ _ cmd => k == kind && (cmd || !s.lcy.fromCmd)
    | _ => false

/-- Step 3: the classes that may sign. A DEBUG certificate is a customer signer's (DEDUCED, log entry 50). -/
def certClassOk (t : Option LcyTrans) (vendor : Bool) : Bool := match t with
  | none => !vendor
  | some t => match t.auth with
    | .cert _ v c _ => if vendor then v else c
    | _ => false

/-- Table LCY-7: the first failing step's code, or 0. -/
def State.certCode (s : State) (c : Bytes) : Nat :=
  let t := s.certTrans (certKind c)
  let row := s.certRow c
  let debug := certKind c == 1
  if !certFormOk c then 0x01
  else if if debug then s.life != 4 || s.dbgSession else t.isNone then 0x02
  else if !certClassOk t (decide (certSigner c < 128)) || !row.honoured then 0x03
  else if !s.flourishUp || !(match certBlocks c with
      | some (l, m) => sigsOk row l m "BN96-LCYCERT" (c.take 64)
      | none => false) then 0x04
  else if leAt c 8 8 ≠ s.otp.serial then 0x05
  else if debug && leAt c 0x10 4 != s.pcc then 0x06
  else if debug && s.lcy.nonce != some (slice c 0x18 32) then 0x07
  else if certKind c = 3 ∧ !(s.otp.customers.any (·.honoured) && s.otp.vendor.honoured) then 0x08
  else 0

/-- LCY_CHECK_DONE (R164, R165, R169): the certificate fails with a code, or its erase starts. -/
def execLcyCheckDone (s : State) : Result := match s.lcy.req with
  | some (.check c) =>
    match s.certCode c with
    | 0 =>
      if certKind c = 1 then
        let s := { s with lcy := { s.lcy with nonce := none } }
        .next ((s.eraseUserSecret false).lcyBegin (.session (BitVec.ofNat 32 (certRights c))))
      else match s.certTrans (certKind c) with
        | some t => .next (s.lcyTransit t)
        | none => .next s
    | code => .next (s.lcyFinish code)
  | _ => .next s

/-- The bits of `w` below bit `n`. -/
def bitsUnder (w : DWord) (n : Nat) : DWord := w &&& BitVec.ofNat 64 (2 ^ n - 1)

/-- LCY_REQUEST_COMPLETE (R146, R149, R157, R166, R169, R815): once the erase has ended, a failed wipe ends the request with
ABORTED; else the mark is written in ascending order up to a bit that fails (`otpFail`), or the session opens. A NONCE that waits
is drawn once there is entropy (R473). -/
def execLcyRequestComplete (otpFail : Option Nat) (s : State) : Result :=
  if s.mem.wipe.isSome then .next s
  else match s.lcy.req with
    | some (.mark w wiped) =>
      if wiped && s.bit Reg.MEM_WIPE_STAT 30 then .next (s.lcyFinish 0x0B)
      else match otpFail with
        | some b =>
          if (w &&& ~~~ s.otp.lcyWord).getLsbD b then
            .next (({ s with otp := { s.otp with lcyWord := s.otp.lcyWord ||| bitsUnder w b } }).lcyFinish 0x0C)
          else .next s
        | none => .next { s with otp := { s.otp with lcyWord := s.otp.lcyWord ||| w },
                                 lcy := { s.lcy with req := none, resetDue := true } }
    | some (.session r) =>
      if s.bit Reg.MEM_WIPE_STAT 30 then .next (s.lcyFinish 0x0B)
      else if otpFail.isSome && decide (popCount s.otp.therm < 64) then .next (s.lcyFinish 0x0C)
      else
        let s := { s with otp := { s.otp with therm := burnBits s.otp.therm 1 } }
        .next (((s.setb Reg.LCY_STATE 10 true).wr Reg.LCY_RIGHTS r).lcyFinish 0)
    | _ => .next s.lcyNonceRetry

/-- A session ends: at BLOT and at every reset (R171). -/
def State.endDebug (s : State) : State := (s.setb Reg.LCY_STATE 10 false).wr Reg.LCY_RIGHTS 0

/-- BLOT cancels a certificate's check or session, and a transition whose pre-write erase has not ended; the write of a mark
goes on (R182, R186). That a certificate still under check is cancelled too is DEDUCED from code 0x0B (log entry 57). -/
def State.lcyBlot (s : State) : State :=
  let s := match s.lcy.req with
    | none => s
    | some (.mark _ _) => if s.mem.wipe.isSome then s.lcyFinish 0x0B else s
    | some (.check _) => s.lcyFinish 0x0B
    | some (.session _) => s.lcyFinish 0x0B
  s.endDebug

/-- A reset of the main domain that falls in the write of a mark leaves the bits written so far, in ascending order (R146);
how many is free. -/
def State.markCut (s : State) : State := match s.lcy.req with
  | some (.mark w wiped) =>
    if s.mem.wipe.isSome || (wiped && s.bit Reg.MEM_WIPE_STAT 30) then s
    else
      let missing := w &&& ~~~ s.otp.lcyWord
      let (k, s) := s.freshWord
      { s with otp := { s.otp with lcyWord := s.otp.lcyWord ||| lowBits missing (k.toNat % (popCount missing + 1)) } }
  | _ => s

/-! ## The nonce (R168, R473) -/

/-- LCY_NONCE (R11, R168, R181). -/
def execLcyNonce (s : State) : Result :=
  if s.lcyBusy then .next (s.lcyRefuse 0x0A)
  else .next ((s.setb Reg.LCY_CMD 30 true).lcyNonce)

/-! ## The test access port (R13, R153, R174 to R180) -/

def State.right (s : State) (i : Nat) : Bool := s.dbgSession && s.bit Reg.LCY_RIGHTS i

/-- The recovery instruction of an INVALID unit (R153). -/
def State.tapRecovery (s : State) : Option Nat := (lcyRecover s.otp.lcyWord.toNat).map fun t => match t.auth with
  | .token _ => 0x09
  | .none => 0x08
  | .cert _ _ _ _ => 0x0C

/-- Whether instruction `c` is offered now (Table LCY-9). -/
def State.tapOffers (s : State) (c : Nat) : Bool :=
  let st := s.life
  let byRight := fun (r : Bool) => [1, 3, 5].contains st || (st == 4 && r)
  if c = 0x01 ∨ c = 0x1F then true
  else if st = 15 then s.tapRecovery == some c
  else match c with
    | 0x00 => st == 0 || byRight (s.right 3)
    | 0x02 => st == 0 || byRight (s.right 3)
    | 0x03 => st == 0 || byRight (s.right 3)
    | 0x04 => st == 0 || byRight (s.right 3)
    | 0x08 => decide (st ≤ 2)
    | 0x09 => st == 0 || st == 2
    | 0x0C => decide (2 ≤ st ∧ st ≤ 5)
    | 0x0D => st == 1
    | 0x0E => st == 1
    | 0x10 => byRight (s.right 0 || s.right 1)
    | 0x11 => byRight (s.right 0 || s.right 1)
    | _ => false

/-- Load instruction `c`: one not offered selects BYPASS (R174). -/
def State.tapLoad (s : State) (c : Nat) : State :=
  { s with lcy := { s.lcy with ir := if s.tapOffers c then c else 0x1F } }

/-- IDCODE (R2, R13): the identification register is captured. -/
def execIdcode (s : State) : Result := .next ((s.tapLoad 0x01).emit (.tdo 32 0x1B960C4B))

/-- BYPASS: the 1-bit bypass register captures 0. -/
def execBypass (s : State) : Result := .next ((s.tapLoad 0x1F).emit (.tdo 1 0))

/-- SAMPLE_PRELOAD: the balls that the boundary register holds are captured as sampled, cell by cell, and the register is preloaded
(R175). -/
def execSamplePreload (sample v : Nat) (s : State) : Result :=
  if s.tapOffers 0x02 then
    let s := { s.tapLoad 0x02 with lcy := { (s.tapLoad 0x02).lcy with boundary := v % 2 ^ boundaryLen } }
    .next (s.emit (.tdo boundaryLen (sample % 2 ^ boundaryLen)))
  else .next (s.tapLoad 0x02)

/-- LC_TRANSITION (R148, R155, R180): a transition that needs no authorisation. -/
def execLcTransition (code : Nat) (s : State) : Result :=
  if !s.tapOffers 0x08 then .next (s.tapLoad 0x08)
  else
    let s := s.tapLoad 0x08
    if s.lcyBusy then .next (s.lcyRefuse 0x0A)
    else match s.lcyOpen.find? fun t => t.auth == .none && t.dest == code with
      | some t => .next (s.lcyTransit t)
      | none => .next (s.lcyRefuse 0x02)

/-- TOKEN_UNLOCK (R155, R158 to R160, R180). -/
def execTokenUnlock (token : Nat) (s : State) : Result :=
  if !s.tapOffers 0x09 then .next (s.tapLoad 0x09)
  else
    let s := s.tapLoad 0x09
    if s.lcyBusy then .next (s.lcyRefuse 0x0A)
    else if s.bit Reg.LCY_STATE 9 then .next (s.lcyRefuse 0x09)
    else match s.lcyOpen.find? fun t => match t.auth with | .token _ => true | _ => false with
      | none => .next (s.lcyRefuse 0x02)
      | some t =>
        let n := match t.auth with | .token n => n | _ => 0
        if sha384 (leBytes 1 n ++ leBytes 16 token) = s.otp.tokens.getD (n - 1) [] then .next (s.lcyTransit t)
        else .next ((s.setb Reg.LCY_STATE 9 true).lcyRefuse 0x04)

/-- A DEBUG_AUTH operation where the instruction is offered. -/
def State.debugAuth (s : State) (op : Nat) (f : State → State) : Result :=
  if s.tapOffers 0x0C then
    let s := s.tapLoad 0x0C
    .next (f { s with lcy := { s.lcy with lastOp := op } })
  else .next (s.tapLoad 0x0C)

/-- DEBUG_AUTH_EMPTY. -/
def execDebugAuthEmpty (s : State) : Result :=
  s.debugAuth 1 fun s => { s with lcy := { s.lcy with buf := [], overflow := false } }

/-- DEBUG_AUTH_APPEND (R177, R179). -/
def execDebugAuthAppend (w : Word) (s : State) : Result :=
  s.debugAuth 2 fun s =>
    if s.lcy.buf.length < 18224 then { s with lcy := { s.lcy with buf := s.lcy.buf ++ [w] } }
    else { s with lcy := { s.lcy with overflow := true } }

/-- DEBUG_AUTH_NONCE. -/
def execDebugAuthNonce (s : State) : Result :=
  s.debugAuth 3 fun s => if s.lcyBusy then s.lcyRefuse 0x0A else s.lcyNonce

/-- DEBUG_AUTH_SELECT. -/
def execDebugAuthSelect (arg : Nat) (s : State) : Result :=
  s.debugAuth 4 fun s => { s with lcy := { s.lcy with nonceSel := arg % 8 } }

/-- DEBUG_AUTH_SUBMIT (R177, R179). A word appended beyond the buffer's end makes every submission fail with FORMAT until OP 1
empties the buffer: R179 names only the next (DESIGN CHOICE, log entry 57). -/
def execDebugAuthSubmit (s : State) : Result :=
  s.debugAuth 5 fun s =>
    if s.lcyBusy then s.lcyRefuse 0x0A
    else
      let s := s.lcyBegin (.check (if s.lcy.overflow then [] else bytesOfWords s.lcy.buf))
      { s with lcy := { s.lcy with fromCmd := false } }

/-- The status that a capture of DEBUG_AUTH returns (R178). -/
def State.debugStatus (s : State) : Nat :=
  s.fld Reg.LCY_RESULT 31 24 * 2 ^ 32 + s.fld Reg.LCY_RESULT 23 23 * 2 ^ 31 + (s.dbgSession).toNat * 2 ^ 30 +
    s.life * 2 ^ 26 + s.lcy.buf.length * 2 ^ 11

/-- What a capture of DEBUG_AUTH returns (R178). -/
def State.debugCapture (s : State) : Nat := if s.lcy.lastOp = 4 then s.rdn (Reg.LCY_NONCE s.lcy.nonceSel) else s.debugStatus

/-- DEBUG_AUTH_CAPTURE (R174, R177, R178): DEBUG_AUTH is selected and scanned with OP 0, no operation: the capture is answered,
and the next one returns the status. Where the instruction is not offered the bypass bit is captured. -/
def execDebugAuthCapture (s : State) : Result :=
  let t := s.tapLoad 0x0C
  if s.tapOffers 0x0C then .next (({ t with lcy := { t.lcy with lastOp := 0 } }).emit (.tdo 40 s.debugCapture))
  else .next (t.emit (.tdo 1 0))

/-! ## OTP access (R174) -/

/-- The row holds a set bit (R209). -/
def SignerRow.used (r : SignerRow) : Bool := r.enrolled || r.revoked || r.hss.any (· != 0) || r.mldsa.any (· != 0)

def SignerRow.orPart (r : SignerRow) (part : Nat) (b : Bytes) : SignerRow :=
  let mix := fun (old : Bytes) => old.zipIdx.map fun e => e.1 ||| b.getD e.2 0
  match part with
  | 0 => { r with hss := mix r.hss }
  | 1 => { r with mldsa := mix r.mldsa }
  | 2 => { r with enrolled := r.enrolled || b.getD 0 0 != 0 }
  | _ => { r with revoked := r.revoked || b.getD 0 0 != 0 }

/-- A row that holds any set bit takes only its REVOKED bit (R362). -/
def CustRow.orPart (r : CustRow) (part : Nat) (b : Bytes) : CustRow := match part with
  | 0 => if r.used then r else { r with digest := r.digest.zipIdx.map fun e => e.1 ||| b.getD e.2 0 }
  | 1 => if r.used then r else { r with enrolled := r.enrolled || b.getD 0 0 != 0 }
  | _ => { r with revoked := r.revoked || b.getD 0 0 != 0 }

/-- Setting OTP bits; none is ever cleared. A customer row that holds any set bit takes only its REVOKED bit (R209). -/
def OtpSt.program (o : OtpSt) (r : OtpRow) (b : Bytes) : OtpSt :=
  let v := leAt b 0 8
  match r with
  | .lcyWord => { o with lcyWord := o.lcyWord ||| BitVec.ofNat 64 v }
  | .thermometer => { o with therm := o.therm ||| BitVec.ofNat 64 v }
  | .serial => { o with serial := o.serial ||| v }
  | .ident => { o with ident := o.ident ||| BitVec.ofNat 32 v }
  | .devm => { o with devm := o.devm ||| BitVec.ofNat 8 v }
  | .token n =>
    let old := o.tokens.getD (n - 1) []
    { o with tokens := o.tokens.set (n - 1) (old.zipIdx.map fun e => e.1 ||| b.getD e.2 0) }
  | .vendor p => { o with vendor := o.vendor.orPart p b }
  | .customer k p =>
    let old := o.customers.getD k {}
    if old.used && decide (p < 3) then o else { o with customers := o.customers.set k (old.orPart p b) }
  | .custodian k q => { o with rows := o.rows.set k ((o.rows.getD k {}).orPart q b) }
  | .floor c => { o with floors := o.floors.set c (o.floors.getD c 0 ||| BitVec.ofNat 128 (leAt b 0 16)) }

/-- A row as OTP_ACCESS reads it. -/
def OtpSt.row (o : OtpSt) : OtpRow → Nat
  | .lcyWord => o.lcyWord.toNat
  | .thermometer => o.therm.toNat
  | .serial => o.serial
  | .ident => o.ident.toNat
  | .devm => o.devm.toNat
  | .token n => ofBe (o.tokens.getD (n - 1) [])
  | .vendor p => match p with
    | 0 => ofBe o.vendor.hss
    | 1 => ofBe o.vendor.mldsa
    | 2 => o.vendor.enrolled.toNat
    | _ => o.vendor.revoked.toNat
  | .customer k p => let r := o.customers.getD k {}; match p with
    | 0 => ofBe r.hss
    | 1 => ofBe r.mldsa
    | 2 => r.enrolled.toNat
    | _ => r.revoked.toNat
  | .custodian k p => let r := o.rows.getD k {}; match p with
    | 0 => ofBe r.digest
    | 1 => r.enrolled.toNat
    | _ => r.revoked.toNat
  | .floor c => (o.floors.getD c 0).toNat

/-- Rows that a debug session with right 5 does not read: the token digests (Table LCY-6). -/
def isTokenRow : OtpRow → Bool
  | .token _ => true
  | _ => false

/-- OTP_ACCESS: in TEST, a row is read or has bits set. In a debug session right 5 opens the reads of rows other than the token
digests (R167); the path they take is not stated, and the model reads them by this row, the TAP instruction staying unoffered
(DESIGN CHOICE, log entry 57). -/
def execOtpAccess (r : OtpRow) (w : Option Bytes) (s : State) : Result :=
  if !s.tapOffers 0x0D then
    let t := s.tapLoad 0x0D
    .next (if s.right 5 && w.isNone && !isTokenRow r then t.emit (.value (s.otp.row r)) else t)
  else
    let s := s.tapLoad 0x0D
    match w with
    | none => .next (s.emit (.tdo 384 (s.otp.row r)))
    | some b => .next { s with otp := s.otp.program r b }

/-- SCAN_ENTRY: manufacturing scan is selected in TEST. -/
def execScanEntry (s : State) : Result := .next (s.tapLoad 0x0E)

end Sys2Proof.Machine
end

