-- ==== Sys2Proof/Machine/Blotter.lean ====
section
/-! DEFINITION. Chapter 17: the Blotter domain, its causes sample by sample, alarms and BLOT. -/

namespace Sys2Proof.Machine

/-- Source `n` is raised if the main domain, which holds the event sources, runs (R733). -/
def State.raiseUp (s : State) (n : Nat) : State := if s.pwr.mainUp then s.raise n else s

def State.tamperActive (s : State) (n : Nat) : Bool := s.bit Reg.BLOT_ACTIVE n
def State.alarmActive (s : State) (n : Nat) : Bool := s.bit Reg.BLOT_ALARM_ACTIVE n
def State.pairOn (s : State) (n : Nat) : Bool := s.bit Reg.BLOT_CFG n
def State.meshOn (s : State) (n : Nat) : Bool := s.bit Reg.BLOT_CFG (8 + n)

/-! ## BLOT (R727 to R731) -/

/-- The latches of R729, where BLOT_CAUSE was 0 and POWER_LOST clear. -/
def State.blotCapture (s : State) (first : Nat) : State :=
  let s := s.setf Reg.BLOT_STAT 5 0 first
  let s := s.setb Reg.BLOT_STAT 27 s.timeValid
  ((s.wr64 Reg.BLOT_TIME s.stime.ns).wr64 Reg.BLOT_OPSEC (BitVec.ofNat 64 (s.colo.opsec % 2 ^ 40))).wr Reg.BLOT_PCC
    (BitVec.ofNat 32 s.pcc)

/-- Steps 1 to 4 of Table BLO-5 for causes that have become active together. -/
def State.blotAct (s : State) (causes : List Nat) : State :=
  let first := s.rd Reg.BLOT_CAUSE = 0
  let s := if first ∧ !s.bit Reg.BLOT_STAT 30 then s.blotCapture (causes.foldl min 63) else s
  let s := causes.foldl (fun s n => (s.setb Reg.BLOT_CAUSE n true).setb Reg.BLOT_ACTIVE n true) s
  let s := s.setb Reg.BLOT_STAT 31 true
  let s := if s.pwr.mainUp then s.eraseBlot.lcyBlot else s.dropRoot
  let s := { s with blot := { s.blot with erasing := some (s.blot.erasing.getD [] ++ causes) } }
  if first then
    let s := { s with blot := { s.blot with outLeft := some 16 } }
    s.emit (.pin .blotOutN false)
  else s

/-- Causes decided in one sample, or at one instant (R713, R725, R734). -/
def State.blotDecide (s : State) (tam alm : List Nat) : State :=
  let tam := tam.filter fun n => !s.tamperActive n
  let alm := alm.filter fun n => !s.alarmActive n
  let s := alm.foldl (fun s n =>
    State.countAlarm { (s.setb Reg.BLOT_ALARM n true).setb Reg.BLOT_ALARM_ACTIVE n true with
      blot := { s.blot with alarmRun := s.blot.alarmRun.set n 0 } } n) s
  let s := if alm.isEmpty then s else (s.setb Reg.BLOT_STAT 29 true).setb Reg.RSV_STAT 30 true
  if !tam.isEmpty then s.blotAct tam
  else if !alm.isEmpty then s.eraseAlarm.raiseUp 449
  else s

/-- A tamper cause clears; its latch stays (R729). -/
def State.tamperClear (s : State) (n : Nat) : State := s.setb Reg.BLOT_ACTIVE n false

/-- An alarm cause clears, and its escalation with it; after the last, ALARM_HOLD clears (R349, R725, R726). -/
def State.alarmClear (s : State) (n : Nat) : State :=
  if s.alarmActive n then
    let s := (s.setb Reg.BLOT_ALARM_ACTIVE n false).tamperClear (16 + n)
    if s.rd Reg.BLOT_ALARM_ACTIVE = 0 then
      ((s.setb Reg.BLOT_STAT 29 false).setb Reg.RSV_STAT 30 false).raiseUp 450
    else s
  else s

/-! ## Pairs (R714 to R716) -/

/-- One sample of a pair. -/
def PairSt.next (p : PairSt) (a b : Bool) (d : Nat) : PairSt :=
  let da := if a = p.a then a else p.debA
  let db := if b = p.b then b else p.debB
  let c := if da = db then 0 else p.c + 1
  let starts := !p.episode && (a || b) && !(p.a || p.b || p.debA || p.debB)
  let dec := (da && db) || c == d
  { a := a, b := b, debA := da, debB := db, c := c
    episode := (p.episode || starts) && (a || b || da || db)
    decided := (p.decided && !starts) || dec }

/-- BLOT_DISC's count of pair `n`. -/
def State.discrepancy (s : State) (n : Nat) : Nat := s.fld (Reg.BLOT_DISC (n / 4)) (8 * (n % 4) + 7) (8 * (n % 4))

def State.setPair (s : State) (n : Nat) (p : PairSt) : State :=
  let s := { s with blot := { s.blot with pairs := s.blot.pairs.set n p } }
  s.setf Reg.BLOT_PAIR_LEVEL (2 * n + 1) (2 * n) (p.debA.toNat + 2 * p.debB.toNat)

/-- A near-miss of pair `n` (R715). -/
def State.pairNear (s : State) (n : Nat) : State :=
  ((s.incSat (Reg.BLOT_NEAR n) 15 0).accAdd (0x1BC + 2 * n) 2 1).raiseUp 451

/-- Sample pair `n`: the state after it, and whether the pair is decided. -/
def State.samplePair (s : State) (n : Nat) (a b : Bool) : State × Bool :=
  if !s.pairOn n then (s, false)
  else
    let p := s.blot.pairs.getD n {}
    let q := p.next a b (s.discrepancy n)
    let s := s.setPair n q
    let s := if !q.debA && !q.debB then s.tamperClear n else s
    let inEpisode := p.episode || ((a || b) && !(p.a || p.b || p.debA || p.debB))
    let s := if inEpisode && !q.episode && !q.decided then s.pairNear n else s
    (s, (q.debA && q.debB) || q.c == s.discrepancy n)

/-! ## Mesh, light, cold and BLOT_IN (R717 to R722) -/

def State.meshNear (s : State) (n : Nat) : State :=
  ((s.incSat Reg.BLOT_MESH_NEAR (8 * n + 7) (8 * n)).accAdd (0x1CC + 2 * n) 2 1).raiseUp 452

/-- The word driven on MESH_OUTn in this period, bit 0 first (R717). -/
def State.meshWord (s : State) (n : Nat) : Word := Config.meshBits (s.blot.meshGen.getD n 0)

/-- Every loop's generator, enabled or not, goes on to its next word: it runs freely (R717, R719). -/
def State.meshAdvance (s : State) : State := { s with blot := { s.blot with meshGen := s.blot.meshGen.map Config.meshNext } }

/-- A seed that no earlier loop has: `v`, or the next value that is free (DESIGN CHOICE, log entry 65). -/
def distinctSeed (l : List DWord) (v : DWord) : DWord :=
  (([v, v + 1, v + 2, v + 3].find? fun x => !l.contains x)).getD v

/-- The generators are seeded, each from conditioned entropy of its own (R719). -/
def State.meshSeed (s : State) : State :=
  let r := (List.range 4).foldl (fun (r : State × List DWord) _ =>
    let w := r.1.freshWord
    (w.2, r.2 ++ [distinctSeed r.2 w.1])) (s, [])
  { r.1 with blot := { r.1.blot with meshGen := r.2 } }

/-- One word of loop `n`. -/
def State.sampleMesh (s : State) (n : Nat) (bad : Bool) : State × Bool :=
  if !s.meshOn n then (s, false)
  else
    let mm := s.blot.meshBad.getD n 0
    let ok := s.blot.meshOk.getD n 0
    let put := fun (x y : Nat) => { s with blot := { s.blot with meshBad := s.blot.meshBad.set n x, meshOk := s.blot.meshOk.set n y } }
    if bad then (put (min 2 (mm + 1)) 0, decide (2 ≤ mm + 1))
    else
      let t := put 0 (min 16 (ok + 1))
      let t := if mm = 1 ∧ !s.tamperActive (8 + n) then t.meshNear n else t
      (if 16 ≤ ok + 1 then t.tamperClear (8 + n) else t, false)

/-- The light sensors. -/
def State.sampleLight (s : State) (x : Nat) : State × Bool :=
  let l := (List.range 2).map fun i => if x.testBit i then min 2 (s.blot.light.getD i 0 + 1) else 0
  let dark := if x % 4 = 0 then min 16 (s.blot.dark + 1) else 0
  let s := { s with blot := { s.blot with light := l, dark := dark } }
  let hit := l.any fun n => decide (2 ≤ n)
  if s.tamperActive 12 then (if 16 ≤ dark then s.tamperClear 12 else s, false)
  else if hit then
    (s.setf Reg.BLOT_STAT 22 21 ((if 2 ≤ l.getD 0 0 then 1 else 0) + if 2 ≤ l.getD 1 0 then 2 else 0), true)
  else (s, false)

def State.sampleBlotIn (s : State) (low : Bool) : State × Bool :=
  let deb := if low = s.blot.inRaw then low else s.blot.inDeb
  let s := { s with blot := { s.blot with inRaw := low, inDeb := deb } }
  if deb then (s, true) else (s.tamperClear 15, false)

def State.signedFld (s : State) (a hi lo : Nat) : Int := (BitVec.ofNat 8 (s.fld a hi lo)).toInt

/-- The Blotter temperature sensor, read once every 32 samples. -/
def State.sampleCold (s : State) (tb : Int) : State × Bool :=
  let k := s.blot.k
  let s := { s with blot := { s.blot with k := (k + 1) % 32 } }
  if k ≠ 0 then (s, false)
  else
    let low := s.signedFld Reg.BLOT_THRESH 23 16
    let s := s.setf Reg.BLOT_SENSE 23 16 (tb % 256).toNat
    let s := s.accExt 2 tb
    let cold := if tb < low then min 4 (s.blot.cold + 1) else 0
    let warm := if low + 2 ≤ tb then min 4 (s.blot.warm + 1) else 0
    let s := { s with blot := { s.blot with cold := cold, warm := warm } }
    (if 4 ≤ warm then s.tamperClear 13 else s, decide (4 ≤ cold))

/-! ## Alarms (R723, Table BLO-4) -/

/-- The detectors of VDD_CORE and of the junction are watched: from step 2 until STANDBY. -/
def State.watchCore (s : State) : Bool := s.pwr.mainUp && decide (2 ≤ s.fld Reg.BOOT_STAT 23 20)

/-- PLL_FREQ is watched: after the first lock at step 1, while the main PLL is meant to run (R724). -/
def State.watchPll (s : State) : Bool := s.watchCore && decide (s.fld Reg.PWR_STAT 2 0 < 3)

/-- `n` counted cycles differ from `e` expected by more than `pct` percent. -/
def offCount (n e pct : Nat) : Bool := decide (e * pct < ((if n < e then e - n else n - e)) * 100)

/-- VCORE_LOW and VCORE_HIGH clear after two samples wholly within their limit. -/
def State.sampleVcore (s : State) (x : BlotSample) : State :=
  if !s.watchCore then { s with blot := { s.blot with vOk := [0, 0] } }
  else
    let l := if 873 ≤ x.vMin then min 2 (s.blot.vOk.getD 0 0 + 1) else 0
    let h := if x.vMax ≤ 927 then min 2 (s.blot.vOk.getD 1 0 + 1) else 0
    let s := { s with blot := { s.blot with vOk := [l, h] } }
    let s := if s.colo.running then (s.accExt 4 x.vMin).accExt 4 x.vMax else s
    let s := if 2 ≤ l then s.alarmClear 0 else s
    if 2 ≤ h then s.alarmClear 1 else s

/-- A consecutive count of samples that satisfy `p`, up to `m`. -/
def run (m n : Nat) (p : Bool) : Nat := if p then min m (n + 1) else 0

/-- TJ_HIGH (at most 125 °C, R712) and TJ_LOW: the alarms decided. -/
def State.sampleTj (s : State) (x : BlotSample) : State × List Nat :=
  if !s.watchCore then ({ s with blot := { s.blot with tj := [0, 0, 0, 0] } }, [])
  else
    let hi := min 125 (s.signedFld Reg.BLOT_THRESH 15 8)
    let lo := s.signedFld Reg.BLOT_THRESH 7 0
    let n := fun i => s.blot.tj.getD i 0
    let t := [run 4 (n 0) (decide (hi < x.tj)), run 4 (n 1) (decide (x.tj ≤ hi - 2)), run 4 (n 2) (decide (x.tj < lo)),
      run 4 (n 3) (decide (lo + 2 ≤ x.tj))]
    let s := { s with blot := { s.blot with tj := t } }
    let s := s.setf Reg.BLOT_SENSE 31 24 (x.tj % 256).toNat
    let s := if s.colo.running then s.accExt 0 x.tj else s
    let s := if 4 ≤ t.getD 1 0 then s.alarmClear 2 else s
    let s := if 4 ≤ t.getD 3 0 then s.alarmClear 3 else s
    (s, (if 4 ≤ t.getD 0 0 then [2] else []) ++ if 4 ≤ t.getD 2 0 then [3] else [])

/-- PLL_FREQ. -/
def State.samplePll (s : State) (x : BlotSample) : State × List Nat :=
  if !s.watchPll then ({ s with blot := { s.blot with pllBad := 0, pllOk := 0 } }, [])
  else
    let rc := s.bit Reg.BLOT_STAT 25
    let off := offCount x.fab (if rc then 800000 else 781250) (if rc then 10 else 2)
    let bad := run 2 s.blot.pllBad off
    let ok := run 2 s.blot.pllOk (!off && x.locked)
    let s := { s with blot := { s.blot with pllBad := bad, pllOk := ok } }
    (if 2 ≤ ok then s.alarmClear 4 else s, if !x.locked || decide (2 ≤ bad) then [4] else [])

/-- REFCLK, over four samples. -/
def State.sampleRef (s : State) (x : BlotSample) : State × List Nat :=
  if !s.pwr.mainUp then ({ s with blot := { s.blot with ref := [], refOk := 0 } }, [])
  else
    let rc := s.bit Reg.BLOT_STAT 25
    let e := if rc then 400000 else 390625
    let pct := if rc then 10 else 2
    let l := (x.refclk :: s.blot.ref).take 4
    let ok := run 4 s.blot.refOk (x.refRuns && !offCount (4 * x.refclk) e pct)
    let s := { s with blot := { s.blot with ref := l, refOk := ok } }
    (if 4 ≤ ok then s.alarmClear 5 else s,
      if !x.refRuns || (l.length == 4 && offCount (sumOf l) e pct) then [5] else [])

/-- ECC_STORM: the errors found in the key SRAM since the last sample. -/
def State.sampleEcc (s : State) : State × List Nat :=
  let n := s.rsv.eccRun
  let q := run 1024 s.blot.eccQuiet (n == 0)
  let s := { s with blot := { s.blot with eccQuiet := q }, rsv := { s.rsv with eccRun := 0 } }
  (if 1024 ≤ q then s.alarmClear 6 else s, if 8 ≤ n then [6] else [])

/-! ## Configuration (R711, Table BLO-1) -/

/-- The configuration with no ALARMS section: the minimums with the thresholds of the grade. -/
def State.alarmDefaults (s : State) : List Word :=
  let e := fieldOf s.otp.ident 3 0 = 1
  [BitVec.ofNat 32 (0xD3 * 65536 + (if e then 115 * 256 + 0xD5 else 105 * 256 + 0xFD)), 0x00010000, 0xFFF] ++
    List.replicate 8 0xFF

/-- The default thresholds of the part's grade. -/
def State.blotThreshDefault (s : State) : State := s.wr Reg.BLOT_THRESH (s.alarmDefaults.getD 0 0)

/-! ## Commands -/

/-- The tamper causes of one sample. -/
def State.sampleTamper (s : State) (x : BlotSample) : State × List Nat :=
  let r := (List.range 8).foldl (fun (r : State × List Nat) n =>
    let q := r.1.samplePair n (x.a.testBit n) (x.b.testBit n)
    (q.1, if q.2 then r.2 ++ [n] else r.2)) (s, [])
  let r := (List.range 4).foldl (fun (r : State × List Nat) n =>
    let q := r.1.sampleMesh n (x.mesh.testBit n)
    (q.1, if q.2 then r.2 ++ [8 + n] else r.2)) r
  let l := r.1.sampleLight x.light
  let c := l.1.sampleCold x.tb
  let i := c.1.sampleBlotIn (!x.blotInN)
  (i.1, r.2 ++ (if l.2 then [12] else []) ++ (if c.2 then [13] else []) ++ if i.2 then [15] else [])

/-- A sample period has passed for every active alarm: 1/1,024 s on the crystal, 1/1,000 s on the RC oscillator (R709, R726). -/
def State.alarmTime (s : State) : State :=
  let t := if s.bit Reg.BLOT_STAT 25 then 128 else 125
  { s with blot := { s.blot with alarmRun := s.blot.alarmRun.zipIdx.map fun e => if s.alarmActive e.2 then e.1 + t else e.1 } }

/-- BLOTTER_SAMPLE (R714 to R723, R734): one sample period. -/
def execBlotterSample (x : BlotSample) (s : State) : Result :=
  if !s.blot.alive then .next s
  else
    let s := State.meshAdvance { s with blot := { s.blot with outLeft := s.blot.outLeft.map (· - 1) } }
    let t := s.alarmTime.sampleTamper x
    let j := t.1.sampleVcore x |>.sampleTj x
    let p := j.1.samplePll x
    let r := p.1.sampleRef x
    let e := r.1.sampleEcc
    .next (e.1.blotDecide t.2 (j.2 ++ p.2 ++ r.2 ++ e.2))

/-- BLOT_ERASE_DONE (R727, step 5 of Table BLO-5): every cleared store reads back zero. -/
def execBlotEraseDone (s : State) : Result :=
  match s.blot.erasing with
  | none => .next s
  | some causes =>
    let s := causes.foldl State.countTamper { s with blot := { s.blot with erasing := none } }
    .next (if s.pwr.mainUp then s.eraseDone.raise 448 else s)

/-- BLOT_OUT_RELEASE (R730): 16 samples after BLOT_OUT_N was driven low. -/
def execBlotOutRelease (s : State) : Result :=
  if s.blot.outLeft = some 0 then
    .next (State.emit { s with blot := { s.blot with outLeft := none } } (.pin .blotOutN true))
  else .next s

/-- CRYSTAL_STABLE (R709). The cause CLOCK clears when the crystal is in use again. -/
def execCrystalStable (s : State) : Result :=
  if s.blot.alive then .next ((s.setb Reg.BLOT_STAT 25 false).tamperClear 14) else .next s

/-- CRYSTAL_STOP (R710). -/
def execCrystalStop (s : State) : Result :=
  if s.blot.alive && !s.bit Reg.BLOT_STAT 25 then
    let s := (s.setb Reg.BLOT_STAT 25 true).raiseUp 455
    .next (if s.bit Reg.BLOT_CFG 31 then s.blotDecide [14] [] else s)
  else .next s

/-- VBAT_MEASURE (R708, R753): the battery measured at `mv` mV. -/
def execVbatMeasure (mv : Nat) (s : State) : Result :=
  if !s.blot.alive then .next s
  else
    let was := s.bit Reg.BLOT_STAT 24
    let s := s.setf Reg.BLOT_SENSE 11 0 (min mv 4095)
    let s := (s.setb Reg.BLOT_STAT 24 (decide (mv < 1000))).setb Reg.BLOT_STAT 23 (decide (mv < 500))
    let s := (s.accAdd (0xB0 + 4 * vbatBin mv) 4 1).accExt 6 mv
    .next (if mv < 1000 ∧ !was then s.raiseUp 453 else s)

/-- VCORE_EXCURSION (R723): VDD_CORE has been outside its lower or upper limit for the stated time. -/
def execVcoreExcursion (high : Bool) (s : State) : Result :=
  if s.blot.alive && s.watchCore then
    .next (State.blotDecide { s with blot := { s.blot with vOk := s.blot.vOk.set high.toNat 0 } } [] [high.toNat])
  else .next s

/-- PLL_LOCK_LOSS (R47, R723): the main PLL loses lock, and the keeper advances STIME. -/
def execPllLockLoss (s : State) : Result :=
  let s := if s.pwr.mainUp then s.setb Reg.TIME_STAT 3 true else s
  if s.blot.alive && s.watchPll then
    .next (State.blotDecide { s with blot := { s.blot with pllOk := 0 } } [] [4])
  else .next s

/-- Alarm `n` has stayed active for ESCALATE_AFTER seconds (R726). -/
def State.alarmLong (s : State) (n : Nat) : Bool :=
  decide (128000 * s.fld Reg.BLOT_ESC 31 16 ≤ s.blot.alarmRun.getD n 0)

/-- ALARM_ESCALATION (R726, R736): alarm `n` has stayed active for ESCALATE_AFTER seconds. -/
def execAlarmEscalation (n : Nat) (s : State) : Result :=
  if s.blot.alive && decide (n < 16) && s.alarmActive n && s.bit Reg.BLOT_ESC n && s.alarmLong n then
    .next (s.blotDecide [16 + n] [])
  else .next s

/-- BLOT_ACK (R732, R737). -/
def execBlotAck (p : Party) (v : Word) (s : State) : Result :=
  if p ≠ .scribe ∨ v ≠ 0xB107ACC0 then .next s
  else if s.rd Reg.BLOT_ACTIVE ≠ 0 then .next (s.setb Reg.BLOT_STAT 28 true)
  else
    let s := s.wr Reg.BLOT_CAUSE 0
    let s := (s.setb Reg.BLOT_STAT 31 false).setb Reg.BLOT_STAT 30 false
    let s := s.setf Reg.BLOT_STAT 5 0 63
    .next (((s.wr64 Reg.BLOT_TIME 0).wr64 Reg.BLOT_OPSEC 0).wr Reg.BLOT_PCC 0)

/-- BLOTTER_POWER_LOSS (R707, R192, R221, R327): with VDD_AON absent, VBAT falls below the domain's floor. -/
def execBlotterPowerLoss (s : State) : Result :=
  if s.blot.aon || !s.blot.alive then .next s
  else
    let s := s.dropRoot.coloBlotterLoss
    let s := s.resetRegs Reg.BLOT_STAT (Reg.BLOT_ALARM_ACTIVE + 4)
    let s := (s.setb Reg.BLOT_STAT 26 false).blotThreshDefault
    let s := ((s.wr Reg.BOOT_BFLOOR0 0).wr Reg.BOOT_BFLOOR1 0).wr Reg.BOOT_POLICY 0
    .next { s with blot := { aon := false, alive := false } }

/-- Copy ALARMS and XTAL_FITTED into the Blotter configuration, and seed the mesh generators (R711, R719). A pair or loop that is no
longer enabled is no longer decided, and an episode in progress is abandoned (R716, Table BLO-6). -/
def State.blotConfigure (s : State) (alarms : Option (List Word)) (xtal : Bool) : State :=
  let b := alarms.getD s.alarmDefaults
  let s := s.wr Reg.BLOT_THRESH (BitVec.ofNat 32 (bw b 0 23 0))
  let s := s.wr Reg.BLOT_ESC (b.getD 1 0)
  let s := s.wr Reg.BLOT_CFG (BitVec.ofNat 32 (bw b 2 11 0 + if xtal then 2 ^ 31 else 0))
  let s := (List.range 8).foldl (fun s n =>
    s.setf (Reg.BLOT_DISC (n / 4)) (8 * (n % 4) + 7) (8 * (n % 4)) (bw b (3 + n) 7 0)) s
  let s := (List.range 8).foldl (fun s n => if s.pairOn n then s else (s.setPair n {}).tamperClear n) s
  let s := (List.range 4).foldl (fun (s : State) n => if s.meshOn n then s else
    State.tamperClear { s with blot := { s.blot with meshBad := s.blot.meshBad.set n 0, meshOk := s.blot.meshOk.set n 0 } }
      (8 + n)) s
  s.meshSeed

/-- What the Blotter domain reports at step 6 of boot (R707, R733), and ROOT_VALID clear at boot (source 354, Table EVT-1). -/
def State.blotReport (s : State) : State :=
  let s := if s.rootValid then s else s.raise 354
  let s := if s.rd Reg.BLOT_CAUSE ≠ 0 then s.raise 448 else s
  if s.bit Reg.BLOT_STAT 30 then s.raise 454 else s

/-- The main domain's detectors stop: the alarms they decide clear (Table BLO-4). -/
def State.blotUnwatch (s : State) : State :=
  let s := (List.range 6).foldl State.alarmClear s
  { s with blot := { s.blot with vOk := [0, 0], tj := [0, 0, 0, 0], pllBad := 0, pllOk := 0, ref := [], refOk := 0 } }

end Sys2Proof.Machine
end

