-- ==== Sys2Proof/Machine/HostLink.lean ====
section
/-! DEFINITION. Chapter 12, the PCIe function: configuration, the device as a requester, translation, and folio commands
and resets. -/

namespace Sys2Proof.Machine

/-! ## Configuration requests (R203, R493, R494) -/

/-- The bits of a configuration register that a write sets. -/
def cfgMask (r : Nat) : Word := match r with
  | 0x04 => 0x00000546
  | 0x10 => 0xFE000000
  | 0x14 => 0xFFFFFFFF
  | 0x18 => 0xFFC00000
  | 0x1C => 0xFFFFFFFF
  | 0x20 => 0xFFFF0000
  | 0x24 => 0xFFFFFFFF
  | 0x3C => 0x000000FF
  | 0x100 => 0x00000103
  | 0x101 => 0x00007FFF
  | 0x102 => 0x0000FFFF
  | 0x103 => 0x000003FF
  | 0x104 => 0xC0000000
  | 0x105 => 0x801F0000
  | 0x106 => 0x00010000
  | 0x10B => 0xFFFFFFFF
  | 0x10C => 0xFFFFFFFF
  | 0x116 => 0x00000140
  | 0x117 => 0xFFFFFFFF
  | 0x118 => 0xFFFFFFFF
  | 0x119 => 0xFFFFFFFF
  | _ => 0

/-- Write-one-to-clear bits: PME status, device status, AER status. -/
def cfgW1c (r : Nat) : Word := match r with
  | 0x04 => 0xF9000000
  | 0x100 => 0x00008000
  | 0x101 => 0x000F0000
  | 0x109 => 0xFFFFFFFF
  | 0x10A => 0xFFFFFFFF
  | _ => 0

/-- A stream is in force that gives host and device one reference clock (R36, R202). -/
def State.commonClock (s : State) : Bool := !s.duct.inForce.isEmpty && !((s.section_ 0x02).getD 0 0).getLsbD 1

/-- A configuration register as it reads; Slot Clock Configuration and the clock power management capability follow
PCIE_SEPARATE_REF from step 6 of boot (R202). -/
def State.cfgRd (s : State) (r : Nat) : Word :=
  if r = Cfg.serialLo then BitVec.ofNat 32 s.otp.serial
  else if r = Cfg.serialHi then BitVec.ofNat 32 (s.otp.serial / 2 ^ 32)
  else if r = Cfg.linkCtl then setFieldOf (s.cfg r) 28 28 s.commonClock.toNat
  else if r = Cfg.linkCap then setFieldOf (s.cfg r) 18 18 s.commonClock.toNat
  else s.cfg r

/-- The link is up, or trains: PERST_N is high and step 2 has passed; no state that stops the boot ROM there has a link (R153, R202). -/
def State.hostLinkUp (s : State) : Bool := !s.host.perst && s.pwr.mainUp && decide (3 ≤ s.fld Reg.BOOT_STAT 23 20)

/-- The completions that wait for Bus Master Enable are written (R496). -/
def State.commitAll (s : State) : State := (s.ops.map (·.id)).foldl State.commit s

/-- Bus Master Enable is set or cleared (R496). -/
def State.setBusMaster (s : State) (on : Bool) : State :=
  let s := { s with host := { s.host with busMaster := on
                                          cfg := Tab.set cfgReset s.host.cfg Cfg.command
                                            (setFieldOf (s.cfg Cfg.command) 2 2 on.toNat) } }
  if on then s.commitAll.flushPba else s

/-- The function enters D3hot, or returns to D0 (R892). -/
def State.setD3 (s : State) (d3 : Bool) : State :=
  { s with host := { s.host with d3 := d3
                                 cfg := Tab.set cfgReset s.host.cfg Cfg.pmcsr
                                   (setFieldOf (s.cfg Cfg.pmcsr) 1 0 (if d3 then 3 else 0)) } }

/-- A configuration write takes effect. -/
def State.cfgWr (s : State) (r : Nat) (v : Word) : State :=
  let old := s.cfg r
  let new := ((old &&& ~~~cfgMask r) ||| (v &&& cfgMask r)) &&& ~~~(v &&& cfgW1c r)
  let s := { s with host := { s.host with cfg := Tab.set cfgReset s.host.cfg r new } }
  match r with
  | 0x04 =>
    let s := { s with host := { s.host with memSpace := new.getLsbD 1 } }
    if new.getLsbD 2 = s.host.busMaster then s else s.setBusMaster (new.getLsbD 2)
  | 0x100 => if fieldOf new 1 0 = 3 then s.setD3 true else if fieldOf new 1 0 = 0 then s.setD3 false else s
  | 0x104 => State.flushPba { s with host := { s.host with msixEnable := new.getLsbD 31, funcMask := new.getLsbD 30 } }
  | 0x105 =>
    let en := new.getLsbD 31
    if en then { s with host := { s.host with atsEnable := true } }
    else { s with host := { s.host with atsEnable := false, ats := [], xlReqs := [], granted := [] } }
  | _ => s

/-- A configuration request is answered, or with Retry Status before step 11 and during a function-level reset. -/
def State.configAccess (s : State) (r : Nat) (w : Option Word) : State :=
  if !s.host.cfgOpen || s.host.flr then s.emit (.pcie "CRS")
  else match w with
    | none => s.emit (.value (s.cfgRd r).toNat)
    | some v => s.cfgWr r v

/-! ## Errors reported through AER (Table HST-2) -/

/-- Set bits of a configuration register. -/
def State.cfgOr (s : State) (r : Nat) (v : Word) : State :=
  { s with host := { s.host with cfg := Tab.set cfgReset s.host.cfg r (s.cfg r ||| v) } }

/-- Error `b` of the Uncorrectable Error Status register; an advisory one, whose requester is told by its completion and whose severity
is non-fatal, is reported as a correctable error. An unmasked one is counted in the Colophon and sent as a message where Device Control
enables it. The bits are the PCIe base specification's (PRESUMED, log entry 66). -/
def State.aerReport (s : State) (b : Nat) (advisory : Bool) : State :=
  let fatal := (s.cfg Cfg.aerUncorSev).getLsbD b
  let adv := advisory && !fatal
  let shown := !(s.cfg Cfg.aerUncorMask).getLsbD b && !(adv && (s.cfg Cfg.aerCorMask).getLsbD 13)
  let s := s.cfgOr Cfg.aerUncor (BitVec.ofNat 32 (2 ^ b))
  let s := if adv then s.cfgOr Cfg.aerCor 0x2000 else s
  let s := s.cfgOr Cfg.devCtl ((if adv then 0x10000 else if fatal then 0x40000 else 0x20000) ||| (if b = 20 then 0x80000 else 0))
  if shown then
    let s := s.countLink (if adv then 0 else 1)
    if (s.cfg Cfg.devCtl).getLsbD (if adv then 0 else if fatal then 2 else 1) then
      s.emit (.pcie (if adv then "ERR_COR" else if fatal then "ERR_FATAL" else "ERR_NONFATAL"))
    else s
  else s

/-- An inbound request that the function does not support (R495): a read is completed with Unsupported Request. -/
def State.unsupported (s : State) (read : Bool) : State :=
  let s := s.aerReport 20 read
  if read then s.emit (.pcie "UR") else s

/-- The fabric is stopped: in DEEP_NAP, until the exit from it is complete. -/
def State.fabricStopped (s : State) : Bool := s.fld Reg.PWR_STAT 2 0 == 3

/-- The request is a write of a doorbell, which the doorbell shadow takes while the fabric is stopped (R900). -/
def Inbound.isDoorbell : Inbound → Bool
  | .mmio bar off _ w _ _ => w.isSome && bar == 2 && decide (off % 0x10000 < 0x100)
  | .cfg _ _ => false

/-- An inbound request waits: the link is not in L0 yet (R32), or the fabric is stopped and no shadow takes it (R900, R901). -/
def State.holds (s : State) (q : Inbound) : Bool := !s.host.linkL0 || s.fabricStopped && !q.isDoorbell

/-- Hold an inbound request until the link is in L0 and the fabric runs; that starts the exit, which Table PWR-3 gives no cause of its own where the link is in
L0 (R901, DEDUCED, log entry 62). -/
def State.holdInbound (s : State) (q : Inbound) : State :=
  let s := { s with host := { s.host with inbound := s.host.inbound ++ [q] } }
  if !s.host.linkL0 then s.wakeBy 0 else s.exitBegin

/-- CONFIG_REQUEST (R32, R153, R203, R493, R494, R532, R901): no request reaches a device whose link is down. -/
def execConfigRequest (r : Nat) (w : Option Word) (s : State) : Result :=
  if !s.hostLinkUp then .next s
  else if s.holds (.cfg r w) then .next (s.holdInbound (.cfg r w))
  else .next (s.configAccess r w)

/-- BUS_MASTER_ENABLE (R496). -/
def execBusMasterEnable (on : Bool) (s : State) : Result := .next (s.setBusMaster on)

/-- PM_STATE_CHANGE (R892). -/
def execPmStateChange (d3 : Bool) (s : State) : Result := .next (s.setD3 d3)

/-! ## Scribe mailbox responses (R523 to R527) -/

def State.scrbBytes (s : State) (o n : Nat) : Bytes := s.regBytes (Reg.SCRB_REQ 0 + o) n

/-- A response: header of Table HST-7 and payload; it is kept for R527. -/
def State.scrbRespond (s : State) (status detail written : Nat) (payload : Bytes) : State :=
  let req := s.scrbBytes 0 8
  let head := slice req 0 2 ++ leBytes 2 status ++ slice req 4 4 ++ leBytes 4 payload.length ++ leBytes 4 written ++
    leBytes 4 detail ++ zeros 12
  let pad := zeros ((4 - payload.length % 4) % 4)
  let s := (s.setRegBytes (Reg.SCRB_RSP 0) (head ++ payload ++ pad)).bufClean (Reg.SCRB_RSP 0) (32 + payload.length + pad.length)
  { s with host := { s.host with rspReady := true
                                 replies := ((leAt req 4 4, leAt req 0 2, status, detail) :: s.host.replies).take 16 } }

/-- RSP is set for the response in the buffer: REQ and BUSY clear, and source 128 is raised (R525). -/
def State.scrbDone (s : State) : State :=
  ((((State.setb { s with host := { s.host with rspReady := false } } Reg.FOL_SCRB_CTL 31 false).setb Reg.FOL_SCRB_CTL 30
    false).setb Reg.FOL_SCRB_CTL 29 true).raise 128)

/-! ## Reads that fail (R499, R587) -/

/-- How a completion ends. -/
inductive CplEnd where
  | ok | refused | poisoned | timeout
  deriving DecidableEq, Repr

/-- The FOL_ERR bit of a failed completion, and the status it stops an operation with (R499). -/
def CplEnd.err : CplEnd → Option (Nat × Nat)
  | .ok => none
  | .refused => some (1, St.badAddress)
  | .poisoned => some (2, St.aborted)
  | .timeout => some (3, St.aborted)

/-- A recovery transfer fails: the item completes with the source error of its table (R211). -/
def State.rcvFail (s : State) : State :=
  let code := if s.fld Reg.BOOT_RCV_CMD 3 0 = 1 then 0x01 else 0x2B
  let s := { s with boot := { s.boot with rcv := none } }
  ((s.setf Reg.BOOT_RCV_STAT 31 24 code).setb Reg.BOOT_RCV_STAT 23 false).setb Reg.BOOT_RCV_CMD 31 false

/-- An outstanding read ends. -/
def State.readEnds (s : State) (who : HostReader) (e : CplEnd) : State :=
  match e.err with
  | none => s
  | some (bit, status) => match who with
    | .op id => match s.op id with
      | some o =>
        if o.res.isSome || o.engine == 0 || o.bspPort.isSome then s else (s.folErr o.folio bit).finish id status
      | none => s
    | .fetch n => if n < 128 ∧ s.ringState n = 1 then (s.folErr (s.ringFolio n) bit).fetchFailed n else s
    | .recovery => if s.bit Reg.BOOT_RCV_STAT 23 then s.rcvFail else s
    | .mailbox =>
      if s.bit Reg.FOL_SCRB_CTL 30 && !s.host.rspReady then (s.folErr 0 bit).scrbRespond status 0 0 [] else s

/-- What was granted to a reader that has ended is not kept. -/
def State.readOver (s : State) (who : HostReader) : State := match who with
  | .op _ => s
  | _ => { s.xlDone who with host := { (s.xlDone who).host with xlReqs := s.host.xlReqs.filter (·.who != who) } }

/-- HOST_READ_COMPLETION (R499): a completion delivers data, which the row that uses it carries, or stops its reader. -/
def execHostReadCompletion (who : HostReader) (refused poisoned : Bool) (s : State) : Result :=
  let s := if poisoned && !refused then s.aerReport 12 true else s
  .next (s.readEnds who (if refused then .refused else if poisoned then .poisoned else .ok))

/-- COMPLETION_TIMEOUT (R499). -/
def execCompletionTimeout (who : HostReader) (s : State) : Result := .next ((s.aerReport 14 false).readEnds who .timeout)

/-! ## Translation (R509 to R514) -/

/-- The page granted, at most 1 GiB, that contains the requested address (R511). -/
def atsPage (a size : Nat) : Nat × Nat :=
  let z := min (max size 4096) (2 ^ 30)
  (a / z * z, z)

/-- Where the completion entry of ring pair `n` is written next. -/
def State.cqAddr (s : State) (n : Nat) : Nat := (s.rd64 (Reg.RING_CQ_BASE n)).toNat + 32 * s.cqTail n

/-- A translation that operation `o` needs at `a` is refused: it ends with BAD_ADDRESS; where its result is known, the completion
entry is refused (R588), or the zeros that had to wait for the translation are not written. -/
def State.opXlRefused (s : State) (o : Op) (a : Nat) : State :=
  let s := s.folErr o.folio 0
  match o.res, o.src with
  | none, _ => s.finish o.id St.badAddress
  | some r, .ring n no =>
    if a = s.cqAddr n then ((s.dropOp o.id).ringRecord n no r).cplRefused n
    else (s.setOp { o with fill := none }).commit o.id
  | some _, .bsp _ _ _ => s

/-- A translation that `who` needs at `a` is refused, or lacks the permission the access needs (R512). -/
def State.xlRefused (s : State) (who : HostReader) (a : Nat) : State := match who with
  | .op id => match s.op id with
    | some o => s.opXlRefused o a
    | none => s
  | .fetch n => if n < 128 ∧ s.ringState n = 1 then (s.folErr (s.ringFolio n) 0).fetchFailed n else s
  | .recovery => if s.bit Reg.BOOT_RCV_STAT 23 then (s.folErr 0 0).rcvFail else s
  | .mailbox =>
    if s.bit Reg.FOL_SCRB_CTL 30 && !s.host.rspReady then (s.folErr 0 0).scrbRespond St.badAddress 0 0 [] else s

/-- Whose transfer still waits. -/
def State.xlWanted (s : State) (who : HostReader) : Bool := match who with
  | .op id => (s.op id).isSome
  | .fetch n => decide (n < 128) && s.ringState n == 1
  | .recovery => s.bit Reg.BOOT_RCV_STAT 23
  | .mailbox => s.bit Reg.FOL_SCRB_CTL 30 && !s.host.rspReady

/-- A translation enters the cache, in place of the least recently used entry where the cache is full, and stays with the transfer
that waits for it (R509, R510). -/
def State.xlGrant (s : State) (who : HostReader) (e : AtsEnt) : State :=
  let keep := s.host.ats.filter fun x => !(x.pasid == e.pasid && x.base == e.base)
  { s with host := { s.host with ats := (e :: keep).take 1024
                                 granted := if s.xlWanted who then s.host.granted ++ [(who, e)] else s.host.granted } }

/-- ATS_TRANSLATION_COMPLETION (R509 to R512): the outstanding request of `who` for `a`, for a write or a read, is answered with a
translated page at `dest`, its size and its permissions. -/
def execAtsTranslationCompletion (who : HostReader) (pasid : Option Nat) (a : Nat) (write : Bool) (dest size : Nat)
    (perm : XlPerm) (s : State) : Result :=
  let q : XlReq := ⟨who, pasid, a, write⟩
  if !s.host.xlReqs.contains q then .next s
  else
    let s := { s with host := { s.host with xlReqs := s.host.xlReqs.erase q } }
    let p := atsPage a size
    .next (if (if write then perm.wr else perm.rd) then s.xlGrant who ⟨pasid, p.1, p.2, perm.rd, perm.wr, dest / p.2 * p.2⟩
      else (s.xlRefused who a).readOver who)

/-- An Invalidate Request for a range, of one PASID or of all, names the entry. -/
def AtsEnt.named (e : AtsEnt) (pasid : Option Nat) (a size : Nat) (global : Bool) : Bool :=
  (global || e.pasid == pasid) && decide (e.base < a + size ∧ a < e.base + e.size)

/-- ATS_INVALIDATE_REQUEST (R513, R514): matching entries are used no more, and a transfer that waits asks for them anew; up to 32
requests may be outstanding. -/
def execAtsInvalidateRequest (tag : Nat) (pasid : Option Nat) (a size : Nat) (global : Bool) (s : State) : Result :=
  if 32 ≤ s.host.invals.length then .next s
  else .next { s with host := { s.host with
    ats := s.host.ats.filter fun e => !e.named pasid a size global
    granted := s.host.granted.filter fun g => !g.2.named pasid a size global
    invals := s.host.invals ++ [tag] } }

/-- ATS_INVALIDATE_COMPLETION (R513): the oldest request's completion is sent. -/
def execAtsInvalidateCompletion (s : State) : Result :=
  match s.host.invals with
  | [] => .next s
  | _ :: rest => .next (({ s with host := { s.host with invals := rest } }).emit (.pcie "InvalidateCompletion"))

/-! ## Folio commands and resets (R529 to R533) -/

/-- An operation is abandoned: nothing more is written for it (R531). -/
def State.abandonOp (s : State) (o : Op) : State :=
  let s := s.dropOp o.id
  if o.bspPort.isSome then s.freeStage (stageUnits (24 + o.stream.length + o.data.length)) else s

/-- Every operation of folio `f` is abandoned, and the sessions bound to it end with CLOSE, REASON 1. -/
def State.abandonFolio (s : State) (f : Nat) : State :=
  let s := (s.ops.filter (·.folio == f)).foldl State.abandonOp s
  (s.net.sessions.filter fun x => x.folio == f && !x.peer).foldl (fun s x => s.closeSession x.id 1) s

/-- Ring pair `n` is placed in folio `f`. -/
def State.ringIn (s : State) (f n : Nat) : Bool := s.rd (Reg.RING_CFG n) != 0 && s.ringFolio n == f

/-- The folio's rings are disabled, and removed where `remove` (Table HST-12). -/
def State.dropRings (s : State) (f : Nat) (remove : Bool) : State :=
  ((List.range 128).filter (s.ringIn f)).foldl (fun s n =>
    let s := s.setRing n {}
    if remove then s.resetRegs (Reg.RING_SQ_BASE n) (Reg.RING_SQ_BASE n + 0x200)
    else ((s.setb (Reg.RING_CTL n) 31 false).setRingState n 0)) s

/-- Both mailbox buffers of folio `f` and its FULL bits are cleared. -/
def State.clearMailbox (s : State) (f : Nat) : State :=
  s.resetRegs (Reg.FOL_T2M f 0) (Reg.FOL_MBX_CTL f + 4)

/-- The folio's deficits are 0, and where `destroy`, its bucket registers, their levels and its gate cap return to reset (R603, Table
SCH-4). -/
def State.clearSched (s : State) (f : Nat) (destroy : Bool) : State :=
  let mine := fun k => k / 8 == f
  let s := { s with sch := { s.sch with deficit := Tab.clear s.sch.deficit mine } }
  if destroy then
    let s := { s with sch := { s.sch with levelB := Tab.clear s.sch.levelB mine, levelO := Tab.clear s.sch.levelO mine } }
    (s.resetRegs (Reg.SCH_FC_CTL f 0) (Reg.SCH_FC_CTL f 0 + 0x200)).resetRegs (Reg.SCH_FOL_GATE_CAP f) (Reg.SCH_FOL_GATE_CAP f + 4)
  else s

/-- The PASIDs of folio `f`. -/
def State.folPasids (s : State) (f : Nat) : List Nat :=
  ((List.range 4).filter fun i => s.bit (Reg.FOL_PASID f i) 31).map fun i => s.fld (Reg.FOL_PASID f i) 19 0

/-- Effects of RESET (`destroy` false), DESTROY and function-level reset on folio `f` (Table HST-12). -/
def State.folioReset (s : State) (f : Nat) (destroy : Bool) : State :=
  let s := (s.undoDoors f).clearFolioEvents f
  let ps := s.folPasids f
  let np := s.bit (Reg.FOL_CFG f) 0
  let other := fun (p : Option Nat) => match p with
    | some p => !ps.contains p
    | none => !np
  let s := ((s.abandonFolio f).eraseFolio f).dropRings f destroy
  let s := { s with host := { s.host with ats := s.host.ats.filter fun e => other e.pasid
                                          granted := s.host.granted.filter fun g => other g.2.pasid
                                          xlReqs := s.host.xlReqs.filter fun q => other q.pasid } }
  let s := (s.clearMailbox f).clearSched f destroy
  let s := if destroy then
      (s.resetRegs (Reg.FOL_PASID f 0) (Reg.FOL_MBX_VEC f + 4)).resetRegs (Reg.FOL_ACL_COUNT f) (Reg.FOL_ACL f 63 + 4)
    else s
  s.setf (Reg.FOL_CTL f) 2 0 4

/-- A write of FOL_CMD: OP, and a refusal where there is one. -/
def State.folCmd (s : State) (f op res : Nat) : State := s.wr (Reg.FOL_CMD f) (BitVec.ofNat 32 (op + res * 2 ^ 28))

/-- What refuses a folio command: 1 BUSY, 2 STATE, 0 nothing (R529, R530, R537). -/
def State.folRefusal (s : State) (f op : Nat) : Nat :=
  let st := s.folioState f
  match op with
  | 1 => if st = 4 then 1 else if st = 1 then 0 else 2
  | 2 => if st = 2 ∨ st = 3 then 0 else 2
  | 3 => if st = 4 then 1 else if st = 0 then 2 else 0
  | 4 => if st = 4 ∨ st = 0 then 2 else 0
  | _ => 2

/-- QUIESCE (R529). -/
def execQuiesce (f : Nat) (s : State) : Result :=
  if 64 ≤ f then .next s else
  let r := s.folRefusal f 1
  let s := s.folCmd f 1 r
  if r ≠ 0 then .next s
  else
    let s := s.setf (Reg.FOL_CTL f) 2 0 2
    .next ((s.ops.filter fun o => o.folio == f && o.parked && o.isRing).foldl (fun s o => s.finish o.id St.aborted) s)

/-- The operation is a BSP request that only waits in its folio's queue. -/
def Op.queued (o : Op) : Bool := o.bspPort.isSome && o.at_ == .cand && o.res.isNone

/-- FOLIO_QUIESCED (R529): no operation of a quiescing folio remains. A BSP request that waits in the queue, which is not admitted
now, is no such operation (DEDUCED, log entry 62). -/
def execFolioQuiesced (f : Nat) (s : State) : Result :=
  if f < 64 ∧ s.folioState f = 2 ∧ s.ops.all (fun o => o.folio != f || o.queued) then .next ((s.setf (Reg.FOL_CTL f) 2 0 3).folErr f 8) else .next s

/-- RESUME (R530). -/
def execResume (f : Nat) (s : State) : Result :=
  if 64 ≤ f then .next s else
  let r := s.folRefusal f 2
  let s := s.folCmd f 2 r
  .next (if r ≠ 0 then s else s.setf (Reg.FOL_CTL f) 2 0 1)

/-- RESET (R531). -/
def execReset (f : Nat) (s : State) : Result :=
  if 64 ≤ f then .next s else
  let r := s.folRefusal f 3
  let s := s.folCmd f 3 r
  .next (if r ≠ 0 then s else (s.folioReset f false).setb (Reg.FOL_CMD f) 31 true)

/-- DESTROY (R531). -/
def execDestroy (f : Nat) (s : State) : Result :=
  if 64 ≤ f then .next s else
  let r := s.folRefusal f 4
  let s := s.folCmd f 4 r
  .next (if r ≠ 0 then s else (s.folioReset f true).setb (Reg.FOL_CMD f) 31 true)

/-- Every folio is reset as function-level reset does, and the Scribe mailbox is cleared (Table HST-12, R533, R929). -/
def State.resetFolios (s : State) : State :=
  let s := (List.range 64).foldl (fun s f => s.folioReset f true) s
  let s := s.resetRegs (Reg.SCRB_REQ 0) (Reg.FOL_SCRB_CTL + 4)
  State.clearHostEvents { s with host := { s.host with rspReady := false } }

/-- Every folio leaves RESETTING for FREE. -/
def State.foliosFree (s : State) : State :=
  (List.range 64).foldl (fun s f => (s.setf (Reg.FOL_CTL f) 2 0 0).setb (Reg.FOL_CMD f) 31 false) s

/-- The configuration space returns to its reset values. -/
def State.cfgClear (s : State) : State :=
  { s with host := { s.host with cfg := [], busMaster := false, memSpace := false, msixEnable := false, funcMask := false
                                 atsEnable := false, ats := [], xlReqs := [], granted := [], invals := [], d3 := false
                                 msixTab := [] } }

/-- FUNCTION_LEVEL_RESET (R531, R532, R929). -/
def execFunctionLevelReset (s : State) : Result :=
  if s.host.perst || !s.host.cfgOpen then .next s
  else
    let s := (s.resetFolios).cfgClear
    .next (State.exitBegin { s with host := { s.host with flr := true } })

/-- FOLIO_RESET_COMPLETE (R531, R532): of folio `f`, or of a function-level reset. -/
def execFolioResetComplete (f : Option Nat) (s : State) : Result :=
  match f with
  | none => if s.host.flr then .next (State.foliosFree { s with host := { s.host with flr := false } }) else .next s
  | some f =>
    if f < 64 ∧ s.folioState f = 4 ∧ s.host.flr = false then
      .next ((s.setf (Reg.FOL_CTL f) 2 0 (if s.fld (Reg.FOL_CMD f) 3 0 = 3 then 1 else 0)).setb (Reg.FOL_CMD f) 31 false)
    else .next s

/-- PERST_N_ASSERT (R225, R533): the link and the configuration space are reset, and after step 11 the folios, rings and
Scribe mailbox as by function-level reset. -/
def execPerstNAssert (s : State) : Result :=
  let s := if s.hostLinkUp then s.countLink 2 else s
  let s := { s with host := { s.host with perst := true, linkL0 := false, linkSub := .none, flr := false, inbound := []
                                          msixHeld := [], pmeHeld := false } }
  let s := if s.fld Reg.BOOT_STAT 23 20 = 11 then s.resetFolios.foliosFree else s
  .next s.cfgClear

/-- WAKE_N is deasserted. -/
def State.wakeRelease (s : State) : State :=
  if s.pwr.wakeOut then State.emit { s with pwr := { s.pwr with wakeOut := false } } (.pin .wakeN true) else s

/-- PERST_N_DEASSERT (R202, R225, R895, Table PWR-5): the link trains, from step 2 of boot on; PERST_N rising wakes the device
and ends an assertion of WAKE_N. -/
def execPerstNDeassert (s : State) : Result :=
  if s.host.perst then
    let s := { s with host := { s.host with perst := false } }
    let s := { s with host := { s.host with linkL0 := s.hostLinkUp } }
    .next (s.wakeRelease.wakeBy 11)
  else .next s

/-! ## Mailbox doorbells (R519 to R521, R541) -/

/-- The mailbox of folio `f` is active (Table HST-4). -/
def State.mailboxOn (s : State) (f : Nat) : Bool := decide (1 ≤ s.folioState f ∧ s.folioState f ≤ 3)

/-- T2M_FULL (R521): the Tenant of folio `f` sets it. -/
def execT2mFull (f : Nat) (s : State) : Result :=
  if 64 ≤ f ∨ f = 0 ∨ !s.mailboxOn f ∨ s.bit (Reg.FOL_MBX_CTL f) 0 then .next s
  else .next ((s.setb (Reg.FOL_MBX_CTL f) 0 true).raise (128 + f))

/-- M2T_FULL (R521): the Manager sets it. -/
def execM2tFull (f : Nat) (s : State) : Result :=
  if 64 ≤ f ∨ f = 0 ∨ !s.mailboxOn f ∨ s.bit (Reg.FOL_MBX_CTL f) 1 then .next s
  else
    let s := s.setb (Reg.FOL_MBX_CTL f) 1 true
    let v := s.fld (Reg.FOL_MBX_VEC f) 8 0
    .next (if !s.bit (Reg.FOL_MBX_VEC f) 31 then s
      else if s.vectorOf f v then s.sendMsix v else s.folErr f 7)

end Sys2Proof.Machine
end

