-- ==== Sys2Proof/Machine/Images.lean ====
section
/-! DEFINITION. Chapter 05: the image checks of Table BOO-4, measurement, and the anti-rollback floors. -/

namespace Sys2Proof.Machine

/-! ## Measurement (R215 to R218) -/

/-- Extend BOOT_MEASn with 48 bytes. -/
def State.measExtend (s : State) (n : Nat) (d : Bytes) : State :=
  s.setRegBytes (Reg.BOOT_MEAS n 0) (sha384 (s.meas n ++ d))

def State.measClear (s : State) (l : List Nat) : State := l.foldl (fun s n => s.setRegBytes (Reg.BOOT_MEAS n 0) (zeros 48)) s

/-- BOOT_MEAS_EXTEND (R218): a write of BOOT_MEAS_CMD. -/
def execBootMeasExtend (v : Word) (s : State) : Result :=
  let n := fieldOf v 2 0
  let s := s.setf Reg.BOOT_MEAS_CMD 2 0 n
  let s := if v.getLsbD 30 then s.setb Reg.BOOT_MEAS_CMD 30 false else s
  if !v.getLsbD 31 then .next s
  else if n < 4 then .next (s.setb Reg.BOOT_MEAS_CMD 30 true)
  else .next (s.measExtend n (s.regBytes (Reg.BOOT_MEAS_DATA 0) 48))

/-! ## Images (R205 to R208, Tables BOO-3, BOO-4) -/

/-- What the checks of an image find: code, and its header. -/
structure ImageVerdict where
  code : Nat
  version : Nat
  unsigned : Bool
  body : Bytes

/-- The two signature blocks after the body, where they fill the image. -/
def imageBlocks (b : Bytes) : Option (List Word × List Word) :=
  let n := 8 + 4 * ((leAt b 0 4 + 3) / 4) + 4 * ((leAt b 4 4 + 3) / 4)
  if b.length = n + 7228 then some (wordsOfBytes (b.take n), wordsOfBytes (b.drop n)) else none

/-- The signer row an image names, where its class is right for the image's class (R141, R206). -/
def State.imageRow (s : State) (cls signer : Nat) : Option SignerRow :=
  let vendor := cls == 0 || s.life == 5
  if vendor then (if signer = 0 then some s.otp.vendor else none)
  else if 128 ≤ signer then s.otp.customers[signer % 4]? else none

/-- The reserved fields of an image header (Table BOO-3). -/
def imageReservedOk (b : Bytes) : Bool :=
  leAt b 0x1C 4 == 0 && leAt b 0x30 16 == 0 && decide (leAt b 0x0B 1 < 2) && leAt b 0x15 3 == 0 &&
  (leAt b 7 1 / 4) % 32 == 0 && (leAt b 6 1 == 0 || leAt b 0x18 4 == 0)

/-- The body of an image lies wholly in the memory of its class (check 0x2A). -/
def imageLoadOk (cls a n : Nat) : Bool :=
  if cls = 0 then decide (0x10000000 ≤ a ∧ a + n ≤ 0x10000000 + 0x400000)
  else decide (0x20000000 ≤ a ∧ a + n ≤ 0x20000000 + 0x2000000)

/-- Table BOO-4 on the stored image `b` of entry `e`; the code of the first failing check, or 0 (R207, R208). -/
def State.imageCode (s : State) (e : Image) (b : Bytes) (readOk : Bool) : Nat :=
  let n := leAt b 0x0C 4
  let unsigned := leAt b 0x0B 1 % 2 == 1
  let tail := b.drop (64 + n)
  let row := s.imageRow e.cls (leAt b 7 1)
  if !readOk then 0x2B
  else if sha384 b ≠ bytesOfWords e.digest then 0x23
  else if leAt b 0 4 ≠ 0x474D4942 then 0x20
  else if leAt b 4 2 ≠ 1 ∨ !imageReservedOk b ∨ leAt b 0x0A 1 ≠ e.id ∨ leAt b 6 1 ≠ e.cls then 0x21
  else if n % 4 ≠ 0 ∨ b.length < 64 + n ∨ (if unsigned then !tail.isEmpty else (imageBlocks tail).isNone) then 0x22
  else if unsigned && s.life != 3 then 0x25
  else if !unsigned && !(row.any (·.honoured)) then 0x26
  else if !unsigned && !(match imageBlocks tail, row with
      | some (l, m), some r => sigsOk r l m "BN96-IMAGE" (b.take (64 + n))
      | _, _ => false) then 0x27
  else if leAt b 0x20 8 ≠ 0 ∧ leAt b 0x20 8 ≠ s.otp.serial then 0x28
  else if leAt b 8 2 < s.floor e.cls then 0x29
  else if leAt b 0x10 5 ≠ e.load ∨ !imageLoadOk e.cls e.load n then 0x2A
  else 0

def State.imageVerdict (s : State) (e : Image) (b : Bytes) (readOk : Bool) : ImageVerdict :=
  { code := s.imageCode e b readOk, version := leAt b 8 2, unsigned := leAt b 0x0B 1 % 2 == 1
    body := slice b 64 (leAt b 0x0C 4) }

/-- The Scribe image's entry. -/
def State.scribeImage (s : State) : Option Image := s.images.find? (·.cls == 0)

/-- The stored bytes of an image in flash. -/
def State.imageBytes (s : State) (e : Image) : Bytes := s.flashBytes e.off e.len

/-! ## Floors (R219 to R222) -/

/-- The version in force of a class (R220): Scribe and Draft as loaded, Ductus as DUCT_VERSION. -/
def State.versionInForce (s : State) (cls : Nat) : Nat := match cls with
  | 0 => s.fld Reg.BOOT_VER_INFORCE 15 0
  | 1 => s.fld Reg.BOOT_VER_INFORCE 31 16
  | _ => s.fld Reg.DUCT_VERSION 15 0

/-- Write the Blotter floor of a class. -/
def State.setBlotFloor (s : State) (cls v : Nat) : State := match cls with
  | 0 => s.setf Reg.BOOT_BFLOOR0 15 0 v
  | 1 => s.setf Reg.BOOT_BFLOOR0 31 16 v
  | _ => s.setf Reg.BOOT_BFLOOR1 15 0 v

/-- The place of a class in the OTP floor rows. -/
def floorRow (cls : Nat) : Nat := match cls with
  | 0 => 1
  | 1 => 2
  | _ => 0

/-- Raise a floor to `v` (R220): 0 OK, 1 ABOVE, 2 BELOW, 3 OTP write failed, here after `otpFail` bits of the raise. -/
def State.floorRaise (s : State) (otp : Bool) (cls v : Nat) (otpFail : Option Nat) : State × Nat :=
  let cur := if otp then s.otpFloor cls else s.blotFloor cls
  if s.versionInForce cls < v ∨ (otp ∧ 128 < v) then (s, 1)
  else if v ≤ cur then (s, 2)
  else if otp then
    let more := match otpFail with
      | some k => min (v - cur) k
      | none => v - cur
    let row := burnBits (s.otp.floors.getD (floorRow cls) 0) more
    ({ s with otp := { s.otp with floors := s.otp.floors.set (floorRow cls) row } }, if otpFail.isSome then 3 else 0)
  else (s.setBlotFloor cls v, 0)

/-- A write of BOOT_FLOOR_CMD (R220); a reserved CLASS is ignored whole (R9). -/
def State.floorCmd (s : State) (v : Word) (otpFail : Option Nat) : State :=
  if fieldOf v 25 24 = 3 then s
  else
    let s := ((s.setf Reg.BOOT_FLOOR_CMD 30 30 (fieldOf v 30 30)).setf Reg.BOOT_FLOOR_CMD 25 24 (fieldOf v 25 24)).setf
      Reg.BOOT_FLOOR_CMD 15 0 (fieldOf v 15 0)
    if !v.getLsbD 31 then s
    else
      let r := s.floorRaise (v.getLsbD 30) (fieldOf v 25 24) (fieldOf v 15 0) otpFail
      r.1.setf Reg.BOOT_FLOOR_CMD 29 28 r.2

/-- BOOT_FLOOR_CMD_GO (R220). -/
def execBootFloorCmdGo (v : Word) (otpFail : Option Nat) (s : State) : Result := .next (s.floorCmd v otpFail)

end Sys2Proof.Machine
end

