-- ==== Sys2Proof/Machine/Worlds.lean ====
section
/-! DEFINITION. Chapter 06: lending and world switches, the Scribe watchdog, Scribe failures and restarts, the machine timer and
the debug module. -/

namespace Sys2Proof.Machine

/-! ## Lent cores (R236 to R244) -/

abbrev coreStat : Nat := Reg.WRLD_CORE_STAT
def State.lent (s : State) (c : Nat) : Bool := decide (c < 8) && s.bit Reg.WRLD_CFG (8 + c)
def State.coreReleased (s : State) (c : Nat) : Bool := decide (c < 8) && s.bit coreStat (16 + c)
def State.claimed (s : State) (c : Nat) : Bool := decide (c < 8) && s.bit coreStat (8 + c)
def State.inScribe (s : State) (c : Nat) : Bool := decide (c < 8) && s.bit coreStat c
def State.switching (s : State) (c : Nat) : Bool := s.wrld.switches.any (·.core == c)

def State.setClaimed (s : State) (c : Nat) (v : Bool) : State :=
  (s.setb coreStat (8 + c) v).setb Reg.WRLD_CLAIM c v

/-! ## Rights of the debug module (Table LCY-6) -/

/-- Debug access to Draft cores, and to the Scribe pair, is open. -/
def State.debugDraft (s : State) : Bool := [1, 3, 5].contains s.life || s.right 0
def State.debugScribe (s : State) : Bool := [1, 3, 5].contains s.life || s.right 1

/-- The debugger may halt and examine hart `h` now. -/
def State.mayDebug (s : State) (h : Nat) : Bool :=
  if h = 0 then s.debugScribe
  else decide (h ≤ 8) && (if s.inScribe (h - 1) then s.debugScribe else s.debugDraft)

/-! ## The watchdog's time (R251, R253, Table WLD-7) -/

/-- The watchdog is frozen (R253). -/
def State.wdFrozen (s : State) : Bool := s.wrld.halted.contains 0 || !s.pwr.mainUp || decide (3 ≤ s.fld Reg.PWR_STAT 2 0)

/-- CLK_FAB cycles left to the watchdog. -/
def State.wdRemaining (s : State) : Nat :=
  if s.wdFrozen then s.wrld.wdLeft else s.wrld.wdLeft - (s.stime.cycle - s.wrld.wdAt)

/-- Settle the watchdog's count, before something stops it or lets it run on. -/
def State.wdSync (s : State) : State :=
  { s with wrld := { s.wrld with wdLeft := s.wdRemaining, wdAt := s.stime.cycle } }

/-- Load the watchdog with `ms` milliseconds. -/
def State.wdLoad (s : State) (ms : Nat) : State :=
  { s with wrld := { s.wrld with wdLeft := 800000 * ms, wdAt := s.stime.cycle } }

/-- REMAINING_MS: whole milliseconds to expiry, a part of one counted whole; 0 while the watchdog does not run. -/
def State.wdMsLeft (s : State) : Nat := if s.wrld.wdRuns then (s.wdRemaining + 799999) / 800000 else 0

/-! ## Contexts of harts (R235, R242, R244) -/

def putCtx (l : List (Nat × HartCtx)) (h : Nat) (c : HartCtx) : List (Nat × HartCtx) := l.filter (·.1 != h) ++ [(h, c)]
def ctxAt (l : List (Nat × HartCtx)) (h : Nat) : Option HartCtx := (l.find? (·.1 == h)).map (·.2)

/-- The registers of hart `h` as they stand: known while it is halted, else what its program has left in them, free values. -/
def State.takeCtx (s : State) (h : Nat) : HartCtx × State := match ctxAt s.wrld.ctx h with
  | some c => (c, s)
  | none => (⟨some s.freeCtr, []⟩, { s with freeCtr := s.freeCtr + 1 })

/-- The context with which a core first enters the Scribe world: M mode at WRLD_LEND_ENTRY, every other register zero (R242). The
debugger sees the pc as dpc (0x7B1) and the mode as PRV of dcsr (0x7B0). -/
def State.firstCtx (s : State) : HartCtx := ⟨none, [(0x7B0, 3), (0x7B1, BitVec.ofNat 64 ((s.rd64 Reg.WRLD_LEND_ENTRY).toNat % 2 ^ 40))]⟩

def State.setCtx (s : State) (h : Nat) (c : HartCtx) : State := { s with wrld := { s.wrld with ctx := putCtx s.wrld.ctx h c } }

/-- The hart runs its context on. -/
def State.dropCtx (s : State) (h : Nat) : State := { s with wrld := { s.wrld with ctx := s.wrld.ctx.filter (·.1 != h) } }

/-- Halt a hart, or run it again. -/
def State.haltHart (s : State) (h : Nat) : State :=
  if s.wrld.halted.contains h then s
  else
    let s := if h = 0 then s.wdSync else s
    let c := s.takeCtx h
    let s := c.2.setCtx h c.1
    { s with wrld := { s.wrld with halted := insertNat h s.wrld.halted, haltWait := s.wrld.haltWait.filter (· != h) } }

def State.runHart (s : State) (h : Nat) : State :=
  let s := if h = 0 then s.wdSync else s
  State.dropCtx { s with wrld := { s.wrld with
    halted := s.wrld.halted.filter (· != h), haltWait := s.wrld.haltWait.filter (· != h)
    dmExec := if s.wrld.dmExec = some h then none else s.wrld.dmExec } } h

/-! ## Claims, returns and switches (R238 to R244, R266, Table WLD-2) -/

/-- A claimed core starts its switch into the Scribe world (R238). A core halted in a debug session reaches no instruction boundary
(log entry 59). -/
def State.startEnter (s : State) (c : Nat) : State :=
  if s.claimed c && s.proof.slice == some (7 + c) then
    { s with proof := { s.proof with claimDue := insertNat c s.proof.claimDue } }
  else if s.claimed c && !s.switching c && !s.wrld.halted.contains (c + 1) then
    let s := s.setClaimed c false
    { s with wrld := { s.wrld with switches := s.wrld.switches ++ [⟨c, true⟩] } }
  else s

/-- A core in the Scribe world starts its switch back (R239); a halt of it ends. -/
def State.startLeave (s : State) (c : Nat) : State :=
  { s with wrld := { s.wrld with
    switches := s.wrld.switches ++ [⟨c, false⟩], halted := s.wrld.halted.filter (· != c + 1) } }

/-- WRLD_CLAIM (R238, R240, R266): each bit of a lent, released core in the Draft world is claimed, with machine interrupt 24; a
core that has yielded in the same cycle starts its switch. -/
def execWrldClaim (v : Word) (s : State) : Result :=
  .next ((List.range 8).foldl (fun s c =>
    if v.getLsbD c && s.lent c && s.coreReleased c && !s.inScribe c && !s.switching c && !s.claimed c then
      let s := (s.setClaimed c true).emit (.interrupt (c + 1) 24)
      if s.cycNow.yields.contains c then s.startEnter c else s
    else s) s)

/-- WRLD_YIELD (R238, R240, R266): written by a core. Without a claim it is ignored, unless one falls in the same cycle. -/
def execWrldYield (core : Nat) (s : State) : Result :=
  if s.claimed core then .next (s.startEnter core)
  else
    let c := s.cycNow
    .next { s with cyc := { c with yields := insertNat core c.yields } }

/-- CLAIM_GRACE_EXPIRY (R238). -/
def execClaimGraceExpiry (core : Nat) (s : State) : Result := .next (s.startEnter core)

/-- FORCED_RETURN and source 510 are as they were before LEND_MAX_US of the core ended in this cycle (R266). -/
def State.undoForced (s : State) (core : Nat) : State := match s.cycNow.forced.find? (·.1 == core) with
  | some f =>
    let s := if f.2.1 then s else s.setb Reg.WRLD_LEND_CTL 30 false
    if f.2.2 then s else s.clearEvt 510
  | none => s

/-- WRLD_RETURN (R239, R266): written by a lent core in the Scribe world. -/
def execWrldReturn (core : Nat) (s : State) : Result :=
  if s.inScribe core && !s.switching core then .next (s.startLeave core) else .next (s.undoForced core)

/-- LEND_MAX_EXPIRY (R239). -/
def execLendMaxExpiry (core : Nat) (s : State) : Result :=
  if s.inScribe core && !s.switching core then
    let c := s.cycNow
    let was := (core, s.bit Reg.WRLD_LEND_CTL 30, s.evtStatus 510)
    let s := { s with cyc := { c with forced := c.forced ++ [was] } }
    .next (((s.startLeave core).setb Reg.WRLD_LEND_CTL 30 true).raise 510)
  else .next s

/-- The ruling units named in RUL_SWAP toggle (R243). -/
def State.rulSwap (s : State) : State :=
  (List.range 7).foldl (fun s u => if s.bit Reg.WRLD_LEND_CTL (23 + u) then s.ruleToggle u else s) s

def State.noneInScribe (s : State) : Bool := s.fld coreStat 7 0 == 0

/-- Steps 2 and 6 of Table WLD-2: the outgoing registers go to the core's save buffer of their world, and the incoming ones come
from the other. `keep` is whether the outgoing context is written (R263). -/
def State.switchCtx (s : State) (core : Nat) (enter keep : Bool) : State :=
  let c := s.takeCtx (core + 1)
  let s := c.2
  if enter then
    let inc := (ctxAt s.wrld.saveS core).getD s.firstCtx
    State.setCtx { s with wrld := { s.wrld with saveD := putCtx s.wrld.saveD core c.1, saveS := putCtx s.wrld.saveS core inc } } (core + 1) inc
  else
    let s := if keep then { s with wrld := { s.wrld with saveS := putCtx s.wrld.saveS core c.1 } } else s
    let back := match ctxAt s.wrld.saveD core with
      | some d => (d, s)
      | none => (⟨some s.freeCtr, []⟩, { s with freeCtr := s.freeCtr + 1 })
    back.2.setCtx (core + 1) back.1

/-- The incoming context runs, or is halted before its first instruction where a halt request waits for it (R235). -/
def State.resumeHart (s : State) (h : Nat) : State :=
  if s.wrld.haltWait.contains h && s.mayDebug h then s.haltHart h else s.dropCtx h

/-- WORLD_SWITCH_COMPLETE (R241 to R243, R263, R267): step 6 of Table WLD-2. -/
def execWorldSwitchComplete (core : Nat) (s : State) : Result :=
  match s.wrld.switches.find? (·.core == core) with
  | none => .next s
  | some w =>
    let s := { s with wrld := { s.wrld with switches := s.wrld.switches.filter (·.core != core) } }
    let recalled := s.wrld.recalls.contains core
    let s := (s.incSat Reg.WRLD_SWITCH_COUNT 31 0).switchCtx core w.enter !recalled
    let first := s.noneInScribe
    let s := s.setb coreStat core w.enter
    let s := if first || s.noneInScribe then s.rulSwap else s
    if w.enter && recalled then .next ((s.dropCtx (core + 1)).startLeave core)
    else
      let s := { s with wrld := { s.wrld with
        recalls := s.wrld.recalls.filter (· != core)
        saveS := if recalled then s.wrld.saveS.filter (·.1 != core) else s.wrld.saveS } }
      .next (s.resumeHart (core + 1))

/-! ## The watchdog and failures (R250 to R258, R263, R265) -/

abbrev wrldStat : Nat := Reg.WRLD_STAT
def State.wrldState (s : State) : Nat := s.fld wrldStat 1 0

/-- SCRIBE_WD_MS. -/
def State.wdMs (s : State) : Nat := fieldOf ((s.section_ 0x03).getD 1 0) 13 0

/-- WRLD_WD_KICK (R251). -/
def execWrldWdKick (v : Word) (s : State) : Result :=
  if fieldOf v 15 0 = 0x5C1B then .next (if s.wrld.wdRuns then s.wdLoad s.wdMs else s)
  else .next (s.incSat Reg.WRLD_WD_STAT 31 16)

/-- A live load in progress is abandoned (R134). -/
def State.abandonLoad (s : State) : State :=
  if s.duct.loading.isSome then
    let s := { s with duct := { s.duct with loading := none } }
    (s.setb Reg.DUCT_LIVE_STAT 23 false).setb Reg.DUCT_CMD 31 false
  else s

/-- A request in the Scribe mailbox whose class does not wait for an absent Scribe world: the device answers it with
SERVICE_ABSENT (R261, R526). -/
def State.mailboxAbsent (s : State) : State :=
  let cmd := leAt (s.scrbBytes 0 2) 0 2
  if s.bit Reg.FOL_SCRB_CTL 30 && !s.host.rspReady && s.serve (cmd / 256 % 8) == .refuse then
    (s.scrbRespond St.serviceAbsent 0 0 []).scrbDone
  else s

/-- Every lent core goes back to the Draft world, its Scribe save buffer discarded, and no claim stays pending (R263, R267). -/
def State.recallCores (s : State) : State :=
  let s := (List.range 8).foldl (fun s c =>
    let s := if s.claimed c then s.setClaimed c false else s
    if !s.switching c && !s.inScribe c then s
    else
      let s := { s with wrld := { s.wrld with recalls := insertNat c s.wrld.recalls } }
      if s.switching c then s else s.startLeave c) s
  { s with wrld := { s.wrld with saveS := [] } }

/-- The Scribe pair is in reset: nothing of it runs. -/
def State.holdPair (s : State) : State :=
  State.dropCtx { s with
    boot := { s.boot with released := false }
    wrld := { s.wrld with wdRuns := false, halted := s.wrld.halted.filter (· != 0), haltWait := s.wrld.haltWait.filter (· != 0) } } 0

/-- The watchdog counts, and its expiry would be a Scribe failure (R252 to R254). -/
def State.wdCounts (s : State) : Bool := s.wrld.wdRuns && !s.wdFrozen && s.wrldState != 3

/-- Note the failure for the rest of its cycle (R265). -/
def State.noteFail (s : State) (f : FailCyc) : State :=
  let c := s.cycNow
  { s with cyc := { c with fail := some f } }

/-- A Scribe failure with a cause of Table WLD-3 (R256 to R258). -/
def State.scribeFail (s : State) (cause : Nat) : State :=
  let first := s.fld wrldStat 31 24 == 0
  let f : FailCyc := { first := first, wd := s.wdCounts, start := s.wrld.restart != 0 }
  let s := s.noteFail f
  let s := s.setb wrldStat (23 + cause) true
  let s := if first then s.setf wrldStat 23 20 cause else s
  let s := (s.wr64 Reg.WRLD_FAIL_TIME s.stime.ns).raise 508
  let s := (s.holdPair.recallCores.abandonLoad.rsvAbort).cerClear
  let again := s.fld Reg.WRLD_CFG 31 24 != 0 && decide (s.fld wrldStat 19 18 < 3) && cause != 5
  let s := { s with wrld := { s.wrld with restart := if again then 1 else 0, budgetOut := false }
                    host := { s.host with replies := [], rspReady := false } }
  let s := if again then (s.setf wrldStat 1 0 1).setf wrldStat 19 18 (s.fld wrldStat 19 18 + 1) else s.setf wrldStat 1 0 2
  s.hsResume.mailboxAbsent

/-- A further cause detected in the cycle of a failure is set too, and FIRST_CAUSE takes the lowest code (R265). -/
def State.alsoFailed (s : State) (f : FailCyc) (cause : Nat) : State :=
  let s := s.setb wrldStat (23 + cause) true
  if f.first && decide (cause < s.fld wrldStat 23 20) then s.setf wrldStat 23 20 cause else s

/-- A cause that the running pair shows: a failure, or a further cause of one of the same cycle. -/
def State.pairFails (s : State) (cause : Nat) : State :=
  if s.boot.released then s.scribeFail cause
  else match s.cycNow.fail with
    | some f => s.alsoFailed f cause
    | none => s

/-- LOCKSTEP_DIVERGENCE (R249, R250, R265). -/
def execLockstepDivergence (s : State) : Result := .next (s.pairFails 1)

/-- WRLD_SELF_FAIL (R255, R265). -/
def execWrldSelfFail (v : Word) (s : State) : Result := if v == 0x5C1BFA11 then .next (s.pairFails 3) else .next s

/-- One ASCII line of the boot ROM on CON1 (R199). -/
def State.bootLine (s : State) : State :=
  let hex := fun (n : Nat) => ascii (String.ofList [Nat.digitChar (n / 16 % 16), Nat.digitChar (n % 16)])
  let up := fun (b : Bytes) => b.map fun (c : Byte) => if 0x61 ≤ c.toNat ∧ c.toNat ≤ 0x66 then c - 0x20 else c
  s.emit (.conLine (ascii "BN96 B0 STAGE " ++ up (hex (s.fld Reg.BOOT_STAT 23 20)) ++ ascii " CODE " ++
    up (hex (s.fld Reg.BOOT_STAT 31 24)) ++ [0x0D, 0x0A]))

/-- Change STAGE and CODE, with the line of R199 while the boot ROM drives CON1. -/
def State.bootStage (s : State) (stage code : Nat) : State :=
  if s.fld Reg.BOOT_STAT 23 20 = stage ∧ s.fld Reg.BOOT_STAT 31 24 = code then s
  else
    let s := (s.setf Reg.BOOT_STAT 23 20 stage).setf Reg.BOOT_STAT 31 24 code
    if s.con1Open then s else s.bootLine

/-- Boot stops with a code (Table BOO-2): no recovery wait is in force; from step 3 on, Configuration Request Retry Status ends
(R198). -/
def State.bootHalt (s : State) (code : Nat) : State :=
  let s := { s with host := { s.host with cfgOpen := s.host.cfgOpen || decide (3 ≤ s.fld Reg.BOOT_STAT 23 20) } }
  let s := (s.bootStage (s.fld Reg.BOOT_STAT 23 20) code).setb Reg.BOOT_STAT 18 true
  (s.setb Reg.BOOT_STAT 19 false).setb Reg.BOOT_RCV_STAT 22 false

/-- WATCHDOG_EXPIRY (R195, R252 to R254, R265): before READY at boot it is the boot failure SCRIBE_START. -/
def execWatchdogExpiry (s : State) : Result :=
  if !s.wrld.wdRuns || s.wdFrozen then
    .next (match s.cycNow.fail with
      | some f => if f.wd then s.alsoFailed f (if f.start then 4 else 2) else s
      | none => s)
  else if s.wrldState = 3 then .next ((s.holdPair.setf wrldStat 1 0 2).bootHalt 0x07).hsResume.mailboxAbsent
  else .next (s.scribeFail (if s.wrld.restart = 0 then 2 else 4))

/-- The end of step 7 of Table WLD-4: STATE RUNNING, READY_TIME, source 509, and what waited is served. -/
def State.restartDone (s : State) : State :=
  let s := { s with wrld := { s.wrld with restart := 0, budgetOut := false } }
  let s := ((s.setf wrldStat 1 0 0).wr64 Reg.WRLD_READY_TIME s.stime.ns).raise 509
  s.serviceKey.hsResume.conKick 0

/-- Step 7 of Table WLD-4: the Scribe runtime has the open domains re-evaluated by a REVALIDATE, unless one has completed since the
release (R259, R336). With another Reservoir command in progress it waits for that one. -/
def State.restartReady (s : State) : State :=
  if !s.bit Reg.RSV_STAT 29 then s.restartDone
  else if s.rsv.cmd.isSome then { s with wrld := { s.wrld with restart := 7 } }
  else ((s.rsvStart 0x0C 0).rsvRevalidate.rsvFinish 0).restartDone

/-- RSV_COMMAND_COMPLETE (R259, R336, R352, R354): the command in progress completes, or goes on waiting; strokes that have fallen due
act before it. -/
def execRsvCommandComplete (s : State) : Result :=
  if !s.strokes.due.isEmpty then .next s
  else
    let t := s.rsvComplete
    .next (if t.wrld.restart == 7 && t.rsv.cmd.isNone then t.restartReady else t)

/-- WRLD_READY (R254, R258, R259, R272, R378): at boot the Scribe runtime then opens the domain records of the user flash region. -/
def execWrldReady (v : Word) (s : State) : Result :=
  if !s.boot.released || v != 0x5C1B then .next s
  else match s.wrldState with
    | 1 => .next (if s.wrld.restart = 7 then s else s.restartReady)
    | 3 => .next ((s.setf wrldStat 1 0 0).wr64 Reg.WRLD_READY_TIME s.stime.ns).serviceKey.bootDomains.hsResume
    | _ => .next s

/-- Instance 0 reseeds before step 5 of Table WLD-4 (R489), or, where no entropy is available, before its next request. -/
def State.restartReseed (s : State) : State :=
  if s.drbgUp 0 && s.entropyOk then s.drbgReseed 0 else { s with ent := { s.ent with due := insertNat 0 s.ent.due } }

/-- Scribe SRAM is overwritten with zeros, and instance 0 reseeds. -/
def State.scrubScribe (s : State) : State :=
  let hit := fun a => memOf a == .scribe
  let s := s.restartReseed
  { s with mem := { s.mem with sram := Tab.clear s.mem.sram hit, bad := Tab.clear s.mem.bad hit
                               fix := s.mem.fix.filter fun a => !hit a } }

/-- The pair is released and its watchdog starts. -/
def State.releasePair (s : State) : State :=
  let s := s.wdLoad s.wdMs
  { s with boot := { s.boot with released := true }, wrld := { s.wrld with wdRuns := true } }

/-- Load an accepted Scribe image (R215). -/
def State.loadScribe (s : State) (e : Image) (b : Bytes) (v : ImageVerdict) : State :=
  let s := (s.sramWrite e.load v.body).measExtend 2 (sha384 b)
  let s := s.setf Reg.BOOT_VER_INFORCE 15 0 v.version
  if v.unsigned then s.setb Reg.BOOT_STAT 16 true else s

/-- SCRIBE_RESTART_IMAGE_DONE (R217, R258): steps 3 to 5 of Table WLD-4. The image comes from the bank in force (`readOk`: read
without uncorrectable error); with a stream from the recovery mailbox, from the flash it names. -/
def execScribeRestartImageDone (readOk : Bool) (s : State) : Result :=
  if s.wrld.restart ≠ 1 ∨ !s.noneInScribe ∨ !s.wrld.switches.isEmpty then .next s
  else
    let s := s.scrubScribe.measClear [2, 4, 5, 6, 7]
    match s.scribeImage with
    | none => .next (s.scribeFail 5)
    | some e =>
      let b := s.imageBytes e
      let v := s.imageVerdict e b readOk
      if v.code ≠ 0 then .next (s.scribeFail 5)
      else
        let s := ((s.loadScribe e b v).setb Reg.RSV_STAT 29 true).releasePair
        .next { s with wrld := { s.wrld with restart := 5 } }

/-- RESTART_BUDGET_EXPIRY (R261). -/
def execRestartBudgetExpiry (s : State) : Result :=
  if s.wrldState = 1 then
    .next (State.hsResume { s with wrld := { s.wrld with budgetOut := true } }).mailboxAbsent
  else .next s

/-! ## The machine timer (R232) -/

/-- The WRLD_MTIMECMP register of a hart: 9 and 10 stand for the lent cores in the Scribe world. -/
def timeCmp (h : Nat) : Nat :=
  if h = 0 then Reg.WRLD_MTIMECMP0 else if h ≤ 8 then Reg.WRLD_MTIMECMP_D (h - 1) else Reg.WRLD_MTIMECMP_L (h - 9)

/-- The register that serves hart `h` in the world it is in. -/
def State.hartCmp (s : State) (h : Nat) : Nat :=
  if h ≠ 0 ∧ s.inScribe (h - 1) then
    let lower := (List.range (h - 1)).any fun c => s.lent c
    timeCmp (if lower then 10 else 9)
  else timeCmp h

/-- MACHINE_TIMER_INTERRUPT (R232): cause 7 while STIME NS is at or above the register. -/
def execMachineTimerInterrupt (hart : Nat) (s : State) : Result :=
  let runs := if hart = 0 then s.boot.released else s.coreReleased (hart - 1) && !s.switching (hart - 1)
  if hart ≤ 8 && runs && decide ((s.rd64 (s.hartCmp hart)).toNat ≤ s.ns) then .next (s.emit (.interrupt hart 7)) else .next s

/-! ## The debug module (R234, R235, Table LCY-6) -/

/-- A halt request (R235): deferred for a lent core in the Scribe world without SCRIBE_DEBUG, and for a core in a switch. -/
def State.requestHalt (s : State) (h : Nat) : State :=
  let lent := decide (1 ≤ h ∧ h ≤ 8)
  if lent && s.switching (h - 1) && (s.debugDraft || s.debugScribe) || lent && s.inScribe (h - 1) && s.debugDraft && !s.debugScribe then
    { s with wrld := { s.wrld with haltWait := insertNat h s.wrld.haltWait } }
  else if s.mayDebug h then s.haltHart h
  else s

/-- HALT_REQUEST. -/
def execHaltRequest (h : Nat) (s : State) : Result := .next (s.requestHalt h)

def zeroDm (_ : Nat) : Word := 0

/-- The error an abstract command leaves in cmderr of abstractcs: 2 not supported, 4 the hart is not halted. -/
def State.cmdErr (s : State) (e : Nat) : State :=
  { s with wrld := { s.wrld with dm := Tab.set zeroDm s.wrld.dm 0x16 (BitVec.ofNat 32 (e * 256)) } }

/-- Whether an earlier command has left an error in cmderr: no command starts then. -/
def State.cmdBlocked (s : State) : Bool := fieldOf (Tab.get zeroDm s.wrld.dm 0x16) 10 8 != 0

/-! ### Triggers (R234): four of type mcontrol on each hart -/

def State.trigSel (s : State) (h : Nat) : Nat := ((s.wrld.tsel.find? (·.1 == h)).map (·.2)).getD 0
def State.trigger (s : State) (h i : Nat) : DWord × DWord := ((s.wrld.trig.find? (·.1 == 4 * h + i)).map (·.2)).getD (0, 0)

/-- tdata1 as it is held: type mcontrol, DMODE, ACTION 1 only with DMODE, address match of the values 0 to 3, and the modes and
kinds matched; what the triggers do not implement reads 0 (DESIGN CHOICE, log entry 59). -/
def tdata1Legal (v : DWord) : DWord :=
  let n := v.toNat
  let dm := n / 2 ^ 59 % 2
  let act := if dm = 1 ∧ n / 2 ^ 12 % 16 = 1 then 1 else 0
  let mt := if n / 2 ^ 7 % 16 < 4 then n / 2 ^ 7 % 16 else 0
  BitVec.ofNat 64 (2 * 2 ^ 60 + dm * 2 ^ 59 + act * 2 ^ 12 + mt * 2 ^ 7 + n % 2 ^ 7 / 8 * 8 + n % 8 - n / 32 % 2 * 32)

def State.setTrigger (s : State) (h i : Nat) (t : DWord × DWord) : State :=
  { s with wrld := { s.wrld with trig := s.wrld.trig.filter (·.1 != 4 * h + i) ++ [(4 * h + i, t)] } }

/-- The trigger's data against an address: equal, the same naturally aligned range, at or above, below. -/
def trigAddr (mt d a : Nat) : Bool := match mt with
  | 0 => a == d
  | 1 =>
    let ones := ((List.range 64).find? fun i => !d.testBit i).getD 63
    a / 2 ^ (ones + 1) == d / 2 ^ (ones + 1)
  | 2 => decide (d ≤ a)
  | _ => decide (a < d)

/-- The trigger of hart `h`, if any, that an access fires before it is made. -/
def State.firedTrigger (s : State) (h : Nat) (acc : Access) : Option Nat :=
  (List.range 4).find? fun i =>
    let t := s.trigger h i
    let n := t.1.toNat
    let mode := match acc.priv with | .m => 6 | .s => 4 | .u => 3
    let kind := match acc.kind with | .exec => 2 | .write => 1 | .read => 0
    n.testBit mode && n.testBit kind && trigAddr (n / 2 ^ 7 % 16) t.2.toNat acc.addr

/-- A trigger fires: action 1 enters Debug Mode, where the debugger may; action 0 is a breakpoint exception. -/
def State.fireTrigger (s : State) (h i : Nat) (acc : Access) (toS : Bool) : State × Bool :=
  if (s.trigger h i).1.getLsbD 12 then
    if s.mayDebug h then (s.haltHart h, true) else (s, false)
  else (s.emit (.trap h 3 acc.addr toS), true)

/-! ### Registers of a halted hart -/

/-- A register of a halted hart: x0 is 0, time reads STIME NS, mhartid the hart, the trigger registers the hart's triggers; another
what its program or the debugger left there. -/
def State.hartReg (s : State) (h r : Nat) : DWord :=
  if r = 0x1000 then 0
  else if r = 0xC01 then s.stime.ns
  else if r = 0xF14 then BitVec.ofNat 64 h
  else if r = 0x7A0 then BitVec.ofNat 64 (s.trigSel h)
  else if r = 0x7A1 then BitVec.ofNat 64 ((s.trigger h (s.trigSel h)).1.toNat % 2 ^ 60 + 2 * 2 ^ 60)
  else if r = 0x7A2 then (s.trigger h (s.trigSel h)).2
  else if r = 0x7A4 then 4
  else
    let c := (ctxAt s.wrld.ctx h).getD ⟨none, []⟩
    match c.regs.find? (·.1 == r), c.seed with
    | some e, _ => e.2
    | none, some k => Config.hartReg k r
    | none, none => 0

def State.setHartReg (s : State) (h r : Nat) (v : DWord) : State :=
  if r = 0x1000 ∨ r = 0xC01 ∨ r = 0xF14 ∨ r = 0x7A4 then s
  else if r = 0x7A0 then
    if v.toNat < 4 then { s with wrld := { s.wrld with tsel := s.wrld.tsel.filter (·.1 != h) ++ [(h, v.toNat)] } } else s
  else if r = 0x7A1 then s.setTrigger h (s.trigSel h) (tdata1Legal v, (s.trigger h (s.trigSel h)).2)
  else if r = 0x7A2 then s.setTrigger h (s.trigSel h) ((s.trigger h (s.trigSel h)).1, v)
  else
    let c := (ctxAt s.wrld.ctx h).getD ⟨none, []⟩
    s.setCtx h { c with regs := c.regs.filter (·.1 != r) ++ [(r, v)] }

/-- Put a value of `wide` 64 bits, or of 32, in data0 and data1. -/
def State.dmData (s : State) (wide : Bool) (v : DWord) : State :=
  let dm := Tab.set zeroDm s.wrld.dm 4 (v.truncate 32)
  { s with wrld := { s.wrld with dm := if wide then Tab.set zeroDm dm 5 ((v >>> 32).truncate 32) else dm } }

/-- Hart `h` may be examined: it is halted, and the rights reach it. -/
def State.debugReady (s : State) (h : Nat) : Bool := s.mayDebug h && s.wrld.halted.contains h

/-- Read or write a register of a hart through the abstract command (R234): GPRs, FPRs and CSRs. A write of 32 bits sets the lower
half of a 64-bit register to them and the upper half to 0 (DESIGN CHOICE, log entry 59). -/
def State.accessReg (s : State) (h r : Nat) (wide : Bool) (w : Option DWord) : State :=
  if s.cmdBlocked then s
  else if !s.debugReady h then s.cmdErr 4
  else if 0x1040 ≤ r then s.cmdErr 2
  else match w with
    | some v => s.setHartReg h r (if wide then v else BitVec.ofNat 64 (v.toNat % 2 ^ 32))
    | none => (s.dmData wide (s.hartReg h r)).emit (.value (if wide then (s.hartReg h r).toNat else (s.hartReg h r).toNat % 2 ^ 32))

/-- The halted hart runs the 16-word program buffer (R234). What its instructions do is the hart's own: its registers hold free
values afterwards, and the accesses it makes are the CORE_ACCESS commands that follow, until the next debug module access. -/
def State.runProgbuf (s : State) (h : Nat) : State :=
  if s.cmdBlocked then s
  else if !s.debugReady h then s.cmdErr 4
  else
    let c := (s.dropCtx h).takeCtx h
    let s := c.2.setCtx h c.1
    { s with wrld := { s.wrld with dmExec := some h } }

/-- The program buffer has run. -/
def State.progbufOver (s : State) : State := { s with wrld := { s.wrld with dmExec := none } }

/-- ACCESS_REGISTER (R234): GPRs, FPRs and CSRs of a halted hart. -/
def execAccessRegister (h r : Nat) (w : Option DWord) (s : State) : Result :=
  if s.debugDraft || s.debugScribe then
    .next (s.progbufOver.accessReg h r true w)
  else .next s

/-- DTMCS: version 0.13, seven address bits (PRESUMED, log entry 51). -/
def execDtmcs (s : State) : Result :=
  if s.tapOffers 0x10 then .next ((s.tapLoad 0x10).emit (.tdo 32 0x71)) else .next (s.tapLoad 0x10)

/-- The hart dmcontrol selects. -/
def State.hartsel (s : State) : Nat :=
  let c := Tab.get zeroDm s.wrld.dm 0x10
  fieldOf c 25 16 + 1024 * fieldOf c 15 6

/-- dmstatus: version 2, authenticated, a program buffer without implicit ebreak, and the selected hart's state. -/
def State.dmStatus (s : State) : Nat :=
  let h := s.hartsel
  let halted := (s.wrld.halted.contains h).toNat
  let exists_ := decide (h ≤ 8)
  2 + 128 + halted * 0x300 + ((1 - halted) * exists_.toNat) * 0xC00 + (!exists_).toNat * 0xC000

/-- sbcs: version 1, 40 address bits, accesses of 8 to 64 bits. -/
def State.sbcs (s : State) : Word := Tab.get zeroDm s.wrld.dm 0x38

/-- What a debug module register reads. -/
def State.dmRead (s : State) (a : Nat) : Nat := match a with
  | 0x11 => s.dmStatus
  | 0x16 => (Tab.get zeroDm s.wrld.dm 0x16).toNat + 16 * 2 ^ 24 + 2
  | 0x38 => s.sbcs.toNat % 2 ^ 29 / 4096 * 4096 + 2 ^ 29 + 40 * 32 + 15
  | _ => (Tab.get zeroDm s.wrld.dm a).toNat

/-- The data0 and data1 of an abstract command of 32 or 64 bits. -/
def State.dmWord (s : State) : DWord := (Tab.get zeroDm s.wrld.dm 5 ++ Tab.get zeroDm s.wrld.dm 4 : BitVec 64)

/-- The Access Register command in `v`: AARSIZE of 32 or 64 bits, TRANSFER, WRITE, AARPOSTINCREMENT and POSTEXEC (R234). Quick Access
and Access Memory are not implemented. -/
def State.dmCommand (s : State) (v : Word) : State :=
  let h := s.hartsel
  let size := fieldOf v 22 20
  if s.cmdBlocked then s
  else if fieldOf v 31 24 ≠ 0 ∨ (v.getLsbD 17 ∧ ¬(size = 2 ∨ size = 3)) then s.cmdErr 2
  else
    let s := if v.getLsbD 17 then s.accessReg h (fieldOf v 15 0) (size = 3) (if v.getLsbD 16 then some s.dmWord else none) else s
    let s := if v.getLsbD 19 ∧ !s.cmdBlocked then
        { s with wrld := { s.wrld with dm := Tab.set zeroDm s.wrld.dm 0x17 (setFieldOf v 15 0 (fieldOf v 15 0 + 1)) } }
      else { s with wrld := { s.wrld with dm := Tab.set zeroDm s.wrld.dm 0x17 v } }
    if v.getLsbD 18 then s.runProgbuf h else s

/-- Effects of a debug module write beside storing it: halt and resume requests, and the Access Register command. -/
def State.dmWrite (s : State) (a : Nat) (v : Word) : State :=
  let stored := { s with wrld := { s.wrld with dm := Tab.set zeroDm s.wrld.dm a v } }
  match a with
  | 0x10 =>
    let h := stored.hartsel
    if v.getLsbD 31 then stored.requestHalt h
    else if v.getLsbD 30 ∧ stored.mayDebug h then stored.runHart h
    else stored
  | 0x11 => s
  | 0x12 => s
  | 0x38 =>
    let old := fieldOf s.sbcs 14 12
    { s with wrld := { s.wrld with
      dm := Tab.set zeroDm s.wrld.dm a (setFieldOf (v &&& 0x001FF000) 14 12 (old - (old &&& fieldOf v 14 12))) } }
  | 0x16 => s.cmdErr (fieldOf (Tab.get zeroDm s.wrld.dm 0x16) 10 8 &&& (7 - fieldOf v 10 8))
  | 0x17 => s.dmCommand v
  | _ => stored

end Sys2Proof.Machine
end

