-- ==== Sys2Proof/Machine/Proof.lean ====
section
/-! DEFINITION. Chapter 19: Proof slices, their queue, results and fences. -/

namespace Sys2Proof.Machine

def State.proofFenced (s : State) (p : Nat) : Bool := s.bit Reg.PROOF_STAT p

/-- PROOF_STAT's BUSY, CURRENT and QUEUED follow the slice and the queue. -/
def State.proofSync (s : State) : State :=
  let s := s.setb Reg.PROOF_STAT 30 s.proof.slice.isSome
  let s := s.setf Reg.PROOF_STAT 29 25 (s.proof.slice.getD 0)
  s.setf Reg.PROOF_STAT 24 21 (min 8 s.proof.queue.length)

/-! ## Results (R780, Table PRF-3) -/

/-- A request of partition `p` ends with a result. -/
def State.proofRecord (s : State) (p code : Nat) (byCmd : Bool) : State :=
  let s := (s.setf (Reg.PROOF_RESULT p) 31 28 code).wr64 (Reg.PROOF_TIME p) s.stime.ns
  let s := if byCmd then s.setb Reg.PROOF_CMD 31 false else s
  s.raise 464

/-! ## Requests (R775, R776) -/

/-- The request joins the queue, or is dropped because the queue is full. -/
def State.proofEnqueue (s : State) (p : Nat) (byCmd : Bool) : State :=
  if (if s.proof.slice.isSome then 8 else 9) ≤ s.proof.queue.length then s.proofRecord p 5 byCmd
  else State.proofSync { s with proof := { s.proof with queue := s.proof.queue ++ [(p, byCmd)] } }

/-- A request for a slice of partition `p`; one that PROOF_CMD has made in this cycle stands behind a stroke's (R776). -/
def State.proofRequest (s : State) (p : Nat) (byCmd : Bool) : State :=
  if !s.bit Reg.PROOF_CFG p then
    let s := s.setf (Reg.PROOF_RESULT p) 31 28 6
    if byCmd then s.setb Reg.PROOF_CMD 31 false else s
  else if byCmd then
    let s := s.proofEnqueue p true
    let c := s.cyc.of s.stime.cycle
    { s with cyc := { c with proofCmd := some p } }
  else match (s.cyc.of s.stime.cycle).proofCmd, s.proof.queue.getLast? with
    | some q, some (q', true) =>
      if q = q' then
        let t := State.proofEnqueue { s with proof := { s.proof with queue := s.proof.queue.dropLast } } p false
        t.proofEnqueue q true
      else s.proofEnqueue p false
    | _, _ => s.proofEnqueue p false

/-- PROOF_CMD_START (R775): a write of PROOF_CMD by the Scribe world, or through the debug module with the right PROOF or in
OPEN. While START is set the write is ignored (R11); a reserved PARTITION is ignored whole (R9). -/
def execProofCmdStart (p : Party) (dbg : Bool) (v : Word) (s : State) : Result :=
  let may := p == .scribe || (dbg && (s.life == 3 || s.right 4))
  let n := fieldOf v 4 0
  if !may || s.bit Reg.PROOF_CMD 31 || decide (20 ≤ n) then .next s
  else
    let s := s.setf Reg.PROOF_CMD 4 0 n
    .next (if v.getLsbD 31 then (s.setb Reg.PROOF_CMD 31 true).proofRequest n true else s)

/-! ## Withdrawal, return and fence (Table PRF-1) -/

/-- Operation `o` runs on an engine that satisfies `p` and has no result yet. -/
def Op.runsOn (o : Op) (p : Nat → Bool) : Bool := o.res.isNone && (match o.at_ with
  | .run e => p e
  | _ => false)

/-- The engines that lane `i` serves: nib lanes 0 to 3 alone or as a pair, hash lanes 4 and 5. -/
def laneEngine (i e : Nat) : Bool := if i < 4 then e == 0x10 + i || e == 0x18 + i / 2 else e == 0x20 + (i - 4)

def State.suspendOps (s : State) (p : Nat → Bool) (v : Bool) : State :=
  { s with ops := s.ops.map fun o => if o.runsOn p then { o with suspended := v } else o }

/-- Lane `i` as it stands when no slice has it: idle, or DISABLED by ENGINES. -/
def State.laneRest (s : State) (i : Nat) : Nat := if s.bit Reg.NIB_CFG i then 0 else 5

/-- Withdraw lane `i` (R439). -/
def State.laneOut (s : State) (i : Nat) : State :=
  if s.laneState i = 5 then s
  else
    let busy := s.ops.any (·.runsOn (laneEngine i))
    let pair := decide (i < 4) && s.ops.any (·.runsOn (· == 0x18 + i / 2))
    let s := if busy then s.incSat Reg.NIB_SUSPEND_COUNT 31 0 else s
    let s := (s.suspendOps (laneEngine i) true).setLane i (if busy then 2 else 3)
    if pair then s.setLane (i ^^^ 1) 2 else s

/-- Lane `i`, and its partner where a pair was suspended, return to service (R440). -/
def State.laneBack (s : State) (i : Nat) : State :=
  let s := (s.suspendOps (laneEngine i) false).setLane i (s.laneRest i)
  if i < 4 ∧ s.laneState (i ^^^ 1) = 2 then s.setLane (i ^^^ 1) (s.laneRest (i ^^^ 1)) else s

/-- The operations running on engines that satisfy `p` end with ENGINE_FENCED (R441, R485). -/
def State.endEngines (s : State) (p : Nat → Bool) : State := s.endOps (·.runsOn p) St.engineFenced

/-- Fence partition `p` (R778, R441, R485, R486, R703). -/
def State.proofFence (s : State) (p : Nat) : State :=
  let s := s.setb Reg.PROOF_STAT p true
  if p < 6 then (((s.endEngines (laneEngine p)).laneBack p).setLane p 4).raise (320 + p)
  else if p = 6 then ((s.endEngines (· == 0x30)).setf Reg.FLO_STAT 3 0 4).raise 328
  else if p < 15 then
    let c := p - 7
    let lent := s.inScribe c
    let s := ((s.setClaimed c false).setb coreStat c false).setb coreStat (16 + c) false
    let s := { s with wrld := { s.wrld with
      switches := s.wrld.switches.filter (·.core != c), recalls := s.wrld.recalls.filter (· != c)
      saveS := s.wrld.saveS.filter (·.1 != c), saveD := s.wrld.saveD.filter (·.1 != c) } }
    let s := if lent && s.noneInScribe then s.rulSwap else s
    (s.runHart (c + 1)).raise (472 + c)
  else if p < 17 then (s.setb Reg.QUIL_STAT (16 + (p - 15)) true).raise (296 + (p - 15))
  else if p < 19 then
    let s := { s with proof := { s.proof with slice := none } }
    (s.relock (p - 17) 0).raise (470 + (p - 17))
  else (s.setb Reg.ENT_STAT 20 true).raise 337

/-- Step 1 and 2 of Table PRF-2. -/
def State.proofWithdraw (s : State) (p : Nat) : State :=
  if p < 6 then s.laneOut p
  else if p = 6 then
    let busy := s.ops.any (·.runsOn (· == 0x30))
    (s.suspendOps (· == 0x30) true).setf Reg.FLO_STAT 3 0 (if busy then 2 else 3)
  else if p < 15 then
    if s.coreReleased (p - 7) then
      State.emit { s with proof := { s.proof with parking := true, parkAt := s.stime.cycle } } (.interrupt (p - 6) 25)
    else s
  else if p < 17 then s
  else if p < 19 then
    let q := p - 17
    if s.linkUp q then
      let s := s.linkDown q
      s.setPort q { s.portSt q with relock := 2 }
    else s
  else s

/-- Step 6 of Table PRF-2 for a partition that passed. -/
def State.proofReturn (s : State) (p : Nat) : State :=
  if p < 6 then s.laneBack p
  else if p = 6 then (s.suspendOps (· == 0x30) false).setf Reg.FLO_STAT 3 0 0
  else if p < 15 then s
  else if p < 17 then (s.rxDrain 0).rxDrain 1
  else if p < 19 then
    let q := p - 17
    match (s.portSt q).relockWait with
    | some m => (s.setPort q { s.portSt q with relockWait := none }).relock q m
    | none => s
  else s

/-! ## The slice (R770, R771, R778, R779) -/

/-- PROOF_SLICE_START (R770, R773, R776, R785): the next queued request starts, or ends because its partition is fenced; a
lent core in the Scribe world is waited for. -/
def execProofSliceStart (s : State) : Result :=
  match s.proof.slice, s.proof.queue with
  | none, (p, c) :: r =>
    let t := State.proofSync { s with proof := { s.proof with queue := r } }
    if s.proofFenced p then .next (t.proofRecord p 4 c)
    else if !s.pwr.mainUp || decide (1 < s.fld Reg.PWR_STAT 2 0) then .next s
    else if decide (7 ≤ p ∧ p < 15) && (s.inScribe (p - 7) || s.switching (p - 7)) then .next s
    else .next (State.proofWithdraw (State.proofSync { t with proof := { t.proof with slice := some p, byCmd := c } }) p)
  | _, _ => .next s

/-- The golden signature of partition `p` in the PROOF section in force. -/
def State.golden (s : State) (p : Nat) : Nat :=
  let b := s.section_ 0x0A
  (b.getD (2 + 4 * p) 0).toNat + 2 ^ 32 * (b.getD (3 + 4 * p) 0).toNat + 2 ^ 64 * (b.getD (4 + 4 * p) 0).toNat +
    2 ^ 96 * (b.getD (5 + 4 * p) 0).toNat

def State.setMisr (s : State) (p m : Nat) : State :=
  (List.range 4).foldl (fun s i => s.wr (Reg.PROOF_MISR p i) (BitVec.ofNat 32 (m / 2 ^ (32 * i)))) s

/-- HALT_ON_FAIL: every partition from 0 to 19 is fenced (R779). -/
def State.proofHalt (s : State) : State :=
  let s := s.setb Reg.PROOF_STAT 31 true
  ((List.range 20).foldl (fun s p => if s.proofFenced p then s else s.proofFence p) s).raise 468

/-- The slice is over: claims of its core that waited start their switch. -/
def State.proofOver (s : State) : State :=
  let due := s.proof.claimDue
  let s := State.proofSync { s with proof := { s.proof with slice := none, byCmd := false, parking := false, claimDue := [] } }
  due.foldl State.startEnter s

/-- PROOF_SLICE_END (R768, R770, R771, R778 to R780): steps 3 to 6 of Table PRF-2 have ended with this MISR, or the zero check
found a bit set. -/
def execProofSliceEnd (misr : Nat) (clearFail : Bool) (s : State) : Result :=
  match s.proof.slice with
  | none => .next s
  | some p =>
    if s.proof.parking then .next s
    else
      let c := s.proof.byCmd
      let m := misr % 2 ^ 128
      let s := if clearFail then s else (s.setMisr p m).incSat (Reg.PROOF_RESULT p) 15 0
      if !clearFail && m == s.golden p then
        let s := (s.countProof p false).proofOver
        .next ((s.proofReturn p).proofRecord p 1 c)
      else
        let s := ((s.countProof p true).incSat (Reg.PROOF_RESULT p) 23 16).proofFence p
        let s := (s.proofOver.proofRecord p (if clearFail then 3 else 2) c).raise 465
        .next (if s.bit Reg.PROOF_CFG 20 && !s.bit Reg.PROOF_STAT 31 then s.proofHalt else s)

/-- The core of the slice parks. -/
def State.park (s : State) (core : Nat) : State :=
  if s.proof.slice = some (7 + core) then { s with proof := { s.proof with parking := false } } else s

/-- PROOF_PARK (R773, Table PRF-4): Draft firmware on a core writes PROOF_PARK. -/
def execProofPark (core : Nat) (s : State) : Result := .next (s.park core)

/-- PROOF_PARK_GRACE in CLK_FAB cycles; 0 is treated as 1 µs (Table PRF-6). -/
def State.parkGrace (s : State) : Nat := 800 * max 1 (s.fld Reg.PROOF_PARK_GRACE 9 0)

/-- PROOF_PARK_GRACE_EXPIRY (R773, R777): PROOF_PARK_GRACE has passed since the park was asked for. -/
def execProofParkGraceExpiry (core : Nat) (s : State) : Result :=
  if s.proof.parkAt + s.parkGrace ≤ s.stime.cycle then .next (s.park core) else .next s

end Sys2Proof.Machine
end

