-- ==== Sys2Proof/Machine/Ductus.lean ====
section
/-! DEFINITION. Chapter 03: what the sections of a stream do when a boot stream is applied and when live sections are swapped in,
and the live load. -/

namespace Sys2Proof.Machine

/-! ## Section effects (Tables DUC-3, DUC-4) -/

/-- CLOCKS but XTAL_FITTED, which goes to the Blotter configuration, and PCIE_SEPARATE_REF, which CONFIG_REQUEST reads. -/
def State.applyClocks (s : State) (b : List Word) : State :=
  ((((s.wr Reg.TIME_PPS_WIDTH (b.getD 1 0)).wr Reg.TIME_LUMRO_CTL (b.getD 2 0)).wr Reg.TIME_LUMRO_DELAY (b.getD 3 0)).wr
    Reg.TIME_PTP_CORR_N0 (b.getD 4 0)).wr Reg.TIME_PTP_CORR_N1 (b.getD 5 0)

def State.applyWorlds (s : State) (b : List Word) : State :=
  let w := setFieldOf (b.getD 0 0) 31 24 (bw b 2 7 0)
  s.wr Reg.WRLD_CFG w

/-- The records of unit `u`: set, index, entry image. -/
def rulingRecords (b : List Word) (u : Nat) : List (Nat × Nat × List Word) :=
  (((List.range ((b.length - 21) / 10)).map fun i => (b.drop (21 + 10 * i)).take 10).filter fun r => bw r 0 2 0 == u).map
    fun r => (bw r 0 3 3, bw r 0 9 4, r.drop 1)

/-- RULING at boot (R306). -/
def State.applyRuling (s : State) (b : List Word) : State :=
  (List.range 7).foldl (fun s u =>
    s.ruleLoad u (bw b (3 * u) 4 4) (bw b (3 * u) 3 3 == 1) ((b.getD (3 * u + 1) 0).toNat + 2 ^ 32 * (b.getD (3 * u + 2) 0).toNat)
      (rulingRecords b u)) s

/-- RULING at a swap (R120, R121, R304, R312). -/
def State.swapRuling (s : State) (b : List Word) : State :=
  ((List.range 7).foldl (fun s u => s.rulTrigger u (.copy (rulingRecords b u))) s).keepOld s

/-- ENGINES; PRED_RESIST is read where RANDOM needs it. -/
def State.applyEngines (s : State) (b : List Word) : State :=
  let s := s.wr Reg.NIB_CFG (BitVec.ofNat 32 (bw b 0 3 0 + 16 * bw b 0 5 4 + 256 * bw b 0 9 8))
  let s := s.wr Reg.ENT_RESEED_INTERVAL (BitVec.ofNat 32 (bw b 1 20 0))
  (List.range 6).foldl (fun s i => if s.laneState i = 4 then s else s.setLane i (s.laneRest i)) s

/-- PORTS, at boot and at a swap (R128). -/
def State.applyPorts (s : State) (b : List Word) : State :=
  (List.range 2).foldl (fun s p =>
    let i := 4 * p
    let s := s.setf (Reg.PORT_CTL p) 15 4 (bw b i 15 4)
    let s := s.setf (Reg.PORT_MAX_FRAME p) 13 0 (bw b (i + 1) 13 0)
    let s := (s.setf (Reg.PORT_BSP_CFG p) 15 0 (bw b (i + 2) 15 0)).setf (Reg.PORT_BSP_CFG p) 19 19 (bw b (i + 2) 16 16)
    (s.portMode p (bw b i 3 0) false).pauseIgnored p) s

/-- POWER: the device chooses its power state again at once (R128). -/
def State.applyPower (s : State) (b : List Word) : State :=
  ((s.setf Reg.PWR_CFG 28 24 (bw b 0 4 0)).setf Reg.PWR_CFG 18 16 (bw b 3 2 0)).powerReview

/-- PROOF, and BOOT_POLICY in the Blotter domain (R192). -/
def State.applyProof (s : State) (b : Option (List Word)) : State :=
  let b := b.getD []
  let s := s.wr Reg.PROOF_CFG (BitVec.ofNat 32 (bw b 0 19 0 + 2 ^ 20 * bw b 1 2 0))
  s.wr Reg.BOOT_POLICY (BitVec.ofNat 32 (2 ^ 31 + bw b 1 2 1))

/-- EVENTS of a boot stream: the routes whole, LOCK with them. -/
def State.applyEvents (s : State) (b : List Word) : State :=
  (List.range 512).foldl (fun s n => s.setRoute n (b.getD n 0)) s

/-- EVENTS at a swap (R129, R918): routes and enables alone; a locked route stays as it is, and no route is locked. -/
def State.swapEvents (s : State) (b : List Word) : State :=
  (List.range 512).foldl (fun s n =>
    if s.bit (Reg.EVT_ROUTE n) 30 then s else s.setRoute n (setFieldOf (b.getD n 0) 30 30 0)) s

/-- CONSOLE for port `n`. -/
def State.applyConsole (s : State) (n : Nat) (b : List Word) : State :=
  let s := (s.wr (conBase n + conOff .cfg) (b.getD (2 * n) 0)).wr (conBase n + conOff .baud) (b.getD (2 * n + 1) 0)
  s.conKick n

/-- SMBUS: the base address moves by the sampled ADDR_SEL. -/
def State.applySmbus (s : State) (b : List Word) : State :=
  s.wr Reg.SMB_CFG (BitVec.ofNat 32 (bw b 1 3 0 * 2 ^ 24 + bw b 2 15 15 * 2 ^ 23 + bw b 2 14 8 * 2 ^ 16 + bw b 2 6 0 * 2 ^ 8 +
    (bw b 0 6 0 + 8 * s.fld Reg.BOOT_STAT 14 13) % 128))

/-- Write a STROKES entry as its image gives it (R96). -/
def State.applyStroke (s : State) (e : List Word) : State :=
  let n := bw e 0 9 0
  let w0 := e.getD 1 0
  let s := { s with
    duct := { s.duct with deferred := s.duct.deferred.filter (· != n) }
    strokes := { s.strokes with waitingPort := s.strokes.waitingPort.filter (· != n) } }
  let s := s.wr (Reg.STRK_W0 n) (setFieldOf w0 31 31 0)
  let s := s.wr (Reg.STRK_ARG n) (e.getD 2 0)
  let s := (s.wr (Reg.STRK_TIME n) (e.getD 3 0)).wr (Reg.STRK_TIME n + 4) (e.getD 4 0)
  let s := (s.wr (Reg.STRK_PERIOD n) (e.getD 5 0)).wr (Reg.STRK_PERIOD n + 4) (e.getD 6 0)
  let s := (s.wr (Reg.STRK_COUNT n) 0).wr (Reg.STRK_STATUS n) 0
  if !w0.getLsbD 31 then s
  else if bw e 0 31 31 = 1 ∧ !s.timeValid then { s with duct := { s.duct with deferred := insertNat n s.duct.deferred } }
  else s.arm n

/-- STROKES at a swap (R121, R130, R131): the new content of an entry that has launched in this cycle, or is due, applies from
the next cycle after its launch; that of any other entry at once. -/
def State.swapStrokes (s : State) (b : List Word) : State :=
  (strokeEntries b).foldl (fun s e =>
    if s.strokes.due.any (fun d => d.idx == bw e 0 9 0) || s.strokes.launched.contains (bw e 0 9 0) then
      { s with duct := { s.duct with replace := s.duct.replace.filter (fun r => bw r 0 9 0 != bw e 0 9 0) ++ [e] } }
    else s.applyStroke e) s

/-- A new cycle begins: the contents that waited for it apply, but for entries still to launch (R130). -/
def State.applyReplaced (s : State) : State :=
  let waits := fun (e : List Word) => s.strokes.due.any fun d => d.idx == bw e 0 9 0
  let l := s.duct.replace
  (l.filter fun e => !waits e).foldl State.applyStroke { s with duct := { s.duct with replace := l.filter waits } }

/-! ## A boot stream is applied (R109, R112, R139, R192, R711) -/

/-- The registers that describe the boot stream in force; `src` is 0 bank A, 1 bank B, 2 recovery. -/
def State.streamRegs (s : State) (t : Stream) (src : Nat) : State :=
  let id := (t.body 0x01).getD []
  let s := (s.wr Reg.DUCT_CONFIG_ID (id.getD 0 0)).wr Reg.DUCT_CONFIG_REV (id.getD 1 0)
  let s := (s.wr Reg.DUCT_VERSION (BitVec.ofNat 32 t.version)).wr64 Reg.DUCT_STREAM_ID (BitVec.ofNat 64 t.id)
  let d := sha384 t.signedBytes
  let s := (List.range 12).foldl (fun s i => s.wr (Reg.DUCT_DIGEST i) (BitVec.ofNat 32 (beAt d (4 * i) 4))) s
  let s := s.setf Reg.DUCT_STAT 1 0 src
  s.setb Reg.DUCT_STAT 5 (!t.signed)

/-- Step 6: every section takes effect but STROKES, which comes last; CON1 and the epoch length wait for step 8. -/
def State.ductApply (s : State) (t : Stream) (src : Nat) : State :=
  let b := fun c => (t.body c).getD []
  let s := s.streamRegs t src
  let s := { s with duct := { inForce := (t.secs.filter fun (e : Nat × Nat × List Word) => decide (e.1 < 0xF0)).map fun (e : Nat × Nat × List Word) => (e.1, e.2.2) } }
  let s := (s.applyClocks (b 2)).applyWorlds (b 3)
  let s := (s.applyRuling (b 4)).applyEngines (b 6)
  let s := match t.body 7 with
    | some q => (s.loadQuil 0 q).setf Reg.QUIL_STAT 0 0 0
    | none => s
  let s := ((s.applyPorts (b 8)).applyPower (b 9)).applyProof (t.body 0x0A)
  let s := s.applyEvents (b 0x0C)
  let s := match t.body 0x0D with
    | some c => s.applyConsole 0 c
    | none => s
  let s := match t.body 0x0E with
    | some c => s.applySmbus c
    | none => s
  s.blotConfigure (t.body 0x10) (bw (b 2) 0 0 0 == 1)

/-- The strokes of the stream in force are armed (R112). -/
def State.ductStrokes (s : State) : State := (strokeEntries (s.section_ 0x0F)).foldl State.applyStroke s

/-! ## Live load and swap (R114 to R126) -/

/-- Codes of the live sections. -/
def liveCodes : List Nat := [4, 5, 7, 8, 9, 12, 15]

/-- A live load is rejected (R116). -/
def State.liveReject (s : State) (code : Nat) : State := (s.setf Reg.DUCT_LIVE_STAT 31 24 code).raise 506

/-- A live load ends with no effect yet on the shadow. -/
def State.loadOver (s : State) : State :=
  (State.setb { s with duct := { s.duct with loading := none } } Reg.DUCT_LIVE_STAT 23 false).setb Reg.DUCT_CMD 31 false

/-- Start a live load of `len` bytes at `addr`; step 0 of Table DUC-8 refuses it at once. -/
def State.liveLoad (s : State) (addr len : Nat) : State :=
  if s.duct.loading.isSome ∨ s.fld Reg.DUCT_LIVE_STAT 15 0 ≠ 0 then s.liveReject Rej.shadowBusy
  else (State.setb { s with duct := { s.duct with loading := some (addr, len) } } Reg.DUCT_LIVE_STAT 23 true).setb Reg.DUCT_CMD 31 true

/-- The verdict on the stream that a load names, at its end; a stream that can be read from Scribe or shared SRAM passes step 1. -/
def State.liveVerdict (s : State) (addr len : Nat) : State × Except Nat Stream :=
  let r := s.scribeRead addr len
  (r.1, r.1.verifyStream (wordsOfBytes (r.2.getD [])) true r.2.isSome)

/-- The sections of an accepted live stream enter the shadow banks (R115, R118). UNSIGNED in DUCT_STAT, which Table DUC-10 gives to
the boot stream, stays as it is (DESIGN CHOICE, log entry 56). -/
def State.liveAccept (s : State) (t : Stream) : State :=
  let secs : List (Nat × List Word) := (t.secs.filter fun e => liveCodes.contains e.1).map fun e => (e.1, e.2.2)
  let s := { s with duct := { s.duct with shadow := secs, liveVersion := t.version } }
  let s := match t.body 7 with
    | some q => s.loadQuil (1 - s.quilActive) q
    | none => s
  (secs.foldl (fun s e => s.setb Reg.DUCT_LIVE_STAT e.1 true) s).raise 506

/-- One section comes into force at a swap (R121). -/
def State.swapSection (s : State) (code : Nat) : State :=
  let b := ((s.duct.shadow.find? fun e => e.1 == code).map (·.2)).getD []
  if code = 7 then (s.quilSwap (1 - s.quilActive)).1
  else
    let s := s.shadowTake code
    match code with
    | 4 => s.swapRuling b
    | 8 => s.applyPorts b
    | 9 => s.applyPower b
    | 12 => s.swapEvents b
    | 15 => s.swapStrokes b
    | _ => s

/-- Swap in the pending sections that `mask` selects (R119 to R123). -/
def State.ductSwap (s : State) (mask : Nat) : State :=
  let sel := liveCodes.filter fun c => mask.testBit c && s.bit Reg.DUCT_LIVE_STAT c
  if sel.isEmpty then s.setb Reg.DUCT_LIVE_STAT 22 true
  else
    let v := s.duct.liveVersion
    let s := sel.foldl State.swapSection s
    let s := (s.wr64 Reg.DUCT_LAST_SWAP s.stime.ns).incSat Reg.DUCT_SWAP_COUNT 31 0
    (s.wr Reg.DUCT_LIVE_VERSION (BitVec.ofNat 32 v)).raise 507

/-- Drop the pending shadow images (R126). -/
def State.ductDiscard (s : State) : State :=
  State.setf { s with duct := { s.duct with shadow := [] } } Reg.DUCT_LIVE_STAT 15 0 0

/-- A write of DUCT_CMD that may act: at most one of LOAD, DISCARD and SWAP, and a mask within 0x93B0 (R9, R114). -/
def ductCmdOk (v : Word) : Bool :=
  decide (popcount 3 (fieldOf v 31 29) ≤ 1) && fieldOf v 15 0 &&& 0x6C4F == 0

/-- DUCT_CMD_LOAD (R114, R11): a write of DUCT_CMD with LOAD. While a load runs it starts no second one. -/
def execDuctCmdLoad (v : Word) (s : State) : Result :=
  if ductCmdOk v && v.getLsbD 31 && !s.bit Reg.DUCT_CMD 31 then
    let s := s.setf Reg.DUCT_CMD 15 0 (fieldOf v 15 0)
    .next (s.liveLoad ((s.rd64 Reg.DUCT_LIVE_ADDR).toNat % 2 ^ 40) (s.rdn Reg.DUCT_LIVE_LEN))
  else .next s

/-- LIVE_LOAD_COMPLETE (R115, R116). -/
def execLiveLoadComplete (s : State) : Result :=
  match s.duct.loading with
  | none => .next s
  | some (a, n) => .next (match s.liveVerdict a n with
    | (s, .ok t) => s.loadOver.liveAccept t
    | (s, .error c) => s.loadOver.liveReject c)

/-- DUCT_CMD_DISCARD (R126): a write of DUCT_CMD with DISCARD. -/
def execDuctCmdDiscard (v : Word) (s : State) : Result :=
  if ductCmdOk v && v.getLsbD 30 then .next (s.setf Reg.DUCT_CMD 15 0 (fieldOf v 15 0)).ductDiscard else .next s

/-- DUCT_CMD_SWAP (R119): a write of DUCT_CMD with SWAP. -/
def execDuctCmdSwap (v : Word) (s : State) : Result :=
  if ductCmdOk v && v.getLsbD 29 then
    .next ((s.setf Reg.DUCT_CMD 15 0 (fieldOf v 15 0)).ductSwap (fieldOf v 15 0))
  else .next s

end Sys2Proof.Machine
end

