-- ==== Sys2Proof/Machine/Power.lean ====
section
/-! DEFINITION. Chapter 23: the choice and entry of power states, hints, wake and exit, and the link in low-power states.
STANDBY itself stands in Boot.lean. -/

namespace Sys2Proof.Machine

/-! ## Conditions (Table PWR-2) -/

/-- No engine holds an operation. -/
def State.enginesIdle (s : State) : Bool := !s.ops.any fun o => match o.at_ with
  | .run _ => true
  | _ => false

/-- Nothing waits for admission, is being fetched or is in BSP reassembly. -/
def State.workIdle (s : State) : Bool :=
  s.enginesIdle && s.candidates.isEmpty && s.fetchRing.isNone && s.net.sessions.all fun x => x.reasm.isEmpty

/-- No flash command or wipe runs and no port waits for lock; `env` is what the device alone sees: cores in WFI, no PCIe
request outstanding, no scrub pass mid-word. -/
def State.deepIdle (s : State) (env : Bool) : Bool :=
  s.workIdle && env && s.mem.cmd.isNone && s.mem.wipe.isNone && s.net.p0.relock != 1 && s.net.p1.relock != 1

/-- A Proof slice runs or is queued (R886). -/
def State.proofBusy (s : State) : Bool := s.proof.slice.isSome || !s.proof.queue.isEmpty

def State.idleFor (s : State) (st : Nat) (env : Bool) : Bool := match st with
  | 1 => s.enginesIdle
  | 2 => s.workIdle && !s.proofBusy
  | 3 => s.deepIdle env && !s.proofBusy
  | _ => false

/-- State `st` passes R889. -/
def State.allowed (s : State) (st : Nat) (env : Bool) : Bool :=
  s.bit Reg.PWR_CFG (24 + st) && decide (st ≤ s.hintLimit) && s.idleFor st env &&
  (match s.bMin with
   | some b => decide (exitNs st ≤ b)
   | none => true) &&
  (s.deadline == 2 ^ 64 - 1 || decide (s.ns + entryNs st + exitNs st + 2000 ≤ s.deadline))

/-- The state R889 chooses. -/
def State.powerChoice (s : State) (env : Bool) : Nat := ([3, 2, 1].find? fun st => s.allowed st env).getD 0

/-! ## Entry, wake and exit -/

/-- The conditions of state `st` have held without a break for IDLE_US microseconds, 0 counting as 1 (R885). -/
def State.dwelled (s : State) (st : Nat) : Bool :=
  decide (s.pwr.busyAt.getD (st - 1) 0 + 800 * max 1 (s.fld Reg.PWR_CFG 15 0) ≤ s.stime.cycle)

/-- Note the states whose conditions do not hold in this cycle (R885). -/
def State.dwellNote (s : State) : State :=
  let l := (List.range 3).map fun i => if s.idleFor (i + 1) true then s.pwr.busyAt.getD i 0 else s.stime.cycle
  { s with pwr := { s.pwr with busyAt := l } }

/-- POWER_STATE_ENTRY (R885, R889): the chosen state is entered once its conditions have held for IDLE_US; what the device alone sees
the operands say has held as long. -/
def execPowerStateEntry (wfi pcieIdle scrubIdle : Bool) (s : State) : Result :=
  let st := s.powerChoice (wfi && pcieIdle && scrubIdle)
  if s.pwr.mainUp && !s.pwr.exiting && decide (s.fld Reg.PWR_STAT 2 0 < st) && s.dwelled st then
    let s := (s.wdSync.setf Reg.PWR_STAT 2 0 st).ltrUpdate
    let s := if st = 3 then s.setb Reg.TIME_STAT 3 true else s
    .next { s with pwr := { s.pwr with since := s.stime.cycle } }
  else .next s

/-- PRE_WAKE (R890): the deadline is an exit latency and 2 µs away. -/
def execPreWake (s : State) : Result :=
  let st := s.fld Reg.PWR_STAT 2 0
  if 1 ≤ st ∧ st ≤ 3 ∧ s.deadline ≤ s.ns + exitNs st + 2000 then
    let s := if s.strkNext = s.deadline then s.wakeBy 6 else s
    .next (if s.gateNext = s.deadline then s.wakeBy 7 else s)
  else .next s

/-- The PWR_RES register of a state. -/
def resReg (st : Nat) : Nat := Reg.PWR_RES (st - 1)

/-- A PM_PME message, with PME_Status set (R899). -/
def State.sendPme (s : State) : State :=
  let v := s.cfg Cfg.pmcsr ||| 0x8000
  State.emit { s with host := { s.host with pmeHeld := false, cfg := Tab.set cfgReset s.host.cfg Cfg.pmcsr v } } (.pcie "PM_PME")

/-- The device wakes a function in D3hot with PME_En set. -/
def State.pmeWake (s : State) : State :=
  if s.host.d3 && (s.cfg Cfg.pmcsr).getLsbD 8 && s.rd Reg.PWR_WAKE_LAST != 1 then
    if s.host.linkL0 then s.sendPme else { s with host := { s.host with pmeHeld := true } }
  else s

/-! ## Hints (R893, R894) -/

/-- A hint code from a register or a stroke; the last one stands. -/
def State.hintSet (s : State) (code : Nat) : State :=
  ((s.setf Reg.PWR_HINT 2 0 code).setb Reg.PWR_STAT 16 (code == 4)).powerReview

/-- A POWER_HINT stroke comes before a PWR_HINT write of its cycle, and the write stands (Table PWR-6). -/
def State.hintStroke (s : State) (code : Nat) : State :=
  match (s.cyc.of s.stime.cycle).hint with
  | some c => (s.hintSet code).hintSet c
  | none => s.hintSet code

/-- PWR_HINT (R893, R894, R9): a write by the Scribe or Draft world. -/
def execPwrHint (p : Party) (v : Word) (s : State) : Result :=
  let c := fieldOf v 2 0
  let s := if (p == .scribe && decide (c ≤ 4)) || (p == .draft && decide (c ≤ 3)) then
      let j := s.cyc.of s.stime.cycle
      { s with cyc := { j with hint := some c } }
    else s
  match p with
  | .scribe => if c ≤ 4 then .next (s.hintSet c) else .next s
  | .draft => if c ≤ 3 then .next (s.hintSet c) else .next ((s.setb Reg.PWR_STAT 17 true).raise 505)
  | _ => .next s

/-! ## The link (R898, R899) -/

/-- The substate of L1 that the link goes to: the deepest that the host's L1 PM Substates control and ASPM[2:1] both allow (R898). -/
def State.l1Sub (s : State) : LinkSub :=
  if (s.cfg Cfg.l1ss).getLsbD 2 && s.bit Reg.PWR_CFG 18 then .l12
  else if (s.cfg Cfg.l1ss).getLsbD 3 && s.bit Reg.PWR_CFG 17 then .l11 else .none

/-- ASPM_L1_ENTRY (R898): the link has been idle for 8 µs. CLKREQ_N is released in a substate. -/
def execAspmL1Entry (s : State) : Result :=
  let st := s.fld Reg.PWR_STAT 2 0
  if s.host.linkL0 && (st == 2 || st == 3) && (s.cfg Cfg.linkCtl).getLsbD 1 && s.bit Reg.PWR_CFG 16 then
    let s := State.emit { s with host := { s.host with linkL0 := false, linkSub := s.l1Sub } } (.pcie "PM_Active_State_Request_L1")
    .next (if s.host.linkSub = .none then s else s.driveClkreq false)
  else .next s

/-- The messages held for the link go, in order. -/
def State.msixRelease (s : State) : State :=
  let l := s.host.msixHeld
  l.foldl State.postMsix { s with host := { s.host with msixHeld := [] } }

end Sys2Proof.Machine
end

