-- ==== Sys2Proof/Machine/Strokes.lean ====
section
/-! DEFINITION. Chapter 02, strokes: what each action does, launch, and writes of the stroke table. -/

namespace Sys2Proof.Machine

/-- The action of stroke `n` (Table TIM-5); false where the device refuses it (R73, R699). A PROOF_SLICE that finds the slice
queue full is dropped (R776) and does not count as refused (DESIGN CHOICE, log entry 55). -/
def State.strokeAction (s : State) (n : Nat) : State × Bool :=
  let w0 := s.rd (Reg.STRK_W0 n)
  let target := fieldOf w0 15 0
  let arg := s.rdn (Reg.STRK_ARG n)
  match fieldOf w0 23 16 with
  | 1 => s.genSwitch target arg
  | 2 => (s.rulTrigger target (.stroke n arg), true)
  | 3 =>
    let r := s.quilStroke arg
    (r.1, r.2 == 0)
  | 4 => (s.proofRequest target false, true)
  | 5 => (s.ppsEmit, true)
  | 6 => (s.raise (416 + target), true)
  | 7 => (s.portStroke target arg, true)
  | 8 => (s.hintStroke arg, true)
  | 9 => (s.rateRefill target arg, true)
  | 0x0A => (s.ductSwap arg, true)
  | _ => (s, true)

/-- The first instant `t + k * per`, k at least 1, above `now` (R68). -/
def firstAbove (t per now : Nat) : Nat := if t + per ≤ now then t + ((now - t) / per + 1) * per else t + per

/-- What a launch leaves in the entry (R66, R68, R69, R989); a replacement that waited for it applies from the next cycle (R130,
R131). -/
def State.strokeDone (s : State) (n : Nat) (late stepped : Bool) : State :=
  let s := s.incSat (Reg.STRK_COUNT n) 31 0
  let s := ((s.setb (Reg.STRK_STATUS n) 31 true).setb (Reg.STRK_STATUS n) 28 false).setb (Reg.STRK_STATUS n) 30 late
  let s := s.setb (Reg.STRK_STATUS n) 29 stepped
  let per := s.strokePeriod n
  let s := { s with strokes := { s.strokes with launched := insertNat n s.strokes.launched } }
  if per = 0 then s.setb (Reg.STRK_W0 n) 31 false
  else s.wr64 (Reg.STRK_TIME n) (BitVec.ofNat 64
    (if late || stepped then firstAbove (s.strokeTime n) per s.ns else s.strokeTime n + per))

/-- Run stroke `n`: its action, then its entry. Table TIM-10 names a reason for a refused launch in NOT_RESIDENT alone, so every
refused launch records 5, a QUIL_SWAP's too (DESIGN CHOICE, log entry 55). -/
def State.strokeRun (s : State) (n : Nat) (late stepped : Bool) : State :=
  let r := s.strokeAction n
  let s := if r.2 then r.1 else r.1.strokeRefuse n 5
  s.strokeDone n late stepped

/-- The stroke's target port waits for synthesiser lock (R74); a relock that a MODE write of this cycle starts comes after the stroke
(R662). -/
def State.portWaits (s : State) (n : Nat) : Bool :=
  let w0 := s.rd (Reg.STRK_W0 n)
  let p := fieldOf w0 15 0
  fieldOf w0 23 16 == 7 && (match (s.cyc.of s.stime.cycle).modes.find? (·.1 == p) with
    | some w => w.2.2
    | none => (s.portSt p).relock == 1)

/-- Take stroke `n` off the queue. -/
def State.unqueue (s : State) (n : Nat) : State :=
  { s with strokes := { s.strokes with due := s.strokes.due.filter fun e => e.idx != n } }

/-- Launch a stroke of the queue. Its entry counts as due until its action is done. A refused launch records reason 5 whatever
its action (log entry 55). -/
def State.launchOne (s : State) (d : DueStroke) : State :=
  if s.portWaits d.idx then
    let s := s.unqueue d.idx
    { s with strokes := { s.strokes with waitingPort := s.strokes.waitingPort ++ [d.idx] } }
  else
    let r := s.strokeAction d.idx
    let s := r.1.unqueue d.idx
    (if r.2 then s else s.strokeRefuse d.idx 5).strokeDone d.idx d.late d.stepped

/-- Count a stroke applied in this cycle (R72). -/
def State.strokeApplied (s : State) : State := { s with strokes := { s.strokes with applied := s.strokes.applied + 1 } }

/-- The due strokes that a DUCT_SWAP stroke's swap would replace and that launch in this cycle: they go first (R130). -/
def State.replacedFirst (s : State) (d : DueStroke) : List DueStroke :=
  if fieldOf (s.rd (Reg.STRK_W0 d.idx)) 23 16 = 0x0A ∧ s.bit (Reg.STRK_ARG d.idx) 15 ∧ s.bit Reg.DUCT_LIVE_STAT 15 then
    let named := (strokeEntries (((s.duct.shadow.find? fun e => e.1 == 15).map (·.2)).getD [])).map fun e => bw e 0 9 0
    (s.strokes.due.take (16 - s.strokes.applied)).filter fun e => e.idx != d.idx && named.contains e.idx
  else []

/-- Launch the stroke at the head of the queue, after the strokes that R130 puts before it. -/
def State.launchHead (s : State) (d : DueStroke) : State :=
  ((s.replacedFirst d).foldl (fun s e => (s.launchOne e).strokeApplied) s).launchOne d

/-- STROKE_LAUNCH (R65, R72, R890): the next stroke that has fallen due takes effect; at most 16 a cycle. In DEEP_NAP it waits
for the main domain and is late. -/
def execStrokeLaunch (s : State) : Result :=
  match s.strokes.due with
  | [] => .next s
  | d :: _ =>
    if s.fld Reg.PWR_STAT 2 0 = 3 then
      .next (State.wakeBy { s with strokes := { s.strokes with due := s.strokes.due.map fun e => { e with late := true } } } 6)
    else if 16 ≤ s.strokes.applied then .next s
    else
      .next ((s.wakeBy 6).launchHead d).strokeApplied

/-- Engine `i` of BUSY holds an operation that is not suspended (Table COL-4). -/
def State.busyNow (s : State) (i : Nat) : Bool :=
  s.ops.any fun o => o.runsOn (if i < 6 then laneEngine i else (· == 0x30)) && !o.suspended

/-- BUSY advances by `k` CLK_FAB cycles. -/
def State.busyTick (s : State) (k : Nat) : State :=
  if s.epochSet then (List.range 7).foldl (fun s i => if s.busyNow i then s.busyAdd i k else s) s else s

/-- STIME_TICK (R38, R47, R72, R130, R887): one CLK_FAB cycle, or eight on the keeper's 10 ns REFCLK cycle. -/
def execStimeTick (s : State) : Result :=
  if s.pwr.mainUp then
    let k : Nat := if s.bit Reg.TIME_STAT 3 then 8 else 1
    let s := { s with
      stime := { s.stime with cycle := s.stime.cycle + k }
      strokes := { s.strokes with applied := 0, launched := [] } }
    .next ((s.busyTick k).stimeAdd (k * s.stimeInc)).applyReplaced.strokesDue.powerReview.dwellNote
  else .next s

/-- Strokes due at or before stroke `n` in the queue launch first, as far as the cycle's 16 reach (R72, R75). -/
def State.launchThrough (n : Nat) : Nat → State → State
  | 0, s => s
  | k + 1, s => match s.strokes.due with
    | d :: _ => if s.strokes.due.any fun e => e.idx == n then launchThrough n k (s.launchHead d).strokeApplied else s
    | [] => s

/-- Stroke `n` launches in this cycle: it is due, and fewer than 16 are applied up to it (R72). -/
def State.launchesNow (s : State) (n : Nat) : Bool :=
  match s.strokes.due.findIdx? fun e => e.idx == n with
  | some i => decide (s.strokes.applied + i < 16)
  | none => false

/-- A write of word 0 of entry `n` (R62, R63, R75). Clearing ENABLE of an entry whose launch falls in this cycle disables it
after the launch, whichever cycle it fell due in; one that the limit of 16 puts into a later cycle is disabled without it
(DESIGN CHOICE, log entry 55). -/
def State.strokeHead (s : State) (p : Party) (n : Nat) (v : Word) : State :=
  let a := Reg.STRK_W0 n
  if s.bit a 31 then
    if v.getLsbD 31 then s
    else
      let s := if s.launchesNow n then State.launchThrough n s.strokes.due.length s else s.unqueue n
      { s.setb a 31 false with strokes := { s.strokes with waitingPort := s.strokes.waitingPort.filter (· != n) } }
  else
    let owner := if p = .scribe then fieldOf v 30 30 else s.fld a 30 30
    let w := setFieldOf (setFieldOf (setFieldOf 0 30 30 owner) 29 29 (fieldOf v 29 29)) 23 0 (fieldOf v 23 0)
    let s := { s.wr a w with duct := { s.duct with deferred := s.duct.deferred.filter (· != n) } }
    if v.getLsbD 31 then (s.arm n).deadlineReview else s

/-- STROKE_ENTRY_WRITE (R60, R62, R63, R989): word `word` of entry `n`. Table TIM-4 gives COUNT, word 6, no access type: a write
of it is ignored (DESIGN CHOICE, log entry 55). A write of word 0 withdraws an arming that waits for VALID (log entry 55). -/
def execStrokeEntryWrite (p : Party) (n word : Nat) (v : Word) (s : State) : Result :=
  let a := Reg.STRK_W0 n
  if 1024 ≤ n ∨ 8 ≤ word ∨ (p ≠ .scribe ∧ p ≠ .draft) then .next s
  else if p = .draft ∧ !s.bit a 30 then .next ((s.strokeErr n 1).raise 443)
  else match word with
    | 0 => .next (s.strokeHead p n v)
    | 6 => .next s
    | 7 => .next (s.w1c (Reg.STRK_STATUS n) (v &&& 0xF8000000))
    | k => if s.bit a 31 then .next s else .next (s.wr (a + 4 * k) v)

/-- The strokes waiting on port `p` run, each for as long as the port does not wait again (R74). The launch is late and not
stepped, also where a forward step had passed the stroke (DESIGN CHOICE, log entry 55). -/
def State.runWaiting (s : State) (p : Nat) : State :=
  s.strokes.waitingPort.foldl (fun s n =>
    if s.fld (Reg.STRK_W0 n) 15 0 == p && !s.portWaits n then
      State.strokeRun { s with strokes := { s.strokes with waitingPort := s.strokes.waitingPort.filter (· != n) } } n true false
    else s) s

/-- RELOCK_COMPLETE (R74, R636, R637). A stroke that waits for a port whose relock ends without lock, the port being disabled or
fenced, waits on for the next lock (DESIGN CHOICE, log entry 55). -/
def execRelockComplete (p : Nat) (s : State) : Result :=
  if 2 ≤ p ∨ (s.portSt p).relock ≠ 1 then .next s else .next ((s.relockDone p).runWaiting p)

end Sys2Proof.Machine
end

