-- ==== Sys2Proof/Machine/Reset.lean ====
section
/-! DEFINITION. What a reset of the main domain leaves (R45, R147, R224, R271, R310, R704, R816, R849, R881, R907, R930). -/

namespace Sys2Proof.Machine

/-- Registers that no reset of the main domain changes: the Blotter domain's, the Colophon's, and those that R816 and R907
except. -/
def resetKeeps (a : Nat) : Bool :=
  decide (Reg.BLOT_STAT ≤ a ∧ a < Reg.BLOT_STAT + 0x20000) ||
  [Reg.BOOT_BFLOOR0, Reg.BOOT_BFLOOR1, Reg.BOOT_POLICY, Reg.MEM_XSPI_CFG, Reg.PWR_WAKE_LAST].contains a

/-- Reset the main domain, keeping also the registers that satisfy `keep`; it stays in reset, and the life-cycle state is
decoded anew. The straps hold their sampled values (R188). -/
def State.mainReset (s : State) (keep : Nat → Bool) : State :=
  let alert := s.alertAsserted
  let straps := s.fld Reg.BOOT_STAT 15 13
  let s := (((s.closeFirst.flashCut).wakeRelease).conDe 0 false).conDe 1 false
  let s := State.blotUnwatch { s with pwr := { s.pwr with mainUp := false } }
  let t : State := { State.reset with
    regs := Tab.clear s.regs fun a => !(resetKeeps a || keep a)
    otp := s.otp
    lcy := { ir := s.lcy.ir, hold := s.lcy.hold, boundary := s.lcy.boundary }
    boot := { porst := s.boot.porst, stash := s.boot.stash, bankA := s.boot.bankA, ioB := s.boot.ioB }
    rsv := { brk := s.rsv.brk }
    cust := { destroyed := s.cust.destroyed, packages := s.cust.packages }
    host := { perst := s.host.perst }
    net := { svcDk := s.net.svcDk }
    blot := s.blot
    colo := { s.colo with running := false }
    mem := { flash := s.mem.flash }
    nextOp := s.nextOp
    out := if s.host.clkreq then s.out else s.out ++ [.pin .clkreqN false]
    freeCtr := s.freeCtr
    pending := s.pending }
  let t := (t.setf Reg.BOOT_STAT 15 13 straps).setb Reg.RSV_STAT 30 (t.rd Reg.BLOT_ALARM_ACTIVE != 0)
  (t.lcyDecode).driveAlert alert

end Sys2Proof.Machine
end

