-- ==== Sys2Proof/Machine/Boot.lean ====
section
/-! DEFINITION. Chapter 05: the boot sequence, its failures, the recovery mailbox; the resets that start it, and STANDBY. -/

namespace Sys2Proof.Machine

/-! ## Steps 1 and 2 -/

/-- The OTP copies of the BOOT block, as step 2 reads them. -/
def State.bootIdentity (s : State) : State :=
  let o := s.otp
  let s := s.wr64 Reg.BOOT_SERIAL (BitVec.ofNat 64 o.serial)
  let s := s.wr Reg.BOOT_IDENT (BitVec.ofNat 32 (fieldOf o.ident 31 16 * 65536 + 0x100 + fieldOf o.ident 3 0))
  let s := s.wr Reg.BOOT_FLOOR_OTP (BitVec.ofNat 32 (s.otpFloor 2 * 65536 + s.otpFloor 1 * 256 + s.otpFloor 0))
  let c := fun (p : SignerRow → Bool) => ((List.range 4).map fun i => if p (o.customers.getD i {}) then 2 ^ i else 0).sum
  s.wr Reg.BOOT_SIGNER (BitVec.ofNat 32 (o.vendor.enrolled.toNat * 2 ^ 17 + o.vendor.revoked.toNat * 2 ^ 16 + c (·.revoked) * 256 +
    c (·.enrolled)))

/-- Step 2: OTP, life cycle, the power-cycle count, BOOT_MEAS0, the start-up test of the noise sources (R469); then the host
link may train (R202). A state that permits no firmware boot stops here (R153, R195). -/
def State.bootStep2 (s : State) (counts : Bool) : State :=
  let s := (s.bootIdentity.lcyDecode).coloStep2 counts
  let d := sha384 (leBytes 8 s.otp.lcyWord.toNat ++ leBytes 4 (s.rdn Reg.BOOT_SIGNER) ++ leBytes 4 (s.rdn Reg.BOOT_FLOOR_OTP))
  let s := s.measExtend 0 d
  let s := (List.range 4).foldl State.sourceStart s
  let s := s.bootStage 2 0
  if !([3, 4, 5].contains s.life) then s.bootHalt 0x02
  else State.bootStage { s with host := { s.host with linkL0 := !s.host.perst } } 3 0

/-- The boot ROM fetches an uncorrectable word at step `n`, of which nothing is done: boot halts with STAGE holding the step
(R195, R797). How much of the step came before it is not stated (DESIGN CHOICE, log entry 57). -/
def State.romHalt (s : State) (n : Nat) : State :=
  let (f, s) := s.freshWord
  let s := s.eccUncorrected 0 0 0 (f.toNat % 2 ^ 15 * 8) (f.toNat / 2 ^ 32 % 256)
  (s.bootStage n (s.fld Reg.BOOT_STAT 31 24)).bootHalt 0x0A

/-- Step 1 (R188, R195, R199, R806), out of reset. -/
def State.bootStart (s : State) (x : BootIn) (counts : Bool) : State :=
  let s := { s with pwr := { s.pwr with mainUp := true } }
  let s := s.setf Reg.BOOT_STAT 15 13 x.straps
  let s := (s.setf Reg.SMB_CFG 6 0 (0x5A + 8 * (x.straps % 4))).setf Reg.SMB_STAT 1 0 x.straps
  let s := (s.setf Reg.MEM_XSPI_CFG 15 0 x.density).setb Reg.MEM_XSPI_CFG 31 x.slow
  let s := s.bootLine
  if x.romFail = some 1 then s.romHalt 1
  else if !x.locked then s.bootHalt 0x01
  else if x.romFail.isSome then s.romHalt 2
  else s.bootStep2 counts

/-- The main domain may leave reset. -/
def State.mayStart (s : State) : Bool := s.boot.porst && s.blot.aon && !s.lcy.hold

/-- Boot stands at step `n` and goes on. -/
def State.bootAt (s : State) (n : Nat) : Bool :=
  s.pwr.mainUp && s.fld Reg.BOOT_STAT 23 20 == n && !s.bit Reg.BOOT_STAT 18 && !s.bit Reg.BOOT_STAT 19

/-- A reset of the whole main domain that may fall at any time, the write of a mark included (R146). -/
def State.fullReset (s : State) : State := s.markCut.mainReset fun _ => false

/-- PORST_N_ASSERT (R146, R224): whatever is in progress is abandoned. -/
def execPorstNAssert (s : State) : Result :=
  let s := s.fullReset
  .next { s with boot := { s.boot with porst := false, stash := none } }

/-- PORST_N_RISE (R188, R189, R745, R935, R949, R958): the bank supplies are sensed, and boot starts, at once or when VDD_AON is good. -/
def execPorstNRise (x : BootIn) (s : State) : Result :=
  if s.boot.porst then .next s
  else
    let s := { s with boot := { s.boot with porst := true, bankA := bankLevel x.ioA, ioB := x.ioB } }
    if s.mayStart then .next (s.bootStart x true)
    else if s.blot.aon then .next s
    else .next { s with boot := { s.boot with stash := some x } }

/-! ## Step 3 (R192 to R194, R987) -/

/-- Boot Proof and memory BIST as BOOT_POLICY asks for them. -/
def State.bootTests (s : State) : Bool × Bool :=
  if s.bit Reg.BOOT_POLICY 31 then (s.bit Reg.BOOT_POLICY 0, s.bit Reg.BOOT_POLICY 1) else (true, true)

/-- BOOT_TESTS_DONE: `misrs` are the boot Proof signatures of partitions 0 to 21. -/
def execBootTestsDone (mbistFail : Bool) (misrs : List Nat) (romFail : Bool) (s : State) : Result :=
  if !s.bootAt 3 then .next s
  else if romFail then .next (s.romHalt 3)
  else if s.bootTests.2 && mbistFail then .next (s.bootHalt 0x03)
  else
    let s := { s with mem := { s.mem with sram := [], bad := [], fix := [] } }
    let s := if s.bootTests.1 then
        State.setb { s with boot := { s.boot with misrs := some ((List.range 22).map fun i => misrs.getD i 0 % 2 ^ 128) } }
          Reg.PROOF_BOOT 31 true
      else s
    .next (s.bootStage 4 0)

/-! ## Steps 4 to 6 -/

/-- Wait for recovery with a code (R111, R198, R211). -/
def State.bootWait (s : State) (code : Nat) : State :=
  let s := (s.bootStage (s.fld Reg.BOOT_STAT 23 20) code).setb Reg.BOOT_STAT 19 true
  State.setb { s with host := { s.host with cfgOpen := true } } Reg.BOOT_RCV_STAT 22 true

/-- The wait ends with an accepted item. -/
def State.bootResume (s : State) : State :=
  let s := { s with host := { s.host with cfgOpen := false } }
  ((s.setb Reg.BOOT_STAT 19 false).setb Reg.BOOT_RCV_STAT 22 false).setf Reg.BOOT_STAT 31 24 0

/-- Partitions whose boot Proof signature differs from the golden one (R193). -/
def State.bootMismatch (s : State) (m : List Nat) : List Nat := (List.range 22).filter fun p => m.getD p 0 != s.golden p

/-- The boot Proof signatures are compared; a stream with no PROOF section drops them (R193, R195, R227). -/
def State.bootCompare (s : State) : State := match s.boot.misrs with
  | none => s
  | some m =>
    if (s.section_ 0x0A).isEmpty then { s with boot := { s.boot with misrs := none } }
    else
      let bad := s.bootMismatch m
      if bad.isEmpty then s
      else
        let s := (bad.foldl (fun s p => (s.setb Reg.PROOF_BOOT p true).accOr 0x288 (2 ^ p)) s).raise 469
        if bad.any (20 ≤ ·) then s.bootHalt 0x04
        else
          let s := bad.foldl State.proofFence s
          if s.bit Reg.PROOF_CFG 20 then s.bootHalt 0x09 else s.bootStage (s.fld Reg.BOOT_STAT 23 20) 0x09

/-- Step 6 with an accepted stream from `src` (R112, R193, R195, R215, R477, R733): 0 bank A, 1 bank B, 2 recovery; `rom` says
that the boot ROM fetches an uncorrectable word there. -/
def State.bootApply (s : State) (t : Stream) (src : Nat) (rom : Bool) : State :=
  if rom then s.romHalt 6 else
  let s := { s with boot := { s.boot with bank := src } }
  let s := (s.ductApply t src).bootStage 6 (s.fld Reg.BOOT_STAT 31 24)
  let s := s.measExtend 1 (sha384 t.signedBytes)
  let s := (s.blotReport.drbgInstantiate false).bootCompare
  if s.bit Reg.BOOT_STAT 18 then s else s.ductStrokes.bootStage 7 (s.fld Reg.BOOT_STAT 31 24)

/-- Bank `b` of the flash, from its base: as much of it as its header gives (R110). -/
def State.bankWords (s : State) (b : Nat) : List Word :=
  let base := b * 0x400000
  let h := wordsOfBytes (s.flashBytes base 16)
  let n := if h.getD 0 0 = 0x54435544 ∧ h.getD 1 0 = 0x00010000 then min 0x100000 (max 16 (h.getD 2 0).toNat) else 16
  wordsOfBytes (s.flashBytes base (4 * n))

/-- The flash bank to read next: BOOT_BANK, then the other (R109). -/
def State.nextBank (s : State) : Nat := match s.boot.tried with
  | [] => s.fld Reg.BOOT_STAT 15 15
  | b :: _ => 1 - b

/-- DUCTUS_BANK_VERIFIED (R109 to R112, R195); `romFail` is the step, 4 to 6, at which the boot ROM fetches an uncorrectable
word. FALLBACK is set when the other bank is used. -/
def execDuctusBankVerified (readOk : Bool) (romFail : Option Nat) (s : State) : Result :=
  if !(s.bootAt 4 || s.bootAt 5) || decide (2 ≤ s.boot.tried.length) then .next s
  else if romFail.any (· < 6) then .next (s.romHalt (s.fld Reg.BOOT_STAT 23 20))
  else
    let b := s.nextBank
    let v := s.verifyStream (s.bankWords b) false readOk
    let s := { s with boot := { s.boot with tried := s.boot.tried ++ [b] } }
    .next (match v with
      | .ok t => (if s.boot.tried.length = 2 then s.setb Reg.DUCT_STAT 4 true else s).bootApply t b romFail.isSome
      | .error c =>
        let s := if b = 0 then s.setf Reg.DUCT_STAT 31 24 c else s.setf Reg.DUCT_STAT 23 16 c
        if s.boot.tried.length = 2 then s.bootWait 0x05 else s.bootStage 5 (s.fld Reg.BOOT_STAT 31 24))

/-! ## Steps 7 and 8 -/

/-- Every block that step 6 configured returns to its state before step 6 (R196); the clock, the host link, the life-cycle block
with an open session, OTP copies, the noise sources, the memories, the operating seconds and the record of boot stay. -/
def State.bootUndo (s : State) : State :=
  let keep := fun a =>
    decide (Reg.BOOT_STAT ≤ a ∧ a < Reg.BOOT_STAT + 0x10000) || decide (Reg.ENT_STAT ≤ a ∧ a < Reg.ENT_STAT + 0x10000) ||
    decide (Reg.LCY_STATE ≤ a ∧ a < Reg.LCY_STATE + 0x10000) || a == Reg.DUCT_STAT || a == Reg.PROOF_BOOT
  let t := s.mainReset keep
  let t := { t with stime := s.stime, boot := s.boot, host := s.host, lcy := s.lcy, pwr := s.pwr, ent := { s.ent with wanted := false }
                    colo := s.colo, mem := { s.mem with cmd := none } }
  let t := (t.wr Reg.LCY_STATE (s.rd Reg.LCY_STATE)).wr Reg.LCY_RIGHTS (s.rd Reg.LCY_RIGHTS)
  let t := (t.setf Reg.SMB_CFG 6 0 (0x5A + 8 * s.fld Reg.BOOT_STAT 14 13)).setf Reg.SMB_STAT 1 0 (s.fld Reg.BOOT_STAT 14 13)
  let t := (t.drbgErase.resetRegs Reg.ENT_RESEED_INTERVAL (Reg.ENT_RESEED_INTERVAL + 4)).setb Reg.ENT_STAT 20 false
  let t := (t.setf Reg.PROOF_BOOT 21 0 0).setb Reg.DUCT_STAT 5 false
  t.setf Reg.DUCT_STAT 1 0 3

/-- An accepted Scribe image is loaded, and the Scribe world released: CON1 passes to it and the once-only epoch length is
written if due (R108, R197, R199); `rom`: the boot ROM fetches an uncorrectable word at step 8. -/
def State.scribeRelease (s : State) (e : Image) (b : Bytes) (v : ImageVerdict) (rom : Bool) : State :=
  let s := s.loadScribe e b v
  if rom then s.romHalt 8 else
  let s := (s.bootStage 8 (s.fld Reg.BOOT_STAT 31 24)).releasePair
  let s := { s with con1Open := true }
  let s := match s.section_ 0x0D with
    | [] => s
    | c => s.applyConsole 1 c
  let s := match s.section_ 0x0B with
    | [] => s
    | x => s.coloSetEpoch (bw x 0 1 0)
  s.bootStage 9 (s.fld Reg.BOOT_STAT 31 24)

/-- A rejection of the Scribe image under the stream in force (R195, R196); the restart zeroes every measurement register (R217). -/
def State.scribeReject (s : State) (code : Nat) : State :=
  let s := if s.boot.bank = 0 then s.setf Reg.BOOT_IMG_STAT 31 24 code
    else if s.boot.bank = 1 then s.setf Reg.BOOT_IMG_STAT 23 16 code else s
  if s.boot.bank < 2 ∧ s.boot.tried.length < 2 then (s.bootUndo.measClear (List.range 8)).bootStage 4 0 else s.bootWait 0x06

/-- SCRIBE_IMAGE_CHECKED (R195 to R197, R207); `romFail` is the step, 7 or 8, at which the boot ROM fetches an uncorrectable
word. -/
def execScribeImageChecked (readOk : Bool) (romFail : Option Nat) (s : State) : Result :=
  if !s.bootAt 7 then .next s
  else if romFail.any (· < 8) then .next (s.romHalt 7)
  else match s.scribeImage with
    | none => .next (s.scribeReject 0x21)
    | some e =>
      let b := s.imageBytes e
      let v := s.imageVerdict e b readOk
      .next (if v.code ≠ 0 then s.scribeReject v.code else s.scribeRelease e b v romFail.isSome)

/-! ## Steps 9 to 11 -/

/-- The outcome of step 9: the Draft images loaded so far, or the first rejection with its image ID. -/
structure DraftLoad where
  state : State
  lowest : Option Nat
  bad : Option (Nat × Nat)

/-- The Scribe runtime measures, checks and loads one Draft image; after a rejection it loads no more (R207, R215). -/
def DraftLoad.next (d : DraftLoad) (e : Image) (readOk : Bool) : DraftLoad :=
  if d.bad.isSome then d
  else
    let s := d.state
    let b := s.imageBytes e
    let v := s.imageVerdict e b readOk
    let s := s.measExtend 3 (sha384 b)
    if v.code ≠ 0 then { d with state := s, bad := some (v.code, e.id) }
    else
      let s := s.sramWrite e.load v.body
      let s := if v.unsigned then s.setb Reg.BOOT_STAT 16 true else s
      { d with state := s, lowest := some (match d.lowest with | some n => min n v.version | none => v.version) }

/-- The cores that step 10 releases: those of DRAFT_ENABLE that boot Proof has not fenced. -/
def State.draftCores (s : State) : Nat :=
  ((List.range 8).map fun c =>
    if (bw (s.section_ 0x03) 4 7 0).testBit c && !s.proofFenced (7 + c) then 2 ^ c else 0).sum

/-- Step 11 (R189, R203, Table PWR-5): configuration requests are answered, BOOT_TIME is written; a return from STANDBY with
PERST_N asserted wakes the host. -/
def State.bootDone (s : State) (code : Nat) : State :=
  let s := { s with host := { s.host with cfgOpen := true } }
  let s := (s.bootStage 11 code).wr Reg.BOOT_TIME (BitVec.ofNat 32 (s.stime.cycle / 800000))
  let wake := s.pwr.returning && s.host.perst
  let s := { s with pwr := { s.pwr with returning := false, wakeOut := s.pwr.wakeOut || wake } }
  if wake then s.emit (.pin .wakeN false) else s

/-- DRAFT_RELEASE (R189, R195): once the Scribe runtime is ready it has checked the Draft images, each read without
uncorrectable error or not. BOOT_VER_INFORCE shows the lowest VERSION of those loaded, also where a later one is rejected
(R220). -/
def execDraftRelease (reads : List Bool) (s : State) : Result :=
  if !s.bootAt 9 || s.wrldState != 0 then .next s
  else
    let l := s.images.filter (·.cls == 1)
    let d := (l.zipIdx).foldl (fun (d : DraftLoad) e => d.next e.1 (reads.getD e.2 true)) ⟨s, none, none⟩
    let code := s.fld Reg.BOOT_STAT 31 24
    let s := d.state.setf Reg.BOOT_VER_INFORCE 31 16 (d.lowest.getD 0)
    match d.bad with
    | some (c, id) =>
      let s := (s.setf Reg.BOOT_IMG_STAT 15 8 c).setf Reg.BOOT_IMG_STAT 7 0 id
      .next ((s.setb Reg.BOOT_STAT 17 true).bootDone 0x08)
    | none =>
      .next (((s.bootStage 10 code).setf Reg.WRLD_CORE_STAT 23 16 s.draftCores).bootDone code)

/-! ## The recovery mailbox (R211 to R214, R226) -/

/-- The item in progress completes with a RESULT. -/
def State.rcvDone (s : State) (code : Nat) : State :=
  let s := { s with boot := { s.boot with rcv := none } }
  ((s.setf Reg.BOOT_RCV_STAT 31 24 code).setb Reg.BOOT_RCV_STAT 23 false).setb Reg.BOOT_RCV_CMD 31 false

/-- BOOT_RCV_GO (R9, R11, R211, R226): a write of BOOT_RCV_CMD by the Manager. A reserved KIND is ignored whole. -/
def execBootRcvGo (v : Word) (s : State) : Result :=
  let kind := fieldOf v 3 0
  if s.bit Reg.BOOT_RCV_STAT 23 || decide (2 < kind) || (v.getLsbD 31 && kind == 0) then .next s
  else
    let s := (s.setf Reg.BOOT_RCV_CMD 23 16 (fieldOf v 23 16)).setf Reg.BOOT_RCV_CMD 3 0 kind
    if !v.getLsbD 31 then .next s
    else if !s.bit Reg.BOOT_STAT 19 then .next (s.setf Reg.BOOT_RCV_STAT 31 24 0x01)
    else
      let a := (s.rd64 Reg.BOOT_RCV_ADDR).toNat
      let n := s.rdn Reg.BOOT_RCV_LEN
      let s := { s with boot := { s.boot with rcv := some ⟨kind, fieldOf v 23 16, a, n⟩ } }
      .next ((s.setb Reg.BOOT_RCV_CMD 31 true).setb Reg.BOOT_RCV_STAT 23 true)

/-- Bank 7 of shared SRAM, where an item is read to. -/
def rcvBuffer : Nat := 0x21C00000

/-- A Ductus item: it replaces whatever stream was applied, as if read from a bank (R111, R214). -/
def State.rcvDuctus (s : State) (b : Bytes) (rom : Bool) : State :=
  match s.verifyStream (wordsOfBytes b) false true with
  | .error c => s.rcvDone c
  | .ok t =>
    let s := (s.rcvDone 0).bootResume
    let s := if s.duct.inForce.isEmpty then s else s.bootUndo
    s.bootApply t 2 rom

/-- An image item: the image of that ID in the stream in force is checked; boot goes on from step 8 with the Scribe image alone
(R213, R214). An ID that names none fails I_FORMAT. -/
def State.rcvImage (s : State) (id : Nat) (b : Bytes) (rom : Bool) : State :=
  match s.images.find? (·.id == id) with
  | none => s.rcvDone 0x21
  | some e =>
    let v := s.imageVerdict e b true
    if v.code ≠ 0 then s.rcvDone v.code
    else if e.cls = 0 then ((s.rcvDone 0).bootResume).scribeRelease e b v rom
    else s.rcvDone 0

/-- RECOVERY_ITEM_DONE (R211 to R214): the item has been read from host memory, as requester ID only, and is checked. An item
of more than 4 MiB, or one the host does not answer, ends with the source error of its table. `romFail` is the step at which the
boot ROM fetches an uncorrectable word: 6 or 8, reached with an accepted item, or the step boot waits at. -/
def execRecoveryItemDone (m : HostMem) (romFail : Option Nat) (s : State) : Result :=
  match s.boot.rcv with
  | none => .next s
  | some r =>
    if !s.host.busMaster then .next s
    else if romFail.any fun n => n != 6 && n != 8 then .next ((s.rcvDone 0x01).romHalt (s.fld Reg.BOOT_STAT 23 20))
    else if 0x400000 < r.len then .next s.rcvFail
    else match s.hostRead m (scribeCtx .recovery) r.addr r.len with
      | (t, _, some e) => .next (if e = St.wait then s.xlWait t else (t.readOver .recovery).rcvFail)
      | (t, b, none) =>
        let w := (t.readOver .recovery).ruleRanges [(rcvBuffer, b.length, .write)]
        let s := if w.2 then w.1.sramWrite rcvBuffer b else w.1.rcvFail
        .next (if !w.2 then s
          else if r.kind = 1 then s.rcvDuctus b (romFail == some 6) else s.rcvImage r.imageId b (romFail == some 8))

/-! ## Resets that start boot -/

/-- LCY_SELF_RESET (R147): a completed mark takes effect. -/
def execLcySelfReset (x : BootIn) (s : State) : Result :=
  if !s.lcy.resetDue then .next s
  else
    let s := s.mainReset fun _ => false
    .next (if s.mayStart then s.bootStart x false else s)

/-- EXTEST, CLAMP and HIGHZ hold the main domain in reset (R176); `driven` says whether the balls are driven. -/
def State.tapHold (s : State) (c : Nat) (driven : Bool) : State :=
  if s.tapOffers c then
    let s := s.tapLoad c
    (State.fullReset { s with lcy := { s.lcy with hold := true } }).emit (.pin .boundary driven)
  else s.tapLoad c

/-- The balls as the boundary register drives them. -/
def State.scanOut (s : State) : State := s.emit (.scan (boundaryDrive s.lcy.boundary))

/-- EXTEST: the boundary register, loaded with `v`, drives the balls it holds (R175). -/
def execExtest (v : Nat) (s : State) : Result :=
  let t := s.tapHold 0x00 true
  .next (if s.tapOffers 0x00 then State.scanOut { t with lcy := { t.lcy with boundary := v % 2 ^ boundaryLen } } else t)

/-- CLAMP: the balls are held from the boundary register. -/
def execClamp (s : State) : Result :=
  let t := s.tapHold 0x03 true
  .next (if s.tapOffers 0x03 then t.scanOut else t)

/-- HIGHZ: the balls float. -/
def execHighz (s : State) : Result := .next (s.tapHold 0x04 false)

/-- TEST_LOGIC_RESET (R174, R176): IDCODE is selected; a hold ends, and the device resets as R147 describes. -/
def execTestLogicReset (x : BootIn) (s : State) : Result :=
  let held := s.lcy.hold
  let s := { s with lcy := { s.lcy with ir := 1, hold := false } }
  if held then
    let s := (s.mainReset fun _ => false).emit (.pin .boundary false)
    .next (if s.mayStart then s.bootStart x false else s)
  else .next s

/-- VDD_AON_GOOD (R706, R936, R958): the Blotter domain runs from VDD_AON, and a boot that waited starts. -/
def execVddAonGood (s : State) : Result :=
  if s.blot.aon then .next s
  else
    let s := State.setb { s with blot := { s.blot with aon := true, alive := true } } Reg.BLOT_STAT 26 true
    match s.boot.stash with
    | some x =>
      let s := { s with boot := { s.boot with stash := none } }
      .next (if s.mayStart then s.bootStart x true else s)
    | none => .next s

/-- VDD_AON_LOSS (R706, R958): the main domain is reset and stays so; the Blotter domain moves to VBAT. -/
def execVddAonLoss (s : State) : Result :=
  if !s.blot.aon then .next s
  else
    let s := s.fullReset
    .next (State.setb { s with blot := { s.blot with aon := false } } Reg.BLOT_STAT 26 false)

/-! ## STANDBY (R904 to R907, Table PWR-5) -/

/-- The registers that the wake detectors and the management bus hold through STANDBY. -/
def standbyKeeps (a : Nat) : Bool :=
  decide (Reg.PWR_STAT ≤ a ∧ a < Reg.PWR_STAT + 0x10000) || decide (Reg.SMB_STAT ≤ a ∧ a < Reg.SMB_STAT + 0x10000) ||
  decide (Reg.CON0_CFG ≤ a ∧ a < Reg.CON0_CFG + 0x10000) || decide (Reg.CON1_CFG ≤ a ∧ a < Reg.CON1_CFG + 0x10000)

/-- STANDBY_ENTRY (R886, R904): steps 1 to 3 of Table PWR-5, once no epoch record waits to be verified. -/
def execStandbyEntry (wfi pcieIdle scrubIdle l23 : Bool) (s : State) : Result :=
  if s.pwr.mainUp && !s.pwr.exiting && s.bit Reg.PWR_STAT 16 && s.bit Reg.PWR_CFG 28 && s.deepIdle (wfi && pcieIdle && scrubIdle) &&
      s.dwelled 3 && !s.proofBusy && (s.host.perst || l23) && s.colo.snaps.isEmpty && !s.closeDue then
    let s := ((s.checkpoint s.pcc).mainReset standbyKeeps).driveClkreq false
    .next ((s.setf Reg.PWR_STAT 2 0 4).setb Reg.PWR_STAT 16 false)
  else .next s

/-- Whether wake source `b` occurs as `levels` has the GPIO balls: the GPIO source needs VDDIO_A and an enabled ball at its level, the
SMBUS and CONSOLE sources VDDIO_B, and a console break a running port (R841, R896). In STANDBY the board may have removed the banks: `x`
says how they stand. -/
def State.wakeOccurs (s : State) (b levels : Nat) (x : BootIn) : Bool :=
  let standby := s.fld Reg.PWR_STAT 2 0 == 4
  let ioA := if standby then (bankLevel x.ioA).isSome else s.boot.bankA.isSome
  let ioB := if standby then x.ioB else s.boot.ioB
  match b with
  | 4 => ioB
  | 5 => ioB && (s.bit Reg.CON0_CFG 31 || s.bit Reg.CON1_CFG 31)
  | 8 => ioA && (List.range 8).any fun i =>
    s.bit Reg.PWR_GPIO_WAKE i && levels.testBit i == s.bit Reg.PWR_GPIO_WAKE (8 + i)
  | _ => true

/-- Wake source `b` ends STANDBY: boot starts, with the straps as last sampled and the cause kept in PWR_WAKE_LAST. -/
def State.standbyExit (s : State) (b : Nat) (x : BootIn) : State :=
  if wakeFrom b 4 && s.mayStart then
    let straps := s.fld Reg.BOOT_STAT 15 13
    let s := (s.mainReset fun _ => false).wr Reg.PWR_WAKE_LAST (BitVec.ofNat 32 (2 ^ b))
    let s := State.bootStart { s with boot := { s.boot with ioB := x.ioB } } { x with straps := straps } true
    State.raise { s with pwr := { s.pwr with returning := true } } 504
  else s

/-- WAKE (R895 to R897, R905, R906): wake source `b` starts an exit. -/
def execWake (b levels : Nat) (x : BootIn) (s : State) : Result :=
  if !s.wakeOccurs b levels x then .next s
  else if s.fld Reg.PWR_STAT 2 0 < 4 then .next (s.wakeBy b)
  else .next (s.standbyExit b x)

end Sys2Proof.Machine
end

