-- ==== Sys2Proof/Machine/Views.lean ====
section
/-! DEFINITION. What register words read as: the stored word, or the state that a register shows. -/

namespace Sys2Proof.Machine

/-- The index of `a` in `n` words at `base`, `stride` bytes apart. -/
def wordIndex (base n stride a : Nat) : Option Nat :=
  if base ≤ a ∧ (a - base) % stride = 0 ∧ (a - base) / stride < n then some ((a - base) / stride) else none

/-- Word `i` of a number. -/
def wordOf (v i : Nat) : Word := BitVec.ofNat 32 (v / 2 ^ (32 * i))

/-- Step 6 of boot has passed (R858). -/
def State.runServed (s : State) : Bool := decide (7 ≤ s.fld Reg.BOOT_STAT 23 20)

/-- NIB_STAT and FLO_STAT: a lane in service that runs an operation is BUSY (Table NIB-11). -/
def State.nibStat (s : State) : Word :=
  (List.range 6).foldl (fun w i =>
    let busy := if i < 4 then s.laneBusy i else s.engineBusy (0x20 + (i - 4))
    if s.laneState i ≠ 0 then w
    else setFieldOf w (4 * i + 3) (4 * i) (if busy then 1 else if s.sliceDue i then 3 else 0)) (s.rd Reg.NIB_STAT)

def State.floStat (s : State) : Word :=
  if s.fld Reg.FLO_STAT 3 0 ≠ 0 then s.rd Reg.FLO_STAT else if s.engineBusy 0x30 then 1 else if s.sliceDue 6 then 3 else 0

/-- ENT_DRBG_STAT with WAITING of the instances that a request is held for (R479). -/
def State.drbgStat (s : State) : Word :=
  (List.range 4).foldl (fun w i =>
    let held := s.ops.any (·.held == some i) ||
      (i == 0 && (s.rsv.cmd.any (·.held == 1) || s.cust.cmd.any (·.held == 1)))
    setFieldOf w (8 * i + 6) (8 * i + 6) held.toNat) (s.rd Reg.ENT_DRBG_STAT)

/-- RSV_STAT with ROOT_VALID and OPEN_DOMAINS. -/
def State.rsvStat (s : State) : Word :=
  setFieldOf (setFieldOf (s.rd Reg.RSV_STAT) 31 31 s.rootValid.toNat) 10 0 s.rsv.doms.length

/-- The open-domain table entry that RSV_DOM_SEL selects. -/
def State.domShown (s : State) : Option DomEntry := s.rsv.doms.find? fun e => e.idx == s.fld Reg.RSV_DOM_SEL 9 0

def State.domInfo (s : State) : Word := match s.domShown with
  | some e => BitVec.ofNat 32 (2 ^ 31 + e.cur * 2 ^ 30 + e.domain)
  | none => 0

/-- CUST_STAT (Table CUS-11). -/
def State.custStat (s : State) : Word :=
  BitVec.ofNat 32 (s.bootstrap.toNat * 2 ^ 31 + s.devM * 2 ^ 24 + maskCount s.activeMask)

def State.custShown (s : State) : CustRow := s.custRow (s.fld Reg.CUST_ROW_SEL 4 0)

/-- PWR_STAT with LIMIT and the holds, as R889 stands now. -/
def State.pwrStat (s : State) : Word :=
  let put := fun (w : Word) (i : Nat) (b : Bool) => setFieldOf w i i b.toNat
  let w := setFieldOf (s.rd Reg.PWR_STAT) 6 4 (s.powerChoice true)
  let w := put w 10 (decide (s.hintLimit < 3))
  let w := put w 11 (!s.workIdle)
  let w := put w 12 s.proofBusy
  let w := put w 13 (!s.colo.snaps.isEmpty)
  let w := put w 14 (s.deadline != 2 ^ 64 - 1 && decide (s.deadline < s.ns + entryNs 1 + exitNs 1 + 2000))
  put w 15 (s.boot.rcv.isSome || !s.host.invals.isEmpty)

/-- Microseconds spent in state `st`, the present stay included. -/
def State.residency (s : State) (st : Nat) : Nat :=
  (s.rd64 (resReg st)).toNat + if s.fld Reg.PWR_STAT 2 0 = st then (s.stime.cycle - s.pwr.since) / 800 else 0

/-- PLIC pending bits, word `i`. -/
def PlicSt.pendingWord (p : PlicSt) (i : Nat) : Word :=
  BitVec.ofNat 32 ((p.ip.filter fun id => id / 32 == i).foldl (fun w id => w + 2 ^ (id % 32)) 0)

/-- Two's complement in 64 bits. -/
def int64 (v : Int) : Nat := (v % 2 ^ 64).toNat

/-- Views of the scheduler. -/
def State.schView (s : State) (a : Nat) : Option Word :=
  if a = Reg.SCH_STAT then some (setFieldOf (setFieldOf (s.rd a) 28 16 s.sharedFree) 12 0 s.tagsUsed)
  else if a = Reg.SCH_PORT_TAGS then some (BitVec.ofNat 32 (s.portTags 1 * 65536 + s.portTags 0))
  else match wordIndex (Reg.SCH_FOL_TAGS 0) 64 4 a with
    | some f => some (BitVec.ofNat 32 (s.folioGates f * 65536 + s.folioTags f))
    | none =>
      let o := a - Reg.SCH_FC_CTL 0 0
      let f := o / 0x200
      let c := o % 0x200 / 0x40
      if a < Reg.SCH_FC_CTL 0 0 ∨ 64 ≤ f ∨ 6 ≤ c then none
      else match o % 0x40 with
        | 0x14 => some (BitVec.ofNat 32 (s.levelO f c / 1000000).toNat)
        | 0x18 => some (wordOf (int64 (s.levelB f c)) 0)
        | 0x1C => some (wordOf (int64 (s.levelB f c)) 1)
        | 0x20 => some (wordOf (int64 (s.deficit f c)) 0)
        | 0x24 => some (wordOf (int64 (s.deficit f c)) 1)
        | _ => none

/-- Views of the Colophon stamps. -/
def State.coloView (s : State) (a : Nat) : Option Word :=
  if a = Reg.COLO_STAT then some s.coloStat
  else if a = Reg.COLO_OPSEC then some (wordOf s.colo.opsec 0)
  else if a = Reg.COLO_OPSEC + 4 then some (wordOf s.colo.opsec 1)
  else if a = Reg.COLO_PCC then some (BitVec.ofNat 32 s.pcc)
  else if a = Reg.COLO_NEXT_CLOSE then some (wordOf s.coloNextClose 0)
  else if a = Reg.COLO_NEXT_CLOSE + 4 then some (wordOf s.coloNextClose 1)
  else none

/-- Views of power, the management bus and the memories. -/
def State.powerView (s : State) (a : Nat) : Option Word :=
  if a = Reg.PWR_STAT then some s.pwrStat
  else if a = Reg.PWR_BMIN then some (BitVec.ofNat 32 (s.bMin.getD (2 ^ 32 - 1)))
  else if a = Reg.PWR_DEADLINE then some (wordOf s.deadline 0)
  else if a = Reg.PWR_DEADLINE + 4 then some (wordOf s.deadline 1)
  else if a = Reg.SMB_STAT then some (setFieldOf (s.rd a) 30 30 (!s.runServed).toNat)
  else if a = Reg.MEM_STAT then some (setFieldOf (s.rd a) 31 31 (s.bit Reg.MEM_ERR_INFO 31).toNat)
  else match wordIndex (Reg.PWR_RES 0) 6 4 a with
    | some i => some (wordOf (s.residency (1 + i / 2)) (i % 2))
    | none => none

/-- Views of the Scribe-only blocks. -/
def State.scribeView (s : State) (a : Nat) : Option Word :=
  if a = Reg.LCY_WORD then some (wordOf s.otp.lcyWord.toNat 0)
  else if a = Reg.LCY_WORD + 4 then some (wordOf s.otp.lcyWord.toNat 1)
  else if a = Reg.LCY_DEBUG_COUNT then some (BitVec.ofNat 32 (popCount s.otp.therm))
  else if a = Reg.WRLD_WD_STAT then some (setFieldOf (s.rd a) 13 0 (min s.wdMsLeft 16383))
  else if a = Reg.CUST_STAT then some s.custStat
  else if a = Reg.CUST_ROW_INFO then some (BitVec.ofNat 32 (s.custShown.enrolled.toNat * 2 ^ 31 + s.custShown.revoked.toNat * 2 ^ 30))
  else if a = Reg.RSV_STAT then some s.rsvStat
  else if a = Reg.RSV_SLOT_USE then some (BitVec.ofNat 32 (s.rsv.slots.length * 65536 + s.transientUsed))
  else if a = Reg.RSV_DOM_INFO then some s.domInfo
  else if a = Reg.RSV_DOM_GEN 0 then some (BitVec.ofNat 32 ((s.domShown.map (·.gen0)).getD 0))
  else if a = Reg.RSV_DOM_GEN 1 then some (BitVec.ofNat 32 ((s.domShown.map (·.gen1)).getD 0))
  else match wordIndex (Reg.CUST_ROW_DIGEST 0) 12 4 a with
    | some i => some (BitVec.ofNat 32 (leAt s.custShown.digest (4 * i) 4))
    | none => none

/-- Views of the PLICs: their pending words. -/
def State.plicView (s : State) (a : Nat) : Option Word :=
  match wordIndex (Reg.SPLIC_PRIORITY 0 + 0x1000) 17 4 a, wordIndex (Reg.DPLIC_PRIORITY 0 + 0x1000) 17 4 a with
  | some i, _ => some (s.plicS.pendingWord i)
  | none, some i => some (s.plicD.pendingWord i)
  | none, none => none

/-- Views of the remaining shared blocks. -/
def State.sharedView (s : State) (a : Nat) : Option Word :=
  if a = Reg.STRK_GATE_USED then some (BitVec.ofNat 32 s.gateUsed)
  else if a = Reg.STRK_NEXT then some (wordOf s.strkNext 0)
  else if a = Reg.STRK_NEXT + 4 then some (wordOf s.strkNext 1)
  else if a = Reg.NIB_STAT then some s.nibStat
  else if a = Reg.FLO_STAT then some s.floStat
  else if a = Reg.ENT_DRBG_STAT then some s.drbgStat
  else if a = Reg.PORT_SESSIONS 0 ∨ a = Reg.PORT_SESSIONS 1 then
    some (BitVec.ofNat 32 (s.net.sessions.filter (·.established)).length)
  else if a = Reg.CON0_LEVEL then some (BitVec.ofNat 32 (s.con0.tx.length * 65536 + s.con0.rx.length))
  else if a = Reg.CON1_LEVEL then some (BitVec.ofNat 32 (s.con1.tx.length * 65536 + s.con1.rx.length))
  else if a = Reg.EVT_SUMMARY then some s.evtSummary
  else none

/-- LIMIT of a region entry: its bits below the granule read as ones, in an entry never written too (Table RUL-3). -/
def State.ruleView (s : State) (a : Nat) : Option Word :=
  let u := (a - Reg.RUL_CTL 0) / 0x10000
  if Reg.RUL_CTL 0 ≤ a ∧ u < 7 ∧ 0x1000 ≤ a % 0x10000 ∧ a % 0x10000 < 0x3000 ∧ a % 0x40 = 8 then
    some (s.rd a ||| BitVec.ofNat 32 (granule u - 1))
  else none

/-- The word that the register at internal address `a` shows, where reading it changes nothing. -/
def State.view (s : State) (a : Nat) : Word :=
  match [s.sharedView a, s.schView a, s.coloView a, s.powerView a, s.scribeView a, s.ruleView a, s.plicView a].findSome? id with
  | some w => w
  | none => s.rd a

/-- `n` words from address `a`, each sent most significant byte first (R852). -/
def State.viewBe (s : State) (a n : Nat) : Bytes := ((List.range n).map fun i => beBytes 4 (s.view (a + 4 * i)).toNat).flatten

/-- A 64-bit register, most significant byte first. -/
def State.viewBe8 (s : State) (a : Nat) : Bytes := beBytes 4 (s.view (a + 4)).toNat ++ beBytes 4 (s.view a).toNat

end Sys2Proof.Machine
end

