-- ==== Sys2Proof/Machine/Smbus.lean ====
section
/-! DEFINITION. Chapter 22: the SMBus target, its commands, PEC, alerts and bus faults. -/

namespace Sys2Proof.Machine

/-! ## PEC (R868) -/

/-- One bit of the CRC-8 of SMBus, polynomial x^8 + x^2 + x + 1. -/
def pecBit (c : Nat) : Nat := if 128 ≤ c then (2 * c % 256) ^^^ 7 else 2 * c

/-- PEC over the bytes of a transaction. -/
def pec (b : Bytes) : Byte :=
  BitVec.ofNat 8 (b.foldl (fun c x => (List.range 8).foldl (fun c _ => pecBit c) (c ^^^ x.toNat)) 0)

def addrByte (addr : Nat) (rd : Bool) : Byte := BitVec.ofNat 8 (2 * addr + rd.toNat)

/-! ## Matching and bookkeeping (R853, R854, R878, R879, Table SMB-6) -/

/-- The slot, 0 to 3, or the group, 4, that an address matches. -/
def State.smbMatch (s : State) (addr : Nat) : Option Nat :=
  let base := s.fld Reg.SMB_CFG 6 0
  if base ≤ addr ∧ addr ≤ base + 3 then some (addr - base)
  else if s.bit Reg.SMB_CFG 23 && (addr ^^^ s.fld Reg.SMB_CFG 14 8) &&& s.fld Reg.SMB_CFG 22 16 == 0 then some 4
  else none

/-- The transaction is over: nothing is stretched, and SMB_LAST records it with RESULT, ADDRESS, COMMAND and MATCH. -/
def State.smbEnd (s : State) (addr cmd m result : Nat) : State :=
  let s := (s.setb Reg.SMB_STAT 31 false).setb Reg.SMB_STAT 29 false
  s.wr Reg.SMB_LAST (BitVec.ofNat 32 (2 ^ 31 + result * 2 ^ 28 + addr % 128 * 2 ^ 16 + cmd % 256 * 2 ^ 8 + m))

/-- An address is matched: in DEEP_NAP the match wakes the device, unless it has been seen already. -/
def State.smbAwake (s : State) : State :=
  if s.fld Reg.PWR_STAT 2 0 = 3 ∧ !s.pwr.exiting then (s.raise 503).wakeBy 4 else s

/-- The target is on the bus: it runs, not in STANDBY, and VDDIO_B is powered (R949). -/
def State.smbOn (s : State) : Bool := s.pwr.mainUp && s.boot.ioB

/-- The target acknowledges an address: it is on the bus, and slot or group matches. -/
def State.smbOpen (s : State) (addr : Nat) : Option (State × Nat) :=
  if s.smbOn then (s.smbMatch addr).map fun m => (s.smbAwake, m) else none

/-- A NACK that ends a transaction without effect. -/
def State.smbRefuse (s : State) (t : SmbTx) (code m result : Nat) : State := (s.emit .smbusNack).smbEnd t.addr code m result

/-- A code on match `m` is not served: the group serves ALERT_MASK alone, and Run codes wait for step 6 (R856, R858). -/
def State.smbBars (s : State) (code m : Nat) (run : Bool) : Bool := (m == 4 && code != 0x04) || (run && !s.runServed)

/-! ## Reads (R858, R859, R863) -/

/-- The read phase: `body` with PEC where the host asks for it. -/
def State.smbSend (s : State) (t : SmbTx) (code m : Nat) (body : Bytes) : State :=
  let all := [addrByte t.addr false, BitVec.ofNat 8 code] ++ t.data ++ [addrByte t.addr true] ++ body
  (s.emit (.smbus (body ++ if t.ack then [pec all] else []))).smbEnd t.addr code m 0

/-- A block with its count byte. -/
def smbBlock (b : Bytes) : Bytes := BitVec.ofNat 8 b.length :: b

/-- A read command; `form` frames the value. -/
def State.smbReadAs (s : State) (form : Bytes → Bytes) (t : SmbTx) (code : Nat) (run : Bool) (v : State → Bytes) : Result :=
  match s.smbOpen t.addr with
  | none => .next s
  | some (s, m) =>
    if s.smbBars code m run || !t.data.isEmpty then .next (s.smbRefuse t code m 1)
    else if !t.read then .next ((s.emit (.smbus [])).smbEnd t.addr code m 0)
    else .next (s.smbSend t code m (form (v s)))

/-- Block Read. -/
def State.smbRead (s : State) (t : SmbTx) (code : Nat) (run : Bool) (v : State → Bytes) : Result :=
  s.smbReadAs smbBlock t code run v

/-- ALERT_STAT (code 0x02, Read Byte, Boot): MASK and PENDING. -/
def execAlertStat (t : SmbTx) (s : State) : Result :=
  s.smbReadAs id t 0x02 false fun s => [BitVec.ofNat 8 (s.fld Reg.SMB_ALERT 7 0)]

/-- STATUS (code 0x00, Boot). -/
def execStatus (t : SmbTx) (s : State) : Result := s.smbRead t 0x00 false fun s => (s.viewBe Reg.LCY_STATE 1 ++ s.viewBe Reg.BOOT_STAT 1) ++ (s.viewBe Reg.WRLD_STAT 1 ++ s.viewBe Reg.BLOT_STAT 1)

/-- IDENT (code 0x01, Boot). -/
def execIdent (t : SmbTx) (s : State) : Result := s.smbRead t 0x01 false fun s => s.viewBe8 Reg.BOOT_SERIAL ++ s.viewBe Reg.BOOT_IDENT 1 ++ beBytes 4 0x1B960C4B

/-- LCY_STATE (code 0x10, Boot). -/
def execLcyState (t : SmbTx) (s : State) : Result := s.smbRead t 0x10 false fun s => s.viewBe Reg.LCY_STATE 1

/-- LCY_WORD (code 0x11, Boot). -/
def execLcyWord (t : SmbTx) (s : State) : Result := s.smbRead t 0x11 false fun s => s.viewBe8 Reg.LCY_WORD

/-- LCY_RESULT (code 0x12, Boot). -/
def execLcyResult (t : SmbTx) (s : State) : Result := s.smbRead t 0x12 false fun s => s.viewBe Reg.LCY_RESULT 1

/-- LCY_RIGHTS (code 0x13, Boot). -/
def execLcyRights (t : SmbTx) (s : State) : Result := s.smbRead t 0x13 false fun s => s.viewBe Reg.LCY_RIGHTS 1

/-- LCY_DEBUG_COUNT (code 0x14, Boot). -/
def execLcyDebugCount (t : SmbTx) (s : State) : Result := s.smbRead t 0x14 false fun s => s.viewBe Reg.LCY_DEBUG_COUNT 1

/-- BOOT_STAT (code 0x18, Boot). -/
def execBootStat (t : SmbTx) (s : State) : Result := s.smbRead t 0x18 false fun s => s.viewBe Reg.BOOT_STAT 1

/-- BOOT_TIME (code 0x19, Boot). -/
def execBootTime (t : SmbTx) (s : State) : Result := s.smbRead t 0x19 false fun s => s.viewBe Reg.BOOT_TIME 1

/-- BOOT_SERIAL (code 0x1A, Boot). -/
def execBootSerial (t : SmbTx) (s : State) : Result := s.smbRead t 0x1A false fun s => s.viewBe8 Reg.BOOT_SERIAL

/-- BOOT_IDENT (code 0x1B, Boot). -/
def execBootIdent (t : SmbTx) (s : State) : Result := s.smbRead t 0x1B false fun s => s.viewBe Reg.BOOT_IDENT 1

/-- BOOT_IMG_STAT (code 0x1C, Boot). -/
def execBootImgStat (t : SmbTx) (s : State) : Result := s.smbRead t 0x1C false fun s => s.viewBe Reg.BOOT_IMG_STAT 1

/-- BOOT_FLOOR_OTP (code 0x1D, Boot). -/
def execBootFloorOtp (t : SmbTx) (s : State) : Result := s.smbRead t 0x1D false fun s => s.viewBe Reg.BOOT_FLOOR_OTP 1

/-- BOOT_SIGNER (code 0x1E, Boot). -/
def execBootSigner (t : SmbTx) (s : State) : Result := s.smbRead t 0x1E false fun s => s.viewBe Reg.BOOT_SIGNER 1

/-- DUCT_STAT (code 0x20, Boot). -/
def execDuctStat (t : SmbTx) (s : State) : Result := s.smbRead t 0x20 false fun s => s.viewBe Reg.DUCT_STAT 1

/-- DUCT_CONFIG_ID (code 0x21, Run). -/
def execDuctConfigId (t : SmbTx) (s : State) : Result := s.smbRead t 0x21 true fun s => s.viewBe Reg.DUCT_CONFIG_ID 1

/-- DUCT_CONFIG_REV (code 0x22, Run). -/
def execDuctConfigRev (t : SmbTx) (s : State) : Result := s.smbRead t 0x22 true fun s => s.viewBe Reg.DUCT_CONFIG_REV 1

/-- DUCT_VERSION (code 0x23, Run). -/
def execDuctVersion (t : SmbTx) (s : State) : Result := s.smbRead t 0x23 true fun s => s.viewBe Reg.DUCT_VERSION 1

/-- WRLD_STAT (code 0x28, Boot). -/
def execWrldStat (t : SmbTx) (s : State) : Result := s.smbRead t 0x28 false fun s => s.viewBe Reg.WRLD_STAT 1

/-- WRLD_CFG (code 0x29, Run). -/
def execWrldCfg (t : SmbTx) (s : State) : Result := s.smbRead t 0x29 true fun s => s.viewBe Reg.WRLD_CFG 1

/-- WRLD_FAIL_TIME (code 0x2A, Run). -/
def execWrldFailTime (t : SmbTx) (s : State) : Result := s.smbRead t 0x2A true fun s => s.viewBe8 Reg.WRLD_FAIL_TIME

/-- WRLD_READY_TIME (code 0x2B, Run). -/
def execWrldReadyTime (t : SmbTx) (s : State) : Result := s.smbRead t 0x2B true fun s => s.viewBe8 Reg.WRLD_READY_TIME

/-- RSV_STAT (code 0x30, Run). -/
def execRsvStat (t : SmbTx) (s : State) : Result := s.smbRead t 0x30 true fun s => s.viewBe Reg.RSV_STAT 1

/-- CUST_STAT (code 0x31, Run). -/
def execCustStat (t : SmbTx) (s : State) : Result := s.smbRead t 0x31 true fun s => s.viewBe Reg.CUST_STAT 1

/-- ENT_STAT (code 0x32, Run). -/
def execEntStat (t : SmbTx) (s : State) : Result := s.smbRead t 0x32 true fun s => s.viewBe Reg.ENT_STAT 1

/-- PORT_STAT (code 0x38, Run). -/
def execPortStat (t : SmbTx) (s : State) : Result := s.smbRead t 0x38 true fun s => s.viewBe (Reg.PORT_STAT 0) 1 ++ s.viewBe (Reg.PORT_STAT 1) 1

/-- BLOT_STAT (code 0x40, Boot). -/
def execBlotStat (t : SmbTx) (s : State) : Result := s.smbRead t 0x40 false fun s => s.viewBe Reg.BLOT_STAT 1

/-- BLOT_CAUSE (code 0x41, Boot). -/
def execBlotCause (t : SmbTx) (s : State) : Result := s.smbRead t 0x41 false fun s => s.viewBe Reg.BLOT_CAUSE 1

/-- BLOT_ACTIVE (code 0x42, Boot). -/
def execBlotActive (t : SmbTx) (s : State) : Result := s.smbRead t 0x42 false fun s => s.viewBe Reg.BLOT_ACTIVE 1

/-- BLOT_ALARM (code 0x43, Boot). -/
def execBlotAlarm (t : SmbTx) (s : State) : Result := s.smbRead t 0x43 false fun s => s.viewBe Reg.BLOT_ALARM 1

/-- BLOT_ALARM_ACTIVE (code 0x44, Boot). -/
def execBlotAlarmActive (t : SmbTx) (s : State) : Result := s.smbRead t 0x44 false fun s => s.viewBe Reg.BLOT_ALARM_ACTIVE 1

/-- BLOT_TIME (code 0x45, Boot). -/
def execBlotTime (t : SmbTx) (s : State) : Result := s.smbRead t 0x45 false fun s => s.viewBe8 Reg.BLOT_TIME

/-- BLOT_OPSEC (code 0x46, Boot). -/
def execBlotOpsec (t : SmbTx) (s : State) : Result := s.smbRead t 0x46 false fun s => s.viewBe8 Reg.BLOT_OPSEC

/-- BLOT_PCC (code 0x47, Boot). -/
def execBlotPcc (t : SmbTx) (s : State) : Result := s.smbRead t 0x47 false fun s => s.viewBe Reg.BLOT_PCC 1

/-- BLOT_NEAR (code 0x48, Boot). -/
def execBlotNear (t : SmbTx) (s : State) : Result := s.smbRead t 0x48 false fun s => s.viewBe (Reg.BLOT_NEAR 0) 8

/-- BLOT_MESH_NEAR (code 0x49, Boot). -/
def execBlotMeshNear (t : SmbTx) (s : State) : Result := s.smbRead t 0x49 false fun s => s.viewBe Reg.BLOT_MESH_NEAR 1

/-- BLOT_SENSE (code 0x4A, Boot). -/
def execBlotSense (t : SmbTx) (s : State) : Result := s.smbRead t 0x4A false fun s => s.viewBe Reg.BLOT_SENSE 1

/-- COLO_STAT (code 0x50, Run). -/
def execColoStat (t : SmbTx) (s : State) : Result := s.smbRead t 0x50 true fun s => s.viewBe Reg.COLO_STAT 1

/-- COLO_OPSEC (code 0x51, Run). -/
def execColoOpsec (t : SmbTx) (s : State) : Result := s.smbRead t 0x51 true fun s => s.viewBe8 Reg.COLO_OPSEC

/-- COLO_PCC (code 0x52, Run). -/
def execColoPcc (t : SmbTx) (s : State) : Result := s.smbRead t 0x52 true fun s => s.viewBe Reg.COLO_PCC 1

/-- COLO_NEXT_CLOSE (code 0x53, Run). -/
def execColoNextClose (t : SmbTx) (s : State) : Result := s.smbRead t 0x53 true fun s => s.viewBe8 Reg.COLO_NEXT_CLOSE

/-- PROOF_STAT (code 0x58, Run). -/
def execProofStat (t : SmbTx) (s : State) : Result := s.smbRead t 0x58 true fun s => s.viewBe Reg.PROOF_STAT 1

/-- PROOF_BOOT (code 0x59, Run). -/
def execProofBoot (t : SmbTx) (s : State) : Result := s.smbRead t 0x59 true fun s => s.viewBe Reg.PROOF_BOOT 1

/-- MEM_STAT (code 0x5C, Run). -/
def execMemStat (t : SmbTx) (s : State) : Result := s.smbRead t 0x5C true fun s => s.viewBe Reg.MEM_STAT 1

/-- MEM_ECC (code 0x5D, Run). -/
def execMemEcc (t : SmbTx) (s : State) : Result := s.smbRead t 0x5D true fun s => s.viewBe (Reg.MEM_ECC 0) 5

/-- MEM_WIPE_STAT (code 0x5E, Run). -/
def execMemWipeStat (t : SmbTx) (s : State) : Result := s.smbRead t 0x5E true fun s => s.viewBe Reg.MEM_WIPE_STAT 1

/-- A bus timeout or protocol breach: counted in bits `hi` to `lo` of SMB_ERRCNT, event 500 (R875, R876). -/
def State.smbFault (s : State) (addr cmd hi lo result : Nat) : State :=
  let s := (s.incSat Reg.SMB_ERRCNT hi lo).raise 500
  let s := (s.setb Reg.SMB_STAT 31 false).setb Reg.SMB_STAT 29 false
  match s.smbMatch addr with
  | some m => s.smbEnd addr cmd m result
  | none => if addr = 0x0C then s.smbEnd addr 0 5 result else s

/-! ## Process calls (R860, R862, R864, R866) -/

/-- A process call with `n` argument bytes; `v` answers them, and none is a block of count 0. A write phase that a STOP cuts short is a
protocol breach (R876). -/
def State.smbCall (s : State) (t : SmbTx) (code n : Nat) (v : Nat → State → State × Bytes) : Result :=
  match s.smbOpen t.addr with
  | none => .next s
  | some (s, m) =>
    let c := (t.data.headD 0).toNat
    let arg := t.data.drop 1
    if s.smbBars code m true then .next (s.smbRefuse t code m 1)
    else if n < c ∨ c < arg.length then .next (s.smbRefuse t code m 3)
    else if !t.read then .next (if arg.length < c then s.smbFault t.addr code 15 8 4 else (s.emit (.smbus [])).smbEnd t.addr code m 0)
    else if c = 0 then .next (s.smbSend t code m [0])
    else
      let r := v (beAt arg 0 n) s
      .next (r.1.smbSend t code m (smbBlock r.2))

/-- SVC_EK (code 0x3A). -/
def execSvcEk (t : SmbTx) (s : State) : Result :=
  s.smbCall t 0x3A 1 fun c s => (s, if c ≤ 6 then s.regBytes (Reg.PORT_SVC_EK 0 + 224 * c) 224 else [])

/-- COLO_PAGE (code 0x54): page in [11:3] of the argument, chunk in [2:0] (R795). -/
def execColoPage (x : FoundTx) (s : State) : Result :=
  s.smbCall x.tx 0x54 2 fun a s =>
    if a < 4096 then
      let o := 1024 * (a / 8) + 128 * (a % 8)
      (s.mramFind 31 o x.find, s.mram o 128)
    else (s, [])

/-- COLO_LIVE (code 0x55): chunk 0 first takes the target's own copy. -/
def execColoLive (t : SmbTx) (s : State) : Result :=
  s.smbCall t 0x55 1 fun c s =>
    let s := if c = 0 then
        let (free, s) := s.freshBytes 12
        { s with colo := { s.colo with liveB := s.recordBody free ++ zeros 4 } }
      else s
    (s, if c ≤ 7 then slice s.colo.liveB (128 * c) 128 else [])

/-- Source `n` is routed to SMBALERT#. -/
def State.alertRouted (s : State) (n : Nat) : Bool := routeTarget (s.rd (Reg.EVT_ROUTE n)) == 4

/-- EVT_STATUS (code 0x60). -/
def execEvtStatus (t : SmbTx) (s : State) : Result :=
  s.smbCall t 0x60 1 fun g s =>
    let w := (List.range 32).foldl (fun w i => if s.evtStatus (32 * g + i) && s.alertRouted (32 * g + i) then w + 2 ^ i else w) 0
    (s, if g < 16 then beBytes 4 w else [])

/-! ## Writes (R861 to R863, R867 to R869) -/

/-- A PEC byte is wrong or missing. -/
def State.pecFail (s : State) : State := (s.incSat Reg.SMB_ERRCNT 23 16).raiseLimited 501

/-- What ends a write whose command needs `need` bytes: the state unchanged but for the failure, with a RESULT. -/
def State.smbWriteCheck (s : State) (t : SmbTx) (code m need : Nat) : Option (State × Nat) :=
  match t.data.drop need with
  | [] => if m < 4 ∧ s.bit Reg.SMB_CFG (24 + m) then some (s.pecFail, 2) else none
  | [p] => if p = pec ([addrByte t.addr false, BitVec.ofNat 8 code] ++ t.data.take need) then none
      else some (s.pecFail.emit .smbusNack, 2)
  | _ => some (s.emit .smbusNack, 3)

/-- A write command that has passed its checks so far: it needs `need` bytes and then performs `f`. -/
def State.smbWrite (s : State) (t : SmbTx) (code m need : Nat) (f : State → State) : Result :=
  match s.smbWriteCheck t code m need with
  | some (s, r) => .next (s.smbEnd t.addr code m r)
  | none => .next (((f s).emit (.smbus [])).smbEnd t.addr code m 0)

/-- MASK is written by the BMC; source 502 if it changes (R867, R873, Table SMB-7). -/
def State.setAlertMask (s : State) (v : Nat) : State :=
  let old := s.fld Reg.SMB_ALERT 7 4
  let s := State.driveAlert s.alertAsserted (s.setf Reg.SMB_ALERT 7 4 v)
  if old = v then s else s.raise 502

/-- ALERT_MASK (code 0x04, Write Byte, Boot), also on the group (R856). -/
def execAlertMask (t : SmbTx) (s : State) : Result :=
  match s.smbOpen t.addr with
  | none => .next s
  | some (s, m) =>
    match t.data with
    | [] => if t.read then .next (s.smbRefuse t 0x04 m 1) else .next ((s.emit (.smbus [])).smbEnd t.addr 0x04 m 0)
    | v :: _ =>
      if t.read || decide (16 ≤ v.toNat) then .next (s.smbRefuse t 0x04 m 1)
      else s.smbWrite t 0x04 m 1 fun s => s.setAlertMask v.toNat

/-- Clear the status bits of group `g` in `mask` that are routed to SMBALERT# (R866). -/
def State.evtClear (s : State) (g mask : Nat) : State :=
  (List.range 32).foldl (fun s i =>
    if decide (g < 16) && mask.testBit i && s.alertRouted (32 * g + i) then s.dropEvt (32 * g + i) else s) s

/-- EVT_CLEAR (code 0x61, Block Write, Run): group, then mask. A block cut short is a protocol breach (R876). -/
def execEvtClear (t : SmbTx) (s : State) : Result :=
  match s.smbOpen t.addr with
  | none => .next s
  | some (s, m) =>
    let c := (t.data.headD 0).toNat
    let b := (t.data.drop 1).take c
    if s.smbBars 0x61 m true || t.read then .next (s.smbRefuse t 0x61 m 1)
    else if t.data.isEmpty then .next ((s.emit (.smbus [])).smbEnd t.addr 0x61 m 0)
    else if 5 < c then .next (s.smbRefuse t 0x61 m 3)
    else if b.length < c then .next (s.smbFault t.addr 0x61 15 8 4)
    else s.smbWrite t 0x61 m (1 + c) fun s => s.evtClear (beAt b 0 1) (beAt b 1 4)

/-- The codes of Table SMB-2; true for Run. -/
def smbCodes : List (Nat × Bool) :=
  [(0x00, false), (0x01, false), (0x02, false), (0x04, false)] ++ (List.range 5).map (fun i => (0x10 + i, false)) ++
  (List.range 7).map (fun i => (0x18 + i, false)) ++ [(0x20, false), (0x21, true), (0x22, true), (0x23, true), (0x28, false)] ++
  [0x29, 0x2A, 0x2B, 0x30, 0x31, 0x32, 0x38, 0x3A].map (fun c => (c, true)) ++ (List.range 11).map (fun i => (0x40 + i, false)) ++
  [0x50, 0x51, 0x52, 0x53, 0x54, 0x55, 0x58, 0x59, 0x5C, 0x5D, 0x5E, 0x60, 0x61].map fun c => (c, true)

/-- UNLISTED_COMMAND_CODE (R856, R858): a code that is not served is NACKed at the command byte. -/
def execUnlistedCommandCode (code : Nat) (t : SmbTx) (s : State) : Result :=
  match s.smbOpen t.addr with
  | none => .next s
  | some (s', m) =>
    let bars := match smbCodes.find? fun e => e.1 == code with
      | none => true
      | some e => s'.smbBars code m e.2
    .next (if bars then s'.smbRefuse t code m 1 else s)

/-- QUICK_COMMAND (R857): acknowledged, with no effect; the group only with R/W 0 (R856). -/
def execQuickCommand (addr : Nat) (rw : Bool) (s : State) : Result :=
  match s.smbOpen addr with
  | none => .next s
  | some (s, m) => .next (if m == 4 && rw then s.emit .smbusNack else (s.emit (.smbus [])).smbEnd addr 0 m 0)

/-! ## The Alert Response Address (R871, R872) -/

/-- ALERT_RESPONSE: the lowest pending unmasked slot answers; PENDING clears unless arbitration is lost, or the hardware has set it in
this cycle (Table SMB-4). -/
def execAlertResponse (lost ack : Bool) (s : State) : Result :=
  if !s.smbOn then .next s
  else match (List.range 4).find? fun i => s.bit Reg.SMB_ALERT i && !s.bit Reg.SMB_ALERT (4 + i) with
    | none => .next s.smbAwake
    | some i =>
      let s := s.smbAwake
      let r := addrByte (s.fld Reg.SMB_CFG 6 0 + i) false
      if lost then .next (s.smbEnd 0x0C 0 5 0)
      else
        let s := State.driveAlert s.alertAsserted (s.w1c Reg.SMB_ALERT (BitVec.ofNat 32 (2 ^ i)))
        .next ((s.emit (.smbus (r :: if ack then [pec [addrByte 0x0C true, r]] else []))).smbEnd 0x0C 0 5 0)

/-! ## Bus faults and wake (R875, R876, R878 to R880) -/

/-- SMB_CLOCK_TIMEOUT (R875): SMBCLK held low too long in a transaction to `addr`. -/
def execSmbClockTimeout (addr cmd : Nat) (s : State) : Result :=
  if s.smbOn then .next (s.smbFault addr cmd 31 24 5) else .next s

/-- SMB_PROTOCOL_BREACH (R876). -/
def execSmbProtocolBreach (addr cmd : Nat) (s : State) : Result :=
  if s.smbOn then .next (s.smbFault addr cmd 15 8 4) else .next s

/-- SMB_ADDRESS_MATCH (R878 to R880): slot, group or Alert Response Address. In DEEP_NAP the target holds SMBCLK low until
CLK_PER runs; in STANDBY it does not acknowledge, and the exit starts. -/
def execSmbAddressMatch (addr : Nat) (x : BootIn) (s : State) : Result :=
  if (s.smbMatch addr).isNone && addr != 0x0C then .next s
  else match s.fld Reg.PWR_STAT 2 0 with
    | 3 => if !s.boot.ioB then .next s else .next ((((s.setb Reg.SMB_STAT 31 true).setb Reg.SMB_STAT 29 true).raise 503).wakeBy 4)
    | 4 => if s.mayStart && x.ioB then .next ((s.standbyExit 4 x).raise 503) else .next s
    | _ => .next s

/-- SMB_STRETCH_LIMIT (R879): CLK_PER has not run within 1.5 ms of the match. -/
def execSmbStretchLimit (addr : Nat) (s : State) : Result :=
  if s.bit Reg.SMB_STAT 29 then
    let m := (s.smbMatch addr).getD 5
    .next (((s.incSat Reg.SMB_ERRCNT 7 0).emit .smbusNack).smbEnd addr 0 m 6)
  else .next s

end Sys2Proof.Machine
end

