-- ==== Sys2Proof/Machine/Mailbox.lean ====
section
/-! DEFINITION. Chapter 12, the Scribe mailbox: its doorbell, and the commands of Table HST-8 as the Scribe runtime serves
them. -/

namespace Sys2Proof.Machine

/-! ## The request (Table HST-6) -/

def State.mbxCmd (s : State) : Nat := leAt (s.scrbBytes 0 2) 0 2
def State.mbxTag (s : State) : Nat := leAt (s.scrbBytes 4 4) 0 4
def State.mbxLen (s : State) : Nat := leAt (s.scrbBytes 8 4) 0 4
def State.mbxInAddr (s : State) : Nat := leAt (s.scrbBytes 0x10 8) 0 8
def State.mbxInLen (s : State) : Nat := leAt (s.scrbBytes 0x18 4) 0 4
def State.mbxOutAddr (s : State) : Nat := leAt (s.scrbBytes 0x20 8) 0 8
def State.mbxOutLen (s : State) : Nat := leAt (s.scrbBytes 0x28 4) 0 4
def State.mbxPayload (s : State) : Bytes := s.scrbBytes 0x30 s.mbxLen

/-- The command codes of Table HST-8. -/
def mbxCodes : List Nat :=
  [0x0301, 0x0302, 0x0303, 0x0001, 0x0002, 0x0003, 0x0004, 0x0101, 0x0102, 0x0401, 0x0402, 0x0403, 0x0501, 0x0502, 0x0503,
   0x0601, 0x0701]

/-- Reserved fields of the header are 0. -/
def State.mbxReservedOk (s : State) : Bool :=
  leAt (s.scrbBytes 2 2) 0 2 == 0 && leAt (s.scrbBytes 0xC 4) 0 4 == 0 && leAt (s.scrbBytes 0x1C 4) 0 4 == 0 &&
    leAt (s.scrbBytes 0x2C 4) 0 4 == 0

/-- LEN and IN_LEN are within the bounds of Table HST-6. -/
def State.mbxLengthOk (s : State) : Bool := decide (s.mbxLen ≤ 4048 ∧ s.mbxInLen ≤ 2 ^ 22)

/-- The response remembered for the request's TAG and CMD: status and DETAIL (R527). -/
def State.mbxSeen (s : State) : Option (Nat × Nat) :=
  (s.host.replies.find? fun r => r.1 == s.mbxTag && r.2.1 == s.mbxCmd).map (·.2.2)

/-- A request stands in the buffer that the Scribe runtime has not answered and serves now (R525, R526). -/
def State.mbxPending (s : State) : Bool :=
  s.bit Reg.FOL_SCRB_CTL 30 && !s.host.rspReady && s.serve (s.mbxCmd / 256 % 8) == .now

/-- The Scribe runtime serves the request as command `cmd`. -/
def State.mbxServes (s : State) (cmd : Nat) : Bool :=
  s.mbxPending && !s.host.mbxWait && s.mbxCmd == cmd && s.mbxSeen.isNone && s.mbxReservedOk && s.mbxLengthOk

/-- A response without payload or bulk output. -/
def State.mbxEnd (s : State) (status detail : Nat) : State := s.scrbRespond status detail 0 []

/-- A response that reports the code of a command of its own: DENIED where it is not 0. -/
def State.mbxCode (s : State) (code : Nat) : State := s.mbxEnd (if code = 0 then St.ok else St.denied) code

/-- The command being served meets a transfer that has to wait. -/
def State.mbxHold (s : State) : State := { s with host := { s.host with mbxWait := true } }

/-- Serve command `cmd`, whose payload has at least `n` bytes (R524). A command one of whose transfers has to wait leaves nothing
but the Translation Requests it has sent (R496, R509, log entry 62). -/
def State.mbxRun (s : State) (cmd n : Nat) (k : Bytes → State) : State :=
  if !s.mbxServes cmd then s
  else if s.mbxLen < n then s.mbxEnd St.badLength 0
  else if (k s.mbxPayload).host.mbxWait then s.xlWait (k s.mbxPayload)
  else (k s.mbxPayload).readOver .mailbox

/-! ## Bulk data: DMA of the Scribe runtime under folio 0 (R508, R524, R528) -/

/-- A transfer of the mailbox that did not go through ends the command with its status, or has to wait. -/
def State.mbxStop (s : State) (e written : Nat) : State :=
  if e = St.wait then s.mbxHold else s.scrbRespond e 0 written []

/-- Read the bulk input, of at least `n` bytes, and go on with it. It waits for Bus Master Enable (R496). -/
def State.mbxBulk (s : State) (m : HostMem) (n : Nat) (k : State → Bytes → State) : State :=
  if s.mbxInLen < n then s.mbxEnd St.badLength 0
  else if !s.host.busMaster then s.mbxHold
  else match s.hostRead m (scribeCtx .mailbox) s.mbxInAddr s.mbxInLen with
    | (s, b, none) => k s b
    | (s, _, some e) => s.mbxStop e 0

/-- Bulk output of `n` bytes fits OUT_LEN (R524). -/
def State.mbxRoom (s : State) (n : Nat) : Bool := decide (n ≤ s.mbxOutLen)

/-- Write the bulk output and respond. -/
def State.mbxOut (s : State) (b : Bytes) : State :=
  if !s.host.busMaster then s.mbxHold
  else match s.hostWrites (scribeCtx .mailbox) (splitPages s.writeMax s.mbxOutAddr b.length) b with
    | (s, n, none) => s.scrbRespond St.ok 0 n []
    | (s, n, some e) => s.mbxStop e n

/-- Put input in SRAM where it lies there, through its unit (R276), and go on; a command refuses an address that does not. -/
def State.mbxPut (s : State) (a : Nat) (b : Bytes) (k : State → State) : State :=
  if !inSram a b.length then k s
  else match s.ruleRanges [(a, b.length, .write)] with
    | (s, true) => k (s.keyWrite a b)
    | (s, false) => s.mbxEnd St.badAddress 0

/-- Read the ranges of SRAM that hold the output, in order; none where one is refused or poisoned. -/
def State.mbxGet (s : State) (rs : List (Nat × Nat)) : State × Option Bytes :=
  rs.foldl (fun (x : State × Option Bytes) r => match x.2 with
    | none => x
    | some b =>
      let y := x.1.scribeRead r.1 r.2
      (y.1, y.2.map (b ++ ·))) (s, some [])

/-- Respond with the code of a CUST or Reservoir command that has run, and with the ranges `out` where it is OK; the request stays
where the command could not run yet. -/
def State.mbxAfter (s : State) (r : Option (State × Nat)) (out : List (Nat × Nat)) : State :=
  match r with
  | none => s.mbxHold
  | some (t, 0) =>
    if sglTotal out = 0 then t.mbxEnd St.ok 0
    else match t.mbxGet (out.filter fun r => r.2 != 0) with
      | (t, some b) => t.mbxOut b
      | (t, none) => t.mbxEnd St.badAddress 0
  | some (t, code) => t.mbxCode code

/-! ## Doorbell (R525 to R527, R928) -/

/-- SCRIBE_MAILBOX_REQ (R525, R526): the Manager sets REQ. -/
def execScribeMailboxReq (s : State) : Result :=
  if s.fld Reg.FOL_SCRB_CTL 31 29 ≠ 0 then .next s
  else
    let s := (s.setb Reg.FOL_SCRB_CTL 31 true).setb Reg.FOL_SCRB_CTL 30 true
    .next (State.mailboxAbsent { s with host := { s.host with rspReady := false } })

/-- What the runtime answers without running a command: a repeated request, one that breaks the header's form, and one whose
code Table HST-8 does not list (R524, R527). -/
def State.mbxRefuse (s : State) : State :=
  match s.mbxSeen with
  | some (status, detail) =>
    let t := s.scrbRespond St.duplicate status 0 (leBytes 4 detail)
    { t with host := { t.host with replies := s.host.replies } }
  | none =>
    if !s.mbxReservedOk || !mbxCodes.contains s.mbxCmd then s.mbxEnd St.badOpcode 0
    else if !s.mbxLengthOk then s.mbxEnd St.badLength 0
    else s

/-- SCRIBE_MAILBOX_RSP (R525, R928): the response is in the buffer and RSP is set. -/
def execScribeMailboxRsp (s : State) : Result :=
  let s := if s.mbxPending then s.mbxRefuse else s
  .next (if s.bit Reg.FOL_SCRB_CTL 30 && s.host.rspReady then s.scrbDone else s)

/-! ## Folios and access lists (R505, R515 to R517, R538) -/

/-- The vectors of folio `f`: first and count. -/
def State.vectors (s : State) (f : Nat) : Nat × Nat := (s.fld (Reg.FOL_VEC f) 24 16, s.fld (Reg.FOL_VEC f) 9 0)

/-- The first check of R505 that fails. -/
def State.folioCheck (s : State) (f : Nat) : Option Nat :=
  let others := (List.range 64).filter fun g => g != f && s.folioState g != 0
  let v := s.vectors f
  let ps := s.folPasids f
  if s.folioState f ≠ 0 then some 1
  else if 64 ≤ f ∨ (s.maxRings f = 0 ∧ s.maxSlots f = 0) then some 2
  else if f ≠ 0 ∧ (ps.isEmpty ∨ s.bit (Reg.FOL_CFG f) 0) then some 3
  else if !noRepeat ps ∨ others.any (fun g => (s.folPasids g).any ps.contains) then some 4
  else if 512 < v.1 + v.2 ∨
      others.any (fun g => decide (v.1 < (s.vectors g).1 + (s.vectors g).2 ∧ (s.vectors g).1 < v.1 + v.2)) then some 5
  else if s.bit (Reg.FOL_MBX_VEC f) 31 ∧ !s.vectorOf f (s.fld (Reg.FOL_MBX_VEC f) 8 0) then some 6
  else none

/-- FOLIO_CREATE (R505). -/
def execFolioCreate (s : State) : Result :=
  .next (s.mbxRun 0x0301 1 fun p =>
    let f := leAt p 0 1
    if 64 ≤ f then s.mbxEnd St.denied 2
    else match s.folioCheck f with
      | some d => s.mbxEnd St.denied d
      | none => (s.setf (Reg.FOL_CTL f) 2 0 1).mbxEnd St.ok 0)

/-- FOL_ACL_COUNT follows the VALID entries (R542). -/
def State.aclCount (s : State) (f : Nat) : State :=
  s.wr (Reg.FOL_ACL_COUNT f) (BitVec.ofNat 32 ((List.range 64).filter fun i => s.bit (Reg.FOL_ACL f i) 31).length)

/-- The entry of domain `d` in the list of folio `f`. -/
def State.aclFind (s : State) (f d : Nat) : Option Nat :=
  (List.range 64).find? fun i => s.bit (Reg.FOL_ACL f i) 31 && s.fld (Reg.FOL_ACL f i) 15 0 == d

/-- ACL_GRANT (R516); `holds`: the unit holds a domain record for the domain. -/
def execAclGrant (holds : Bool) (s : State) : Result :=
  .next (s.mbxRun 0x0302 4 fun p =>
    let f := leAt p 0 1
    let d := leAt p 2 2
    if 64 ≤ f ∨ (s.folioState f ≠ 1 ∧ s.folioState f ≠ 3) ∨ !holds ∨ s.cust.destroyed.contains d then s.mbxEnd St.denied 0
    else if (s.aclFind f d).isSome then s.mbxEnd St.ok 0
    else match (List.range 64).find? fun i => !s.bit (Reg.FOL_ACL f i) 31 with
      | none => s.mbxEnd St.slotFull 0
      | some i => (((s.wr (Reg.FOL_ACL f i) (BitVec.ofNat 32 (2 ^ 31 + d))).aclCount f).aclChanged f).mbxEnd St.ok 0)

/-- The quota slots of folio `f` that hold keys of domain `d` are erased, or leave until their operations end (R347, R517). -/
def State.eraseFolioDomain (s : State) (f d : Nat) : State :=
  let mine := s.rsv.slots.filter fun q => q.folio == f && (blobHdr q.hdr).domain == d
  mine.foldl (fun s q => if s.slotHeld q then s.leaveSlot q.slot else s.dropSlots (·.slot == q.slot) St.ok) s

/-- ACL_REVOKE (R517, R539). -/
def execAclRevoke (s : State) : Result :=
  .next (s.mbxRun 0x0303 4 fun p =>
    let f := leAt p 0 1
    let d := leAt p 2 2
    if 64 ≤ f then s.mbxEnd St.denied 0
    else match s.aclFind f d with
      | none => s.mbxEnd St.ok 0
      | some i => ((((s.wr (Reg.FOL_ACL f i) 0).aclCount f).aclChanged f).eraseFolioDomain f d).mbxEnd St.ok 0)

/-! ## Ceremonies (R364 to R377) -/

/-- The mask of the rows that MEMBERS names. -/
def memberMask (rows : Bytes) : Word :=
  BitVec.ofNat 32 ((List.range 32).foldl (fun m i => if rows.any (·.toNat == i) then m + 2 ^ i else m) 0)

/-- REQUIRED and MEMBER_MASK of a domain action, where its parameter record gives them: M of QUORUM, and the rows of MEMBERS
(Tables CUS-1, CUS-2); else as the runtime chooses them. -/
def cerSigners (p : Bytes) (required : Nat) (members : Word) : Nat × Word :=
  let a := leAt p 0 1
  (if [1, 4, 5].contains a then paramQuorum p / 16 else required, if [1, 5].contains a then memberMask (paramMembers p) else members)

/-- MBX_CER_OPEN (R364, R369, R390, R524): the runtime chooses the window, and the masks that the parameter record does not give;
its buffers start at `buf`. A revocation that R390 bars is refused; that it reports LIMIT is the model's choice (log entry 58). -/
def execMbxCerOpen (window required : Nat) (members candidates : Word) (buf : Nat) (s : State) : Result :=
  .next (s.mbxRun 0x0001 217 fun p =>
    let params := p.take 216
    let a := leAt params 0 1
    let n := leAt p 216 1
    let ek := if needsEk a then 1568 else 0
    let sign := cerSigners params required members
    if 4 ≤ n then s.mbxEnd St.denied 0x02
    else if !s.mbxRoom (168 + ek) then s.mbxEnd St.badLength 0
    else if s.cerBarred params then s.mbxCode 0x0D
    else
      let arg := BitVec.ofNat 32 (a * 2 ^ 24 + sign.1 % 16 * 2 ^ 20 + paramDomain params)
      s.mbxPut buf params fun s =>
        let t := (s.wr Reg.CUST_WINDOW (BitVec.ofNat 32 (window % 2 ^ 17))).wr Reg.CUST_MEMBERS sign.2
        let t := t.wr Reg.CUST_CANDIDATES candidates
        s.mbxAfter (t.runCust 0x10 n [buf, buf + 0x1000, buf + 0x2000] arg) [(buf + 0x2000, 168), (buf + 0x1000, ek)])

/-- CER_COUNTERSIGN (R377): the record goes to CER_COUNT, and its result to the sender. -/
def execCerCountersign (m : HostMem) (buf : Nat) (s : State) : Result :=
  .next (s.mbxRun 0x0002 0 fun _ => s.mbxBulk m 8844 fun s b =>
    s.mbxPut buf (b.take 8844) fun s => s.mbxAfter (s.runCust 0x11 (leAt b 5 1 % 4) [buf] 0) [])

/-- CER_STATUS (R524). -/
def execCerStatus (s : State) : Result :=
  .next (s.mbxRun 0x0003 1 fun p =>
    let n := leAt p 0 1
    if 4 ≤ n then s.mbxEnd St.denied 0x02
    else s.scrbRespond St.ok 0 0 (leBytes 4 (s.rdn (Reg.CUST_CER_STAT n)) ++ leBytes 4 (s.cerCounted n).toNat))

/-- MBX_CER_CLOSE (R375, R524). -/
def execMbxCerClose (s : State) : Result :=
  .next (s.mbxRun 0x0004 1 fun p =>
    let n := leAt p 0 1
    if 4 ≤ n then s.mbxEnd St.denied 0x02 else s.mbxAfter (s.runCust 0x12 n [] 0) [])

/-- SHARE_DELIVER (R382, R524): the record goes to RESTORE_SHARE for ceremony slot `slot`; the package is at `pkgAt`. -/
def execShareDeliver (m : HostMem) (slot buf pkgAt : Nat) (s : State) : Result :=
  .next (s.mbxRun 0x0101 0 fun _ => s.mbxBulk m 1640 fun s b =>
    s.mbxPut buf (b.take 1640) fun s => s.mbxAfter (s.runCust 0x22 (slot % 4) [buf, pkgAt] 0) [])

/-! ## Domain and device actions (Table CUS-1) -/

/-- Run a Reservoir command of the Scribe runtime's own at once: none where it cannot run or would wait. -/
def State.runRsv (s : State) (op : Nat) (v : Word) : Option (State × Nat) :=
  if s.rsv.cmd.isSome then none
  else
    let s := s.rsvStart op v
    match s.rsv.cmd with
    | none => none
    | some c => match s.rsvRun c with
      | (s, .done code) => some (s.rsvFinish code, code)
      | (_, .wait _) => none

/-- Bulk input an action needs, and the bulk output it produces, in bytes (Tables CUS-6, CUS-7, CUS-9). -/
def actionBulk (p : Bytes) (action : Nat) : Nat × Nat :=
  let n := paramQuorum p % 16
  match action with
  | 1 => (4160 * n, 288 + packageLen n)
  | 2 => (0xC0 + 4160 * n, packageLen n)
  | 4 => (1568, 1712)
  | 5 => (1712, 192)
  | 6 => (0xC0, 192)
  | _ => (0, 0)

/-- DOM_CREATE as the satisfied ceremony of slot `n` gives it (R330, R364). -/
def State.actCreate (s : State) (n buf : Nat) : Option (State × Nat) :=
  let p := (s.cerSlot n).params
  let out := buf + 0x10000
  let s := (s.wr Reg.RSV_ARG (BitVec.ofNat 32 (paramDomain p))).setRegBytes (Reg.RSV_POLICY0 0) (paramPolicy0 p)
  let s := s.setRegBytes (Reg.RSV_POLICY1 0) ((paramPolicy1 p).getD (zeros 48))
  let s := (s.wr Reg.CUST_SUCC_SLOT (BitVec.ofNat 32 (2 ^ 31 + n))).wr64 (Reg.CUST_ADDR 2) (BitVec.ofNat 64 buf)
  let s := ([0, out, out + 192, out + 288].zipIdx).foldl (fun s a => s.wr64 (Reg.RSV_ADDR a.2) (BitVec.ofNat 64 a.1)) s
  s.runRsv 0x02 (BitVec.ofNat 32 (paramQuorum p * 2 ^ 16 + (paramPolicy1 p).isSome.toNat * 2 ^ 9))

/-- DOM_DESTROY (R367): the domain is closed, the flash sectors of its records are erased, its number enters the
destroyed-domain list, and the slot is consumed. -/
def State.actDestroy (s : State) (n : Nat) (sectors : List Nat) : Option (State × Nat) :=
  let d := paramDomain (s.cerSlot n).params
  if s.cerState n ≠ 2 ∨ s.cerAction n ≠ 3 then some (s, 0x14)
  else match (s.wr Reg.RSV_ARG (BitVec.ofNat 32 d)).runRsv 0x07 0 with
    | none => none
    | some (s, code) =>
      if code ≠ 0 ∧ code ≠ 0x06 then some (s, code)
      else
        let r := s.userRegion
        let s := (s.eraseRun none ((sectors.filter fun o => decide (r.1 ≤ o ∧ o < r.2)).map fun o => (o, 4096))).1
        let gone := { s.cust with destroyed := insertNat d s.cust.destroyed, packages := s.cust.packages.filter (·.1 != d) }
        ({ s with cust := gone }).runCust 0x12 n [] 0

/-- After SUCC_BUILD the runtime rewrites the domain record at `recAt` in place with the new QUORUM and its own policies (R381). -/
def State.rewriteQuorum (s : State) (recAt quorum : Nat) : Option (State × Nat) :=
  match s.domRecAt recAt with
  | none => some (s, 0x02)
  | some r =>
    let s := (s.setRegBytes (Reg.RSV_POLICY0 0) r.pol0).setRegBytes (Reg.RSV_POLICY1 0) (r.pol1.getD (zeros 48))
    let s := (s.wr64 (Reg.RSV_ADDR 0) (BitVec.ofNat 64 recAt)).wr64 (Reg.RSV_ADDR 1) (BitVec.ofNat 64 recAt)
    s.runRsv 0x08 (BitVec.ofNat 32 (quorum * 2 ^ 16 + r.pol1.isSome.toNat * 2 ^ 9))

/-- QUORUM_CHANGE: SUCC_BUILD, and then DOM_REWRITE (R381). -/
def State.actQuorum (s : State) (n buf recAt : Nat) : Option (State × Nat) :=
  let q := paramQuorum (s.cerSlot n).params
  match s.runCust 0x20 n [recAt, buf + 0x10000, buf + 0xC0] 0 with
  | some (t, 0) => t.rewriteQuorum recAt q
  | r => r

/-- Action `a` on slot `n`: bulk input at `buf`, output at `buf` + 64 KiB, the domain record at `recAt`. -/
def State.runAction (s : State) (a n buf recAt : Nat) (sectors : List Nat) (otpFail : Option Nat) : Option (State × Nat) :=
  let out := buf + 0x10000
  match a with
  | 1 => s.actCreate n buf
  | 2 => s.actQuorum n buf recAt
  | 3 => s.actDestroy n sectors
  | 4 => s.runCust 0x24 n [recAt, buf, out] 0
  | 5 => s.runCust 0x25 n [buf, out] 0
  | 6 => s.runCust 0x23 n [buf, out] 0
  | 10 => s.runCust 0x01 n [] 0 otpFail
  | 11 => s.runCust 0x02 n [] 0 otpFail
  | _ => s.runCust 0x03 n [] 0 otpFail

/-- DOMAIN_ACTION (R364, R524). -/
def execDomainAction (m : HostMem) (buf recAt : Nat) (sectors : List Nat) (otpFail : Option Nat) (s : State) : Result :=
  .next (s.mbxRun 0x0102 2 fun p =>
    let a := leAt p 0 1
    let n := leAt p 1 1
    if !([1, 2, 3, 4, 5, 6, 10, 11, 12].contains a) then s.mbxEnd St.denied 0x0A
    else if 4 ≤ n then s.mbxEnd St.denied 0x02
    else
      let io := actionBulk (s.cerSlot n).params a
      let run := fun (s : State) =>
        s.mbxAfter (s.runAction a n buf recAt sectors otpFail) [(buf + 0x10000, io.2)]
      if !s.mbxRoom io.2 then s.mbxEnd St.badLength 0
      else if io.1 = 0 then run s
      else s.mbxBulk m io.1 fun s b =>
        s.mbxPut buf b fun s => if a = 2 then s.mbxPut (buf + 0x10000) (b.take 0xC0) run else run s)

/-! ## Live streams (R114 to R126) -/

/-- DUCTUS_LOAD (R114): the stream goes to SRAM at `buf`, where the Scribe runtime loads it; DETAIL is the code that rejects
it. -/
def execDuctusLoad (m : HostMem) (buf : Nat) (s : State) : Result :=
  .next (s.mbxRun 0x0401 0 fun _ => s.mbxBulk m 0 fun s b => s.mbxPut buf b fun s =>
    let n := b.length
    let s := s.wr64 Reg.DUCT_LIVE_ADDR (BitVec.ofNat 64 buf)
    let s := s.wr Reg.DUCT_LIVE_LEN (BitVec.ofNat 32 n)
    if s.duct.loading.isSome then (s.liveLoad buf n).mbxCode Rej.shadowBusy
    else
      let t := s.liveLoad buf n
      if t.duct.loading.isNone then t.mbxCode Rej.shadowBusy
      else match t.liveVerdict buf n with
        | (t, .ok x) => (t.loadOver.liveAccept x).mbxEnd St.ok 0
        | (t, .error c) => (t.loadOver.liveReject c).mbxCode c)

/-- DUCTUS_SWAP (R119, R123): a mask with a bit that no live section has names no section. -/
def execDuctusSwap (s : State) : Result :=
  .next (s.mbxRun 0x0402 2 fun p =>
    let mask := leAt p 0 2
    if mask &&& 0x6C4F ≠ 0 then s.mbxEnd St.badOpcode 0
    else ((s.setf Reg.DUCT_CMD 15 0 mask).ductSwap mask).mbxEnd St.ok 0)

/-- DUCTUS_DISCARD (R126). -/
def execDuctusDiscard (s : State) : Result := .next (s.mbxRun 0x0403 0 fun _ => s.ductDiscard.mbxEnd St.ok 0)

/-! ## Signers and floors (R209, R210, R220) -/

/-- A satisfied ceremony of an action whose INDEX is `i` and whose digests are `a` and `b` (R366). -/
def State.cerFor (s : State) (action i : Nat) (a b : Bytes) : Option Nat :=
  (List.range 4).find? fun n =>
    let p := (s.cerSlot n).params
    s.cerState n == 2 && s.cerAction n == action && paramIndex p == i && paramDigestA p == a && slice p 0x48 48 == b

/-- Consume the ceremony that allows a signer command, where one does. -/
def State.cerSpend (s : State) (n : Option Nat) : State := match n with
  | some n => s.cerFree n
  | none => s

/-- SIGNER_ENROL (R209, R366); `otpFail` is how many digest bits were programmed before one failed verification. -/
def execSignerEnrol (otpFail : Option Nat) (s : State) : Result :=
  .next (s.mbxRun 0x0501 97 fun p =>
    let i := leAt p 0 1
    let hss := slice p 1 48
    let mldsa := slice p 49 48
    let q := s.cerFor 8 i hss mldsa
    if s.life ≠ 3 ∧ s.life ≠ 4 then s.mbxCode 0x12
    else if s.life = 4 ∧ q.isNone then s.mbxCode 0x14
    else if 4 ≤ i ∨ (s.otp.customers.getD i {}).used then s.mbxCode 0x0C
    else
      let row : SignerRow := match otpFail with
        | none => { hss := hss, mldsa := mldsa, enrolled := true }
        | some k => { hss := bitsBelow hss k, mldsa := bitsBelow mldsa (k - 384) }
      let s := { s with otp := { s.otp with customers := s.otp.customers.set i row } }
      (s.cerSpend (if s.life = 4 then q else none)).mbxCode (if otpFail.isSome then 0x10 else 0))

/-- SIGNER_REVOKE (R210, R366); `order` is the revocation order, for the vendor key. -/
def execSignerRevoke (order : Bytes) (otpFail : Bool) (s : State) : Result :=
  .next (s.mbxRun 0x0502 1 fun p =>
    let who := leAt p 0 1
    let vendor := who == 0
    let v := s.otp.vendor
    let row := if vendor then v else s.otp.customers.getD (who % 4) {}
    let q := s.cerFor 9 who (if vendor then sha384 order else zeros 48) (zeros 48)
    if !(vendor || decide (0x80 ≤ who ∧ who < 0x84)) then s.mbxCode 0x0A
    else if s.life ≠ 3 ∧ s.life ≠ 4 then s.mbxCode 0x12
    else if q.isNone then s.mbxCode 0x14
    else if !row.honoured then s.mbxCode 0x0C
    else if vendor && !Config.orderSigned order v.hss v.mldsa then s.mbxCode 0x08
    else if !vendor && s.life == 4 && (s.otp.customers.filter (·.honoured)).length ≤ 1 then s.mbxCode 0x0D
    else
      let s := s.cerSpend q
      if otpFail then s.mbxCode 0x10
      else if vendor then ({ s with otp := { s.otp with vendor := { v with revoked := true } } }).mbxCode 0
      else ({ s with otp := { s.otp with
        customers := s.otp.customers.set (who % 4) { row with revoked := true } } }).mbxCode 0)

/-- FLOOR_RAISE (R220): the runtime writes the image to BOOT_FLOOR_CMD with GO; DETAIL is its RESULT. -/
def execFloorRaise (otpFail : Option Nat) (s : State) : Result :=
  .next (s.mbxRun 0x0503 4 fun p =>
    let v := BitVec.ofNat 32 (leAt p 0 4) ||| 0x80000000#32
    if fieldOf v 25 24 = 3 then s.mbxEnd St.badOpcode 0
    else
      let t := s.floorCmd v otpFail
      t.mbxCode (t.fld Reg.BOOT_FLOOR_CMD 29 28))

/-! ## Handover and time (R660, R39) -/

/-- The PEER entry whose SERIAL names a unit. -/
def State.peerEntry (s : State) (serial : Nat) : Option Nat :=
  (List.range 256).find? fun n => fieldOf (s.tenantWord n) 31 30 == 3 && (s.rd64 (Reg.TENANT_SERIAL n)).toNat == serial

/-- HANDOVER_START (R385, R660): the session to the peer is opened for the satisfied IMPORT ceremony of a slot; `peerEk` is
the peer's service key, as the runtime holds it. -/
def execHandoverStart (peerEk : Bytes) (s : State) : Result :=
  .next (s.mbxRun 0x0601 11 fun p =>
    let domain := leAt p 0 2
    let serial := leAt p 2 8
    let n := leAt p 10 1
    let c := s.cerSlot n
    if 4 ≤ n then s.mbxCode 0x02
    else if s.cerState n ≠ 2 ∨ s.cerAction n ≠ 5 then s.mbxCode 0x14
    else if paramDomain c.params ≠ domain ∨ paramSerial c.params ≠ serial then s.mbxCode 0x0B
    else if s.net.client.isSome then s.mbxCode 0x01
    else match s.peerEntry serial with
      | none => s.mbxCode 0x12
      | some e =>
        if sha384 peerEk ≠ s.tenantDigest e then s.mbxCode 0x08
        else if s.net.svcDk.isEmpty then s.mbxCode 0x11
        else if !s.flourishUp then s.mbxCode 0x0E
        else if !s.drbgReady 0 then s.mbxHold
        else (s.clientStart e n peerEk).mbxCode 0)

/-- MBX_TIME_SET (R39): the runtime loads STIME. -/
def execMbxTimeSet (s : State) : Result :=
  .next (s.mbxRun 0x0701 8 fun p => (s.setTime (BitVec.ofNat 64 (leAt p 0 8))).mbxEnd St.ok 0)

end Sys2Proof.Machine
end

