-- ==== Sys2Proof/Machine/Access.lean ====
section
/-! DEFINITION. Register reads and writes by party, memory accesses through the ruling units, and the commands that make
them: REGISTER_WRITE, CORE_ACCESS, SYSTEM_BUS_ACCESS, HOST_MMIO_ACCESS and DMA_TRANSFER. -/

namespace Sys2Proof.Machine

/-! ## Who accesses -/

/-- Who makes a register access: the party of Table SCO-4, the world and privilege of a core, its bit in Table RUL-3, and
whether the debug module makes it. -/
structure Via where
  party : Party
  world : World
  priv : Priv
  init : Nat
  dbg : Bool
  deriving DecidableEq, Repr

def partyBit : Party → Nat
  | .scribe => P.s
  | .draft => P.d
  | .manager => P.m
  | .tenant _ => P.t
  | .bmc => 16

/-- The register's header names the party (R5). -/
def RegRow.reachedBy (r : RegRow) (p : Party) : Bool := r.parties &&& partyBit p != 0

/-- An access of a party that is no core. -/
def viaParty (p : Party) : Via := ⟨p, if p = .scribe then .scribe else .draft, .m, 31, false⟩

/-- The Draft core that an initiator bit stands for; 255 for another initiator. -/
def Via.core (v : Via) : Nat := if 1 ≤ v.init ∧ v.init ≤ 8 then v.init - 1 else 255

/-- The state after a command's effect. -/
def State.ran (s : State) : Result → State
  | .next t => t
  | _ => s

def valueOf : Output → Option Nat
  | .value n => some n
  | _ => none

/-- Run a command that reads, and take the value it returns out of the record. -/
def State.readBy (s : State) (f : State → Result) : State × Nat :=
  let t := s.ran (f { s with out := [] })
  ({ t with out := s.out ++ t.out.filter fun o => (valueOf o).isNone }, (t.out.findSome? valueOf).getD 0)

/-- Some field of the register takes the party's writes (R5). -/
def RegRow.writableBy (r : RegRow) (p : Party) : Bool := r.flds.any fun f => f.acc != .ro && f.by_ &&& partyBit p != 0

/-! ## Reads -/

/-- The bits of a register word that read as their value (R6, R7). -/
def RegRow.readMask (r : RegRow) : Word :=
  r.flds.foldl (fun m f => if f.acc = .wo then m else m ||| fieldMask f.hi f.lo) 0

/-- COLO_PAGE_SEL: each party has its own copy (Table COL-7). -/
def State.pageSel (s : State) : Party → Nat
  | .scribe => s.colo.selS
  | .draft => s.colo.selD
  | .manager => s.colo.selM
  | _ => 0

def State.setPageSel (s : State) (p : Party) (n : Nat) : State := match p with
  | .scribe => { s with colo := { s.colo with selS := n } }
  | .draft => { s with colo := { s.colo with selD := n } }
  | .manager => { s with colo := { s.colo with selM := n } }
  | _ => s

/-- What a register word shows to a party where reading it changes nothing: a Draft read of a stroke entry that the Scribe
world owns returns 0 (R62), and CON1 is absent while a session holds it back (R846). -/
def State.shown (s : State) (p : Party) (a : Nat) : Word :=
  if a = Reg.COLO_PAGE_SEL then BitVec.ofNat 32 (s.pageSel p)
  else if Reg.CON1_CFG ≤ a ∧ a < Reg.CON1_CFG + 0x10000 ∧ !s.conOpen 1 then Reg.reset a
  else if Reg.STRK_W0 0 ≤ a ∧ a < 0x140018000 ∧ p = .draft ∧
      !s.bit (Reg.STRK_W0 ((a - Reg.STRK_W0 0) / 0x20)) 30 then 0
  else s.view a

/-- A free value of `n` bits. -/
def State.freeNat (s : State) (n : Nat) : State × Nat :=
  let (v, s) := s.freshWord
  (s, v.toNat % 2 ^ n)

/-- Part of a 64-bit value: all of it, or the half at offset `o`. -/
def halfOf (wide : Bool) (o v : Nat) : Nat := if wide then v else v / 2 ^ (8 * o) % 2 ^ 32

/-- Registers whose read acts, or returns what the spec leaves open: the value, if `a` is one. `wide` is an 8-byte read. -/
def State.readTrigger (s : State) (wide : Bool) (a : Nat) : Option (State × Nat) :=
  if a = Reg.TIME_NOW_LO then some (s.readBy (execTimeNowLo wide))
  else if a = Reg.ENT_RNG_S ∨ a = Reg.ENT_RNG_S + 4 then
    let r := s.readBy execEntRngS
    some (r.1, halfOf wide (a - Reg.ENT_RNG_S) r.2)
  else if a = Reg.ENT_RNG_D ∨ a = Reg.ENT_RNG_D + 4 then
    let r := s.readBy execEntRngD
    some (r.1, halfOf wide (a - Reg.ENT_RNG_D) r.2)
  else if a = Reg.ENT_RAW_DATA ∨ a = Reg.ENT_RAW_DATA + 4 then
    if s.bit Reg.ENT_RAW_CTL 31 && (s.life == 3 || s.right 4) then some (s.freeNat (if wide then 64 else 32)) else some (s, 0)
  else if a = Reg.CON0_RXDATA then some (s.readBy (execConRxdata 0))
  else if a = Reg.CON1_RXDATA then some (s.readBy (execConRxdata 1))
  else (wordIndex (Reg.PORT_PTP_TXTS_INFO 0) 2 0x10000 a).map fun p => s.readBy (execPortPtpTxtsInfo p)

/-- The PLIC and context whose claim/complete register is at `a` (R920). -/
def plicClaimAt (a : Nat) : Option (World × Nat) :=
  match wordIndex (Reg.SPLIC_THRESHOLD 0 + 4) 3 0x1000 a, wordIndex (Reg.DPLIC_THRESHOLD 0 + 4) 16 0x1000 a with
  | some c, _ => some (.scribe, c)
  | none, some c => some (.draft, c)
  | none, none => none

/-- A party reaches the PLIC of a world: the Scribe world both, the Draft world its own (R923, Table EVT-5). -/
def plicReached (p : Party) (w : World) : Bool := p == .scribe || (p == .draft && w == .draft)

/-- Addresses that no register row covers: the COLO windows (R757, R758), claim and pending words of the PLICs, and the views
of Scribe-only blocks (R925); elsewhere 0 (R924). -/
def State.readOther (s : State) (p : Party) (a : Nat) : State × Nat :=
  let chip := p == .scribe || p == .draft || p == .manager
  match plicClaimAt a, s.plicView a with
  | some (w, c), _ => if plicReached p w then s.readBy (execPlicClaim w c) else (s, 0)
  | none, some x => (s, if plicReached p (if a < 0x140000000 then .scribe else .draft) then x.toNat else 0)
  | none, none =>
    if 0x140110400 ≤ a ∧ a < 0x140110800 ∧ chip then (s, ofLe (s.mram (1024 * s.pageSel p + (a - 0x140110400)) 4))
    else if 0x140110800 ≤ a ∧ a < 0x140110C00 ∧ chip then (s, leAt s.colo.live (a - 0x140110800) 4)
    else
      let b := if a / 65536 = 0x14005 then 0x100000000 + a % 65536
        else if a / 65536 = 0x14006 then 0x100010000 + a % 65536
        else if a / 65536 = 0x14007 then 0x100100000 + a % 65536 else 0
      match if b = 0 then none else Reg.row b with
      | some r => (s, if r.parties &&& 22 != 0 && r.reachedBy p then (s.shown p b &&& r.readMask).toNat else 0)
      | none => (s, 0)

/-- The MISR registers, which the right PROOF opens to the debug module (Table LCY-6). -/
def isMisr (a : Nat) : Bool := decide (Reg.PROOF_MISR 0 0 ≤ a ∧ a < Reg.PROOF_MISR 0 0 + 22 * 16)

/-- A read of one word, or of a 64-bit register that reads as one sample (R46, R924). -/
def State.readWord (s : State) (v : Via) (wide : Bool) (a : Nat) : State × Nat :=
  match Reg.row a with
  | none => s.readOther v.party a
  | some r =>
    if !(r.reachedBy v.party || (v.dbg && s.right 4 && isMisr a)) then (s, 0)
    else match s.readTrigger wide a with
      | some x => x
      | none => (s, (s.shown v.party a &&& r.readMask).toNat)

def wideRead (a : Nat) : Bool := [Reg.TIME_NOW_LO, Reg.ENT_RNG_S, Reg.ENT_RNG_D, Reg.ENT_RAW_DATA].contains a

/-- A naturally aligned read of `n` bytes, 4 or 8 (R924). -/
def State.readReg (s : State) (v : Via) (a n : Nat) : State × Nat :=
  if n = 8 then
    if wideRead a then s.readWord v true a
    else
      let lo := s.readWord v false a
      let hi := lo.1.readWord v false (a + 4)
      (hi.1, lo.2 + 2 ^ 32 * hi.2)
  else s.readWord v false a

/-! ## Writes by access type (R6) -/

/-- The word `w` after a write of `x` acts on field `f`: `locked` is the state of the block's lock, `rst` the word's reset
value. -/
def Fld.write (f : Fld) (party : Nat) (locked : Bool) (rst w x : Word) : Word :=
  let put := fun (n : Nat) => setFieldOf w f.hi f.lo n
  if f.by_ &&& party = 0 then w
  else match f.acc with
    | .ro => w
    | .sc => w
    | .rw => put (fieldOf x f.hi f.lo)
    | .wo => put (fieldOf x f.hi f.lo)
    | .w1c => w &&& ~~~(x &&& fieldMask f.hi f.lo)
    | .w1s => w ||| (x &&& fieldMask f.hi f.lo)
    | .rwl => if locked then w else put (fieldOf x f.hi f.lo)
    | .rwo => if fieldOf w f.hi f.lo = fieldOf rst f.hi f.lo then put (fieldOf x f.hi f.lo) else w
    | .w0c => if fieldOf x f.hi f.lo = 0 then put 0 else w
    | .w0a => if x = 0 then put 0 else w
    | .anyc => put 0

/-- The lock of the word at `a` is set. -/
def State.rowLocked (s : State) (r : RegRow) (a : Nat) : Bool :=
  r.lock.1 != 0 && s.bit (r.lock.1 + if r.s1 = 0x10000 then (a - r.base) / 0x10000 * 0x10000 else 0) r.lock.2

/-- `f` holds of the index of `a` in a repeated word. -/
def atIndex (base n stride a : Nat) (f : Nat → Bool) : Bool := match wordIndex base n stride a with
  | some i => f i
  | none => false

/-- A write of the Quill's ring registers that is ignored: a size outside its range (R9), or a base while EN is 1. -/
def State.quilIgnored (s : State) (a : Nat) (x : Word) : Bool :=
  let en := fun (cfg : Nat → Nat) (i : Nat) => s.bit (cfg i) 31
  atIndex (Reg.QUIL_RX_CFG 0) 16 0x20 a (fun _ =>
    decide (fieldOf x 19 16 < 11 ∨ 14 < fieldOf x 19 16 ∨ fieldOf x 3 0 < 4 ∨ 14 < fieldOf x 3 0)) ||
  atIndex (Reg.QUIL_TX_CFG 0) 9 0x20 a (fun _ => decide (fieldOf x 3 0 < 4 ∨ 12 < fieldOf x 3 0)) ||
  atIndex (Reg.QUIL_RX_BASE 0) 16 0x20 a (en Reg.QUIL_RX_CFG) || atIndex (Reg.QUIL_RX_BASE 0 + 4) 16 0x20 a (en Reg.QUIL_RX_CFG) ||
  atIndex (Reg.QUIL_TX_BASE 0) 9 0x20 a (en Reg.QUIL_TX_CFG) || atIndex (Reg.QUIL_TX_BASE 0 + 4) 9 0x20 a (en Reg.QUIL_TX_CFG)

/-- A write of a ring pair's configuration while it is not DISABLED is ignored (R586). -/
def State.ringIgnored (s : State) (a : Nat) : Bool :=
  [Reg.RING_SQ_BASE 0, Reg.RING_SQ_BASE 0 + 4, Reg.RING_CQ_BASE 0, Reg.RING_CQ_BASE 0 + 4, Reg.RING_CFG 0].any fun b =>
    atIndex b 128 0x200 a fun n => s.ringState n != 0

/-- The Scribe runtime is answering FOLIO_CREATE for folio `f`: a write of STATE is not a late one (R538, DEDUCED, log entry 62). -/
def State.creating (s : State) (f : Nat) : Bool :=
  s.bit Reg.FOL_SCRB_CTL 30 && s.mbxCmd == 0x0301 && leAt (s.scrbBytes 0x30 1) 0 1 == f

/-- A write of a folio's registers that is ignored: configuration while it is not FREE (R504), a Scribe write of STATE that
does not create the folio (R504, R538), an access list of a FREE folio (R538), and NOPASID of a folio other than 0. -/
def State.folioIgnored (s : State) (a : Nat) (x : Word) : Bool :=
  let page := fun (o : Nat) (f : Nat → Bool) => atIndex (Reg.FOL_CTL 0 + o) 64 0x10000 a f
  page 0x10 (fun f => s.folioState f != 0) || page 0x14 (fun f => s.folioState f != 0) ||
  page 0x18 (fun f => s.folioState f != 0) || page 0x1C (fun f => s.folioState f != 0) ||
  page 0x20 (fun f => s.folioState f != 0) || page 0x2C (fun f => s.folioState f != 0) ||
  page 0x28 (fun f => s.folioState f != 0 || f != 0) ||
  page 0 (fun f => s.folioState f != 0 || fieldOf x 2 0 != 1 || !s.creating f) ||
  (decide (Reg.FOL_ACL 0 0 ≤ a ∧ a < 0x100800000 ∧ 0x100 ≤ a % 0x10000 ∧ a % 0x10000 < 0x200) &&
    s.folioState ((a - Reg.FOL_CTL 0) / 0x10000) == 0)

/-- A write that R9 or its own chapter has ignored whole. -/
def State.writeIgnored (s : State) (a : Nat) (x : Word) : Bool :=
  s.quilIgnored a x || s.ringIgnored a || s.folioIgnored a x ||
  atIndex (Reg.PORT_MAX_FRAME 0) 2 0x10000 a (fun _ => decide (fieldOf x 13 0 < 64 ∨ 9216 < fieldOf x 13 0)) ||
  (a == Reg.TIME_PPS_WIDTH && decide (500000 < x.toNat)) ||
  (a == Reg.WRLD_LEND_CTL && decide (1000 < fieldOf x 9 0)) || (a == Reg.WRLD_LEND_CTL2 && decide (100000 < fieldOf x 16 0)) ||
  (a == Reg.QUIL_TBL_SEL && decide (4 < fieldOf x 27 24)) ||
  (a == Reg.ENT_RCT_CUTOFF && decide (55 < fieldOf x 7 0)) || (a == Reg.ENT_APT_CUTOFF && decide (721 < fieldOf x 10 0)) ||
  a == Reg.SPLIC_PRIORITY 0 || a == Reg.DPLIC_PRIORITY 0

/-- The data of a write as it acts: EN of ENT_RAW_CTL is written only in OPEN or with the right PROOF (R474); interrupt ID 0
and IDs above 512 are not enabled (R919). -/
def State.writeData (s : State) (a : Nat) (x : Word) : Word :=
  let enable := fun (i : Nat) => if i % 32 = 0 then x &&& 0xFFFFFFFE else if i % 32 = 16 then x &&& 1 else x
  if a = Reg.ENT_RAW_CTL then
    if s.life == 3 || s.right 4 then x else setFieldOf x 31 31 (s.fld a 31 31)
  else if Reg.SPLIC_ENABLE 0 0 ≤ a ∧ a < Reg.SPLIC_ENABLE 0 0 + 0x180 then enable ((a - Reg.SPLIC_ENABLE 0 0) / 4)
  else if Reg.DPLIC_ENABLE 0 0 ≤ a ∧ a < Reg.DPLIC_ENABLE 0 0 + 0x800 then enable ((a - Reg.DPLIC_ENABLE 0 0) / 4)
  else x

/-- What follows a write of the word at `a`, which was `old` (R391, R492, R517, R689, R838, R889, R922). -/
def State.afterWrite (s : State) (a : Nat) (old x : Word) : State :=
  let o := a % 0x10000
  let f := (a - Reg.FOL_CTL 0) / 0x10000
  if a = Reg.NIB_CTR_CLEAR then
    if x.getLsbD 0 then s.resetRegs (Reg.NIB_LANE_BYTES 0) (Reg.NIB_CTR_CLEAR + 4) else s
  else if a = Reg.FLO_CTR_CLEAR then
    if x.getLsbD 0 then s.resetRegs (Reg.FLO_OPS 0) (Reg.FLO_CTR_CLEAR + 4) else s
  else if Reg.QUIL_RX_HEAD 0 ≤ a ∧ a < Reg.QUIL_RX_HEAD 0 + 0x200 then
    if a % 0x20 = 0x0C ∧ fieldOf old 13 0 ≠ s.fld a 13 0 then s.headAdvanced ((a - Reg.QUIL_RX_HEAD 0) / 0x20) else s
  else if Reg.QUIL_CTR 0 ≤ a ∧ a < Reg.QUIL_CTR 0 + 88 ∧ x = 0 then s.noteClear (a / 8 * 8)
  else if Reg.QUIL_RX_DROP 0 ≤ a ∧ a < Reg.QUIL_RX_DROP 0 + 0x200 ∧ a % 0x20 = Reg.QUIL_RX_DROP 0 % 0x20 ∧ x = 0 then s.noteClear a
  else if a = Reg.CON0_STAT then s.conKick 0
  else if a = Reg.CON1_STAT then s.conKick 1
  else if a = Reg.EVT_DECODE_INFO then
    if old.getLsbD 31 && !(s.rd a).getLsbD 31 then s.setf a 15 0 0 else s
  else if atIndex (Reg.RUL_FAULT_INFO 0) 7 0x10000 a fun _ => old.getLsbD 31 && !(s.rd a).getLsbD 31 then
    s.ruleRearm ((a - Reg.RUL_FAULT_INFO 0) / 0x10000)
  else if Reg.SCH_FC_CTL 0 0 ≤ a ∧ a < Reg.SCH_FC_CTL 0 0 + 0x8000 then
    s.bucketWritten ((a - Reg.SCH_FC_CTL 0 0) / 0x200) ((a - Reg.SCH_FC_CTL 0 0) % 0x200 / 0x40)
  else if Reg.FOL_CTL 0 ≤ a ∧ f < 64 then
    if o = 0x24 then s.powerReview
    else if 0x100 ≤ o ∧ o < 0x200 then
      let s := (s.aclCount f).aclChanged f
      let d := fieldOf old 15 0
      if old.getLsbD 31 && (s.aclFind f d).isNone then s.eraseFolioDomain f d else s
    else s
  else s

/-- The W1C bits of a register word. -/
def RegRow.w1cMask (r : RegRow) : Word := r.flds.foldl (fun m f => if f.acc = .w1c then m ||| fieldMask f.hi f.lo else m) 0

/-- The data of a write with 0 for every W1C bit that the hardware sets in this cycle, so that no set condition is lost
(R10). -/
def State.keepSets (s : State) (r : RegRow) (a : Nat) (x : Word) : Word := x &&& ~~~(r.w1cMask &&& s.hwSets a)

/-- A write of a register without a row of its own (R6, R9, R10). -/
def State.regWrite (s : State) (p : Party) (r : RegRow) (a : Nat) (x : Word) : State :=
  if s.writeIgnored a x then s
  else
    let x := s.keepSets r a (s.writeData a x)
    let old := s.rd a
    let new := r.flds.foldl (fun w f => f.write (partyBit p) (s.rowLocked r a) (Reg.reset a) w x) old
    (State.driveAlert s.alertAsserted (s.wr a new)).afterWrite a old x

/-! ## Buffers and doorbells of the mailboxes (R519 to R521, R525) -/

/-- Word `i` of a folio's T2M (`dir` 0) or M2T (`dir` 1) buffer is written: discarded while the mailbox is inactive, and while
FULL is set, with OVERWRITE and MBX. -/
def State.mbxBufWrite (s : State) (f dir i : Nat) (x : Word) : State :=
  if f = 0 ∨ !s.mailboxOn f then s
  else if s.bit (Reg.FOL_MBX_CTL f) dir then (s.setb (Reg.FOL_MBX_CTL f) (2 + dir) true).folErr f 5
  else s.wr (if dir = 0 then Reg.FOL_T2M f i else Reg.FOL_M2T f i) x

/-- FOL_MBX_CTL (Table HST-13): a write by the Tenant or by the Manager. -/
def State.mbxCtlWrite (s : State) (f : Nat) (tenant : Bool) (x : Word) : State :=
  let a := Reg.FOL_MBX_CTL f
  if f = 0 ∨ !s.mailboxOn f then s
  else if tenant then
    let s := s.w1c a (x &&& 0x6)
    if x.getLsbD 0 then s.ran (execT2mFull f s) else s
  else
    let s := s.w1c a (x &&& 0x9)
    if x.getLsbD 1 then s.ran (execM2tFull f s) else s

/-- A write of the Scribe mailbox's request buffer (R525). -/
def State.scrbReqWrite (s : State) (a : Nat) (x : Word) : State :=
  if s.fld Reg.FOL_SCRB_CTL 31 29 ≠ 0 then s.setb Reg.FOL_SCRB_CTL 28 true else s.wr a x

/-- FOL_SCRB_CTL (R525, R928): the Manager clears RSP and OVERWRITE and sets REQ; the Scribe runtime sets RSP. -/
def State.scrbCtlWrite (s : State) (p : Party) (x : Word) : State :=
  let a := Reg.FOL_SCRB_CTL
  if p = .manager then
    let busy := s.fld a 31 29 ≠ 0
    let s := s.w1c a (x &&& 0x30000000)
    if x.getLsbD 31 ∧ !busy then s.ran (execScribeMailboxReq s) else s
  else if x.getLsbD 29 then s.ran (execScribeMailboxRsp s) else s

/-- The mailbox registers at their internal addresses. -/
def State.mailboxWrite (s : State) (p : Party) (a : Nat) (x : Word) : Option State :=
  let f := (a - Reg.FOL_CTL 0) / 0x10000
  let o := a % 0x10000
  if a = Reg.FOL_SCRB_CTL then some (s.scrbCtlWrite p x)
  else if Reg.SCRB_REQ 0 ≤ a ∧ a < Reg.SCRB_REQ 0 + 0x1000 then some (if p = .manager then s.scrbReqWrite a x else s)
  else if a < Reg.FOL_CTL 0 ∨ 64 ≤ f then none
  else if 0x1000 ≤ o ∧ o < 0x1100 then some (match p with
    | .tenant _ => s.mbxBufWrite f 0 ((o - 0x1000) / 4) x
    | _ => s)
  else if 0x1100 ≤ o ∧ o < 0x1200 then some (if p = .manager then s.mbxBufWrite f 1 ((o - 0x1100) / 4) x else s)
  else if o = 0x1200 then some (s.mbxCtlWrite f (p != .manager) x)
  else none

/-! ## Registers whose write has a row of its own -/

/-- TIME, STRK and DUCT. -/
def ownTime (v : Via) (a : Nat) (x : Word) (s : State) : Option Result :=
  let p := v.party
  if a = Reg.TIME_RATE_D then some (execTimeRateD p x s)
  else if a = Reg.TIME_SET then some (execTimeSet (.lower x) s)
  else if a = Reg.TIME_SET + 4 then some (execTimeSet (.upper x) s)
  else if a = Reg.TIME_STEP_S then some (execTimeStepS (.lower x) s)
  else if a = Reg.TIME_STEP_S + 4 then some (execTimeStepS (.upper x) s)
  else if a = Reg.TIME_STEP_D then some (execTimeStepD x s)
  else if Reg.STRK_W0 0 ≤ a ∧ a < 0x140018000 then
    some (execStrokeEntryWrite p ((a - Reg.STRK_W0 0) / 0x20) ((a - Reg.STRK_W0 0) % 0x20 / 4) x s)
  else if a = Reg.DUCT_CMD then
    some (if !ductCmdOk x then .next s
      else if x.getLsbD 31 then execDuctCmdLoad x s
      else if x.getLsbD 30 then execDuctCmdDiscard x s
      else if x.getLsbD 29 then execDuctCmdSwap x s
      else .next (s.setf Reg.DUCT_CMD 15 0 (fieldOf x 15 0)))
  else none

/-- BOOT and WRLD. -/
def ownBoot (v : Via) (a : Nat) (x : Word) (s : State) : Option Result :=
  if a = Reg.BOOT_FLOOR_CMD then some (execBootFloorCmdGo x none s)
  else if a = Reg.BOOT_MEAS_CMD then some (execBootMeasExtend x s)
  else if a = Reg.BOOT_RCV_CMD then some (execBootRcvGo x s)
  else if a = Reg.WRLD_WD_KICK then some (execWrldWdKick x s)
  else if a = Reg.WRLD_CLAIM then some (execWrldClaim x s)
  else if a = Reg.WRLD_YIELD then some (execWrldYield v.core s)
  else if a = Reg.WRLD_RETURN then some (execWrldReturn v.core s)
  else if a = Reg.WRLD_READY then some (execWrldReady x s)
  else if a = Reg.WRLD_SELF_FAIL then some (execWrldSelfFail x s)
  else none

/-- The operations of CUST_CMD, and its reset value 0: a write that carries another is ignored whole (R9, Table CUS-11). -/
def custOps : List Nat := [0x00, 0x10, 0x11, 0x12, 0x01, 0x02, 0x03, 0x20, 0x22, 0x23, 0x24, 0x25]

/-- LCY, CUST, RSV, RUL and ENT. -/
def ownScribe (a : Nat) (x : Word) (s : State) : Option Result :=
  if a = Reg.LCY_CMD then
    let t := if x.getLsbD 31 then s.ran (execLcySubmit s) else s
    some (.next (if x.getLsbD 30 then t.ran (execLcyNonce t) else t))
  else if a = Reg.CUST_CMD then
    some (.next (if !custOps.contains (fieldOf x 7 0) then s
      else if !x.getLsbD 31 then (s.setf a 17 16 (fieldOf x 17 16)).setf a 7 0 (fieldOf x 7 0)
      else if fieldOf x 7 0 = 0x10 then s.ran (execCerOpen x s)
      else s.custStart (fieldOf x 7 0) x))
  else if a = Reg.RSV_CMD then
    some (.next (if x.getLsbD 31 then s.rsvStart (fieldOf x 7 0) x
      else s.wr a ((x &&& 0x00FF03FF) ||| (s.rd a &&& 0x80000000))))
  else if a = Reg.ENT_SRC_CTL then some (execEntSourceRestart x s)
  else if a = Reg.ENT_DRBG_CMD then some (execEntDrbgReseed x s)
  else match wordIndex (Reg.RUL_SET_CMD 0) 7 0x10000 a, wordIndex (Reg.RUL_STAGE_CMD 0) 7 0x10000 a,
      wordIndex (Reg.RUL_LOCK 0) 7 0x10000 a, wordIndex (Reg.RUL_LOCK 0 + 4) 7 0x10000 a with
    | some u, _, _, _ => some (execRulSetCmd u x s)
    | _, some u, _, _ => some (execRulStageCommit u x s)
    | _, _, some u, _ => some (execRulLock u (.lower x) s)
    | _, _, _, some u => some (execRulLock u (.upper x) s)
    | _, _, _, _ => none

/-- RING, SCH and the ports. -/
def ownLink (v : Via) (a : Nat) (x : Word) (s : State) : Option Result :=
  let o := a - Reg.SCH_FC_CTL 0 0
  let t := a - Reg.TENANT_W0 0
  if Reg.SCH_FC_CTL 0 0 ≤ a ∧ a < Reg.SCH_FC_CTL 0 0 + 0x8000 ∧ o % 0x200 % 0x40 = 0 then
    some (if v.party = .draft then .next s else execSchFcCtl (o / 0x200) (o % 0x200 / 0x40) x s)
  else if Reg.TENANT_W0 0 ≤ a ∧ a < Reg.TENANT_W0 0 + 0x8000 then some (execTenantEntryWrite v.party (t / 0x80) (t % 0x80 / 4) x s)
  else match wordIndex (Reg.RING_CTL 0) 128 0x200 a, wordIndex (Reg.PORT_CTL 0) 2 0x10000 a,
      wordIndex (Reg.PORT_PTP_TXTS_INFO 0) 2 0x10000 a with
    | some n, _, _ => some (if v.party ≠ .manager then .next s
      else if x.getLsbD 31 then execRingEnable n s else execRingDisable n s)
    | _, some p, _ => some (if v.party = .manager then .next s else execPortModeWrite p x s)
    | _, _, some _ => some (.next s)
    | _, _, _ => none

/-- QUIL. -/
def ownQuil (v : Via) (a : Nat) (x : Word) (s : State) : Option Result :=
  if a = Reg.QUIL_CTL then
    let t := if x.getLsbD 31 then s.ran (execQuilCtlSwap (fieldOf x 16 16) s) else s.setf a 16 16 (fieldOf x 16 16)
    some (if x.getLsbD 30 then execQuilValidate t else .next t)
  else if a = Reg.QUIL_TBL_CMD then
    let t := if x.getLsbD 31 then s.ran (execQuilTblRead s) else s
    some (if x.getLsbD 30 then execQuilTblWrite v.party t else .next t)
  else match wordIndex (Reg.QUIL_RATE 0) 16 4 a, wordIndex (Reg.QUIL_TX_TAIL 0) 9 0x20 a with
    | some c, _ => some (execQuilRateWrite c x s)
    | _, some q => some (execQuilTxTail v.party q x s)
    | _, _ => none

/-- A console's registers, at offset `o` of its block. -/
def ownConsole (n o : Nat) (x : Word) (s : State) : Option Result := match o with
  | 0x00 => some (execConCfgWrite n .cfg x s)
  | 0x04 => some (execConCfgWrite n .baud x s)
  | 0x08 => some (execConCfgWrite n .flow x s)
  | 0x0C => some (execConCfgWrite n .rs485 x s)
  | 0x24 => some (execConCfgWrite n .thresh x s)
  | 0x18 => some (execConTxdata n x s)
  | 0x1C => some (.next s)
  | 0x10 =>
    let s := if x.getLsbD 31 then s.ran (execFlushTx n s) else s
    let s := if x.getLsbD 30 then s.ran (execFlushRx n s) else s
    let s := if x.getLsbD 29 then s.ran (execConResume n s) else s
    some (if x.getLsbD 28 then execSendBreak n s else .next s)
  | _ => none

/-- BLOT, COLO, PROOF, MEM, the consoles, PWR and EVT. -/
def ownOther (v : Via) (a : Nat) (x : Word) (s : State) : Option Result :=
  if a = Reg.BLOT_ACK then some (execBlotAck v.party x s)
  else if a = Reg.COLO_SNAP then some (if x.getLsbD 31 then execColoSnap s else .next s)
  else if a = Reg.PROOF_CMD then some (execProofCmdStart v.party v.dbg x s)
  else if a = Reg.PROOF_PARK then some (execProofPark v.core s)
  else if a = Reg.MEM_XSPI_CMD then
    some (if fieldOf x 1 0 = 3 then .next s
      else if !x.getLsbD 31 then .next (s.setf a 1 0 (fieldOf x 1 0))
      else match fieldOf x 1 0 with
        | 1 => execXspiProgram v.world v.priv v.init s
        | 2 => execXspiErase v.world v.priv v.init s
        | _ => .next (s.setf a 1 0 0))
  else if a = Reg.MEM_XSPI_LOCK then some (if v.party = .scribe then execXspiLock x s else .next s)
  else if a = Reg.PWR_HINT then some (execPwrHint v.party x s)
  else if Reg.CON0_CFG ≤ a ∧ a < Reg.CON0_CFG + 0x10000 then ownConsole 0 (a - Reg.CON0_CFG) x s
  else if Reg.CON1_CFG ≤ a ∧ a < Reg.CON1_CFG + 0x10000 then ownConsole 1 (a - Reg.CON1_CFG) x s
  else match wordIndex (Reg.EVT_STATUS 0) 16 4 a, wordIndex (Reg.EVT_ROUTE 0) 512 4 a, wordIndex (Reg.FOL_CMD 0) 64 0x10000 a with
    | some g, _, _ => some (execEvtStatusClear v.party g x s)
    | _, some n, _ => some (execEvtRouteWrite v.party n x s)
    | _, _, some f => some (match x.getLsbD 31, fieldOf x 3 0 with
      | true, 1 => execQuiesce f s
      | true, 2 => execResume f s
      | true, 3 => execReset f s
      | true, 4 => execDestroy f s
      | false, k => .next (if s.bit a 31 || decide (4 < k) then s else s.setf a 3 0 k)
      | true, _ => .next s)
    | _, _, _ => none

/-- The effect of a write of a register that has a row of its own. -/
def ownWrite (v : Via) (a : Nat) (x : Word) (s : State) : Option Result :=
  [ownTime v a x s, ownBoot v a x s, ownScribe a x s, ownLink v a x s, ownQuil v a x s, ownOther v a x s].findSome? id

/-- A write of one word by its internal address (R5, R6, R924). -/
def State.writeWord (s : State) (v : Via) (a : Nat) (x : Word) : State :=
  match Reg.row a with
  | none => match plicClaimAt a with
    | some (w, c) => if plicReached v.party w then s.ran (execPlicComplete w c x.toNat s) else s
    | none => s
  | some r =>
    if !(r.reachedBy v.party || (v.dbg && a == Reg.PROOF_CMD)) then s
    else if a = Reg.COLO_PAGE_SEL then s.setPageSel v.party (fieldOf x 8 0)
    else match s.mailboxWrite v.party a x with
      | some t => t
      | none =>
        if r.own && !(r.writableBy v.party || (v.dbg && a == Reg.PROOF_CMD)) then s
        else match ownWrite v a x s with
          | some t => s.ran t
          | none => if r.own then s else s.regWrite v.party r a x

/-- A naturally aligned write of `n` bytes, 4 or 8 (R924): a 64-bit register that acts when written acts once. -/
def State.writeReg (s : State) (v : Via) (a n x : Nat) : State :=
  let lo := BitVec.ofNat 32 x
  let hi := BitVec.ofNat 32 (x / 2 ^ 32)
  if n = 8 then
    if a = Reg.TIME_SET ∧ v.party = .scribe then s.ran (execTimeSet (.both (BitVec.ofNat 64 x)) s)
    else if a = Reg.TIME_STEP_S ∧ v.party = .scribe then s.ran (execTimeStepS (.both (BitVec.ofNat 64 x)) s)
    else (s.writeWord v a lo).writeWord v (a + 4) hi
  else s.writeWord v a lo

/-- The generic write of one word: only registers without a row of their own. -/
def State.plainWrite (s : State) (p : Party) (a : Nat) (x : Word) : State := match Reg.row a with
  | none => s
  | some r =>
    if !r.reachedBy p || r.own then s
    else if a = Reg.COLO_PAGE_SEL then s.setPageSel p (fieldOf x 8 0)
    else match s.mailboxWrite p a x with
      | some t => t
      | none => s.regWrite p r a x

/-- REGISTER_WRITE (R5, R6, R9, R924): a naturally aligned write of a register without a row of its own, by a party. -/
def execRegisterWrite (p : Party) (a : Nat) (w : RegWrite) (s : State) : Result := match w with
  | .w4 x => .next (if a % 4 = 0 then s.plainWrite p a x else s)
  | .w8 x => .next (if a % 8 = 0 then (s.plainWrite p a (x.truncate 32)).plainWrite p (a + 4) ((x >>> 32).truncate 32) else s)

/-! ## Memory accesses (R276, R289, R922) -/

/-- How an access ended: the value read, or an error: 2 for the response of Table RUL-5, 7 for that of Tables MEM-2 and
MEM-3. -/
abbrev AccEnd := Except Nat Nat

/-- The response of Table RUL-5 to an access that no unit decides. -/
def State.undecoded (s : State) (acc : Access) : State × AccEnd := (s.decodeError acc, .error 2)

/-- The boot ROM answers core reads and fetches (Table EVT-4). -/
def State.romAccess (s : State) (acc : Access) (e : EccFind) : State × AccEnd :=
  if isCore acc.init && acc.kind != .write then
    let r := s.eccReadRange acc.init acc.addr acc.len e
    (r.1, if r.2 then .error 7 else .ok (ofLe (s.memBytes acc.addr acc.len)))
  else s.undecoded acc

/-- SRAM behind unit `u` (R791 to R793, R798 to R800). -/
def State.sramAccess (s : State) (u : Nat) (acc : Access) (data : Nat) (e : EccFind) : State × AccEnd :=
  let r := s.rule u acc
  if !r.2 then (r.1, .error 2)
  else if acc.kind = .write then
    let w := r.1.eccWrite acc.init acc.addr (leBytes acc.len data) e
    (w.1, if w.2 then .ok 0 else .error 7)
  else
    let x := r.1.eccReadRange acc.init acc.addr acc.len e
    (x.1, if x.2 then .error 7 else .ok (ofLe (r.1.memBytes acc.addr acc.len)))

/-- The xSPI window: writes are refused whatever the unit permits (R807, R810). -/
def State.flashAccess (s : State) (acc : Access) : State × AccEnd :=
  let r := s.rule 3 acc
  if !r.2 || acc.kind == .write then (r.1, .error 2) else (r.1, .ok (ofLe (s.memBytes acc.addr acc.len)))

/-- What a read of a window on a memory finds: the Colophon page window counts MRAM errors, a mailbox buffer may be poisoned (R792,
R795). -/
def State.storedFind (s : State) (init : Nat) (p : Party) (a n : Nat) (e : EccFind) : State × Bool :=
  if 0x140110400 ≤ a ∧ a < 0x140110800 then (s.mramFind init (1024 * s.pageSel p + (a - 0x140110400)) e, false)
  else s.bufRead init a n e

/-- Registers: naturally aligned 4-byte and 8-byte reads and writes; Scribe-only blocks answer only world Scribe (R923,
R924). -/
def State.mmioAccess (s : State) (u : Nat) (scribeOnly : Bool) (v : Via) (acc : Access) (data : Nat) (e : EccFind) :
    State × AccEnd :=
  if acc.kind == .exec || !(acc.len == 4 || acc.len == 8) || acc.addr % acc.len != 0 || (scribeOnly && acc.world != .scribe) then
    s.undecoded acc
  else
    let r := s.rule u acc
    if !r.2 then (r.1, .error 2)
    else if acc.kind = .write then
      let w := r.1.bufWrite acc.init acc.addr acc.len e
      if w.2 then (w.1.writeReg v acc.addr acc.len data, .ok 0) else (w.1, .error 7)
    else
      let p := r.1.storedFind acc.init v.party acc.addr acc.len e
      let x := p.1.readReg v acc.addr acc.len
      (x.1, if p.2 then .error 7 else .ok x.2)

/-- The PCIe outbound window: core accesses, checked at their offset, while Bus Master Enable is set (R279, R927). `e` says
whether the completion of a read is poisoned. -/
def State.outboundAccess (s : State) (acc : Access) (data : Nat) (e : EccFind) (m : HostMem) : State × AccEnd :=
  let o := acc.addr - 0x8000000000
  if !isCore acc.init then s.undecoded acc
  else
    let r := s.rule 4 { acc with addr := o }
    if !r.2 || !s.host.busMaster || s.host.d3 || s.host.perst then (r.1, .error 2)
    else if acc.kind = .write then (r.1.emit (.hostWrite { folio := 0, addr := o } (leBytes acc.len data)), .ok 0)
    else
      let s := r.1.emit (.hostRead { folio := 0, addr := o } acc.len)
      match hostBytes m o acc.len, e with
      | none, _ => (s, .error 2)
      | some _, .uncorrectable _ => (s, .error 7)
      | some b, _ => (s, .ok (ofLe b))

/-- An access of a core or of the system bus by the internal physical map (Table EVT-4). -/
def State.memAccess (s : State) (v : Via) (acc : Access) (data : Nat) (e : EccFind) (m : HostMem) : State × AccEnd :=
  if acc.len = 0 ∨ memOf (acc.addr + acc.len - 1) ≠ memOf acc.addr then s.undecoded acc
  else match memOf acc.addr, unitOf acc.addr with
    | .rom, _ => s.romAccess acc e
    | .scribe, _ => s.sramAccess 0 acc data e
    | .shared, _ => s.sramAccess 1 acc data e
    | .flash, _ => s.flashAccess acc
    | .mmioScribe, some u => s.mmioAccess u true v acc data e
    | .mmioShared, some u => s.mmioAccess u false v acc data e
    | .pcieOut, _ => s.outboundAccess acc data e m
    | _, _ => s.undecoded acc

/-! ### Cores (R229, R230, R289) -/

/-- The core of initiator bit `init` makes accesses: the Scribe pair in boot or once released, a Draft core once it is released and
while it is in no switch and not parked for a slice (R773); a halted hart only while it runs the program buffer (R234, R241). -/
def State.coreRuns (s : State) (init : Nat) : Bool :=
  s.pwr.mainUp && (!s.wrld.halted.contains init || s.wrld.dmExec == some init) &&
    ((init == 0 && (s.boot.released || decide (s.fld Reg.BOOT_STAT 23 20 < 9))) ||
      (decide (1 ≤ init ∧ init ≤ 8) && s.coreReleased (init - 1) && !s.switching (init - 1) &&
        (s.proof.slice != some (6 + init) || s.proof.parking)))

/-- The world a core's accesses carry (R231, R236, R276). -/
def State.coreWorld (s : State) (init : Nat) : World :=
  if init = 0 ∨ s.inScribe (init - 1) then .scribe else .draft

/-- The mode exists on the core: the Scribe hart has no S mode (R230). -/
def modeOk (init : Nat) : Priv → Bool
  | .s => init != 0
  | _ => true

/-- The causes of an access fault and of a page fault, and of a misaligned address, by kind. -/
def accessCause : AccKind → Nat
  | .exec => 1
  | .read => 5
  | .write => 7

def pageCause : AccKind → Nat
  | .exec => 12
  | .read => 13
  | .write => 15

def alignCause : AccKind → Nat
  | .exec => 0
  | .read => 4
  | .write => 6

/-- The bytes that PMP entry `i` covers, first and one past the last. -/
def pmpRange (c : CoreCsr) (i : Nat) : Nat × Nat :=
  let at_ := fun (i : Nat) => (c.pmp.getD i (0, 0)).2.toNat % 2 ^ 54
  let e := at_ i
  match (c.pmp.getD i (0, 0)).1.toNat / 8 % 4 with
  | 0 => (0, 0)
  | 1 => (if i = 0 then 0 else 4 * at_ (i - 1), 4 * e)
  | 2 => (4 * e, 4 * e + 4)
  | _ =>
    let k := ((List.range 54).find? fun j => !e.testBit j).getD 53
    (4 * (e / 2 ^ (k + 1) * 2 ^ (k + 1)), 4 * (e / 2 ^ (k + 1) * 2 ^ (k + 1)) + 2 ^ (k + 3))

/-- The 16 PMP entries permit an access: the lowest-numbered entry that covers a byte of it must cover all of it, and binds M mode only
when locked; without a match only M mode passes (R229). -/
def pmpOk (c : CoreCsr) (priv : Priv) (kind : AccKind) (a n : Nat) : Bool :=
  match (List.range 16).find? fun i => decide ((pmpRange c i).1 < a + n ∧ a < (pmpRange c i).2) with
  | none => priv == .m
  | some i =>
    let cfg := (c.pmp.getD i (0, 0)).1
    decide ((pmpRange c i).1 ≤ a ∧ a + n ≤ (pmpRange c i).2) &&
      ((priv == .m && !cfg.getLsbD 7) || cfg.getLsbD (match kind with | .read => 0 | .write => 1 | .exec => 2))

/-- A leaf page-table entry permits the access: the kind, U and SUM, MXR, and A and D, which the device does not set itself (DESIGN
CHOICE, log entry 59). -/
def leafOk (c : CoreCsr) (priv : Priv) (kind : AccKind) (pte : Nat) : Bool :=
  let b := fun i => pte.testBit i
  (match kind with
   | .read => b 1 || (c.mxr && b 3)
   | .write => b 2 && b 7
   | .exec => b 3) &&
  (if priv == .u then b 4 else !b 4 || (c.sum && kind != .exec)) && b 6

/-- The page-table walk of Sv39 or Sv48 from level `l` down (R230): the physical address, or the cause of the fault. Each entry is read
as a core access of S mode, through PMP and the ruling units. -/
def State.walk (v : Via) (acc : Access) (c : CoreCsr) : Nat → State → Nat → State × Except Nat Nat
  | 0, s, _ => (s, .error (pageCause acc.kind))
  | l + 1, s, base =>
    let a := base + 8 * (acc.addr / 2 ^ (12 + 9 * l) % 512)
    if !pmpOk c .s .read a 8 then (s, .error (accessCause acc.kind))
    else match s.memAccess { v with priv := .s } { acc with addr := a, len := 8, kind := .read, priv := .s } 0 .clean [] with
      | (s, .error _) => (s, .error (accessCause acc.kind))
      | (s, .ok pte) =>
        let ppn := pte / 2 ^ 10 % 2 ^ 44
        if !pte.testBit 0 || (!pte.testBit 1 && pte.testBit 2) || decide (2 ^ 54 ≤ pte) then (s, .error (pageCause acc.kind))
        else if pte.testBit 1 || pte.testBit 3 then
          if ppn % 2 ^ (9 * l) ≠ 0 ∨ !leafOk c acc.priv acc.kind pte then (s, .error (pageCause acc.kind))
          else (s, .ok (4096 * ppn + acc.addr % 2 ^ (12 + 9 * l)))
        else if pte / 16 % 2 = 1 ∨ 4 ≤ pte / 16 % 16 then (s, .error (pageCause acc.kind))
        else State.walk v acc c l s (4096 * ppn)

/-- The physical address of a core's access: M mode and Bare addressing use the address as it is (R230). An access that crosses a page
is not split: it takes the misaligned exception (DESIGN CHOICE, log entry 59). -/
def State.translate (s : State) (v : Via) (acc : Access) (c : CoreCsr) : State × Except Nat Nat :=
  let mode := c.satp.toNat / 2 ^ 60
  let levels := if mode = 8 then 3 else if mode = 9 then 4 else 0
  if acc.init = 0 ∨ acc.priv = .m ∨ levels = 0 then (s, .ok acc.addr)
  else
    let bits := 12 + 9 * levels
    let top := acc.addr / 2 ^ (bits - 1)
    if top ≠ 0 ∧ top ≠ 2 ^ (65 - bits) - 1 then (s, .error (pageCause acc.kind))
    else if acc.addr % 4096 + acc.len > 4096 then (s, .error (alignCause acc.kind))
    else State.walk v acc c levels s (4096 * (c.satp.toNat % 2 ^ 44))

/-- The trap goes to S mode: a Draft core below M mode that delegates the cause. -/
def trapToS (c : CoreCsr) (acc : Access) (cause : Nat) : Bool := acc.init != 0 && acc.priv != .m && c.medeleg.getLsbD cause

/-- CORE_ACCESS (R229, R230, R276, R289, R793, R799, R922 to R924, R927): the triggers, translation, PMP, and the access by the internal
map, in the world of the core, with no folio. A refused one is an access fault with the address in mtval or stval. -/
def execCoreAccess (acc : Access) (data : Nat) (e : EccFind) (x : CoreEnv) (s : State) : Result :=
  if !s.coreRuns acc.init || !modeOk acc.init acc.priv then .next s
  else
    let w := s.coreWorld acc.init
    let acc := { acc with world := w, folio := none }
    let v : Via := ⟨if w = .scribe then .scribe else .draft, w, acc.priv, acc.init, false⟩
    let t := match s.firedTrigger acc.init acc with
      | some i => s.fireTrigger acc.init i acc (trapToS x.csr acc 3)
      | none => (s, false)
    if t.2 then .next t.1
    else
      let trap := fun (s : State) (cause : Nat) => s.emit (.trap acc.init cause acc.addr (trapToS x.csr acc cause))
      match t.1.translate v acc x.csr with
      | (s, .error cause) => .next (trap s cause)
      | (s, .ok a) =>
        if !pmpOk x.csr acc.priv acc.kind a acc.len then .next (trap s (accessCause acc.kind))
        else match s.memAccess v { acc with addr := a } data e x.mem with
          | (s, .ok n) => .next (if acc.kind = .write then s else s.emit (.value n))
          | (s, .error _) => .next (trap s (accessCause acc.kind))

/-! ### The debug module's system bus (R234) -/

/-- sberror in sbcs, which stays at its first value until cleared: 2 a refused or undecodable access, 3 a misaligned one, 4 a size not
supported, 7 poison. -/
def State.sbError (s : State) (code : Nat) : State :=
  let w := s.sbcs
  if fieldOf w 14 12 = 0 then { s with wrld := { s.wrld with dm := Tab.set zeroDm s.wrld.dm 0x38 (setFieldOf w 14 12 code) } } else s

/-- What the rights open to the system bus: everything, or under PROOF alone the on-demand slices and the MISRs (Table LCY-6). -/
def State.sbMay (s : State) (addr : Nat) : Bool :=
  [1, 3, 5].contains s.life || s.right 2 || (s.right 4 && (isMisr addr || addr == Reg.PROOF_CMD))

/-- A system bus access of `len` bytes, a read or a write of `w`, with the world of the session (Table RUL-2): the value read, if it
ended well. -/
def State.sbAccess (s : State) (addr len : Nat) (w : Option Nat) (e : EccFind) : State × Option Nat :=
  if !s.pwr.mainUp || !s.sbMay addr then (s, none)
  else if !([1, 2, 4, 8].contains len) then (s.sbError 4, none)
  else if addr % len ≠ 0 then (s.sbError 3, none)
  else
    let world := if s.debugScribe then World.scribe else .draft
    let acc : Access := ⟨addr, len, if w.isSome then .write else .read, 20, world, .m, none⟩
    match s.memAccess ⟨if world = .scribe then .scribe else .draft, world, .m, 20, true⟩ acc (w.getD 0) e [] with
    | (s, .ok n) => (s, some n)
    | (s, .error k) => (s.sbError k, none)

/-- SYSTEM_BUS_ACCESS (R234, R276, R289, R793): a read, or a write of `w`, of 1, 2, 4 or 8 bytes. -/
def execSystemBusAccess (addr len : Nat) (w : Option Nat) (e : EccFind) (s : State) : Result :=
  match s.sbAccess addr len w e with
  | (s, some n) => .next (if w.isSome then s else s.emit (.value n))
  | (s, none) => .next s

/-- SBACCESS of sbcs in bytes. -/
def State.sbSize (s : State) : Nat := 2 ^ fieldOf s.sbcs 19 17

def State.sbAddr (s : State) : Nat := (Tab.get zeroDm s.wrld.dm 0x39).toNat + 2 ^ 32 * (Tab.get zeroDm s.wrld.dm 0x3A).toNat

def State.setDm (s : State) (a : Nat) (v : Nat) : State :=
  { s with wrld := { s.wrld with dm := Tab.set zeroDm s.wrld.dm a (BitVec.ofNat 32 v) } }

/-- sbaddress moves past an access, where SBAUTOINCREMENT says so. -/
def State.sbNext (s : State) : State :=
  if s.sbcs.getLsbD 16 then (s.setDm 0x39 (s.sbAddr + s.sbSize)).setDm 0x3A ((s.sbAddr + s.sbSize) / 2 ^ 32) else s

/-- A system bus read through sbaddress into sbdata; none starts while sberror is set. -/
def State.sbRead (s : State) : State :=
  if fieldOf s.sbcs 14 12 ≠ 0 then s
  else match s.sbAccess s.sbAddr s.sbSize none .clean with
    | (t, some n) => ((t.setDm 0x3C n).setDm 0x3D (n / 2 ^ 32)).sbNext
    | (t, none) => t

/-- A system bus write of sbdata through sbaddress. -/
def State.sbWrite (s : State) : State :=
  if fieldOf s.sbcs 14 12 ≠ 0 then s
  else
    let d := (Tab.get zeroDm s.wrld.dm 0x3C).toNat + 2 ^ 32 * (Tab.get zeroDm s.wrld.dm 0x3D).toNat
    match s.sbAccess s.sbAddr s.sbSize (some (d % 2 ^ (8 * s.sbSize))) .clean with
    | (t, some _) => t.sbNext
    | (t, none) => t

/-- A write of sbaddress0 reads where SBREADONADDR is set, and a write of sbdata0 writes; a read of sbdata0 reads again where
SBREADONDATA is set. -/
def State.sbAfterWrite (s : State) (a : Nat) : State :=
  if a == 0x39 && s.sbcs.getLsbD 20 then s.sbRead else if a == 0x3C then s.sbWrite else s

def State.sbAfterRead (s : State) (a : Nat) : State := if a == 0x3C && s.sbcs.getLsbD 15 then s.sbRead else s

/-- DMI (R234, Table LCY-6): a read or write of a debug module register, where the instruction is offered. -/
def execDmi (a : Nat) (w : Option Word) (s : State) : Result :=
  if !s.tapOffers 0x11 then .next (s.tapLoad 0x11)
  else
    let s := (s.tapLoad 0x11).progbufOver
    .next (match w with
      | some v => (s.dmWrite (a % 128) v).sbAfterWrite (a % 128)
      | none => (s.emit (.tdo 32 (s.dmRead (a % 128)))).sbAfterRead (a % 128))

/-! ## DMA engines -/

/-- The channel register of a DMA engine: 0 ended, 1 BAD_ADDRESS, 2 POISON. -/
def State.setDma (s : State) (w : World) (v : Nat) : State := match w with
  | .scribe => { s with mem := { s.mem with dmaS := v } }
  | .draft => { s with mem := { s.mem with dmaD := v } }

/-- One 64-byte piece, or less, of a transfer; the status that stops it. -/
def State.dmaPiece (s : State) (w : World) (src dst n : Nat) (e : EccFind) : State × Option Nat :=
  let init := match w with | .scribe => 9 | .draft => 10
  match unitOf src, unitOf dst with
  | some us, some ud =>
    if !(inSram src n || (us == 3 && unitOf (src + n - 1) == some 3)) || !inSram dst n then
      (if us < 4 ∧ ud < 2 then s else s.decodeError ⟨dst, n, .write, init, w, .m, none⟩, some 1)
    else
      let r := s.rule us ⟨src, n, .read, init, w, .m, none⟩
      if !r.2 then (r.1, some 1)
      else
        let x := if us = 3 then (r.1, false) else r.1.eccReadRange init src n e
        if x.2 then (x.1, some 2)
        else
          let y := x.1.rule ud ⟨dst, n, .write, init, w, .m, none⟩
          if !y.2 then (y.1, some 1)
          else
            let z := y.1.eccWrite init dst (s.memBytes src n) .clean
            (z.1, if z.2 then none else some 2)
  | _, _ => (s.decodeError ⟨if (unitOf src).isNone then src else dst, n, .read, init, w, .m, none⟩, some 1)

/-- A transfer piece by piece; bytes written before it stops stay in place. `k` bounds the pieces. -/
def State.dmaRun (w : World) (e : EccFind) : Nat → State → Nat → Nat → Nat → State
  | 0, s, _, _, _ => s.setDma w 0
  | k + 1, s, src, dst, n =>
    if n = 0 then s.setDma w 0
    else
      let here := min n 64
      match s.dmaPiece w src dst here e with
      | (t, some c) => t.setDma w c
      | (t, none) => State.dmaRun w .clean k t (src + here) (dst + here) (n - here)

/-- DMA_TRANSFER (R276, R289, R793, R799): a transfer of the Scribe-world or the Draft-world DMA engine. -/
def execDmaTransfer (w : World) (src dst len : Nat) (e : EccFind) (s : State) : Result :=
  if s.pwr.mainUp then .next (State.dmaRun w e (len / 64 + 2) s src dst len) else .next s

/-! ## Inbound host accesses (R495, R497a, R500 to R502, R526) -/

/-- Where a BAR offset leads. -/
inductive BarTarget where
  /-- A register at an internal address; `ruled` when it is in the view of shared MMIO. -/
  | reg (a : Nat) (ruled : Bool)
  | bar2 (folio : Nat) (off : Nat)
  | msix (off : Nat)
  /-- Reads 0 and ignores writes. -/
  | empty
  deriving DecidableEq, Repr

/-- Tables HST-3 and HST-10 and R502; none for an offset beyond the BAR. -/
def barTarget (bar off : Nat) : Option BarTarget := match bar with
  | 0 =>
    if off < 0x1000000 then some (if 0x400000 ≤ off ∧ off < 0x800000 then .empty else .reg (0x140000000 + off) true)
    else if off < 0x1400000 then some (.reg (0x100400000 + (off - 0x1000000)) false)
    else if off < 0x1410000 then some (.reg (0x100030000 + (off - 0x1400000)) false)
    else if off < 0x2000000 then some .empty else none
  | 2 => if off < 0x400000 then some (.bar2 (off / 0x10000) (off % 0x10000)) else none
  | 4 => if off < 0x10000 then some (.msix off) else none
  | _ => none

/-- The folio of an access through a BAR. -/
def BarTarget.folio : BarTarget → Nat
  | .bar2 f _ => f
  | _ => 0

/-- The buffer, if any, that holds `len` bytes from the target: a mailbox buffer or the Scribe mailbox's. -/
def BarTarget.inBuffer (t : BarTarget) (len : Nat) : Bool := match t with
  | .reg a false =>
    if a < Reg.FOL_CTL 0 then
      decide (a + len ≤ Reg.SCRB_REQ 0 + 0x1000) || decide (Reg.SCRB_RSP 0 ≤ a ∧ a + len ≤ Reg.SCRB_RSP 0 + 0x1000)
    else
      let o := a % 0x10000
      decide (0x1000 ≤ o ∧ o + len ≤ 0x1100) || decide (0x1100 ≤ o ∧ o + len ≤ 0x1200)
  | .bar2 _ o => decide (0x2000 ≤ o ∧ o + len ≤ 0x2100) || decide (0x2100 ≤ o ∧ o + len ≤ 0x2200)
  | _ => false

/-- The access has a form that R495 accepts; `full` is every byte enabled. -/
def barFormOk (t : BarTarget) (off len : Nat) (write full : Bool) : Bool :=
  ((len == 4 || len == 8) && off % len == 0 && full) ||
  (write && full && decide (4 ≤ len ∧ len ≤ 64) && len % 4 == 0 && off % 4 == 0 && t.inBuffer len)

/-- What folio page `f` reads at offset `o` (Tables HST-10, RNG-2, R926). -/
def State.folioPage (s : State) (f o : Nat) : Word :=
  if o < 0x100 then
    match o % 16, s.ringOf f (o / 16) with
    | 8, some n => BitVec.ofNat 32 (s.sqHead n)
    | 12, some n => s.rd (Reg.RING_STAT n) &&& 0xC0000106
    | _, _ => 0
  else if o = 0x1000 then BitVec.ofNat 32 (f * 2 ^ 24 + s.folioState f)
  else if o = 0x1004 then s.rd (Reg.FOL_ERR f)
  else if o = 0x1008 then s.folTEvt f
  else if 0x2000 ≤ o ∧ o < 0x2100 then s.rd (Reg.FOL_T2M f ((o - 0x2000) / 4))
  else if 0x2100 ≤ o ∧ o < 0x2200 then s.rd (Reg.FOL_M2T f ((o - 0x2100) / 4))
  else if o = 0x2200 then s.rd (Reg.FOL_MBX_CTL f)
  else 0

/-- A Tenant's write of one word of folio page `f`. -/
def State.folioPageWrite (s : State) (f o : Nat) (x : Word) : State :=
  if o < 0x100 then
    match o % 16 with
    | 0 => s.ran (execRingDbSq f (o / 16) x s)
    | 4 => s.ran (execRingDbCq f (o / 16) x s)
    | _ => s
  else if o = 0x1008 then s.ran (execFolTEvt f x s)
  else if 0x2000 ≤ o ∧ o < 0x2100 then s.mbxBufWrite f 0 ((o - 0x2000) / 4) x
  else if o = 0x2200 then s.mbxCtlWrite f true x
  else s

/-- A word of BAR4: the MSI-X table or the PBA (R502). -/
def State.msixRead (s : State) (o : Nat) : Word :=
  if o < 0x2000 then BitVec.ofNat 32 (s.msixWord (o / 4))
  else if 0x8000 ≤ o ∧ o < 0x8040 then
    BitVec.ofNat 32 ((s.host.pba.filter fun v => v / 32 == (o - 0x8000) / 4).foldl (fun w v => w + 2 ^ (v % 32)) 0)
  else 0

/-- Writable bits of an MSI-X table word: of the address the two low bits are 0, of the control word only the mask. -/
def msixMask (i : Nat) : Word := if i % 4 = 3 then 1 else if i % 4 = 0 then 0xFFFFFFFC else 0xFFFFFFFF

/-- A write of a word of the MSI-X table; a vector that becomes able to send its pending message sends it (R913). -/
def State.msixWrite (s : State) (o : Nat) (x : Word) : State :=
  if o < 0x2000 then
    State.flushPba { s with host := { s.host with
      msixTab := Tab.set msixReset s.host.msixTab (o / 4) (x &&& msixMask (o / 4)) } }
  else s

/-- One word of a target is read. -/
def State.barRead (s : State) (t : BarTarget) (wide : Bool) : State × Nat := match t with
  | .reg a _ => s.readReg (viaParty .manager) a (if wide then 8 else 4)
  | .bar2 f o => (s, (s.folioPage f o).toNat + if wide then 2 ^ 32 * (s.folioPage f (o + 4)).toNat else 0)
  | .msix o => (s, (s.msixRead o).toNat + if wide then 2 ^ 32 * (s.msixRead (o + 4)).toNat else 0)
  | .empty => (s, 0)

/-- The words `ws` are written from a target on, in ascending order. -/
def State.barWrite (s : State) (t : BarTarget) (b : Bytes) : State :=
  (List.range (b.length / 4)).foldl (fun s i =>
    let x := BitVec.ofNat 32 (leAt b (4 * i) 4)
    match t with
    | .reg a _ => s.writeWord (viaParty .manager) (a + 4 * i) x
    | .bar2 f o => s.folioPageWrite f (o + 4 * i) x
    | .msix o => s.msixWrite (o + 4 * i) x
    | .empty => s) s

/-- Only the BOOT block is reached before step 11 (R198, R211, R497a). -/
def State.recoveryHides (s : State) (t : BarTarget) : Bool :=
  s.fld Reg.BOOT_STAT 23 20 != 11 && (match t with
    | .reg a true => !decide (0x140030000 ≤ a ∧ a < 0x140040000)
    | _ => true)

/-- The internal address that a target's bytes stand at. -/
def BarTarget.at_ : BarTarget → Nat
  | .reg a _ => a
  | .bar2 f o => if 0x2000 ≤ o ∧ o < 0x2200 then Reg.FOL_CTL f + 0x1000 + (o - 0x2000) else 0
  | _ => 0

/-- An access whose form R495 accepts takes place, checked by the unit of shared MMIO where it is in that view. A write that R799
refuses is discarded with ACCESS in FOL_ERR; a read of poison is completed with EP set and reported (Table MEM-2). -/
def State.barAccess (s : State) (t : BarTarget) (len : Nat) (w : Option Bytes) (e : EccFind) : State :=
  let ruled := match t with
    | .reg a true => s.rule 6 ⟨a, len, if w.isSome then .write else .read, 19, .draft, .m, some 0⟩
    | _ => (s, true)
  match w with
  | some b =>
    if ruled.2 then
      let r := ruled.1.bufWrite 19 t.at_ len e
      if r.2 then r.1.barWrite t b else r.1.folErr t.folio 6
    else ruled.1
  | none =>
    if ruled.2 then
      let p := ruled.1.storedFind 19 .manager t.at_ len e
      let r := p.1.barRead t (len == 8)
      if p.2 then (r.1.emit (.pcie "EP")).aerReport 22 true else r.1.emit (.value r.2)
    else (ruled.1.emit (.pcie "CA")).aerReport 15 true

/-- A request at a BAR offset reaches the function: a read, or a write of the bytes `w`. One that the function does not take is
unsupported (R495). -/
def State.hostAccess (s : State) (bar off len : Nat) (w : Option Bytes) (full : Bool) (e : EccFind) : State :=
  let zero := fun (s : State) => if w.isSome then s else s.emit (.value 0)
  if !s.host.cfgOpen || !s.host.memSpace || s.host.d3 || s.host.flr then s.unsupported w.isNone
  else match barTarget bar off with
    | none => s.unsupported w.isNone
    | some t =>
      if s.recoveryHides t then zero s
      else if bar = 2 ∧ s.folioState t.folio = 0 then zero s
      else if (match w with | some b => b.length != len | none => false) || !barFormOk t off len w.isSome full then
        zero (s.folErr t.folio 6)
      else s.barAccess t len w e

/-- HOST_MMIO_ACCESS (R32, R153, R198, R495, R497a, R500 to R502, R892, R901): none reaches a device whose link is down; each is held
until the link is in L0, and each but a doorbell while the fabric is stopped. The check of the buffer or Colophon word it reaches finds
`e`. -/
def execHostMmioAccess (bar off len : Nat) (w : Option Bytes) (x : InboundEnv) (s : State) : Result :=
  if !s.hostLinkUp then .next s
  else if s.holds (.mmio bar off len w x.full x.find) then .next (s.holdInbound (.mmio bar off len w x.full x.find))
  else .next (s.hostAccess bar off len w x.full x.find)

/-! ## The fabric runs again (R900, R901) -/

/-- A held request takes place. -/
def State.inboundTake (s : State) : Inbound → State
  | .mmio bar off len w full e => s.hostAccess bar off len w full e
  | .cfg r w => s.configAccess r w

/-- The held requests take place in the order they came, but those that still wait (R32, R901). -/
def State.inboundApply (s : State) : State :=
  s.host.inbound.foldl (fun s q =>
    if s.holds q then { s with host := { s.host with inbound := s.host.inbound ++ [q] } } else s.inboundTake q)
    { s with host := { s.host with inbound := [] } }

/-- LINK_REACHES_L0 (R32, R153, R899): the link trains only once step 2 of boot has passed. -/
def execLinkReachesL0 (s : State) : Result :=
  if !s.hostLinkUp then .next s
  else
    let s := State.wakeRelease (State.driveClkreq { s with host := { s.host with linkL0 := true, linkSub := .none } } true)
    let s := s.msixRelease
    let s := if s.host.pmeHeld then s.sendPme else s
    .next s.inboundApply

/-- POWER_EXIT_COMPLETE (R883, R891, R897, R900, R901): every block of the main domain runs. An exit that BUDGET alone has caused ends in
the state that R889 now chooses, any other in ACTIVE. -/
def execPowerExitComplete (s : State) : Result :=
  let st := s.fld Reg.PWR_STAT 2 0
  if s.pwr.exiting && s.pwr.mainUp && decide (1 ≤ st ∧ st ≤ 3) then
    let to_ := if s.rd Reg.PWR_WAKE_LAST = 0x400 then min (s.powerChoice true) (st - 1) else 0
    let s := s.addSat64 (resReg st) ((s.stime.cycle - s.pwr.since) / 800)
    let s := s.wdSync.setf Reg.PWR_STAT 2 0 to_
    let s := if to_ = 0 then s.incSat Reg.PWR_EXITS 31 0 else s
    let s := if st = 3 then s.setb Reg.TIME_STAT 3 false else s
    let s := State.setb { s with pwr := { s.pwr with exiting := false, since := s.stime.cycle } } Reg.SMB_STAT 29 false
    .next (((((s.shadowApply.inboundApply.rxDrain 0).rxDrain 1).ltrUpdate).raise 504).pmeWake)
  else .next s

end Sys2Proof.Machine
end

