-- ==== Sys2Proof/Machine/Dispatch.lean ====
section
/-! DEFINITION. One arm per command. -/

namespace Sys2Proof.Machine

/-- The effect of a command on everything but the queue. -/
def exec (i : Instr) (s : State) : Host.Outcome State Fault Refusal :=
  match i with
  | .registerWrite p a w => Sys2Proof.Machine.execRegisterWrite p a w s
  | .stimeTick => Sys2Proof.Machine.execStimeTick s
  | .keeperHandover toKeeper => Sys2Proof.Machine.execKeeperHandover toKeeper s
  | .timeSet w => Sys2Proof.Machine.execTimeSet w s
  | .timeStepS w => Sys2Proof.Machine.execTimeStepS w s
  | .timeStepD v => Sys2Proof.Machine.execTimeStepD v s
  | .timeRateD p v => Sys2Proof.Machine.execTimeRateD p v s
  | .timeNowLo wide => Sys2Proof.Machine.execTimeNowLo wide s
  | .strokeEntryWrite p n word v => Sys2Proof.Machine.execStrokeEntryWrite p n word v s
  | .strokeLaunch => Sys2Proof.Machine.execStrokeLaunch s
  | .ppsPulseEnd => Sys2Proof.Machine.execPpsPulseEnd s
  | .lumroFrameTx => Sys2Proof.Machine.execLumroFrameTx s
  | .lumroFrameRx f => Sys2Proof.Machine.execLumroFrameRx f s
  | .ppsInEdge => Sys2Proof.Machine.execPpsInEdge s
  | .lumroWindowExpiry => Sys2Proof.Machine.execLumroWindowExpiry s
  | .gateRelease => Sys2Proof.Machine.execGateRelease s
  | .gateTimeout => Sys2Proof.Machine.execGateTimeout s
  | .ductCmdLoad v => Sys2Proof.Machine.execDuctCmdLoad v s
  | .liveLoadComplete => Sys2Proof.Machine.execLiveLoadComplete s
  | .ductCmdDiscard v => Sys2Proof.Machine.execDuctCmdDiscard v s
  | .ductCmdSwap v => Sys2Proof.Machine.execDuctCmdSwap v s
  | .porstNAssert => Sys2Proof.Machine.execPorstNAssert s
  | .porstNRise x => Sys2Proof.Machine.execPorstNRise x s
  | .bootTestsDone mbistFail misrs romFail => Sys2Proof.Machine.execBootTestsDone mbistFail misrs romFail s
  | .ductusBankVerified readOk romFail => Sys2Proof.Machine.execDuctusBankVerified readOk romFail s
  | .scribeImageChecked readOk romFail => Sys2Proof.Machine.execScribeImageChecked readOk romFail s
  | .draftRelease reads => Sys2Proof.Machine.execDraftRelease reads s
  | .bootRcvGo v => Sys2Proof.Machine.execBootRcvGo v s
  | .recoveryItemDone m romFail => Sys2Proof.Machine.execRecoveryItemDone m romFail s
  | .bootFloorCmdGo v otpFail => Sys2Proof.Machine.execBootFloorCmdGo v otpFail s
  | .bootMeasExtend v => Sys2Proof.Machine.execBootMeasExtend v s
  | .lcySubmit => Sys2Proof.Machine.execLcySubmit s
  | .lcyCheckDone => Sys2Proof.Machine.execLcyCheckDone s
  | .lcyRequestComplete otpFail => Sys2Proof.Machine.execLcyRequestComplete otpFail s
  | .lcySelfReset x => Sys2Proof.Machine.execLcySelfReset x s
  | .lcyNonce => Sys2Proof.Machine.execLcyNonce s
  | .idcode => Sys2Proof.Machine.execIdcode s
  | .bypass => Sys2Proof.Machine.execBypass s
  | .extest v => Sys2Proof.Machine.execExtest v s
  | .samplePreload sample v => Sys2Proof.Machine.execSamplePreload sample v s
  | .clamp => Sys2Proof.Machine.execClamp s
  | .highz => Sys2Proof.Machine.execHighz s
  | .testLogicReset x => Sys2Proof.Machine.execTestLogicReset x s
  | .lcTransition code => Sys2Proof.Machine.execLcTransition code s
  | .tokenUnlock token => Sys2Proof.Machine.execTokenUnlock token s
  | .debugAuthEmpty => Sys2Proof.Machine.execDebugAuthEmpty s
  | .debugAuthAppend w => Sys2Proof.Machine.execDebugAuthAppend w s
  | .debugAuthNonce => Sys2Proof.Machine.execDebugAuthNonce s
  | .debugAuthSelect arg => Sys2Proof.Machine.execDebugAuthSelect arg s
  | .debugAuthSubmit => Sys2Proof.Machine.execDebugAuthSubmit s
  | .debugAuthCapture => Sys2Proof.Machine.execDebugAuthCapture s
  | .otpAccess r w => Sys2Proof.Machine.execOtpAccess r w s
  | .scanEntry => Sys2Proof.Machine.execScanEntry s
  | .dtmcs => Sys2Proof.Machine.execDtmcs s
  | .dmi a w => Sys2Proof.Machine.execDmi a w s
  | .haltRequest h => Sys2Proof.Machine.execHaltRequest h s
  | .accessRegister h r w => Sys2Proof.Machine.execAccessRegister h r w s
  | .systemBusAccess addr len w e => Sys2Proof.Machine.execSystemBusAccess addr len w e s
  | .wrldClaim v => Sys2Proof.Machine.execWrldClaim v s
  | .wrldYield core => Sys2Proof.Machine.execWrldYield core s
  | .claimGraceExpiry core => Sys2Proof.Machine.execClaimGraceExpiry core s
  | .wrldReturn core => Sys2Proof.Machine.execWrldReturn core s
  | .lendMaxExpiry core => Sys2Proof.Machine.execLendMaxExpiry core s
  | .worldSwitchComplete core => Sys2Proof.Machine.execWorldSwitchComplete core s
  | .wrldWdKick v => Sys2Proof.Machine.execWrldWdKick v s
  | .watchdogExpiry => Sys2Proof.Machine.execWatchdogExpiry s
  | .wrldReady v => Sys2Proof.Machine.execWrldReady v s
  | .wrldSelfFail v => Sys2Proof.Machine.execWrldSelfFail v s
  | .lockstepDivergence => Sys2Proof.Machine.execLockstepDivergence s
  | .scribeRestartImageDone readOk => Sys2Proof.Machine.execScribeRestartImageDone readOk s
  | .restartBudgetExpiry => Sys2Proof.Machine.execRestartBudgetExpiry s
  | .machineTimerInterrupt hart => Sys2Proof.Machine.execMachineTimerInterrupt hart s
  | .coreAccess acc data e x => Sys2Proof.Machine.execCoreAccess acc data e x s
  | .rulSetCmd u v => Sys2Proof.Machine.execRulSetCmd u v s
  | .rulStageCommit u v => Sys2Proof.Machine.execRulStageCommit u v s
  | .rulLock u w => Sys2Proof.Machine.execRulLock u w s
  | .rootGenerate v => Sys2Proof.Machine.execRootGenerate v s
  | .domCreate v => Sys2Proof.Machine.execDomCreate v s
  | .domOpen v => Sys2Proof.Machine.execDomOpen v s
  | .genLoad v => Sys2Proof.Machine.execGenLoad v s
  | .genCreate v => Sys2Proof.Machine.execGenCreate v s
  | .genSwitch v => Sys2Proof.Machine.execGenSwitch v s
  | .domClose v => Sys2Proof.Machine.execDomClose v s
  | .domRewrite v => Sys2Proof.Machine.execDomRewrite v s
  | .eraseSlot v => Sys2Proof.Machine.execEraseSlot v s
  | .eraseFolio v => Sys2Proof.Machine.execEraseFolio v s
  | .eraseAll v => Sys2Proof.Machine.execEraseAll v s
  | .revalidate v => Sys2Proof.Machine.execRevalidate v s
  | .rsvCommandComplete => Sys2Proof.Machine.execRsvCommandComplete s
  | .slotEraseDone => Sys2Proof.Machine.execSlotEraseDone s
  | .cerOpen v => Sys2Proof.Machine.execCerOpen v s
  | .cerCount v => Sys2Proof.Machine.execCerCount v s
  | .cerClose v => Sys2Proof.Machine.execCerClose v s
  | .enrol v => Sys2Proof.Machine.execEnrol v s
  | .revoke v => Sys2Proof.Machine.execRevoke v s
  | .devmRaise v => Sys2Proof.Machine.execDevmRaise v s
  | .succBuild v => Sys2Proof.Machine.execSuccBuild v s
  | .restoreShare v => Sys2Proof.Machine.execRestoreShare v s
  | .restoreFinish v => Sys2Proof.Machine.execRestoreFinish v s
  | .handoverExport v => Sys2Proof.Machine.execHandoverExport v s
  | .handoverImport v => Sys2Proof.Machine.execHandoverImport v s
  | .custCommandComplete otpFail => Sys2Proof.Machine.execCustCommandComplete otpFail s
  | .ceremonyExpiry => Sys2Proof.Machine.execCeremonyExpiry s
  | .ringDbSq f k v => Sys2Proof.Machine.execRingDbSq f k v s
  | .ringDbCq f k v => Sys2Proof.Machine.execRingDbCq f k v s
  | .ringEnable n => Sys2Proof.Machine.execRingEnable n s
  | .ringDisable n => Sys2Proof.Machine.execRingDisable n s
  | .ringDrained n => Sys2Proof.Machine.execRingDrained n s
  | .descriptorFetch m => Sys2Proof.Machine.execDescriptorFetch m s
  | .duplicateRelease => Sys2Proof.Machine.execDuplicateRelease s
  | .chainRelease => Sys2Proof.Machine.execChainRelease s
  | .admission c e tx x => Sys2Proof.Machine.execAdmission c e tx x s
  | .seal id x => Sys2Proof.Machine.execSeal id x s
  | .openNib id x => Sys2Proof.Machine.execOpenNib id x s
  | .transcribe id x => Sys2Proof.Machine.execTranscribe id x s
  | .hash id m => Sys2Proof.Machine.execHash id m s
  | .hmac id m => Sys2Proof.Machine.execHmac id m s
  | .kmac id m => Sys2Proof.Machine.execKmac id m s
  | .sign id m => Sys2Proof.Machine.execSign id m s
  | .verify id m => Sys2Proof.Machine.execVerify id m s
  | .encaps id m => Sys2Proof.Machine.execEncaps id m s
  | .decaps id m => Sys2Proof.Machine.execDecaps id m s
  | .ecdh id m => Sys2Proof.Machine.execEcdh id m s
  | .keyGenerate id m => Sys2Proof.Machine.execKeyGenerate id m s
  | .random id m => Sys2Proof.Machine.execRandom id m s
  | .blobLoad id m => Sys2Proof.Machine.execBlobLoad id m s
  | .blobEvict id => Sys2Proof.Machine.execBlobEvict id s
  | .keyRewrap id m => Sys2Proof.Machine.execKeyRewrap id m s
  | .fence n => Sys2Proof.Machine.execFence n s
  | .nop n => Sys2Proof.Machine.execNop n s
  | .timeRead n => Sys2Proof.Machine.execTimeRead n s
  | .operationComplete id busyNs => Sys2Proof.Machine.execOperationComplete id busyNs s
  | .coalesceTimerExpiry n => Sys2Proof.Machine.execCoalesceTimerExpiry n s
  | .noiseSourceFail n rct apt => Sys2Proof.Machine.execNoiseSourceFail n rct apt s
  | .entSourceRestart v => Sys2Proof.Machine.execEntSourceRestart v s
  | .sourceStartupTestDone n rctFail aptFail => Sys2Proof.Machine.execSourceStartupTestDone n rctFail aptFail s
  | .entDrbgReseed v => Sys2Proof.Machine.execEntDrbgReseed v s
  | .drbgInstantiate => Sys2Proof.Machine.execDrbgInstantiate s
  | .drbgHoldExpiry k => Sys2Proof.Machine.execDrbgHoldExpiry k s
  | .directDrawTimeout => Sys2Proof.Machine.execDirectDrawTimeout s
  | .entRngS => Sys2Proof.Machine.execEntRngS s
  | .entRngD => Sys2Proof.Machine.execEntRngD s
  | .configRequest r w => Sys2Proof.Machine.execConfigRequest r w s
  | .hostMmioAccess bar off len w x => Sys2Proof.Machine.execHostMmioAccess bar off len w x s
  | .busMasterEnable on => Sys2Proof.Machine.execBusMasterEnable on s
  | .pmStateChange d3 => Sys2Proof.Machine.execPmStateChange d3 s
  | .hostReadCompletion who refused poisoned => Sys2Proof.Machine.execHostReadCompletion who refused poisoned s
  | .completionTimeout who => Sys2Proof.Machine.execCompletionTimeout who s
  | .atsInvalidateRequest tag pasid a size global => Sys2Proof.Machine.execAtsInvalidateRequest tag pasid a size global s
  | .atsInvalidateCompletion => Sys2Proof.Machine.execAtsInvalidateCompletion s
  | .functionLevelReset => Sys2Proof.Machine.execFunctionLevelReset s
  | .perstNAssert => Sys2Proof.Machine.execPerstNAssert s
  | .perstNDeassert => Sys2Proof.Machine.execPerstNDeassert s
  | .quiesce f => Sys2Proof.Machine.execQuiesce f s
  | .folioQuiesced f => Sys2Proof.Machine.execFolioQuiesced f s
  | .resume f => Sys2Proof.Machine.execResume f s
  | .reset f => Sys2Proof.Machine.execReset f s
  | .destroy f => Sys2Proof.Machine.execDestroy f s
  | .t2mFull f => Sys2Proof.Machine.execT2mFull f s
  | .m2tFull f => Sys2Proof.Machine.execM2tFull f s
  | .scribeMailboxReq => Sys2Proof.Machine.execScribeMailboxReq s
  | .scribeMailboxRsp => Sys2Proof.Machine.execScribeMailboxRsp s
  | .folioCreate => Sys2Proof.Machine.execFolioCreate s
  | .aclGrant holds => Sys2Proof.Machine.execAclGrant holds s
  | .aclRevoke => Sys2Proof.Machine.execAclRevoke s
  | .mbxCerOpen window required members candidates buf => Sys2Proof.Machine.execMbxCerOpen window required members candidates buf s
  | .cerCountersign m buf => Sys2Proof.Machine.execCerCountersign m buf s
  | .cerStatus => Sys2Proof.Machine.execCerStatus s
  | .mbxCerClose => Sys2Proof.Machine.execMbxCerClose s
  | .shareDeliver m slot buf pkgAt => Sys2Proof.Machine.execShareDeliver m slot buf pkgAt s
  | .domainAction m buf recAt sectors otpFail => Sys2Proof.Machine.execDomainAction m buf recAt sectors otpFail s
  | .ductusLoad m buf => Sys2Proof.Machine.execDuctusLoad m buf s
  | .ductusSwap => Sys2Proof.Machine.execDuctusSwap s
  | .ductusDiscard => Sys2Proof.Machine.execDuctusDiscard s
  | .signerEnrol otpFail => Sys2Proof.Machine.execSignerEnrol otpFail s
  | .signerRevoke order otpFail => Sys2Proof.Machine.execSignerRevoke order otpFail s
  | .floorRaise otpFail => Sys2Proof.Machine.execFloorRaise otpFail s
  | .handoverStart peerEk => Sys2Proof.Machine.execHandoverStart peerEk s
  | .mbxTimeSet => Sys2Proof.Machine.execMbxTimeSet s
  | .tokenBucketRefill => Sys2Proof.Machine.execTokenBucketRefill s
  | .schFcCtl f c v => Sys2Proof.Machine.execSchFcCtl f c v s
  | .frameReceive p f => Sys2Proof.Machine.execFrameReceive p f s
  | .portModeWrite p v => Sys2Proof.Machine.execPortModeWrite p v s
  | .recal p => Sys2Proof.Machine.execRecal p s
  | .portTempCheck p => Sys2Proof.Machine.execPortTempCheck p s
  | .synthLossOfLock p => Sys2Proof.Machine.execSynthLossOfLock p s
  | .relockComplete p => Sys2Proof.Machine.execRelockComplete p s
  | .linkUp x => Sys2Proof.Machine.execLinkUp x s
  | .pcsAlignmentLoss p => Sys2Proof.Machine.execPcsAlignmentLoss p s
  | .txHoldTimeout p => Sys2Proof.Machine.execTxHoldTimeout p s
  | .portPtpTxtsInfo p => Sys2Proof.Machine.execPortPtpTxtsInfo p s
  | .hsInit => Sys2Proof.Machine.execHsInit s
  | .hsResp => Sys2Proof.Machine.execHsResp s
  | .hsFin => Sys2Proof.Machine.execHsFin s
  | .request => Sys2Proof.Machine.execRequest s
  | .handoverOffer recAt ekAt outAt => Sys2Proof.Machine.execHandoverOffer recAt ekAt outAt s
  | .handoverPackage outAt => Sys2Proof.Machine.execHandoverPackage outAt s
  | .handoverRefuse => Sys2Proof.Machine.execHandoverRefuse s
  | .handshakeTimeout session tenant => Sys2Proof.Machine.execHandshakeTimeout session tenant s
  | .reassemblyTimeout session reqId => Sys2Proof.Machine.execReassemblyTimeout session reqId s
  | .tenantEntryWrite p n w v => Sys2Proof.Machine.execTenantEntryWrite p n w v s
  | .quilTxTail p q v => Sys2Proof.Machine.execQuilTxTail p q v s
  | .frameTransmit q => Sys2Proof.Machine.execFrameTransmit q s
  | .quilTblWrite p => Sys2Proof.Machine.execQuilTblWrite p s
  | .quilTblRead => Sys2Proof.Machine.execQuilTblRead s
  | .quilValidate => Sys2Proof.Machine.execQuilValidate s
  | .quilValidateDone => Sys2Proof.Machine.execQuilValidateDone s
  | .quilCtlSwap target => Sys2Proof.Machine.execQuilCtlSwap target s
  | .quilRateRefill => Sys2Proof.Machine.execQuilRateRefill s
  | .quilRateWrite c v => Sys2Proof.Machine.execQuilRateWrite c v s
  | .blotterSample x => Sys2Proof.Machine.execBlotterSample x s
  | .blotEraseDone => Sys2Proof.Machine.execBlotEraseDone s
  | .blotOutRelease => Sys2Proof.Machine.execBlotOutRelease s
  | .crystalStable => Sys2Proof.Machine.execCrystalStable s
  | .crystalStop => Sys2Proof.Machine.execCrystalStop s
  | .vbatMeasure mv => Sys2Proof.Machine.execVbatMeasure mv s
  | .vddAonGood => Sys2Proof.Machine.execVddAonGood s
  | .vddAonLoss => Sys2Proof.Machine.execVddAonLoss s
  | .blotterPowerLoss => Sys2Proof.Machine.execBlotterPowerLoss s
  | .vcoreExcursion high => Sys2Proof.Machine.execVcoreExcursion high s
  | .pllLockLoss => Sys2Proof.Machine.execPllLockLoss s
  | .alarmEscalation n => Sys2Proof.Machine.execAlarmEscalation n s
  | .blotAck p v => Sys2Proof.Machine.execBlotAck p v s
  | .opsecTick vcoreMv => Sys2Proof.Machine.execOpsecTick vcoreMv s
  | .epochClose => Sys2Proof.Machine.execEpochClose s
  | .epochRecordWritten x => Sys2Proof.Machine.execEpochRecordWritten x s
  | .coloSnap => Sys2Proof.Machine.execColoSnap s
  | .proofCmdStart p dbg v => Sys2Proof.Machine.execProofCmdStart p dbg v s
  | .proofSliceStart => Sys2Proof.Machine.execProofSliceStart s
  | .proofSliceEnd misr clearFail => Sys2Proof.Machine.execProofSliceEnd misr clearFail s
  | .proofPark core => Sys2Proof.Machine.execProofPark core s
  | .proofParkGraceExpiry core => Sys2Proof.Machine.execProofParkGraceExpiry core s
  | .eccWriteback a => Sys2Proof.Machine.execEccWriteback a s
  | .scrubStep which e => Sys2Proof.Machine.execScrubStep which e s
  | .xspiProgram w pr core => Sys2Proof.Machine.execXspiProgram w pr core s
  | .xspiErase w pr core => Sys2Proof.Machine.execXspiErase w pr core s
  | .xspiCommandDone fail => Sys2Proof.Machine.execXspiCommandDone fail s
  | .xspiLock v => Sys2Proof.Machine.execXspiLock v s
  | .wipeDone fail => Sys2Proof.Machine.execWipeDone fail s
  | .conCharReceived n c => Sys2Proof.Machine.execConCharReceived n c s
  | .conCharSent n collision => Sys2Proof.Machine.execConCharSent n collision s
  | .conTxdata n v => Sys2Proof.Machine.execConTxdata n v s
  | .conRxdata n => Sys2Proof.Machine.execConRxdata n s
  | .conCfgWrite n r v => Sys2Proof.Machine.execConCfgWrite n r v s
  | .flushTx n => Sys2Proof.Machine.execFlushTx n s
  | .flushRx n => Sys2Proof.Machine.execFlushRx n s
  | .conResume n => Sys2Proof.Machine.execConResume n s
  | .sendBreak n => Sys2Proof.Machine.execSendBreak n s
  | .conPauseTimeout n => Sys2Proof.Machine.execConPauseTimeout n s
  | .rs485TailEnd n => Sys2Proof.Machine.execRs485TailEnd n s
  | .conRxIdleTimeout n => Sys2Proof.Machine.execConRxIdleTimeout n s
  | .consoleBreak n => Sys2Proof.Machine.execConsoleBreak n s
  | .statusGet chars => Sys2Proof.Machine.execStatusGet chars s
  | .requestGet chars => Sys2Proof.Machine.execRequestGet chars s
  | .packageGet chars pkgAt => Sys2Proof.Machine.execPackageGet chars pkgAt s
  | .countersign chars buf => Sys2Proof.Machine.execCountersign chars buf s
  | .share chars slot buf pkgAt => Sys2Proof.Machine.execShare chars slot buf pkgAt s
  | .unknownFrame chars => Sys2Proof.Machine.execUnknownFrame chars s
  | .status t => Sys2Proof.Machine.execStatus t s
  | .ident t => Sys2Proof.Machine.execIdent t s
  | .alertStat t => Sys2Proof.Machine.execAlertStat t s
  | .alertMask t => Sys2Proof.Machine.execAlertMask t s
  | .lcyState t => Sys2Proof.Machine.execLcyState t s
  | .lcyWord t => Sys2Proof.Machine.execLcyWord t s
  | .lcyResult t => Sys2Proof.Machine.execLcyResult t s
  | .lcyRights t => Sys2Proof.Machine.execLcyRights t s
  | .lcyDebugCount t => Sys2Proof.Machine.execLcyDebugCount t s
  | .bootStat t => Sys2Proof.Machine.execBootStat t s
  | .bootTime t => Sys2Proof.Machine.execBootTime t s
  | .bootSerial t => Sys2Proof.Machine.execBootSerial t s
  | .bootIdent t => Sys2Proof.Machine.execBootIdent t s
  | .bootImgStat t => Sys2Proof.Machine.execBootImgStat t s
  | .bootFloorOtp t => Sys2Proof.Machine.execBootFloorOtp t s
  | .bootSigner t => Sys2Proof.Machine.execBootSigner t s
  | .ductStat t => Sys2Proof.Machine.execDuctStat t s
  | .ductConfigId t => Sys2Proof.Machine.execDuctConfigId t s
  | .ductConfigRev t => Sys2Proof.Machine.execDuctConfigRev t s
  | .ductVersion t => Sys2Proof.Machine.execDuctVersion t s
  | .wrldStat t => Sys2Proof.Machine.execWrldStat t s
  | .wrldCfg t => Sys2Proof.Machine.execWrldCfg t s
  | .wrldFailTime t => Sys2Proof.Machine.execWrldFailTime t s
  | .wrldReadyTime t => Sys2Proof.Machine.execWrldReadyTime t s
  | .rsvStat t => Sys2Proof.Machine.execRsvStat t s
  | .custStat t => Sys2Proof.Machine.execCustStat t s
  | .entStat t => Sys2Proof.Machine.execEntStat t s
  | .portStat t => Sys2Proof.Machine.execPortStat t s
  | .svcEk t => Sys2Proof.Machine.execSvcEk t s
  | .blotStat t => Sys2Proof.Machine.execBlotStat t s
  | .blotCause t => Sys2Proof.Machine.execBlotCause t s
  | .blotActive t => Sys2Proof.Machine.execBlotActive t s
  | .blotAlarm t => Sys2Proof.Machine.execBlotAlarm t s
  | .blotAlarmActive t => Sys2Proof.Machine.execBlotAlarmActive t s
  | .blotTime t => Sys2Proof.Machine.execBlotTime t s
  | .blotOpsec t => Sys2Proof.Machine.execBlotOpsec t s
  | .blotPcc t => Sys2Proof.Machine.execBlotPcc t s
  | .blotNear t => Sys2Proof.Machine.execBlotNear t s
  | .blotMeshNear t => Sys2Proof.Machine.execBlotMeshNear t s
  | .blotSense t => Sys2Proof.Machine.execBlotSense t s
  | .coloStat t => Sys2Proof.Machine.execColoStat t s
  | .coloOpsec t => Sys2Proof.Machine.execColoOpsec t s
  | .coloPcc t => Sys2Proof.Machine.execColoPcc t s
  | .coloNextClose t => Sys2Proof.Machine.execColoNextClose t s
  | .coloPage x => Sys2Proof.Machine.execColoPage x s
  | .coloLive t => Sys2Proof.Machine.execColoLive t s
  | .proofStat t => Sys2Proof.Machine.execProofStat t s
  | .proofBoot t => Sys2Proof.Machine.execProofBoot t s
  | .memStat t => Sys2Proof.Machine.execMemStat t s
  | .memEcc t => Sys2Proof.Machine.execMemEcc t s
  | .memWipeStat t => Sys2Proof.Machine.execMemWipeStat t s
  | .evtStatus t => Sys2Proof.Machine.execEvtStatus t s
  | .evtClear t => Sys2Proof.Machine.execEvtClear t s
  | .quickCommand addr rw => Sys2Proof.Machine.execQuickCommand addr rw s
  | .alertResponse lost ack => Sys2Proof.Machine.execAlertResponse lost ack s
  | .smbClockTimeout addr cmd => Sys2Proof.Machine.execSmbClockTimeout addr cmd s
  | .smbProtocolBreach addr cmd => Sys2Proof.Machine.execSmbProtocolBreach addr cmd s
  | .smbAddressMatch addr x => Sys2Proof.Machine.execSmbAddressMatch addr x s
  | .smbStretchLimit addr => Sys2Proof.Machine.execSmbStretchLimit addr s
  | .powerStateEntry wfi pcieIdle scrubIdle => Sys2Proof.Machine.execPowerStateEntry wfi pcieIdle scrubIdle s
  | .aspmL1Entry => Sys2Proof.Machine.execAspmL1Entry s
  | .preWake => Sys2Proof.Machine.execPreWake s
  | .wake b levels x => Sys2Proof.Machine.execWake b levels x s
  | .powerExitComplete => Sys2Proof.Machine.execPowerExitComplete s
  | .pwrHint p v => Sys2Proof.Machine.execPwrHint p v s
  | .standbyEntry wfi pcieIdle scrubIdle l23 => Sys2Proof.Machine.execStandbyEntry wfi pcieIdle scrubIdle l23 s
  | .evtRouteWrite p n v => Sys2Proof.Machine.execEvtRouteWrite p n v s
  | .evtStatusClear p g v => Sys2Proof.Machine.execEvtStatusClear p g v s
  | .folTEvt f v => Sys2Proof.Machine.execFolTEvt f v s
  | .msixVectorUnmask v => Sys2Proof.Machine.execMsixVectorUnmask v s
  | .plicClaim w ctx => Sys2Proof.Machine.execPlicClaim w ctx s
  | .plicComplete w ctx id => Sys2Proof.Machine.execPlicComplete w ctx id s
  | .atsTranslationCompletion who pasid a write dest size perm => Sys2Proof.Machine.execAtsTranslationCompletion who pasid a write dest size perm s
  | .linkReachesL0 => Sys2Proof.Machine.execLinkReachesL0 s
  | .pauseTimeExpiry p prio => Sys2Proof.Machine.execPauseTimeExpiry p prio s
  | .folioResetComplete f => Sys2Proof.Machine.execFolioResetComplete f s
  | .dmaTransfer w src dst len e => Sys2Proof.Machine.execDmaTransfer w src dst len e s
  | .hsDone => Sys2Proof.Machine.execHsDone s
  | .hsReject => Sys2Proof.Machine.execHsReject s
  | .unlistedCommandCode code t => Sys2Proof.Machine.execUnlistedCommandCode code t s
  | .conBreakEnd n => Sys2Proof.Machine.execConBreakEnd n s

end Sys2Proof.Machine
end

