-- ==== Sys2Proof/Safety.lean ====
section
/-! DEFINITION. What counts as a safe step, the invariant that every step keeps, and what the delivery of events may change:
the terms the statements use. -/

namespace Sys2Proof.Machine

/-- The machine's next command takes effect: no fault and no refusal. -/
def State.safe (s : State) : Prop := ∃ t, step s = .next t

/-- A command takes effect, and `P` holds of the state it leaves. -/
def Yields (c : Instr) (s : State) (P : State → Prop) : Prop := ∃ t, exec c s = .next t ∧ P t

/-- Registers that the delivery of an event may write: status words (R911), VECTOR in FOL_ERR (R914), PENDING of the alert
slots (R870), and the wake cause registers (R895). -/
def eventReg (a : Nat) : Bool :=
  (List.range 16).any (fun g => a == Reg.EVT_STATUS g) || (List.range 64).any (fun f => a == Reg.FOL_ERR f) ||
    a == Reg.SMB_ALERT || a == Reg.PWR_WAKE_CAUSE || a == Reg.PWR_WAKE_LAST

/-- From `s` to `t` nothing changes but the registers that `w` names and what the delivery of events changes: the registers of
`eventReg`, pending and held MSI-X messages, the start of an exit from a low-power state, PLIC latches, the output record,
and the model's record of the cycle (log entry 14). -/
def EventOnly (w : Nat → Bool) (s t : State) : Prop :=
  t = { s with
    regs := t.regs
    cyc := t.cyc
    host := { s.host with pba := t.host.pba, msixHeld := t.host.msixHeld, clkreq := t.host.clkreq }
    pwr := { s.pwr with exiting := t.pwr.exiting, wakeOut := t.pwr.wakeOut, busyAt := t.pwr.busyAt }
    plicS := t.plicS, plicD := t.plicD, out := t.out } ∧
  ∀ a, w a = false → eventReg a = false → t.rd a = s.rd a

/-- From `s` to `t` no register changes but those that `w` names, and nothing beside registers changes but the model's record of
the cycle (log entry 14). -/
def RegsOnly (w : Nat → Bool) (s t : State) : Prop :=
  t = { s with regs := t.regs, cyc := t.cyc } ∧ ∀ a, w a = false → t.rd a = s.rd a

/-- Registers named one by one. -/
def among (l : List Nat) (a : Nat) : Bool := l.contains a

/-- The tables of the state are in canonical form: keys rising, no entry that says what an unlisted key reads as. -/
def State.canonical (s : State) : Prop :=
  Tab.wf Reg.reset s.regs ∧ Tab.wf zeroByte s.mem.sram ∧ Tab.wf onesByte s.mem.flash ∧ Tab.wf zeroByte s.colo.mram

end Sys2Proof.Machine
end

