-- ==== Sys2Proof/Certificates/Slice0/Obligations.lean ====
section
/-! DEFINITION. The statements for the provers. -/

open Sys2Proof Sys2Proof.Machine

/-! ## The queue, reset and the whole machine -/

/-- A step takes the command at the front of the queue and is its execution with the rest of the queue; on an empty queue the
block idles (log entry 6). -/
def Obligations.StepTakesFront : Prop :=
  (∀ (s : State) (c : Instr) (rest : List Instr), s.pending = c :: rest → step s = exec c { s with pending := rest }) ∧
  (∀ s : State, s.pending = [] → step s = .next s)

/-- R45, R271, R305, R310, R930: after PORST_N STIME is 0 with VALID clear; every ruling unit is in boot mode with both sets empty,
no lock and no fault record; RESTARTS and the causes of Scribe failures are clear; every route is NONE and no status bit is set.
The queue is empty. The queue and the canonical form are the model's own (log entry 53). The tables of the state after reset are
in canonical form. -/
def Obligations.ResetLeaves : Prop :=
  (State.reset.ns = 0 ∧ State.reset.timeValid = false ∧
    (∀ u : Nat, u < 7 → State.reset.bit (Reg.RUL_CTL u) 2 = true ∧ State.reset.rd64 (Reg.RUL_LOCK u) = 0 ∧
      State.reset.rd (Reg.RUL_STAT u) = 0 ∧ State.reset.bit (Reg.RUL_FAULT_INFO u) 31 = false ∧
      ∀ set n : Nat, set < 2 → n < 64 → (State.reset.entryWord u set n 4).getLsbD 31 = false) ∧
    State.reset.fld Reg.WRLD_STAT 31 18 = 0 ∧
    (∀ n : Nat, n < 512 → State.reset.fld (Reg.EVT_ROUTE n) 29 27 = 0 ∧ State.reset.bit (Reg.EVT_ROUTE n) 31 = false ∧
      State.reset.evtStatus n = false) ∧
    State.reset.pending = []) ∧
  (State.reset.canonical)

/-- Every step keeps the register table, SRAM, the flash and the page store in canonical form, so that equal contents are equal
data. The canonical form is the model's own (log entry 53). -/
def Obligations.StepKeepsCanonical : Prop := ∀ s t : State, s.canonical → step s = .next t → t.canonical

/-- No command ends a run: every command on every state answers a next state, so no ordinary data faults or is refused. That a
command whose conditions do not hold leaves the state as it was is the model's choice (log entry 12). -/
def Obligations.EveryCommandRuns : Prop := ∀ (c : Instr) (s : State), ∃ t, exec c s = .next t

/-! ## Register and memory accesses -/

/-- The bits `hi` to `lo` alone may differ between `w` and `v`. -/
def sameOutside (hi lo : Nat) (w v : Word) : Prop := ∀ i : Nat, i < lo ∨ hi < i → v.getLsbD i = w.getLsbD i

/-- R6 and Table SCO-5 on one field: a party that may not write it leaves it; RO and SC keep, RW and WO take the data, W1C clears
the bits written 1, W1S sets them, W0C clears when the field is written 0, ANYC clears on any write, RWL takes the data unless
locked, RWO only while it holds its reset value. No bit outside the field changes. When an RWO field counts as written is the
model's choice (log entry 19). -/
def Obligations.AccessTypes : Prop :=
  ∀ (f : Fld) (party : Nat) (locked : Bool) (rst w x : Word), f.lo ≤ f.hi → f.hi < 32 →
    sameOutside f.hi f.lo w (f.write party locked rst w x) ∧
    (f.by_ &&& party = 0 → f.write party locked rst w x = w) ∧
    (f.by_ &&& party ≠ 0 →
      ((f.acc = .ro ∨ f.acc = .sc) → f.write party locked rst w x = w) ∧
      ((f.acc = .rw ∨ f.acc = .wo) → fieldOf (f.write party locked rst w x) f.hi f.lo = fieldOf x f.hi f.lo) ∧
      (f.acc = .w1c → ∀ i : Nat, f.lo ≤ i → i ≤ f.hi →
        (f.write party locked rst w x).getLsbD i = (w.getLsbD i && !x.getLsbD i)) ∧
      (f.acc = .w1s → ∀ i : Nat, f.lo ≤ i → i ≤ f.hi →
        (f.write party locked rst w x).getLsbD i = (w.getLsbD i || x.getLsbD i)) ∧
      (f.acc = .w0c → fieldOf (f.write party locked rst w x) f.hi f.lo = (if fieldOf x f.hi f.lo = 0 then 0 else fieldOf w f.hi f.lo)) ∧
      (f.acc = .anyc → fieldOf (f.write party locked rst w x) f.hi f.lo = 0) ∧
      (f.acc = .rwl → fieldOf (f.write party locked rst w x) f.hi f.lo =
        (if locked then fieldOf w f.hi f.lo else fieldOf x f.hi f.lo)) ∧
      (f.acc = .rwo → fieldOf (f.write party locked rst w x) f.hi f.lo =
        (if fieldOf w f.hi f.lo = fieldOf rst f.hi f.lo then fieldOf x f.hi f.lo else fieldOf w f.hi f.lo)))

/-- R5, R924: an aligned write of a register word with no effect beyond its fields, by a party that its header names, changes that
word by the access types of its fields and nothing else, where the hardware sets none of its W1C bits in the same cycle (R10),
captures no refusal in it and refills no bucket in it; a write of a delivery ring's head stores the new index and, where it
moves, re-arms that ring's drop event and no other's; a write by another party, to a reserved offset, or of another alignment
changes nothing. RWO fields and the order of two words follow log entry 19. -/
def Obligations.RegisterWrites : Prop :=
  (∀ (s : State) (p : Party) (a : Nat) (x : Word) (r : RegRow), Reg.row a = some r → r.own = false → r.reachedBy p = true →
    a % 4 = 0 → a ≠ Reg.COLO_PAGE_SEL → s.mailboxWrite p a x = none → s.writeIgnored a x = false → s.writeData a x = x →
    s.keepSets r a x = x → (a < Reg.FOL_CTL 0 ∨ Reg.FOL_CTL 0 + 0x400000 ≤ a) →
    (∀ u : Nat, u < 7 → a = Reg.RUL_FAULT_INFO u → s.cycNow.refused.find? (·.1 == u) = none) →
    (Reg.SCH_FC_CTL 0 0 ≤ a → a < Reg.SCH_FC_CTL 0 0 + 0x8000 → s.cycNow.refilled = none) →
    a ∉ [Reg.NIB_CTR_CLEAR, Reg.FLO_CTR_CLEAR, Reg.CON0_STAT, Reg.CON1_STAT, Reg.EVT_DECODE_INFO] →
    (∀ n : Nat, n < 16 → a ≠ Reg.QUIL_RX_HEAD n) → Yields (.registerWrite p a (.w4 x)) s fun t =>
      t.rd a = r.flds.foldl (fun w f => f.write (partyBit p) (s.rowLocked r a) (Reg.reset a) w x) (s.rd a) ∧
      RegsOnly (among [a]) { s with out := t.out } t) ∧
  (∀ (s : State) (p : Party) (n : Nat) (x : Word) (r : RegRow), n < 16 → Reg.row (Reg.QUIL_RX_HEAD n) = some r →
    r.reachedBy p = true → s.writeIgnored (Reg.QUIL_RX_HEAD n) x = false →
    Yields (.registerWrite p (Reg.QUIL_RX_HEAD n) (.w4 x)) s fun t =>
      t.fld (Reg.QUIL_RX_HEAD n) 13 0 = fieldOf x 13 0 ∧
      (fieldOf x 13 0 ≠ s.fld (Reg.QUIL_RX_HEAD n) 13 0 → n ∉ t.quil.dropped) ∧
      (∀ k : Nat, k ≠ n → (k ∈ t.quil.dropped ↔ k ∈ s.quil.dropped)) ∧
      RegsOnly (among [Reg.QUIL_RX_HEAD n]) { s with quil := { s.quil with dropped := t.quil.dropped }, out := t.out } t) ∧
  (∀ (s : State) (p : Party) (a : Nat) (x : Word),
    (a % 4 ≠ 0 ∨ (match Reg.row a with | none => true | some r => !r.reachedBy p) = true) →
    exec (.registerWrite p a (.w4 x)) s = .next s) ∧
  (∀ (s : State) (p : Party) (a : Nat) (x : DWord), a % 8 = 0 →
    exec (.registerWrite p a (.w8 x)) s =
      .next ((s.plainWrite p a (x.truncate 32)).plainWrite p (a + 4) ((x >>> 32).truncate 32)))

/-- A core access reaches memory at its own address: the core runs in a mode that it has, no trigger fires, M mode, the Scribe hart or
Bare addressing uses the address as it is, and PMP permits it (R229, R230). -/
abbrev coreDirect (s : State) (acc : Access) (c : CoreCsr) : Prop :=
  s.coreRuns acc.init = true ∧ modeOk acc.init acc.priv = true ∧ s.firedTrigger acc.init acc = none ∧
    (acc.init = 0 ∨ acc.priv = .m ∨ c.satp.toNat / 2 ^ 60 ∉ [8, 9]) ∧ pmpOk c acc.priv acc.kind acc.addr acc.len = true

/-- The access as the ruling units see it (R276). -/
abbrev asRuled (s : State) (acc : Access) : Access := { acc with world := s.coreWorld acc.init, folio := none }

/-- The access of the debug module's system bus as the ruling units see it (R234, R276). -/
abbrev asBus (s : State) (addr len : Nat) (k : AccKind) : Access :=
  ⟨addr, len, k, 20, if s.debugScribe then .scribe else .draft, .m, none⟩

/-- R276, R922: a permitted write of whole words by a core stores its bytes and no other byte of memory changes; a permitted read of
words with no error returns the bytes that stand there and changes nothing. R289: a refused access of a core, one that no range of
the map covers (which is captured as a decode error and writes no memory), one that PMP refuses and one that translation refuses
end in an exception with the address; a breakpoint trigger takes its exception in their place. R230: below M mode the access is
made at the address that translation gives. R234: the debug module's system bus reads and writes under the ruling units. An access through the system bus that no range covers sets sberror. What one access
covers is the model's choice (log entry 18). -/
def Obligations.CoreMemory : Prop :=
  (∀ (s : State) (acc : Access) (data : Nat) (m : HostMem) (c : CoreCsr), coreDirect s acc c → acc.kind = .write → acc.len = 8 →
    acc.addr % 8 = 0 → inSram acc.addr 8 = true →
    s.ruleRefuses (if acc.addr < 0x20000000 then 0 else 1) (asRuled s acc) = none →
    Yields (.coreAccess acc data .clean ⟨m, c⟩) s fun t =>
      t.memBytes acc.addr 8 = leBytes 8 data ∧ t.isBad acc.addr = false ∧
      (∀ a : Nat, a < acc.addr ∨ acc.addr + 8 ≤ a → t.memByte a = s.memByte a) ∧ t = { s with mem := t.mem }) ∧
  (∀ (s : State) (acc : Access) (data : Nat) (m : HostMem) (c : CoreCsr), coreDirect s acc c → acc.kind = .read → acc.len = 8 →
    acc.addr % 8 = 0 → inSram acc.addr 8 = true → s.isBad acc.addr = false →
    s.ruleRefuses (if acc.addr < 0x20000000 then 0 else 1) (asRuled s acc) = none →
    exec (.coreAccess acc data .clean ⟨m, c⟩) s = .next (s.emit (.value (ofLe (s.memBytes acc.addr 8))))) ∧
  (∀ (s : State) (acc : Access) (data : Nat) (e : EccFind) (m : HostMem) (c : CoreCsr), coreDirect s acc c → 0 < acc.len →
    memOf acc.addr = .none → Yields (.coreAccess acc data e ⟨m, c⟩) s fun t =>
      t.out = s.out ++ [.trap acc.init (accessCause acc.kind) acc.addr (trapToS c acc (accessCause acc.kind))] ∧
      t.bit Reg.EVT_DECODE_INFO 31 = true ∧
      (s.bit Reg.EVT_DECODE_INFO 31 = false → acc.addr < 2 ^ 64 → (t.rd64 Reg.EVT_DECODE_ADDR).toNat = acc.addr) ∧
      RegsOnly (among [Reg.EVT_DECODE_INFO, Reg.EVT_DECODE_ADDR, Reg.EVT_DECODE_ADDR + 4]) { s with out := t.out } t) ∧
  (∀ (s : State) (acc : Access) (data : Nat) (e : EccFind) (m : HostMem) (c : CoreCsr), s.coreRuns acc.init = true →
    modeOk acc.init acc.priv = true → s.firedTrigger acc.init acc = none →
    (acc.init = 0 ∨ acc.priv = .m ∨ c.satp.toNat / 2 ^ 60 ∉ [8, 9]) → pmpOk c acc.priv acc.kind acc.addr acc.len = false →
    exec (.coreAccess acc data e ⟨m, c⟩) s =
      .next (s.emit (.trap acc.init (accessCause acc.kind) acc.addr (trapToS c acc (accessCause acc.kind))))) ∧
  (∀ (s t : State) (acc : Access) (data cause : Nat) (e : EccFind) (m : HostMem) (c : CoreCsr), s.coreRuns acc.init = true →
    modeOk acc.init acc.priv = true → s.firedTrigger acc.init acc = none → s.coreWorld acc.init = .draft →
    s.translate ⟨.draft, .draft, acc.priv, acc.init, false⟩ (asRuled s acc) c = (t, .error cause) →
    exec (.coreAccess acc data e ⟨m, c⟩) s = .next (t.emit (.trap acc.init cause acc.addr (trapToS c acc cause)))) ∧
  (∀ (s t : State) (acc : Access) (data a : Nat) (m : HostMem) (c : CoreCsr), s.coreRuns acc.init = true →
    modeOk acc.init acc.priv = true → s.firedTrigger acc.init acc = none → s.coreWorld acc.init = .draft →
    s.translate ⟨.draft, .draft, acc.priv, acc.init, false⟩ (asRuled s acc) c = (t, .ok a) →
    pmpOk c acc.priv acc.kind a acc.len = true → acc.kind = .read → acc.len = 8 → a % 8 = 0 → inSram a 8 = true → t.isBad a = false →
    t.ruleRefuses (if a < 0x20000000 then 0 else 1) { asRuled s acc with addr := a } = none →
    exec (.coreAccess acc data .clean ⟨m, c⟩) s = .next (t.emit (.value (ofLe (t.memBytes a 8))))) ∧
  (∀ (s : State) (acc : Access) (data i : Nat) (e : EccFind) (m : HostMem) (c : CoreCsr), s.coreRuns acc.init = true →
    modeOk acc.init acc.priv = true → s.firedTrigger acc.init acc = some i → (s.trigger acc.init i).1.getLsbD 12 = false →
    exec (.coreAccess acc data e ⟨m, c⟩) s = .next (s.emit (.trap acc.init 3 acc.addr (trapToS c acc 3)))) ∧
  (∀ (s : State) (addr : Nat) (w : Option Nat), s.pwr.mainUp = true → s.right 2 = true → addr % 4 = 0 → memOf addr = .none →
    Yields (.systemBusAccess addr 4 w .clean) s fun t =>
      t.bit Reg.EVT_DECODE_INFO 31 = true ∧ t.mem = s.mem ∧ fieldOf (Tab.get zeroDm t.wrld.dm 0x38) 14 12 ≠ 0) ∧
  (∀ (s : State) (addr : Nat), s.pwr.mainUp = true → s.sbMay addr = true → addr % 8 = 0 → inSram addr 8 = true →
    (∀ v : Nat, s.ruleRefuses (if addr < 0x20000000 then 0 else 1) (asBus s addr 8 .write) = none →
      Yields (.systemBusAccess addr 8 (some v) .clean) s fun t => t.memBytes addr 8 = leBytes 8 v ∧
        (∀ a : Nat, a < addr ∨ addr + 8 ≤ a → t.memByte a = s.memByte a) ∧ t = { s with mem := t.mem }) ∧
    (s.isBad addr = false → s.ruleRefuses (if addr < 0x20000000 then 0 else 1) (asBus s addr 8 .read) = none →
      exec (.systemBusAccess addr 8 none .clean) s = .next (s.emit (.value (ofLe (s.memBytes addr 8))))))

/-- A request of the host reaches the function: the link is up and in L0, the fabric runs, configuration space is open with Memory
Space Enable set, in D0 and outside a function-level reset. -/
abbrev hostReaches (s : State) : Prop :=
  s.hostLinkUp = true ∧ s.host.linkL0 = true ∧ s.fabricStopped = false ∧ s.host.cfgOpen = true ∧ s.host.memSpace = true ∧
    s.host.d3 = false ∧ s.host.flr = false

/-- R276, R289: a permitted transfer of one piece by a DMA engine copies its bytes and no other byte of memory changes; a piece that
its unit refuses writes nothing and its channel reports BAD_ADDRESS. R501, R926: reads through the page of a FREE folio return 0
and its writes are discarded. R32, R901: a request that arrives before the link is in L0, or while the fabric is stopped and no
doorbell shadow takes it, is held. The pieces of a transfer, its memories, and the order in which an inbound access meets its checks
are the model's choice (log entries 16 and 17). -/
def Obligations.DmaAndHostAccess : Prop :=
  (∀ (s : State) (w : World) (src dst n : Nat), s.pwr.mainUp = true → 0 < n → n ≤ 64 → src % 8 = 0 → dst % 8 = 0 → n % 8 = 0 →
    inSram src n = true → inSram dst n = true → (∀ a ∈ wordsOf src n, s.isBad a = false) →
    s.ruleRefuses ((unitOf src).getD 0) ⟨src, n, .read, if w = .scribe then 9 else 10, w, .m, none⟩ = none →
    s.ruleRefuses ((unitOf dst).getD 0) ⟨dst, n, .write, if w = .scribe then 9 else 10, w, .m, none⟩ = none →
    Yields (.dmaTransfer w src dst n .clean) s fun t =>
      t.memBytes dst n = s.memBytes src n ∧ (if w = .scribe then t.mem.dmaS else t.mem.dmaD) = 0 ∧
      (∀ a : Nat, a < dst ∨ dst + n ≤ a → t.memByte a = s.memByte a) ∧ t = { s with mem := t.mem }) ∧
  (∀ (s : State) (w : World) (src dst n : Nat), s.pwr.mainUp = true → 0 < n → n ≤ 64 → inSram src n = true → inSram dst n = true →
    s.ruleRefuses ((unitOf src).getD 0) ⟨src, n, .read, if w = .scribe then 9 else 10, w, .m, none⟩ ≠ none →
    Yields (.dmaTransfer w src dst n .clean) s fun t =>
      (if w = .scribe then t.mem.dmaS else t.mem.dmaD) = 1 ∧ (∀ a : Nat, t.memByte a = s.memByte a)) ∧
  (∀ (s : State) (off len : Nat) (w : Option Bytes) (full : Bool) (e : EccFind), hostReaches s → off < 0x400000 →
    s.folioState (off / 0x10000) = 0 →
    exec (.hostMmioAccess 2 off len w ⟨full, e⟩) s = .next (if w.isSome then s else s.emit (.value 0))) ∧
  (∀ (s : State) (f i : Nat) (b : Bytes), hostReaches s → s.fld Reg.BOOT_STAT 23 20 = 11 →
    0 < f → f < 64 → i < 64 → b.length = 4 → s.folioState f ≠ 0 → s.mailboxOn f = true →
    s.bit (Reg.FOL_MBX_CTL f) 0 = false → s.isBad ((Reg.FOL_CTL f + 0x1000 + 4 * i) / 8 * 8) = false →
    Yields (.hostMmioAccess 2 (0x10000 * f + 0x2000 + 4 * i) 4 (some b) ⟨true, .clean⟩) s fun t =>
      t.rdn (Reg.FOL_T2M f i) = ofLe b ∧ RegsOnly (among [Reg.FOL_T2M f i]) s t) ∧
  (∀ (s : State) (f : Nat), hostReaches s → s.fld Reg.BOOT_STAT 23 20 = 11 → f < 64 → s.folioState f ≠ 0 →
    exec (.hostMmioAccess 2 (0x10000 * f + 0x1004) 4 none ⟨true, .clean⟩) s = .next (s.emit (.value (s.rdn (Reg.FOL_ERR f))))) ∧
  (∀ (s : State) (bar off len : Nat) (w : Option Bytes) (full : Bool) (e : EccFind), s.hostLinkUp = true →
    s.holds (.mmio bar off len w full e) = true →
    Yields (.hostMmioAccess bar off len w ⟨full, e⟩) s fun t =>
      t.host.inbound = s.host.inbound ++ [.mmio bar off len w full e] ∧ t.mem = s.mem)

/-! ## Chapter 02 -/

/-- R38: each CLK_FAB cycle adds TIME_INCR plus TIME_RATE_D to STIME, carrying from FRAC into NS; while the keeper holds STIME a
tick stands for the keeper's period of eight such cycles. Only STIME, the strokes that fall due and the report of power change.
No stroke entry waits for its new content (R130). BUSY of the Colophon counts the engines that hold an operation. The period of eight is the model's choice (log entry 8). -/
def Obligations.TickAddsIncrement : Prop :=
  ∀ s : State, s.pwr.mainUp = true → s.duct.replace = [] →
    let k : Nat := if s.bit Reg.TIME_STAT 3 then 8 else 1
    let v : Int := (s.ns : Int) * 2 ^ 32 + s.stime.frac.toNat + k * s.stimeInc
    0 ≤ v → v < 2 ^ 96 →
      Yields .stimeTick s fun t =>
        (t.ns : Int) * 2 ^ 32 + t.stime.frac.toNat = v ∧ t.stime.cycle = s.stime.cycle + k ∧
        (s.epochSet = false → t.colo = s.colo) ∧
        EventOnly (among [Reg.PWR_LTR]) { s with
          stime := t.stime
          strokes := t.strokes
          colo := { s.colo with busy := t.colo.busy, acc := t.colo.acc, saturated := t.colo.saturated } } t

/-- R39, R43, R924: the lower half of TIME_SET or TIME_STEP_S alone only stores that half; the upper half acts with the lower half
last written, and a 64-bit write acts with both. A load sets NS, clears FRAC and sets VALID; a step adds its signed operand to
NS and leaves FRAC. Memory, OTP, rings and operations do not change. R40 to R42: a Scribe write of TIME_RATE_D takes effect
whatever its value; a Draft write within 500 ppm does, and one beyond it leaves TIME_RATE_D and STIME and sets GUARD_RATE with
event source 445. A Draft step within R41 moves NS; one that R41 or R44 refuses leaves STIME and sets GUARD_STEP with source
445; where a Draft step of the same cycle came first, a Scribe step starts from STIME as it was before it, and the Draft step is
refused. -/
def Obligations.TimeWrites : Prop :=
  ((∀ (s : State) (v : Word), Yields (.timeSet (.lower v)) s fun t =>
      t.rd Reg.TIME_SET = v ∧ RegsOnly (among [Reg.TIME_SET]) s t) ∧
    (∀ (s : State) (v : Word), Yields (.timeStepS (.lower v)) s fun t =>
      t.rd Reg.TIME_STEP_S = v ∧ RegsOnly (among [Reg.TIME_STEP_S]) s t) ∧
    (∀ (s : State) (v : Word), Yields (.timeSet (.upper v)) s fun t =>
      t.ns = v.toNat * 2 ^ 32 + s.rdn Reg.TIME_SET ∧ t.stime.frac = 0 ∧ t.timeValid = true ∧
      t.mem = s.mem ∧ t.otp = s.otp ∧ t.rings = s.rings ∧ t.ops = s.ops) ∧
    (∀ (s : State) (v : DWord), Yields (.timeSet (.both v)) s fun t =>
      t.stime.ns = v ∧ t.stime.frac = 0 ∧ t.timeValid = true ∧
      t.mem = s.mem ∧ t.otp = s.otp ∧ t.rings = s.rings ∧ t.ops = s.ops) ∧
    (∀ (s : State) (v : DWord), s.stime.draftUndo = none → 0 ≤ (s.ns : Int) + v.toInt → (s.ns : Int) + v.toInt < 2 ^ 64 →
      Yields (.timeStepS (.both v)) s fun t =>
        (t.ns : Int) = s.ns + v.toInt ∧ t.stime.frac = s.stime.frac ∧
        EventOnly (among []) { s with stime := t.stime, strokes := t.strokes, regs := t.regs } t) ∧
    (∀ (s : State) (v ns : DWord) (last : Option Nat), s.stime.draftUndo = some (s.stime.cycle, ns, last) →
      0 ≤ (ns.toNat : Int) + v.toInt → (ns.toNat : Int) + v.toInt < 2 ^ 64 →
      Yields (.timeStepS (.both v)) s fun t =>
        (t.ns : Int) = ns.toNat + v.toInt ∧ t.stime.lastDraftStep = last ∧ t.bit Reg.TIME_STAT 2 = true ∧
        t.evtStatus 445 = true)) ∧
  ((∀ (s : State) (v : Word), Yields (.timeRateD .scribe v) s fun t =>
      t.rd Reg.TIME_RATE_D = v ∧ RegsOnly (among [Reg.TIME_RATE_D]) s t) ∧
    (∀ (s : State) (v : Word), -2684354 ≤ v.toInt → v.toInt ≤ 2684354 →
      Yields (.timeRateD .draft v) s fun t => t.rd Reg.TIME_RATE_D = v ∧ RegsOnly (among [Reg.TIME_RATE_D]) s t) ∧
    (∀ (s : State) (v : Word), v.toInt < -2684354 ∨ 2684354 < v.toInt →
      Yields (.timeRateD .draft v) s fun t =>
        t.bit Reg.TIME_STAT 1 = true ∧ t.evtStatus 445 = true ∧ EventOnly (among [Reg.TIME_STAT]) s t) ∧
    (∀ (s : State) (v : Word), s.draftStepOk v = true → 0 ≤ (s.ns : Int) + v.toInt → (s.ns : Int) + v.toInt < 2 ^ 64 →
      Yields (.timeStepD v) s fun t => (t.ns : Int) = s.ns + v.toInt ∧ t.stime.frac = s.stime.frac ∧
        t.stime.lastDraftStep = some s.stime.cycle) ∧
    (∀ (s : State) (v : Word), s.draftStepOk v = false →
      Yields (.timeStepD v) s fun t =>
        t.bit Reg.TIME_STAT 2 = true ∧ t.evtStatus 445 = true ∧ EventOnly (among [Reg.TIME_STAT]) s t))

/-- R46, R47, R56: a read of TIME_NOW_LO returns NS and latches the rest of the sample; the keeper takes STIME over, and gives it
back, with no step; PPS_OUT falls at the end of its pulse. R54, R57 to R59: the Lumro link. A frame sent 499 ms or more after its edge carries the
whole seconds of its edge plus one and the next sequence number; a received frame with a right CRC sets TIME_LUMRO_RXSEC, one
with a bad CRC counts in CRC_ERR; a rising edge of PPS_IN captures STIME; frames whose window ended without an edge count in
WINDOW_ERR and no offset is updated. -/
def Obligations.TimeReadsAndLumro : Prop :=
  ((∀ (s : State) (wide : Bool), Yields (.timeNowLo wide) s fun t =>
      t.out = s.out ++ [.value (if wide then s.ns else s.ns % 2 ^ 32)] ∧
      (t.rd Reg.TIME_NOW_HI).toNat = s.ns / 2 ^ 32 ∧ t.rd Reg.TIME_NOW_FRAC = s.stime.frac ∧
      RegsOnly (among [Reg.TIME_NOW_HI, Reg.TIME_NOW_FRAC]) { s with out := t.out } t) ∧
    (∀ (s : State) (b : Bool), b = true ∨ s.pllOff = false → Yields (.keeperHandover b) s fun t =>
      t.bit Reg.TIME_STAT 3 = b ∧ t.stime = s.stime ∧ RegsOnly (among [Reg.TIME_STAT]) s t) ∧
    (∀ s : State, s.pllOff = true → exec (.keeperHandover false) s = .next s) ∧
    (∀ s : State, s.lumro.ppsOut = true → s.lumro.ppsEnd ≤ s.stime.cycle → Yields .ppsPulseEnd s fun t =>
      t.lumro.ppsOut = false ∧ t.out = s.out ++ [.pin .ppsOut false] ∧ t = { s with lumro := t.lumro, out := t.out })) ∧
  ((∀ (s : State) (e c : Nat) (r : List (Nat × Nat)), s.lumro.txEdges = (e, c) :: r → c + 399200000 ≤ s.stime.cycle →
      s.bit Reg.TIME_LUMRO_CTL 0 = true → Yields .lumroFrameTx s fun t =>
        t.out = s.out ++ [.tod (s.lumroFrame e)] ∧ beAt (s.lumroFrame e) 4 8 = (e / 1000000000 + 1) % 2 ^ 64 ∧
        t.lumro.seq = s.lumro.seq + 1 ∧ t.lumro.txEdges = r ∧ t = { s with lumro := t.lumro, out := t.out }) ∧
    (∀ (s : State) (f : Bytes), s.bit Reg.TIME_LUMRO_CTL 1 = true → f.length = 24 → beAt f 0 2 = 0x4C4D → beAt f 2 1 = 1 →
      beAt f 20 4 = crc32c (slice f 0 20) →
      Yields (.lumroFrameRx f) s fun t =>
        (t.rd64 Reg.TIME_LUMRO_RXSEC).toNat = beAt f 4 8 ∧ t.bit Reg.TIME_LUMRO_STAT 0 = false ∧
        RegsOnly (among [Reg.TIME_LUMRO_RXSEC, Reg.TIME_LUMRO_RXSEC + 4, Reg.TIME_LUMRO_STAT])
          { s with lumro := t.lumro } t) ∧
    (∀ (s : State) (f : Bytes), s.bit Reg.TIME_LUMRO_CTL 1 = true → f.length = 24 →
      beAt f 20 4 ≠ crc32c (slice f 0 20) →
      Yields (.lumroFrameRx f) s fun t =>
        t.fld Reg.TIME_LUMRO_STAT 31 16 = min (s.fld Reg.TIME_LUMRO_STAT 31 16 + 1) 0xFFFF ∧
        RegsOnly (among [Reg.TIME_LUMRO_STAT]) { s with colo := t.colo } t) ∧
    (∀ s : State, s.bit Reg.TIME_LUMRO_CTL 1 = true → Yields .ppsInEdge s fun t =>
      t.rd64 Reg.TIME_LUMRO_CAP = s.stime.ns ∧ t.stime = s.stime ∧ t.mem = s.mem) ∧
    (∀ s : State, Yields .lumroWindowExpiry s fun t =>
      let ended := s.lumro.rx.filter fun r => decide (r.2 + 720000000 < s.stime.cycle)
      t.fld Reg.TIME_LUMRO_STAT 15 1 = min (s.fld Reg.TIME_LUMRO_STAT 15 1 + ended.length) 0x7FFF ∧
      RegsOnly (among [Reg.TIME_LUMRO_STAT]) { s with lumro := t.lumro } t))

/-- R62, R63, R65, R66, R68, R69, R72: a Draft write of a Scribe-owned stroke entry changes no entry, records reason OWNER and raises
source 443; a field word of a disabled entry takes the value written and one of an armed entry keeps its value; clearing
status bits clears those named, but for those that the hardware sets in the same cycle (R10). A launch counts, marks the entry with LATE and STEPPED, and takes it off the queue. -/
def Obligations.StrokeTable : Prop :=
  (∀ (s : State) (n word : Nat) (v : Word), n < 1024 → word < 8 → s.bit (Reg.STRK_W0 n) 30 = false →
    Yields (.strokeEntryWrite .draft n word v) s fun t =>
      t.fld Reg.STRK_ERR 30 28 = 1 ∧ t.fld Reg.STRK_ERR 9 0 = n ∧ t.bit Reg.STRK_ERR 31 = true ∧ t.evtStatus 443 = true ∧
      EventOnly (among [Reg.STRK_ERR]) s t) ∧
  (∀ (s : State) (p : Party) (n word : Nat) (v : Word), n < 1024 → 1 ≤ word → word ≤ 5 →
    (p = .scribe ∨ (p = .draft ∧ s.bit (Reg.STRK_W0 n) 30 = true)) →
    Yields (.strokeEntryWrite p n word v) s fun t =>
      t.rd (Reg.STRK_W0 n + 4 * word) = (if s.bit (Reg.STRK_W0 n) 31 then s.rd (Reg.STRK_W0 n + 4 * word) else v) ∧
      RegsOnly (among [Reg.STRK_W0 n + 4 * word]) s t) ∧
  (∀ (s : State) (p : Party) (n : Nat) (v : Word), n < 1024 →
    (p = .scribe ∨ (p = .draft ∧ s.bit (Reg.STRK_W0 n) 30 = true)) →
    Yields (.strokeEntryWrite p n 7 v) s fun t =>
      t.rd (Reg.STRK_STATUS n) = s.rd (Reg.STRK_STATUS n) &&& ~~~(v &&& 0xF8000000 &&& ~~~ s.hwSets (Reg.STRK_STATUS n)) ∧
      RegsOnly (among [Reg.STRK_STATUS n]) s t) ∧
  (∀ (s : State) (d : DueStroke) (r : List DueStroke), s.strokes.due = d :: r → d.idx < 1024 → s.strokes.applied < 16 →
    s.fld Reg.PWR_STAT 2 0 ≠ 3 → fieldOf (s.rd (Reg.STRK_W0 d.idx)) 23 16 = 6 →
    fieldOf (s.rd (Reg.STRK_W0 d.idx)) 15 0 < 24 →
    Yields .strokeLaunch s fun t =>
      t.bit (Reg.STRK_STATUS d.idx) 31 = true ∧ t.bit (Reg.STRK_STATUS d.idx) 30 = d.late ∧
      t.bit (Reg.STRK_STATUS d.idx) 29 = d.stepped ∧ t.bit (Reg.STRK_STATUS d.idx) 28 = false ∧
      t.rdn (Reg.STRK_COUNT d.idx) = min (s.rdn (Reg.STRK_COUNT d.idx) + 1) (2 ^ 32 - 1) ∧
      t.evtStatus (416 + fieldOf (s.rd (Reg.STRK_W0 d.idx)) 15 0) = true ∧
      t.strokes.due = s.strokes.due.filter (fun e => e.idx != d.idx) ∧ t.mem = s.mem)

/-! ## Chapters 03 and 05 -/

/-- R114 to R116, R126: LOAD starts a live load of the named stream, or is rejected with SHADOW_BUSY while sections are pending; at
its end an accepted stream fills the shadow images and a rejected one leaves them, each with event source 506; DISCARD drops the
shadow images. R119, R122: a SWAP that names a pending section brings the live version into force and raises source 507; one
that names none sets the error bit and changes nothing else. -/
def Obligations.LiveStreams : Prop :=
  ((∀ (s : State) (v : Word), ductCmdOk v = true → v.getLsbD 31 = true → s.bit Reg.DUCT_CMD 31 = false →
      s.duct.loading = none → s.fld Reg.DUCT_LIVE_STAT 15 0 = 0 →
      Yields (.ductCmdLoad v) s fun t =>
        t.duct.loading = some ((s.rd64 Reg.DUCT_LIVE_ADDR).toNat % 2 ^ 40, s.rdn Reg.DUCT_LIVE_LEN) ∧
        t.bit Reg.DUCT_LIVE_STAT 23 = true ∧ t.bit Reg.DUCT_CMD 31 = true ∧
        RegsOnly (among [Reg.DUCT_CMD, Reg.DUCT_LIVE_STAT]) { s with duct := t.duct } t) ∧
    (∀ (s : State) (v : Word), ductCmdOk v = true → v.getLsbD 31 = true → s.bit Reg.DUCT_CMD 31 = false →
      s.fld Reg.DUCT_LIVE_STAT 15 0 ≠ 0 →
      Yields (.ductCmdLoad v) s fun t =>
        t.fld Reg.DUCT_LIVE_STAT 31 24 = Rej.shadowBusy ∧ t.evtStatus 506 = true ∧ t.duct = s.duct ∧
        EventOnly (among [Reg.DUCT_CMD, Reg.DUCT_LIVE_STAT]) s t) ∧
    (∀ (s : State) (a n : Nat) (x : Stream), s.duct.loading = some (a, n) → (s.liveVerdict a n).2 = .ok x →
      Yields .liveLoadComplete s fun t =>
        t.duct.loading = none ∧ t.evtStatus 506 = true ∧
        t.duct.shadow = (x.secs.filter fun e => liveCodes.contains e.1).map fun e => (e.1, e.2.2)) ∧
    (∀ (s : State) (a n c : Nat), s.duct.loading = some (a, n) → (s.liveVerdict a n).2 = .error c →
      Yields .liveLoadComplete s fun t =>
        t.duct.loading = none ∧ t.duct.shadow = s.duct.shadow ∧ t.fld Reg.DUCT_LIVE_STAT 31 24 = c % 256 ∧
        t.bit Reg.DUCT_LIVE_STAT 23 = false ∧ t.bit Reg.DUCT_CMD 31 = false ∧ t.evtStatus 506 = true ∧
        EventOnly (among [Reg.DUCT_CMD, Reg.DUCT_LIVE_STAT]) { (s.liveVerdict a n).1 with duct := t.duct } t) ∧
    (∀ (s : State) (v : Word), ductCmdOk v = true → v.getLsbD 30 = true →
      Yields (.ductCmdDiscard v) s fun t =>
        t.duct.shadow = [] ∧ t.fld Reg.DUCT_LIVE_STAT 15 0 = 0 ∧
        RegsOnly (among [Reg.DUCT_CMD, Reg.DUCT_LIVE_STAT]) { s with duct := t.duct } t)) ∧
  ((∀ (s : State) (v : Word), ductCmdOk v = true → v.getLsbD 29 = true →
      (∀ c ∈ liveCodes, v.toNat.testBit c = true → s.bit Reg.DUCT_LIVE_STAT c = false) →
      Yields (.ductCmdSwap v) s fun t =>
        t.bit Reg.DUCT_LIVE_STAT 22 = true ∧ RegsOnly (among [Reg.DUCT_CMD, Reg.DUCT_LIVE_STAT]) s t) ∧
    (∀ (s : State) (v : Word) (c : Nat), ductCmdOk v = true → v.getLsbD 29 = true → c ∈ liveCodes → v.toNat.testBit c = true →
      s.bit Reg.DUCT_LIVE_STAT c = true →
      Yields (.ductCmdSwap v) s fun t =>
        t.rdn Reg.DUCT_LIVE_VERSION = s.duct.liveVersion % 2 ^ 32 ∧ t.evtStatus 507 = true))

/-- From `s` to `t` the OTP changes at most by bits of a mark that was being written, and no bit is cleared. -/
abbrev markPart (s t : State) : Prop :=
  t.otp = { s.otp with lcyWord := t.otp.lcyWord } ∧
  (∀ i : Nat, s.otp.lcyWord.getLsbD i = true → t.otp.lcyWord.getLsbD i = true) ∧
  (∀ i : Nat, t.otp.lcyWord.getLsbD i = true →
    s.otp.lcyWord.getLsbD i = true ∨ ∃ w wiped, s.lcy.req = some (.mark w wiped) ∧ w.getLsbD i = true)

/-- From `s` to `t` the flash and the MRAM are kept, but for a flash command or wipe in progress and an epoch due to close. -/
abbrev storesKept (s t : State) : Prop :=
  (s.mem.cmd = none → s.mem.wipe = none → t.mem.flash = s.mem.flash) ∧ (s.closeDue = false → t.colo.mram = s.colo.mram)

/-- R147, R188, R224, R706, R958: asserting PORST_N, and losing VDD_AON, stop the main domain and keep OTP, flash and MRAM, but for
what was being written to them; a rise with VDD_AON good starts boot, which samples the straps and reaches step 3 in a state that
permits firmware; VDD_AON becoming good alone only moves the Blotter domain; a completed mark restarts the device with the OTP as it
stands. R109 to R112, R192 to R197: boot takes its steps in order. Tests that pass clear SRAM and reach step 4; a bank that fails
verification records its reason and turns to the other bank, whose use sets FALLBACK; with both rejected boot waits for recovery; a
verified stream, or an accepted Scribe image, takes effect; a rejected one sends boot back or to recovery; a failing boot ROM halts
boot; step 9 ends at step 11 with configuration requests answered. What STAGE shows between banks and when CODE changes, and what a
failing boot ROM leaves undone, are the model's choice (log entries 26, 27 and 57). -/
def Obligations.ResetAndBoot : Prop :=
  ((∀ s : State, Yields .porstNAssert s fun t =>
      t.boot.porst = false ∧ t.pwr.mainUp = false ∧ markPart s t ∧ storesKept s t ∧
      t.rsv.brk = s.rsv.brk ∧ t.stime = State.reset.stime ∧ t.ops = [] ∧ t.pending = s.pending) ∧
    (∀ (s : State) (x : BootIn), s.boot.porst = false → s.blot.aon = true → s.lcy.hold = false → x.locked = true →
      x.romFail = none →
      Yields (.porstNRise x) s fun t =>
        t.boot.porst = true ∧ t.pwr.mainUp = true ∧ t.fld Reg.BOOT_STAT 15 13 = x.straps % 8 ∧
        t.fld Reg.BOOT_STAT 23 20 = (if [3, 4, 5].contains t.life then 3 else 2) ∧ t.otp = s.otp) ∧
    (∀ s : State, s.blot.aon = false → s.boot.stash = none → Yields .vddAonGood s fun t =>
      t.blot.aon = true ∧ t.blot.alive = true ∧ t.bit Reg.BLOT_STAT 26 = true ∧
      RegsOnly (among [Reg.BLOT_STAT]) { s with blot := t.blot } t) ∧
    (∀ s : State, s.blot.aon = true → Yields .vddAonLoss s fun t =>
      t.blot.aon = false ∧ t.bit Reg.BLOT_STAT 26 = false ∧ t.pwr.mainUp = false ∧ markPart s t ∧ storesKept s t) ∧
    (∀ (s : State) (x : BootIn), s.lcy.resetDue = true → Yields (.lcySelfReset x) s fun t =>
      t.lcy.resetDue = false ∧ t.otp = s.otp ∧ (s.mem.cmd = none → s.mem.wipe = none → t.mem.flash = s.mem.flash))) ∧
  ((∀ (s : State) (misrs : List Nat), s.bootAt 3 = true → Yields (.bootTestsDone false misrs false) s fun t =>
      t.fld Reg.BOOT_STAT 23 20 = 4 ∧ t.mem.sram = [] ∧ t.mem.flash = s.mem.flash ∧ t.otp = s.otp) ∧
    (∀ (s : State) (f : Bool) (misrs : List Nat), s.bootAt 3 = true → Yields (.bootTestsDone f misrs true) s fun t =>
      t.fld Reg.BOOT_STAT 23 20 = 3 ∧ t.fld Reg.BOOT_STAT 31 24 = 0x0A ∧ t.bit Reg.BOOT_STAT 18 = true ∧ t.mem.sram = s.mem.sram) ∧
    (∀ (s : State) (x : Stream), s.bootAt 4 = true → s.boot.tried = [] →
      s.verifyStream (s.bankWords s.nextBank) false true = .ok x →
      exec (.ductusBankVerified true none) s =
        .next (State.bootApply { s with boot := { s.boot with tried := [s.nextBank] } } x s.nextBank false)) ∧
    (∀ (s : State) (x : Stream) (b : Nat), (s.bootAt 4 = true ∨ s.bootAt 5 = true) → s.boot.tried = [b] →
      s.verifyStream (s.bankWords (1 - b)) false true = .ok x →
      exec (.ductusBankVerified true none) s =
        .next ((State.setb { s with boot := { s.boot with tried := [b, 1 - b] } } Reg.DUCT_STAT 4 true).bootApply x (1 - b) false)) ∧
    (∀ (s : State) (readOk : Bool) (c : Nat), s.bootAt 4 = true → s.boot.tried = [] →
      s.verifyStream (s.bankWords s.nextBank) false readOk = .error c →
      Yields (.ductusBankVerified readOk none) s fun t =>
        t.boot.tried = [s.nextBank] ∧ t.fld Reg.BOOT_STAT 23 20 = 5 ∧
        (if s.nextBank = 0 then t.fld Reg.DUCT_STAT 31 24 else t.fld Reg.DUCT_STAT 23 16) = c % 256 ∧
        RegsOnly (among [Reg.DUCT_STAT, Reg.BOOT_STAT]) { s with boot := t.boot, out := t.out } t) ∧
    (∀ (s : State) (readOk : Bool) (b c : Nat), (s.bootAt 4 = true ∨ s.bootAt 5 = true) → s.boot.tried = [b] →
      s.verifyStream (s.bankWords (1 - b)) false readOk = .error c →
      Yields (.ductusBankVerified readOk none) s fun t =>
        t.boot.tried = [b, 1 - b] ∧ t.fld Reg.BOOT_STAT 31 24 = 0x05 ∧ t.bit Reg.BOOT_STAT 19 = true ∧
        t.bit Reg.BOOT_RCV_STAT 22 = true ∧ t.host.cfgOpen = true ∧
        (if 1 - b = 0 then t.fld Reg.DUCT_STAT 31 24 else t.fld Reg.DUCT_STAT 23 16) = c % 256 ∧
        RegsOnly (among [Reg.DUCT_STAT, Reg.BOOT_STAT, Reg.BOOT_RCV_STAT])
          { s with boot := t.boot, host := { s.host with cfgOpen := true }, out := t.out } t) ∧
    (∀ (s : State) (readOk : Bool) (n : Nat), (s.bootAt 4 = true ∨ s.bootAt 5 = true) → s.boot.tried.length < 2 → n < 6 →
      Yields (.ductusBankVerified readOk (some n)) s fun t =>
        t.fld Reg.BOOT_STAT 23 20 = s.fld Reg.BOOT_STAT 23 20 ∧ t.fld Reg.BOOT_STAT 31 24 = 0x0A ∧
        t.bit Reg.BOOT_STAT 18 = true ∧ t.boot = s.boot) ∧
    (∀ (s : State) (e : Image) (readOk : Bool), s.bootAt 7 = true → s.scribeImage = some e →
      exec (.scribeImageChecked readOk none) s =
        .next (if (s.imageVerdict e (s.imageBytes e) readOk).code = 0
          then s.scribeRelease e (s.imageBytes e) (s.imageVerdict e (s.imageBytes e) readOk) false
          else s.scribeReject (s.imageVerdict e (s.imageBytes e) readOk).code)) ∧
    (∀ (s : State) (reads : List Bool), s.bootAt 9 = true → s.wrldState = 0 → Yields (.draftRelease reads) s fun t =>
      t.fld Reg.BOOT_STAT 23 20 = 11 ∧ t.host.cfgOpen = true))

/-- The item `r` has been read as `b` from the host memory `m` into shared SRAM bank 7, which leaves `v` (R211). -/
abbrev rcvRead (s : State) (m : HostMem) (r : RcvItem) (b : Bytes) (v : State) : Prop :=
  s.boot.rcv = some r ∧ s.host.busMaster = true ∧ r.len ≤ 0x400000 ∧
  ∃ t u, s.hostRead m (scribeCtx .recovery) r.addr r.len = (t, b, none) ∧
    (t.readOver .recovery).ruleRanges [(rcvBuffer, b.length, .write)] = (u, true) ∧ v = u.sramWrite rcvBuffer b

/-- R211 to R214: while boot waits for recovery, GO with a listed KIND starts the transfer of the item; the item ends with the code
of its checks, or with the source error of its table where the host does not answer; with an accepted stream boot goes on from step
6, with an accepted Scribe image from step 8. R218, R220: BOOT_MEAS_EXTEND extends registers 4 to 7 with the digest in the data words
and refuses the others with its error bit; a floor raise within its bounds sets the floor and reports OK, one above the version in
force reports ABOVE, and none lowers a floor. The bound on an item's length, and that the buffer passes the ruling unit, are the
model's choice (log entries 27 and 60). -/
def Obligations.RecoveryAndFloors : Prop :=
  ((∀ (s : State) (v : Word), (fieldOf v 3 0 = 1 ∨ fieldOf v 3 0 = 2) → v.getLsbD 31 = true → s.bit Reg.BOOT_RCV_STAT 23 = false →
      s.bit Reg.BOOT_STAT 19 = true →
      Yields (.bootRcvGo v) s fun t =>
        t.boot.rcv = some ⟨fieldOf v 3 0, fieldOf v 23 16, (s.rd64 Reg.BOOT_RCV_ADDR).toNat, s.rdn Reg.BOOT_RCV_LEN⟩ ∧
        t.bit Reg.BOOT_RCV_STAT 23 = true ∧ t.bit Reg.BOOT_RCV_CMD 31 = true ∧
        RegsOnly (among [Reg.BOOT_RCV_CMD, Reg.BOOT_RCV_STAT]) { s with boot := t.boot, out := t.out } t) ∧
    (∀ (s v : State) (m : HostMem) (r : RcvItem) (b : Bytes) (c : Nat), rcvRead s m r b v →
      ((r.kind = 1 ∧ v.verifyStream (wordsOfBytes b) false true = .error c) ∨
        (r.kind = 2 ∧ v.images.find? (·.id == r.imageId) = none ∧ c = 0x21) ∨
        (r.kind = 2 ∧ ∃ e, v.images.find? (·.id == r.imageId) = some e ∧ c = (v.imageVerdict e b true).code ∧ (c ≠ 0 ∨ e.cls ≠ 0))) →
      Yields (.recoveryItemDone m none) s fun t =>
        t.boot = { v.boot with rcv := none } ∧ t.fld Reg.BOOT_RCV_STAT 31 24 = c % 256 ∧ t.bit Reg.BOOT_RCV_STAT 23 = false ∧
        t.bit Reg.BOOT_RCV_CMD 31 = false ∧
        RegsOnly (among [Reg.BOOT_RCV_CMD, Reg.BOOT_RCV_STAT]) { v with boot := t.boot } t) ∧
    (∀ (s v w : State) (m : HostMem) (r : RcvItem) (b : Bytes) (x : Stream), rcvRead s m r b v → r.kind = 1 →
      v.verifyStream (wordsOfBytes b) false true = .ok x → w = (v.rcvDone 0).bootResume →
      exec (.recoveryItemDone m none) s = .next ((if v.duct.inForce.isEmpty then w else w.bootUndo).bootApply x 2 false)) ∧
    (∀ (s v : State) (m : HostMem) (r : RcvItem) (b : Bytes) (e : Image), rcvRead s m r b v → r.kind = 2 →
      v.images.find? (·.id == r.imageId) = some e → e.cls = 0 → (v.imageVerdict e b true).code = 0 →
      exec (.recoveryItemDone m none) s = .next (((v.rcvDone 0).bootResume).scribeRelease e b (v.imageVerdict e b true) false)) ∧
    (∀ (s t : State) (m : HostMem) (r : RcvItem) (b : Bytes) (e : Nat), s.boot.rcv = some r → s.host.busMaster = true →
      r.len ≤ 0x400000 → s.hostRead m (scribeCtx .recovery) r.addr r.len = (t, b, some e) → e ≠ St.wait →
      exec (.recoveryItemDone m none) s = .next (t.readOver .recovery).rcvFail) ∧
    (∀ (s : State) (m : HostMem) (r : RcvItem), s.boot.rcv = some r → s.host.busMaster = true → 0x400000 < r.len →
      exec (.recoveryItemDone m none) s = .next s.rcvFail)) ∧
  ((∀ (s : State) (v : Word), v.getLsbD 31 = true → 4 ≤ fieldOf v 2 0 → Yields (.bootMeasExtend v) s fun t =>
      t.regBytes (Reg.BOOT_MEAS (fieldOf v 2 0) 0) 48 =
        sha384 (s.meas (fieldOf v 2 0) ++ s.regBytes (Reg.BOOT_MEAS_DATA 0) 48) ∧
      t.mem = s.mem ∧ t.otp = s.otp) ∧
    (∀ (s : State) (v : Word), v.getLsbD 31 = true → fieldOf v 2 0 < 4 → Yields (.bootMeasExtend v) s fun t =>
      t.bit Reg.BOOT_MEAS_CMD 30 = true ∧ RegsOnly (among [Reg.BOOT_MEAS_CMD]) s t) ∧
    (∀ (s : State) (v : Word), v.getLsbD 31 = true → v.getLsbD 30 = true → fieldOf v 25 24 < 3 →
      fieldOf v 15 0 ≤ s.versionInForce (fieldOf v 25 24) → fieldOf v 15 0 ≤ 128 → s.otpFloor (fieldOf v 25 24) < fieldOf v 15 0 →
      Yields (.bootFloorCmdGo v none) s fun t =>
        t.fld Reg.BOOT_FLOOR_CMD 29 28 = 0 ∧
        (∃ row, row = burnBits (s.otp.floors.getD (floorRow (fieldOf v 25 24)) 0) (fieldOf v 15 0 - s.otpFloor (fieldOf v 25 24)) ∧
          t.otp = { s.otp with floors := s.otp.floors.set (floorRow (fieldOf v 25 24)) row }) ∧
        (floorRow (fieldOf v 25 24) < s.otp.floors.length → t.otpFloor (fieldOf v 25 24) = fieldOf v 15 0) ∧
        RegsOnly (among [Reg.BOOT_FLOOR_CMD]) { s with otp := t.otp } t) ∧
    (∀ (s : State) (v : Word) (f : Option Nat), v.getLsbD 31 = true → v.getLsbD 30 = false → fieldOf v 25 24 < 3 →
      fieldOf v 15 0 ≤ s.versionInForce (fieldOf v 25 24) → s.blotFloor (fieldOf v 25 24) < fieldOf v 15 0 →
      Yields (.bootFloorCmdGo v f) s fun t =>
        t.fld Reg.BOOT_FLOOR_CMD 29 28 = 0 ∧ t.blotFloor (fieldOf v 25 24) = fieldOf v 15 0 ∧
        (∀ c, c < 3 → c ≠ fieldOf v 25 24 → t.blotFloor c = s.blotFloor c) ∧
        RegsOnly (among [Reg.BOOT_FLOOR_CMD, Reg.BOOT_BFLOOR0, Reg.BOOT_BFLOOR1]) s t) ∧
    (∀ (s : State) (v : Word) (f : Option Nat), v.getLsbD 31 = true → fieldOf v 25 24 < 3 →
      s.versionInForce (fieldOf v 25 24) < fieldOf v 15 0 →
      Yields (.bootFloorCmdGo v f) s fun t =>
        t.fld Reg.BOOT_FLOOR_CMD 29 28 = 1 ∧ RegsOnly (among [Reg.BOOT_FLOOR_CMD]) s t) ∧
    (∀ (s : State) (v : Word), v.getLsbD 31 = true → v.getLsbD 30 = true → fieldOf v 25 24 < 3 →
      fieldOf v 15 0 ≤ s.versionInForce (fieldOf v 25 24) → fieldOf v 15 0 ≤ 128 → fieldOf v 15 0 ≤ s.otpFloor (fieldOf v 25 24) →
      Yields (.bootFloorCmdGo v none) s fun t =>
        t.fld Reg.BOOT_FLOOR_CMD 29 28 = 2 ∧ RegsOnly (among [Reg.BOOT_FLOOR_CMD]) s t))

/-! ## Chapter 04 -/

/-- R148, R164, R181: SUBMIT takes the certificate at LCY_CERT_ADDR with BUSY set; the check ends with the code of the first failing
step, which leaves OTP and memory alone, or starts the transition or, for an accepted DEBUG certificate, its erase with the
nonce used up. A request while one is in progress is refused with BUSY and does not disturb it. R146, R166, R168, R169: once its
erase has ended, a request writes its mark and the device resets; a bit that fails stops it with OTP after the lower bits; a
session writes a thermometer bit and opens its rights; a failed wipe ends it with ABORTED and leaves the state word. A nonce
request draws a nonce, or waits for entropy with BUSY set and draws it then. A certificate that needs a ceremony is submitted only
under one, which it closes: that is DEDUCED (log entry 58). -/
def Obligations.LifeCycleRequests : Prop :=
  ((∀ (s u : State) (c : Bytes), s.lcyBusy = false → s.cmdCert = (u, c) → needsCeremony c = false → Yields .lcySubmit s fun t =>
      t.lcy = { u.lcy with req := some (.check c), fromCmd := true } ∧ t.bit Reg.LCY_CMD 31 = true ∧
      t.rd Reg.LCY_RESULT = 0x00800000 ∧ RegsOnly (among [Reg.LCY_CMD, Reg.LCY_RESULT]) { u with lcy := t.lcy } t) ∧
    (∀ (s u : State) (c : Bytes) (n : Nat), s.lcyBusy = false → s.cmdCert = (u, c) → needsCeremony c = true → u.cerForCert c = some n →
      Yields .lcySubmit s fun t =>
        t.lcy.req = some (.check c) ∧ t.lcy.fromCmd = true ∧ t.bit Reg.LCY_CMD 31 = true ∧ t.rd Reg.LCY_RESULT = 0x00800000 ∧
        RegsOnly (among [Reg.LCY_CMD, Reg.LCY_RESULT]) { (u.cerFree n) with lcy := t.lcy } t) ∧
    (∀ (s u : State) (c : Bytes), s.lcyBusy = false → s.cmdCert = (u, c) → needsCeremony c = true → u.cerForCert c = none →
      exec .lcySubmit s = .next u) ∧
    (∀ s : State, s.lcyBusy = true → Yields .lcySubmit s fun t =>
      t.fld Reg.LCY_RESULT 31 24 = 0x0A ∧ RegsOnly (among [Reg.LCY_RESULT]) s t) ∧
    (∀ (s : State) (c : Bytes), s.lcy.req = some (.check c) → s.certCode c ≠ 0 → Yields .lcyCheckDone s fun t =>
      t.lcy.req = none ∧ t.fld Reg.LCY_RESULT 31 24 = s.certCode c ∧ t.bit Reg.LCY_RESULT 23 = false ∧ t.bit Reg.LCY_CMD 31 = false ∧
      RegsOnly (among [Reg.LCY_CMD, Reg.LCY_RESULT]) { s with lcy := t.lcy } t) ∧
    (∀ (s : State) (c : Bytes), s.lcy.req = some (.check c) → s.certCode c = 0 → certKind c = 1 → Yields .lcyCheckDone s fun t =>
      t.lcy.req = some (.session (BitVec.ofNat 32 (certRights c))) ∧ t.lcy.nonce = none ∧ t.rsv.brk = none ∧ t.rsv.slots = [] ∧
      t.rsv.doms = [] ∧ t.otp = s.otp) ∧
    (∀ (s : State) (c : Bytes) (x : LcyTrans), s.lcy.req = some (.check c) → s.certCode c = 0 → certKind c ≠ 1 →
      s.certTrans (certKind c) = some x → exec .lcyCheckDone s = .next (s.lcyTransit x))) ∧
  ((∀ (s : State) (w : DWord) (wiped : Bool), s.mem.wipe = none → s.lcy.req = some (.mark w wiped) →
      (wiped && s.bit Reg.MEM_WIPE_STAT 30) = false → Yields (.lcyRequestComplete none) s fun t =>
        t.otp = { s.otp with lcyWord := s.otp.lcyWord ||| w } ∧ t.lcy.req = none ∧ t.lcy.resetDue = true ∧
        t = { s with otp := t.otp, lcy := t.lcy }) ∧
    (∀ (s : State) (w : DWord) (wiped : Bool) (b : Nat), s.mem.wipe = none → s.lcy.req = some (.mark w wiped) →
      (wiped && s.bit Reg.MEM_WIPE_STAT 30) = false → (w &&& ~~~ s.otp.lcyWord).getLsbD b = true →
      Yields (.lcyRequestComplete (some b)) s fun t =>
        (∀ i : Nat, t.otp.lcyWord.getLsbD i = (s.otp.lcyWord.getLsbD i || (w.getLsbD i && decide (i < b)))) ∧
        t.fld Reg.LCY_RESULT 31 24 = 0x0C ∧ t.lcy.req = none ∧ t.lcy.resetDue = s.lcy.resetDue) ∧
    (∀ (s : State) (r : Word), s.mem.wipe = none → s.lcy.req = some (.session r) → s.bit Reg.MEM_WIPE_STAT 30 = false →
      Yields (.lcyRequestComplete none) s fun t =>
        t.otp = { s.otp with therm := burnBits s.otp.therm 1 } ∧ t.rd Reg.LCY_RIGHTS = r ∧ t.dbgSession = true ∧
        t.fld Reg.LCY_RESULT 31 24 = 0 ∧ t.lcy.req = none ∧ t.mem = s.mem) ∧
    (∀ (s : State) (r : Word) (b : Nat), s.mem.wipe = none → s.lcy.req = some (.session r) → s.bit Reg.MEM_WIPE_STAT 30 = false →
      popCount s.otp.therm < 64 → Yields (.lcyRequestComplete (some b)) s fun t =>
        t.otp = s.otp ∧ t.dbgSession = s.dbgSession ∧ t.fld Reg.LCY_RESULT 31 24 = 0x0C ∧ t.lcy.req = none) ∧
    (∀ (s : State) (w : DWord) (f : Option Nat), s.mem.wipe = none → s.lcy.req = some (.mark w true) → s.bit Reg.MEM_WIPE_STAT 30 = true →
      Yields (.lcyRequestComplete f) s fun t => t.otp = s.otp ∧ t.fld Reg.LCY_RESULT 31 24 = 0x0B ∧ t.lcy.req = none) ∧
    (∀ (s : State) (f : Option Nat), s.mem.wipe = none → s.lcy.req = none → s.lcy.nonceHeld = true → s.entropyOk = true →
      exec (.lcyRequestComplete f) s = .next s.lcyNonce) ∧
    (∀ s : State, s.lcyBusy = false → s.entropyOk = true → Yields .lcyNonce s fun t =>
      (∃ b : Bytes, t.lcy.nonce = some b ∧ b.length = 32 ∧ t.regBytes (Reg.LCY_NONCE 0) 32 = b) ∧ t.bit Reg.LCY_CMD 30 = false ∧
      t.lcy.nonceHeld = false ∧ t.rd Reg.LCY_RESULT = 0 ∧ t.mem = s.mem ∧ t.otp = s.otp) ∧
    (∀ s : State, s.lcyBusy = false → s.entropyOk = false → Yields .lcyNonce s fun t =>
      t.bit Reg.LCY_CMD 30 = true ∧ t.rd Reg.LCY_RESULT = 0x00800000 ∧ t.lcy = { s.lcy with nonceHeld := true } ∧
      RegsOnly (among [Reg.LCY_CMD, Reg.LCY_RESULT]) { s with lcy := t.lcy } t) ∧
    (∀ s : State, s.lcyBusy = true → Yields .lcyNonce s fun t =>
      t.fld Reg.LCY_RESULT 31 24 = 0x0A ∧ RegsOnly (among [Reg.LCY_RESULT]) s t))

/-- R2, R13, R174, R176: IDCODE and BYPASS are always offered and capture their registers; SAMPLE_PRELOAD captures the balls;
EXTEST, CLAMP and HIGHZ hold the main domain in reset until Test-Logic-Reset, which selects IDCODE, and EXTEST and CLAMP drive the
balls from the boundary register; an instruction not offered selects BYPASS and does nothing else. R155, R158 to R160, R180:
LC_TRANSITION starts a listed transition that needs no authorisation and refuses another with KIND; the right token starts its
transition and a wrong one fails and locks tokens out; in TEST an OTP row is read, or has bits set that are never cleared, and a
debug session with right 5 reads the rows that hold no token. The form of OTP_ACCESS, the path of right 5 and the order of the
boundary cells are the model's choice (log entries 30, 52, 57 and 67). -/
def Obligations.TapAndTransitions : Prop :=
  ((∀ s : State, Yields .idcode s fun t => t.lcy.ir = 0x01 ∧ t.out = s.out ++ [.tdo 32 0x1B960C4B] ∧ t = { s with lcy := t.lcy, out := t.out }) ∧
    (∀ s : State, Yields .bypass s fun t => t.lcy.ir = 0x1F ∧ t.out = s.out ++ [.tdo 1 0] ∧ t = { s with lcy := t.lcy, out := t.out }) ∧
    (∀ (s : State) (x v : Nat), s.tapOffers 0x02 = true → Yields (.samplePreload x v) s fun t =>
      t.lcy.ir = 0x02 ∧ t.lcy.boundary = v % 2 ^ boundaryLen ∧ t.out = s.out ++ [.tdo boundaryLen (x % 2 ^ boundaryLen)] ∧
      t = { s with lcy := t.lcy, out := t.out }) ∧
    (∀ (s : State) (c : Instr) (n : Nat), ((∃ v, c = .extest v ∧ n = 0) ∨ (c = .clamp ∧ n = 3) ∨ (c = .highz ∧ n = 4)) →
      (s.tapOffers n = true → Yields c s fun t =>
        t.lcy.ir = n ∧ t.lcy.hold = true ∧ t.pwr.mainUp = false ∧ markPart s t ∧ storesKept s t ∧
        (∀ v, c = .extest v → t.lcy.boundary = v % 2 ^ boundaryLen ∧
          t.out.getLast? = some (.scan (boundaryDrive (v % 2 ^ boundaryLen)))) ∧
        (c = .clamp → t.lcy.boundary = s.lcy.boundary ∧ t.out.getLast? = some (.scan (boundaryDrive s.lcy.boundary))) ∧
        (c = .highz → t.lcy.boundary = s.lcy.boundary ∧ t.out.getLast? = some (.pin .boundary false))) ∧
      (s.tapOffers n = false → Yields c s fun t => t.lcy.ir = 0x1F ∧ t = { s with lcy := { s.lcy with ir := 0x1F } })) ∧
    (∀ (s : State) (x : BootIn), s.lcy.hold = false → Yields (.testLogicReset x) s fun t =>
      t = { s with lcy := { s.lcy with ir := 1 } }) ∧
    (∀ (s : State) (x : BootIn), s.lcy.hold = true → Yields (.testLogicReset x) s fun t =>
      t.lcy.hold = false ∧ t.lcy.ir = 1 ∧ t.otp = s.otp ∧
      (s.mem.cmd = none → s.mem.wipe = none → t.mem.flash = s.mem.flash)) ∧
    (∀ s : State, s.tapOffers 0x0E = true → Yields .scanEntry s fun t => t = { s with lcy := { s.lcy with ir := 0x0E } })) ∧
  ((∀ (s : State) (code : Nat) (x : LcyTrans), s.tapOffers 0x08 = true → s.lcyBusy = false →
      s.lcyOpen.find? (fun t => t.auth == .none && t.dest == code) = some x →
      exec (.lcTransition code) s = .next ((s.tapLoad 0x08).lcyTransit x)) ∧
    (∀ (s : State) (code : Nat), s.tapOffers 0x08 = true → s.lcyBusy = false →
      s.lcyOpen.find? (fun t => t.auth == .none && t.dest == code) = none → Yields (.lcTransition code) s fun t =>
        t.fld Reg.LCY_RESULT 31 24 = 0x02 ∧ RegsOnly (among [Reg.LCY_RESULT]) { s with lcy := t.lcy } t) ∧
    (∀ (s : State) (token slot : Nat) (x : LcyTrans), s.tapOffers 0x09 = true → s.lcyBusy = false →
      s.bit Reg.LCY_STATE 9 = false → s.lcyOpen.head? = some x → x.auth = .token slot →
      (sha384 (leBytes 1 slot ++ leBytes 16 token) = s.otp.tokens.getD (slot - 1) [] →
        exec (.tokenUnlock token) s = .next ((s.tapLoad 0x09).lcyTransit x)) ∧
      (sha384 (leBytes 1 slot ++ leBytes 16 token) ≠ s.otp.tokens.getD (slot - 1) [] → Yields (.tokenUnlock token) s fun t =>
        t.fld Reg.LCY_RESULT 31 24 = 0x04 ∧ t.bit Reg.LCY_STATE 9 = true ∧
        RegsOnly (among [Reg.LCY_RESULT, Reg.LCY_STATE]) { s with lcy := t.lcy } t)) ∧
    (∀ (s : State) (r : OtpRow), s.tapOffers 0x0D = true → Yields (.otpAccess r none) s fun t =>
      t.out = s.out ++ [.tdo 384 (s.otp.row r)] ∧ t = { s with lcy := t.lcy, out := t.out }) ∧
    (∀ (s : State) (r : OtpRow) (b : Bytes), s.tapOffers 0x0D = true → Yields (.otpAccess r (some b)) s fun t =>
      t.otp = s.otp.program r b ∧ t = { s with lcy := t.lcy, otp := t.otp } ∧
      (∀ i : Nat, s.otp.lcyWord.getLsbD i = true → t.otp.lcyWord.getLsbD i = true) ∧
      (∀ i : Nat, s.otp.therm.getLsbD i = true → t.otp.therm.getLsbD i = true) ∧
      (∀ c i : Nat, (s.otp.floors.getD c 0).getLsbD i = true → (t.otp.floors.getD c 0).getLsbD i = true)) ∧
    (∀ (s : State) (r : OtpRow), s.tapOffers 0x0D = false → s.right 5 = true → isTokenRow r = false →
      Yields (.otpAccess r none) s fun t =>
        t.out = s.out ++ [.value (s.otp.row r)] ∧ t = { s with lcy := { s.lcy with ir := 0x1F }, out := t.out }))

/-- R177 to R179: where DEBUG_AUTH is offered its operations empty the buffer, append a word up to 18,224 and then only note the
overflow, draw a nonce, select a nonce word, and submit the buffer, or nothing after an overflow; a capture returns the nonce
word after a selection and the status after any other operation, and is itself no operation; where DEBUG_AUTH is not offered the
bypass bit is captured. -/
def Obligations.DebugAuth : Prop :=
  (∀ s : State, s.tapOffers 0x0C = true → Yields .debugAuthEmpty s fun t =>
    t = { s with lcy := { s.lcy with ir := 0x0C, lastOp := 1, buf := [], overflow := false } }) ∧
  (∀ (s : State) (w : Word), s.tapOffers 0x0C = true → Yields (.debugAuthAppend w) s fun t =>
    t.lcy.buf = (if s.lcy.buf.length < 18224 then s.lcy.buf ++ [w] else s.lcy.buf) ∧
    t.lcy.overflow = (s.lcy.overflow || decide (18224 ≤ s.lcy.buf.length)) ∧ t = { s with lcy := t.lcy }) ∧
  (∀ s : State, s.tapOffers 0x0C = true → s.lcyBusy = false → s.entropyOk = true →
    Yields .debugAuthNonce s fun t =>
      (∃ b : Bytes, t.lcy.nonce = some b ∧ b.length = 32 ∧ t.regBytes (Reg.LCY_NONCE 0) 32 = b) ∧ t.lcy.lastOp = 3 ∧
      t.lcy.buf = s.lcy.buf) ∧
  (∀ s : State, s.tapOffers 0x0C = true → s.lcyBusy = true → Yields .debugAuthNonce s fun t =>
    t.fld Reg.LCY_RESULT 31 24 = 0x0A ∧ t.lcy.nonce = s.lcy.nonce ∧ RegsOnly (among [Reg.LCY_RESULT]) { s with lcy := t.lcy } t) ∧
  (∀ (s : State) (n : Nat), s.tapOffers 0x0C = true → Yields (.debugAuthSelect n) s fun t =>
    t = { s with lcy := { s.lcy with ir := 0x0C, lastOp := 4, nonceSel := n % 8 } }) ∧
  (∀ s : State, s.tapOffers 0x0C = true → s.lcyBusy = false → Yields .debugAuthSubmit s fun t =>
    t.lcy.req = some (.check (if s.lcy.overflow then [] else bytesOfWords s.lcy.buf)) ∧ t.lcy.fromCmd = false ∧
    t.bit Reg.LCY_RESULT 23 = true ∧ RegsOnly (among [Reg.LCY_RESULT]) { s with lcy := t.lcy } t) ∧
  (∀ s : State, s.tapOffers 0x0C = true → exec .debugAuthCapture s =
    .next (State.emit { s with lcy := { s.lcy with ir := 0x0C, lastOp := 0 } }
      (.tdo 40 (if s.lcy.lastOp = 4 then s.rdn (Reg.LCY_NONCE s.lcy.nonceSel) else s.debugStatus)))) ∧
  (∀ s : State, s.tapOffers 0x0C = false → exec .debugAuthCapture s =
    .next (State.emit { s with lcy := { s.lcy with ir := 0x1F } } (.tdo 1 0)))

/-! ## Chapter 23 -/

/-- R885, R889, R890, R897, R900: when the conditions have held for IDLE_US, the main domain enters the deepest state that R889
allows; a pre-wake wakes it for the stroke that is due; a completed exit returns to ACTIVE, or where BUDGET alone caused it to the
state that R889 then chooses, counts, applies what waited and raises source 504. R893, R894, R898, R899, R904: a hint of the Scribe
world takes effect with its code; the Draft world's STANDBY hint is refused with source 505; the idle link enters L1, releasing
CLKREQ_N in a substate, and held messages go when it is back in L0, before the requests that waited; STANDBY resets the main domain
and keeps OTP and flash; a GPIO wake out of STANDBY starts boot with its cause. What waits for STANDBY's end, and how the dwell is
counted, follows log entries 28, 40 and 69. -/
def Obligations.PowerManagement : Prop :=
  ((∀ (s : State) (wfi p c : Bool), s.pwr.mainUp = true → s.pwr.exiting = false → s.fld Reg.PWR_STAT 2 0 < s.powerChoice (wfi && p && c) →
      s.dwelled (s.powerChoice (wfi && p && c)) = true →
      Yields (.powerStateEntry wfi p c) s fun t =>
        t.fld Reg.PWR_STAT 2 0 = s.powerChoice (wfi && p && c) ∧ t.pwr = { s.pwr with since := s.stime.cycle } ∧
        t.bit Reg.TIME_STAT 3 = (s.bit Reg.TIME_STAT 3 || s.powerChoice (wfi && p && c) == 3) ∧
        t.mem = s.mem ∧ t.otp = s.otp ∧ t.ops = s.ops) ∧
    (∀ s : State, 1 ≤ s.fld Reg.PWR_STAT 2 0 → s.fld Reg.PWR_STAT 2 0 ≤ 3 →
      s.deadline ≤ s.ns + exitNs (s.fld Reg.PWR_STAT 2 0) + 2000 → s.strkNext = s.deadline → Yields .preWake s fun t =>
        t.pwr.exiting = true ∧ t.bit Reg.PWR_WAKE_CAUSE 6 = true ∧ EventOnly (among []) s t) ∧
    (∀ s : State, s.pwr.exiting = true → s.pwr.mainUp = true → 1 ≤ s.fld Reg.PWR_STAT 2 0 → s.fld Reg.PWR_STAT 2 0 ≤ 3 →
      Yields .powerExitComplete s fun t =>
        t.evtStatus 504 = true ∧
        ∃ u : State,
          (s.rd Reg.PWR_WAKE_LAST = 0x400 →
            u.fld Reg.PWR_STAT 2 0 = min (s.powerChoice true) (s.fld Reg.PWR_STAT 2 0 - 1)) ∧
          (s.rd Reg.PWR_WAKE_LAST ≠ 0x400 → u.fld Reg.PWR_STAT 2 0 = 0) ∧
          u.rdn Reg.PWR_EXITS = (if u.fld Reg.PWR_STAT 2 0 = 0 then min (s.rdn Reg.PWR_EXITS + 1) (2 ^ 32 - 1) else s.rdn Reg.PWR_EXITS) ∧
          u.pwr = { s.pwr with exiting := false, since := s.stime.cycle } ∧ u.mem = s.mem ∧ u.ops = s.ops ∧ u.host = s.host ∧
          t = ((((u.shadowApply.inboundApply.rxDrain 0).rxDrain 1).ltrUpdate).raise 504).pmeWake)) ∧
  ((∀ (s : State) (v : Word), fieldOf v 2 0 ≤ 4 → exec (.pwrHint .scribe v) s =
      .next (State.hintSet { s with cyc := { s.cyc.of s.stime.cycle with hint := some (fieldOf v 2 0) } } (fieldOf v 2 0))) ∧
    (∀ (s : State) (v : Word), fieldOf v 2 0 ≤ 3 → exec (.pwrHint .draft v) s =
      .next (State.hintSet { s with cyc := { s.cyc.of s.stime.cycle with hint := some (fieldOf v 2 0) } } (fieldOf v 2 0))) ∧
    (∀ (s : State) (v : Word), 3 < fieldOf v 2 0 → Yields (.pwrHint .draft v) s fun t =>
      t.bit Reg.PWR_STAT 17 = true ∧ t.evtStatus 505 = true ∧ EventOnly (among [Reg.PWR_STAT]) s t) ∧
    (∀ s : State, s.host.linkL0 = true → s.fld Reg.PWR_STAT 2 0 = 2 → (Tab.get cfgReset s.host.cfg Cfg.linkCtl).getLsbD 1 = true →
      s.bit Reg.PWR_CFG 16 = true → Yields .aspmL1Entry s fun t =>
        t.host.linkL0 = false ∧ Output.pcie "PM_Active_State_Request_L1" ∈ t.out ∧ t.host.linkSub = s.l1Sub ∧
        t.host.clkreq = (s.host.clkreq && decide (s.l1Sub = .none)) ∧
        t = { s with host := { s.host with linkL0 := false, linkSub := s.l1Sub, clkreq := t.host.clkreq }, out := t.out }) ∧
    (∀ s : State, s.hostLinkUp = true → Yields .linkReachesL0 s fun t =>
      ∃ u : State, t = u.inboundApply ∧ u.host.linkL0 = true ∧ u.host.linkSub = .none ∧ u.host.clkreq = true ∧ u.host.msixHeld = [] ∧
        (∀ v ∈ s.host.msixHeld, Output.msix v (s.msixWord (4 * v) + 2 ^ 32 * s.msixWord (4 * v + 1)) (s.msixWord (4 * v + 2)) ∈ u.out) ∧
        (s.host.pmeHeld = true → Output.pcie "PM_PME" ∈ u.out) ∧ u.host.pmeHeld = false ∧ u.host.inbound = s.host.inbound ∧
        u.regs = s.regs ∧ u.mem = s.mem) ∧
    (∀ s : State, s.pwr.mainUp = true → s.pwr.exiting = false → s.bit Reg.PWR_STAT 16 = true → s.bit Reg.PWR_CFG 28 = true →
      s.deepIdle true = true → s.dwelled 3 = true → s.proofBusy = false → s.host.perst = true → s.colo.snaps = [] →
      s.closeDue = false →
      Yields (.standbyEntry true true true false) s fun t =>
        t.fld Reg.PWR_STAT 2 0 = 4 ∧ t.bit Reg.PWR_STAT 16 = false ∧ t.pwr.mainUp = false ∧ t.otp = s.otp ∧
        t.mem.flash = s.mem.flash) ∧
    (∀ (s : State) (levels i : Nat) (x : BootIn), s.fld Reg.PWR_STAT 2 0 = 4 → s.boot.porst = true → s.blot.aon = true →
      s.lcy.hold = false → (bankLevel x.ioA).isSome = true → i < 8 → s.bit Reg.PWR_GPIO_WAKE i = true → levels.testBit i = s.bit Reg.PWR_GPIO_WAKE (8 + i) →
      Yields (.wake 8 levels x) s fun t =>
        t.pwr.mainUp = true ∧ t.pwr.returning = true ∧ t.rd Reg.PWR_WAKE_LAST = 0x100 ∧ t.evtStatus 504 = true ∧
        t.otp = s.otp ∧ (s.mem.cmd = none → s.mem.wipe = none → t.mem.flash = s.mem.flash)))

/-! ## Chapter 06 -/

/-- R238 to R240: a claim of a lent, released core in the Draft world is recorded and interrupts that core; a claimed core that
yields, or whose grace ends, starts its switch into the Scribe world; a lent core that returns, or overstays, starts its switch
back, and overstaying is recorded with source 510. R241 to R243: a completed switch counts, and the core is then in the world it
switched to. R266: a yield of the same cycle answers a claim that comes behind it. A written bit of a core that is not lent or
not released changes nothing of that core's claim. That a halted core starts no switch is the model's choice (log entry 59). -/
def Obligations.LendingAndSwitch : Prop :=
  ((∀ (s : State) (v : Word) (c : Nat), c < 8 → v.getLsbD c = true → s.lent c = true → s.coreReleased c = true →
      s.inScribe c = false → s.switching c = false → s.claimed c = false → s.cycNow.yields = [] →
      Yields (.wrldClaim v) s fun t =>
        t.claimed c = true ∧ t.bit Reg.WRLD_CLAIM c = true ∧ Output.interrupt (c + 1) 24 ∈ t.out ∧
        RegsOnly (among [Reg.WRLD_CORE_STAT, Reg.WRLD_CLAIM]) { s with out := t.out } t) ∧
    (∀ (s : State) (v : Word) (c : Nat), c < 8 → v.getLsbD c = true → s.lent c = true → s.coreReleased c = true →
      s.inScribe c = false → s.switching c = false → s.claimed c = false → s.cycNow.yields.contains c = true →
      s.wrld.halted.contains (c + 1) = false → s.proof.slice ≠ some (7 + c) →
      Yields (.wrldClaim v) s fun t =>
        t.claimed c = false ∧ (⟨c, true⟩ : SwitchSt) ∈ t.wrld.switches ∧ Output.interrupt (c + 1) 24 ∈ t.out) ∧
    (∀ (s : State) (v : Word), (∀ c : Nat, c < 8 → v.getLsbD c = true → s.lent c = false ∨ s.coreReleased c = false) →
      exec (.wrldClaim v) s = .next s) ∧
    (∀ (s : State) (v : Word) (c : Nat), c < 8 → (s.lent c = false ∨ s.coreReleased c = false) → Yields (.wrldClaim v) s fun t =>
      t.claimed c = s.claimed c ∧ t.bit Reg.WRLD_CLAIM c = s.bit Reg.WRLD_CLAIM c) ∧
    (∀ (s : State) (c : Nat), s.claimed c = false → Yields (.wrldYield c) s fun t =>
      t = { s with cyc := t.cyc } ∧ ∃ j : CycleSt, j = s.cycNow ∧ t.cyc = { j with yields := insertNat c j.yields }) ∧
    (∀ (i : Nat → Instr) (s : State) (c : Nat), i = Instr.wrldYield ∨ i = Instr.claimGraceExpiry → s.claimed c = true →
      s.proof.slice ≠ some (7 + c) → s.switching c = false → s.wrld.halted.contains (c + 1) = false →
      Yields (i c) s fun t =>
        t.wrld.switches = s.wrld.switches ++ [⟨c, true⟩] ∧ t.claimed c = false ∧
        RegsOnly (among [Reg.WRLD_CORE_STAT, Reg.WRLD_CLAIM]) { s with wrld := t.wrld } t) ∧
    (∀ (i : Nat → Instr) (s : State) (c : Nat), i = Instr.wrldYield ∨ i = Instr.claimGraceExpiry → s.claimed c = true →
      s.proof.slice = some (7 + c) → Yields (i c) s fun t =>
        c ∈ t.proof.claimDue ∧ t.claimed c = true ∧ t = { s with proof := { s.proof with claimDue := t.proof.claimDue } }) ∧
    (∀ (s : State) (c : Nat), s.inScribe c = true → s.switching c = false → Yields (.wrldReturn c) s fun t =>
      t.wrld.switches = s.wrld.switches ++ [⟨c, false⟩] ∧ t = { s with wrld := t.wrld }) ∧
    (∀ (s : State) (c : Nat), s.inScribe c = true → s.switching c = false → Yields (.lendMaxExpiry c) s fun t =>
      t.wrld.switches = s.wrld.switches ++ [⟨c, false⟩] ∧ t.bit Reg.WRLD_LEND_CTL 30 = true ∧ t.evtStatus 510 = true ∧
      EventOnly (among [Reg.WRLD_LEND_CTL]) { s with wrld := t.wrld } t)) ∧
  (∀ (s : State) (c : Nat) (w : SwitchSt), s.wrld.switches.find? (·.core == c) = some w → c < 8 →
      s.wrld.recalls.contains c = false →
      Yields (.worldSwitchComplete c) s fun t =>
        t.inScribe c = w.enter ∧ t.switching c = false ∧
        t.rdn Reg.WRLD_SWITCH_COUNT = min (s.rdn Reg.WRLD_SWITCH_COUNT + 1) (2 ^ 32 - 1) ∧ t.mem = s.mem ∧ t.otp = s.otp) ∧
  (∀ (s : State) (c : Nat) (w : SwitchSt), s.wrld.switches.find? (·.core == c) = some w → c < 8 → w.enter = true →
      s.wrld.recalls.contains c = true →
      Yields (.worldSwitchComplete c) s fun t => t.inScribe c = true ∧ (⟨c, false⟩ : SwitchSt) ∈ t.wrld.switches)

/-- R250 to R255: the watchdog's kick has one value, which loads it, and any other is counted; a lockstep divergence, a declared
failure and an expiry after READY are Scribe failures with their cause in WRLD_STAT, the time of failure, and a restart while budget
remains, before what waits for the Scribe world is answered; an expiry before READY at boot halts boot. R265: a second cause of the
same cycle is set too, and FIRST_CAUSE takes the lowest code. R254, R258, R259, R261: READY at boot makes the Scribe world RUNNING
and records the time; a restart loads the image of the stream in force and releases the pair, or fails once more; READY then ends it,
with source 509; the end of the restart budget is recorded. The steps of a restart and the remaining time are the model's choice
where the spec is silent (log entries 31 and 59). -/
def Obligations.ScribeFailures : Prop :=
  ((∀ (s : State) (v : Word), fieldOf v 15 0 = 0x5C1B → Yields (.wrldWdKick v) s fun t =>
      t.wdMsLeft = (if s.wrld.wdRuns then s.wdMs else 0) ∧
      t = { s with wrld := { s.wrld with wdLeft := t.wrld.wdLeft, wdAt := t.wrld.wdAt } }) ∧
    (∀ (s : State) (v : Word), fieldOf v 15 0 ≠ 0x5C1B → Yields (.wrldWdKick v) s fun t =>
      t.fld Reg.WRLD_WD_STAT 31 16 = min (s.fld Reg.WRLD_WD_STAT 31 16 + 1) 0xFFFF ∧
      t.wdMsLeft = s.wdMsLeft ∧ RegsOnly (among [Reg.WRLD_WD_STAT]) s t) ∧
    (∀ (s : State) (c : Instr) (cause : Nat), s.boot.released = true →
      ((c = .lockstepDivergence ∧ cause = 1) ∨ (c = .wrldSelfFail 0x5C1BFA11 ∧ cause = 3) ∨
        (c = .watchdogExpiry ∧ s.wrld.wdRuns = true ∧ s.wdFrozen = false ∧ s.wrldState ≠ 3 ∧
          cause = if s.wrld.restart = 0 then 2 else 4)) →
      Yields c s fun t => ∃ u : State, t = u.hsResume.mailboxAbsent ∧
        u.bit Reg.WRLD_STAT (23 + cause) = true ∧
        u.fld Reg.WRLD_STAT 23 20 = (if s.fld Reg.WRLD_STAT 31 24 = 0 then cause else s.fld Reg.WRLD_STAT 23 20) ∧
        u.boot.released = false ∧ u.wrld.wdRuns = false ∧
        u.rd64 Reg.WRLD_FAIL_TIME = s.stime.ns ∧ u.evtStatus 508 = true ∧
        u.wrldState = (if s.fld Reg.WRLD_CFG 31 24 ≠ 0 ∧ s.fld Reg.WRLD_STAT 19 18 < 3 then 1 else 2) ∧
        u.otp = s.otp ∧ u.mem = s.mem) ∧
    (∀ (s : State) (c : Instr) (cause : Nat) (f : FailCyc), s.boot.released = false → s.cycNow.fail = some f →
      ((c = .lockstepDivergence ∧ cause = 1) ∨ (c = .wrldSelfFail 0x5C1BFA11 ∧ cause = 3)) →
      Yields c s fun t =>
        t.bit Reg.WRLD_STAT (23 + cause) = true ∧
        t.fld Reg.WRLD_STAT 23 20 = (if f.first = true then min cause (s.fld Reg.WRLD_STAT 23 20) else s.fld Reg.WRLD_STAT 23 20) ∧
        RegsOnly (among [Reg.WRLD_STAT]) s t) ∧
    (∀ s : State, s.wrld.wdRuns = true → s.wdFrozen = false → s.wrldState = 3 → Yields .watchdogExpiry s fun t =>
      ∃ u : State, t = u.hsResume.mailboxAbsent ∧ u.boot.released = false ∧ u.wrldState = 2 ∧ u.fld Reg.BOOT_STAT 31 24 = 0x07 ∧
        u.bit Reg.BOOT_STAT 18 = true)) ∧
  ((∀ s : State, s.boot.released = true → s.wrldState = 3 → Yields (.wrldReady 0x5C1B) s fun t =>
      ∃ u : State, t = u.serviceKey.bootDomains.hsResume ∧ u.wrldState = 0 ∧ u.rd64 Reg.WRLD_READY_TIME = s.stime.ns ∧
        RegsOnly (among [Reg.WRLD_STAT, Reg.WRLD_READY_TIME, Reg.WRLD_READY_TIME + 4]) s u) ∧
    (∀ s : State, s.boot.released = true → s.wrldState = 1 → s.wrld.restart ≠ 7 → s.bit Reg.RSV_STAT 29 = false →
      Yields (.wrldReady 0x5C1B) s fun t =>
        ∃ u : State, t = (u.serviceKey.hsResume).conKick 0 ∧ u.wrldState = 0 ∧ u.rd64 Reg.WRLD_READY_TIME = s.stime.ns ∧
          u.wrld.restart = 0 ∧ u.evtStatus 509 = true ∧ u.mem = s.mem ∧ u.otp = s.otp) ∧
    (∀ (s : State) (readOk : Bool), s.wrld.restart = 1 → s.noneInScribe = true → s.wrld.switches = [] →
      exec (.scribeRestartImageDone readOk) s =
        .next (let u := s.scrubScribe.measClear [2, 4, 5, 6, 7]
          match u.scribeImage with
          | none => u.scribeFail 5
          | some e =>
            let v := u.imageVerdict e (u.imageBytes e) readOk
            if v.code = 0 then
              let r := ((u.loadScribe e (u.imageBytes e) v).setb Reg.RSV_STAT 29 true).releasePair
              { r with wrld := { r.wrld with restart := 5 } }
            else u.scribeFail 5)) ∧
    (∀ s : State, s.wrldState = 1 → exec .restartBudgetExpiry s =
      .next (State.hsResume { s with wrld := { s.wrld with budgetOut := true } }).mailboxAbsent))

/-- R232, R234, R235: a hart whose timer register is at or below STIME NS takes interrupt 7; a permitted halt request halts the
hart, or waits for the end of a switch or of the lending; the abstract command reads back the register value it wrote, those of the
triggers too, and a hart that is not halted answers with an error; the debug transport captures its registers where it is offered.
The register layouts of the debug transport and the debug module are PRESUMED (log entry 51). -/
def Obligations.TimerAndDebug : Prop :=
  (∀ (s : State) (h : Nat), h ≤ 8 → (if h = 0 then s.boot.released else s.coreReleased (h - 1) && !s.switching (h - 1)) = true →
    (s.rd64 (s.hartCmp h)).toNat ≤ s.ns →
    exec (.machineTimerInterrupt h) s = .next (s.emit (.interrupt h 7))) ∧
  (∀ (s : State) (h : Nat), s.mayDebug h = true → (1 ≤ h → s.switching (h - 1) = false) → Yields (.haltRequest h) s fun t =>
    h ∈ t.wrld.halted ∧ t = { s with wrld := t.wrld, freeCtr := t.freeCtr }) ∧
  (∀ (s : State) (h : Nat), 1 ≤ h → h ≤ 8 →
    ((s.switching (h - 1) = true ∧ (s.debugDraft || s.debugScribe) = true) ∨
      (s.inScribe (h - 1) = true ∧ s.debugDraft = true ∧ s.debugScribe = false)) →
    Yields (.haltRequest h) s fun t =>
      h ∈ t.wrld.haltWait ∧ t = { s with wrld := { s.wrld with haltWait := t.wrld.haltWait } }) ∧
  (∀ (s : State) (h r : Nat) (v : DWord), (s.debugDraft || s.debugScribe) = true → s.mayDebug h = true →
    s.wrld.halted.contains h = true → s.cmdBlocked = false → r < 0x1040 → r ≠ 0x1000 → r ≠ 0xC01 → r ≠ 0xF14 → r ≠ 0x7A1 → r ≠ 0x7A4 →
    (r = 0x7A0 → v.toNat < 4) →
    Yields (.accessRegister h r (some v)) s fun t =>
      t.hartReg h r = v ∧ t = { s with wrld := t.wrld }) ∧
  (∀ (s : State) (h r : Nat), (s.debugDraft || s.debugScribe) = true → s.mayDebug h = true →
    s.wrld.halted.contains h = true → s.cmdBlocked = false → r < 0x1040 →
    Yields (.accessRegister h r none) s fun t =>
      t.dmWord = s.hartReg h r ∧ t.out = s.out ++ [.value (s.hartReg h r).toNat] ∧ t = { s with wrld := t.wrld, out := t.out }) ∧
  (∀ (s : State) (h r : Nat) (w : Option DWord), (s.debugDraft || s.debugScribe) = true → s.cmdBlocked = false →
    (s.mayDebug h = false ∨ s.wrld.halted.contains h = false) →
    Yields (.accessRegister h r w) s fun t =>
      fieldOf (Tab.get zeroDm t.wrld.dm 0x16) 10 8 = 4 ∧ t = { s with wrld := t.wrld }) ∧
  (∀ s : State, s.tapOffers 0x10 = true → Yields .dtmcs s fun t =>
    t.lcy.ir = 0x10 ∧ t.out = s.out ++ [.tdo 32 0x71] ∧ t = { s with lcy := t.lcy, out := t.out }) ∧
  (∀ (s : State) (a : Nat), s.tapOffers 0x11 = true → a < 128 → Yields (.dmi a none) s fun t => ∃ u : State,
    u = { s with lcy := { s.lcy with ir := 0x11 }, wrld := { s.wrld with dmExec := none }, out := s.out ++ [.tdo 32 (s.dmRead a)] } ∧
    t = if a = 0x3C ∧ s.sbcs.getLsbD 15 = true then u.sbRead else u) ∧
  (∀ (s : State) (v : Word), s.tapOffers 0x11 = true → Yields (.dmi 0x04 (some v)) s fun t =>
    Tab.get zeroDm t.wrld.dm 0x04 = v ∧ t = { s with lcy := t.lcy, wrld := t.wrld })

/-! ## Chapters 07 and 20 -/

/-- R276, R283, R284, R288, R307, R308: out of boot mode a unit refuses an access within one granule that no region of its active set
matches (NO_MATCH), and in FAULT mode one that two or more match (OVERLAP, at the lowest of them); one region that matches
decides alone, initiator before folio before permission. The first refusal is captured with its address, time and reason, and
counted. -/
def Obligations.RulingDecision : Prop :=
  ∀ (s : State) (u : Nat) (acc : Access), u < 7 → s.bit (Reg.RUL_CTL u) 2 = false → alwaysGranted u acc = false → 0 < acc.len →
    acc.addr / granule u = (acc.addr + acc.len - 1) / granule u →
    (s.matching u acc.addr = [] → s.ruleRefuses u acc = some (rNoMatch, 0x7F)) ∧
    (∀ (r q : Nat) (l : List Nat), s.matching u acc.addr = r :: q :: l → s.bit (Reg.RUL_CTL u) 1 = false →
      s.ruleRefuses u acc = some (rOverlap, r)) ∧
    (∀ r : Nat, s.matching u acc.addr = [r] →
      ((s.entryWord u (s.ruleActive u) r 5).getLsbD acc.init = false → s.ruleRefuses u acc = some (rInitiator, r)) ∧
      ((s.entryWord u (s.ruleActive u) r 5).getLsbD acc.init = true → acc.init ≤ 8 →
        (∀ b : Nat, coreBit acc = some b →
          s.ruleRefuses u acc = if (s.entryWord u (s.ruleActive u) r 4).getLsbD b then none else some (rPermission, r)) ∧
        (coreBit acc = none → s.ruleRefuses u acc = some (rPermission, r))) ∧
      ((s.entryWord u (s.ruleActive u) r 5).getLsbD acc.init = true → 8 < acc.init →
        (∀ f : Nat, acc.folio = some f → f < 32 → (s.entryWord u (s.ruleActive u) r 6).getLsbD f = false →
          s.ruleRefuses u acc = some (rFolio, r)) ∧
        (∀ f : Nat, acc.folio = some f → f < 32 → (s.entryWord u (s.ruleActive u) r 6).getLsbD f = true → acc.kind = .write →
          s.ruleRefuses u acc = if (s.entryWord u (s.ruleActive u) r 4).getLsbD 16 then none else some (rPermission, r)) ∧
        (∀ f : Nat, acc.folio = some f → f < 32 → (s.entryWord u (s.ruleActive u) r 6).getLsbD f = true → acc.kind = .read →
          s.ruleRefuses u acc = if (s.entryWord u (s.ruleActive u) r 4).getLsbD 17 then none else some (rPermission, r)))) ∧
    (∀ why region : Nat, why < 8 → region < 128 → s.ruleRefuses u acc = some (why, region) → s.bit (Reg.RUL_FAULT_INFO u) 31 = false → acc.addr < 2 ^ 64 →
      (s.rule u acc).2 = false ∧
      ((s.rule u acc).1.rd64 (Reg.RUL_FAULT_ADDR u)).toNat = acc.addr ∧
      (s.rule u acc).1.rd64 (Reg.RUL_FAULT_TIME u) = s.stime.ns ∧
      (s.rule u acc).1.fld (Reg.RUL_FAULT_INFO u) 29 27 = why ∧ (s.rule u acc).1.fld (Reg.RUL_FAULT_INFO u) 6 0 = region ∧
      (s.rule u acc).1.bit (Reg.RUL_FAULT_INFO u) 31 = true ∧ (s.rule u acc).1.evtStatus (384 + u) = true ∧
      (s.rule u acc).1.rdn (Reg.RUL_FAULT_COUNT u) = min (s.rdn (Reg.RUL_FAULT_COUNT u) + 1) (2 ^ 32 - 1))

/-- No trigger has acted on ruling unit `u` in this cycle. -/
abbrev rulFresh (s : State) (u : Nat) : Prop := s.cycNow.rul.find? (·.unit == u) = none

/-- R294, R298: a RUL_SET_CMD write with GO makes the named set active; where that changes the active set it counts in SWAP_COUNT
and raises source 398, naming the active set counts nothing, and a cycle whose triggers end on the set they found counts nothing
either. What comes first in its cycle is stated of the commands that act first (log entry 14). R299, R301, R303: a commit puts the staging image into the
entry it names; one to a locked index is LOCKED and one with a reserved field not 0 is FIELD, and neither changes an entry. A
bit of RUL_LOCK locks its index, with the active set's entry copied into the other set; no other register changes. -/
def Obligations.RulingTables : Prop :=
  (∀ (s : State) (u : Nat) (v : Word) (j : RulCyc), u < 7 → v.getLsbD 31 = true → s.cycNow.rul.find? (·.unit == u) = some j →
      j.counted = true → j.set0 = fieldOf v 0 0 → (∀ x ∈ j.trig, x.rank ≤ 1028) →
      Yields (.rulSetCmd u v) s fun t => t.ruleActive u = j.set0 ∧ t.fld (Reg.RUL_STAT u) 31 16 = j.count0 % 0x10000) ∧
  (∀ (s : State) (u : Nat) (v : Word), u < 7 → v.getLsbD 31 = true → rulFresh s u →
      Yields (.rulSetCmd u v) s fun t =>
        t.ruleActive u = fieldOf v 0 0 ∧
        (s.ruleActive u ≠ fieldOf v 0 0 → t.evtStatus 398 = true ∧
          t.fld (Reg.RUL_STAT u) 31 16 = min (s.fld (Reg.RUL_STAT u) 31 16 + 1) 0xFFFF) ∧
        (s.ruleActive u = fieldOf v 0 0 → RegsOnly (among [Reg.RUL_SET_CMD u]) s t) ∧
        EventOnly (among [Reg.RUL_SET_CMD u, Reg.RUL_CTL u, Reg.RUL_STAT u]) s t) ∧
  ((∀ (s : State) (u : Nat) (v : Word), u < 7 → v.getLsbD 31 = true → rulFresh s u →
      let n := fieldOf v 5 0
      let set := fieldOf v 8 8
      let img := (List.range 9).map fun w => s.rd (Reg.RUL_STAGE u w)
      let c := Reg.RUL_STAGE_CMD u
      (s.isLocked u n = true → Yields (.rulStageCommit u v) s fun t => t.fld c 30 28 = 1 ∧ RegsOnly (among [c]) s t) ∧
      (s.isLocked u n = false → entryReservedOk u img = false → Yields (.rulStageCommit u v) s fun t =>
        t.fld c 30 28 = 2 ∧ RegsOnly (among [c]) s t) ∧
      (s.isLocked u n = false → entryReservedOk u img = true → Yields (.rulStageCommit u v) s fun t =>
        t.fld c 30 28 = 0 ∧ t.entry u set n = storedEntry u img ∧
        RegsOnly (fun a => a == c || (decide (entryAddr u set n ≤ a) && decide (a < entryAddr u set n + 36))) { s with ops := t.ops } t)) ∧
    (∀ (s : State) (u n : Nat) (w : HalfWrite), u < 7 → n < 64 → rulFresh s u →
      Yields (.rulLock u w) s fun t =>
        let named := match w with
          | .lower v => v.getLsbD n
          | .upper v => decide (32 ≤ n) && v.getLsbD (n - 32)
          | .both v => v.getLsbD n
        t.isLocked u n = (s.isLocked u n || named) ∧
        (named = true → s.isLocked u n = false → t.entry u 0 n = s.entry u (s.ruleActive u) n ∧
          t.entry u 1 n = s.entry u (s.ruleActive u) n) ∧
        (named = false → t.entry u 0 n = s.entry u 0 n ∧ t.entry u 1 n = s.entry u 1 n) ∧
        RegsOnly (fun a => decide (Reg.RUL_CTL u ≤ a) && decide (a < Reg.RUL_CTL u + 0x10000)) s t))

/-! ## Chapter 08 -/

/-- The Reservoir commands of Table RSV-5: the constructor of each write of RSV_CMD with GO, and its OP code. -/
def reservoirRows : List ((Word → Instr) × Nat) :=
  [(.rootGenerate, 0x01), (.domCreate, 0x02), (.domOpen, 0x03), (.genLoad, 0x04), (.genCreate, 0x05), (.genSwitch, 0x06),
    (.domClose, 0x07), (.domRewrite, 0x08), (.eraseSlot, 0x09), (.eraseFolio, 0x0A), (.eraseAll, 0x0B), (.revalidate, 0x0C)]

/-- The Reservoir command in progress completes with a code: BUSY and GO clear, and source 352 is raised (R354). Strokes that have
fallen due come first (R352), and the REVALIDATE that ends a Scribe restart comes behind a command it has waited for (R336). -/
def rsvEnds (s : State) (code : Nat) (P : State → Prop) : Prop :=
  s.strokes.due = [] → s.wrld.restart ≠ 7 → Yields .rsvCommandComplete s fun t =>
    t.rsv.cmd = none ∧ t.fld Reg.RSV_RESULT 31 24 = code ∧ t.bit Reg.RSV_RESULT 23 = false ∧ t.bit Reg.RSV_CMD 31 = false ∧
    t.evtStatus 352 = true ∧ t.otp = s.otp ∧ P t

/-- R330 and R11: a Reservoir command starts with its operands captured and BUSY set, and nothing else changes but ceremonies that
have run out; while one runs, a further one leaves the command in progress alone and its code is BUSY. R332, R354: a Reservoir
command that a check fails ends with that check's code and leaves every key, table entry and byte of memory. R352: strokes that have
fallen due come before a completion. That a range which a ruling unit refuses ends in ADDRESS is the model's choice (log entry 60). -/
def Obligations.ReservoirCommands : Prop :=
  (∀ x ∈ reservoirRows, ∀ (s : State) (v : Word),
      (s.rsv.cmd = none → Yields (x.1 v) s fun t =>
        (∃ c : RsvCmd, t.rsv.cmd = some c ∧ c.op = x.2 ∧ c.quorum = fieldOf v 23 16 ∧ c.arg = s.rdn Reg.RSV_ARG ∧
          c.makeCurrent = v.getLsbD 8) ∧
        t.bit Reg.RSV_CMD 31 = true ∧ t.fld Reg.RSV_CMD 7 0 = x.2 ∧ t.bit Reg.RSV_RESULT 23 = true ∧
        RegsOnly (among [Reg.RSV_CMD, Reg.RSV_RESULT]) { (s.cerExpireAll) with rsv := { s.rsv with cmd := t.rsv.cmd } } t) ∧
      (s.rsv.cmd.isSome = true → Yields (x.1 v) s fun t =>
        t.fld Reg.RSV_RESULT 31 24 = 0x0A ∧ t.bit Reg.RSV_CMD 31 = true ∧ RegsOnly (among [Reg.RSV_CMD, Reg.RSV_RESULT]) s t)) ∧
  (∀ s : State, s.strokes.due ≠ [] → exec .rsvCommandComplete s = .next s) ∧
  (∀ (s u : State) (c : RsvCmd), s.rsv.cmd = some c → s.rsvCheck c = none → s.ruleRanges c.ranges = (u, false) → c.op ≠ 0x0C →
      rsvEnds s 0x0D fun t => t.rsv.slots = s.rsv.slots ∧ t.mem = s.mem ∧
        EventOnly (among [Reg.RSV_CMD, Reg.RSV_RESULT, Reg.ENT_DRBG_STAT]) { u with rsv := t.rsv } t) ∧
  (∀ (s : State) (c : RsvCmd) (code : Nat), s.rsv.cmd = some c → s.rsvCheck c = some code →
      rsvEnds s code fun t => t.rsv.brk = s.rsv.brk ∧ t.rsv.slots = s.rsv.slots ∧
        t.rsv.doms.map (·.domain) = s.rsv.doms.map (·.domain) ∧ t.mem = s.mem ∧
        (c.op ≠ 0x0C → t.bit Reg.RSV_STAT 29 = s.bit Reg.RSV_STAT 29) ∧
        EventOnly (among [Reg.RSV_CMD, Reg.RSV_RESULT, Reg.ENT_DRBG_STAT, Reg.RSV_STAT]) { s with rsv := t.rsv } t)

/-- R326, R333, R334, R336, R347, R348: what the commands do once their checks pass, each reporting OK. ROOT_GENERATE makes a 32-byte BRK;
GEN_SWITCH makes a resident generation current; DOM_CLOSE, ERASE_FOLIO and ERASE_ALL leave nothing of the domain, the folio or
any key; an ERASE_SLOT whose slot no operation holds leaves nothing in it; REVALIDATE leaves only domains whose policy matches
the new measurement. -/
def Obligations.ReservoirEffects : Prop :=
  ∀ (s : State) (c : RsvCmd), s.rsv.cmd = some c → s.rsvCheck c = none →
    (c.op = 0x01 → s.entropyOk = true → rsvEnds s 0 fun t => (∃ k : Bytes, t.rsv.brk = some k ∧ k.length = 32) ∧ t.mem = s.mem) ∧
    (∀ (e : DomEntry) (h : Nat), c.op = 0x06 → s.domAt c.domain = some e → e.halfOf c.argGen = some h →
      rsvEnds s 0 fun t => (t.domAt c.domain).map (·.curGen) = some c.argGen ∧ t.mem = s.mem ∧ t.rsv.slots = s.rsv.slots) ∧
    (c.op = 0x07 → (s.domAt c.domain).isSome = true → rsvEnds s 0 fun t =>
      t.domAt c.domain = none ∧ t.evtStatus 355 = true ∧ (t.rd64 Reg.RSV_ERASE_TIME).toNat = s.ns) ∧
    (c.op = 0x0A → rsvEnds s 0 fun t => ∀ q ∈ t.rsv.slots, q.folio ≠ c.arg / 2 ^ 26) ∧
    (c.op = 0x0B → rsvEnds s 0 fun t => t.rsv.slots = [] ∧ t.rsv.doms = [] ∧ t.rsv.brk = s.rsv.brk ∧ t.evtStatus 355 = true) ∧
    (∀ q : QuotaSlot, c.op = 0x09 → c.erasing = none → s.slotAt (c.arg / 2 ^ 26) (c.arg % 2 ^ 13) = some q → s.slotHeld q = false →
      rsvEnds s 0 fun t => ∀ x ∈ t.rsv.slots, x.slot ≠ q.slot) ∧
    (c.op = 0x0C → rsvEnds s 0 fun t =>
      (∀ e ∈ t.rsv.doms, t.policyOk e.policy0 e.policy1 = true) ∧ t.bit Reg.RSV_STAT 29 = false)

/-- R332, R333, R353, R381: DOM_OPEN puts the domain in the table with its record's policies and the generation of its record;
GEN_LOAD makes the record's generation resident in the half that is not current, and waits, its target half leaving, while
operations hold the generation it displaces; GEN_CREATE makes the named generation resident; DOM_REWRITE and GEN_CREATE write
their record and no other byte; DOM_CREATE opens generation 1 of the domain and consumes its ceremony slot. R347, R473, R479:
the erase of leaving slots takes those that no operation holds and no other; requests held 10 ms for a DRBG instance, or direct
draws for entropy, end with ABORTED and raise their event. What a waiting command keeps is the model's choice (log entry 35), and
the code for a destroyed domain (log entry 58). -/
def Obligations.ReservoirDomains : Prop :=
  (∀ (s : State) (c : RsvCmd) (r : DomRec), s.rsv.cmd = some c → s.rsvCheck c = none → s.strokes.due = [] →
      (s.ruleRanges c.ranges).2 = true →
      (∀ (g : Nat) (k : Bytes) (old : Option (Nat × Bytes)), c.op = 0x03 → s.domRecAt (c.at_ 0) = some r →
        s.genRecAt r (c.at_ 1) = some (g, k) →
        (if c.at_ 2 = 0 then some none else (s.genRecAt r (c.at_ 2)).map some) = some old → old.any (·.1 == g) = false →
        s.cust.destroyed.contains r.domain = false →
        s.policyOk r.pol0 r.pol1 = true → s.domAt r.domain = none → s.tableRoom r.pol0 r.pol1 = true →
        rsvEnds s 0 fun t => (∃ e : DomEntry, t.domAt r.domain = some e ∧ e.gen0 = g ∧ e.key0 = k ∧ e.gen1 = (old.map (·.1)).getD 0 ∧
          e.key1 = (old.map (·.2)).getD [] ∧ e.policy0 = r.pol0 ∧ e.policy1 = r.pol1) ∧ t.mem = s.mem) ∧
      (∀ g : Nat × Bytes, c.op = 0x03 → s.domRecAt (c.at_ 0) = some r → s.genRecAt r (c.at_ 1) = some g → c.at_ 2 = 0 →
        s.cust.destroyed.contains r.domain = true → rsvEnds s 0x0C fun t => t.rsv.doms.map (·.domain) = s.rsv.doms.map (·.domain)) ∧
      (∀ (g : Nat) (k : Bytes) (e : DomEntry), c.op = 0x04 → s.domRecAt (c.at_ 0) = some r → s.genRecAt r (c.at_ 1) = some (g, k) →
        s.domAt r.domain = some e → g ≠ 0 → e.gen0 ≠ g → e.gen1 ≠ g →
        (s.genHeld e.domain (e.genOf (1 - e.cur)) = false → rsvEnds s 0 fun t => t.dataKey r.domain g = some k ∧ t.mem = s.mem) ∧
        (s.genHeld e.domain (e.genOf (1 - e.cur)) = true → e.genOf (1 - e.cur) ≠ 0 → Yields .rsvCommandComplete s fun t =>
          t.rsv.cmd.map (·.op) = some 0x04 ∧ (t.domAt r.domain).map (·.leaving) = some (some (1 - e.cur)) ∧ t.mem = s.mem)) ∧
      (∀ e : DomEntry, c.op = 0x05 → s.domRecAt (c.at_ 0) = some r → s.domAt r.domain = some e → max e.gen0 e.gen1 < c.argGen →
        s.genHeld e.domain (e.genOf (1 - e.cur)) = false → s.drbgReady 0 = true →
        rsvEnds s 0 fun t => (t.dataKey r.domain c.argGen).isSome = true ∧
          ∀ a : Nat, a < c.at_ 1 ∨ c.at_ 1 + 96 ≤ a → t.memByte a = s.memByte a) ∧
      (c.op = 0x08 → s.domRecAt (c.at_ 0) = some r → s.policyOk r.pol0 r.pol1 = true → s.drbgReady 0 = true →
        rsvEnds s 0 fun t => (∀ a : Nat, a < c.at_ 1 ∨ c.at_ 1 + 192 ≤ a → t.memByte a = s.memByte a) ∧
          t.rsv.doms.map (·.domain) = s.rsv.doms.map (·.domain) ∧ t.rsv.slots = s.rsv.slots) ∧
      (∀ b : Bytes, c.op = 0x02 → s.keyRead c.keysAt (4160 * (c.quorum % 16)) = some b →
        s.membersOk (paramMembers (s.cerSlot (fieldOf c.succ 1 0)).params) (memberKeys b (c.quorum % 16)) = true →
        s.domAt c.domain = none → s.tableRoom c.pol0 c.policy1 = true → s.flourishUp = true → s.drbgReady 0 = true →
        rsvEnds s 0 fun t => (∃ e : DomEntry, t.domAt c.domain = some e ∧ e.gen0 = 1 ∧ e.policy0 = c.pol0 ∧ e.policy1 = c.policy1) ∧
          t.cerState (fieldOf c.succ 1 0) = 0 ∧ t.mem.flash = s.mem.flash)) ∧
  ((∀ s : State, Yields .slotEraseDone s fun t =>
      (∀ q ∈ t.rsv.slots, q ∈ s.rsv.slots) ∧
      (∀ q ∈ s.rsv.slots, q.leaving = true → s.slotHeld q = false → ∀ x ∈ t.rsv.slots, x.slot ≠ q.slot) ∧
      t.rsv.doms = s.rsv.doms ∧ t.mem = s.mem ∧ t.otp = s.otp) ∧
    (∀ (s : State) (c : RsvCmd), s.rsv.cmd = some c → c.held = 1 → s.cust.cmd = none → (∀ o ∈ s.ops, o.held ≠ some 0) →
      Yields (.drbgHoldExpiry 0) s fun t =>
        t.rsv.cmd = none ∧ t.fld Reg.RSV_RESULT 31 24 = 0x08 ∧ t.evtStatus 352 = true ∧ t.evtStatus 339 = true ∧ t.mem = s.mem ∧
        t.otp = s.otp ∧ EventOnly (among [Reg.RSV_CMD, Reg.RSV_RESULT, Reg.ENT_DRBG_STAT]) { s with rsv := t.rsv } t) ∧
    (∀ s : State, s.rsv.cmd = none → s.cust.cmd = none → s.lcy.nonceHeld = true → Yields .directDrawTimeout s fun t =>
      t.lcy = { s.lcy with nonceHeld := false, nonce := none } ∧ t.bit Reg.LCY_CMD 30 = false ∧ t.fld Reg.LCY_RESULT 31 24 = 0x0B ∧
      RegsOnly (among [Reg.LCY_CMD, Reg.LCY_RESULT]) { s with lcy := t.lcy } t))

/-! ## Chapter 09 -/

/-- The CUST commands of Table CUS-8: the constructor of each write of CUST_CMD with GO, and its OP code. -/
def custodianRows : List ((Word → Instr) × Nat) :=
  [(.cerOpen, 0x10), (.cerCount, 0x11), (.cerClose, 0x12), (.enrol, 0x01), (.revoke, 0x02), (.devmRaise, 0x03), (.succBuild, 0x20),
    (.restoreShare, 0x22), (.restoreFinish, 0x23), (.handoverExport, 0x24), (.handoverImport, 0x25)]

/-- The parameter record at CUST_ADDR0 asks for a revocation that the Scribe runtime opens no ceremony for (R390). -/
abbrev openBarred (s : State) : Prop := s.cerBarred (s.memBytes ((s.rd64 (Reg.CUST_ADDR 0)).toNat % 2 ^ 40) 216) = true

/-- R368: a CUST command starts with its operands captured and BUSY set, once the ceremonies that have run out have expired; one
issued while another runs reports BUSY and does not disturb it. R390: the Scribe runtime opens no ceremony to revoke a Custodian that
a domain needs; that it then issues no command is DEDUCED (log entry 58). -/
def Obligations.CustodianStart : Prop :=
  (∀ x ∈ custodianRows, ∀ (s : State) (v : Word), (x.2 = 0x10 → ¬ openBarred s) →
    (s.cust.cmd = none → Yields (x.1 v) s fun t =>
      (∃ c : CustCmd, t.cust.cmd = some c ∧ c.op = x.2 ∧ c.slot = fieldOf v 17 16 ∧ c.arg = s.rd Reg.CUST_ARG) ∧
      t.bit Reg.CUST_CMD 31 = true ∧ t.fld Reg.CUST_CMD 7 0 = x.2 ∧ t.bit Reg.CUST_RESULT 23 = true ∧
      t.mem = s.mem ∧ t.otp = s.otp ∧ t.rsv = s.rsv ∧
      RegsOnly (among [Reg.CUST_CMD, Reg.CUST_RESULT]) { (s.cerExpireAll) with cust := t.cust } t) ∧
    (s.cust.cmd.isSome = true → Yields (x.1 v) s fun t =>
      t.fld Reg.CUST_RESULT 31 24 = 0x01 ∧ t.bit Reg.CUST_CMD 31 = true ∧ RegsOnly (among [Reg.CUST_CMD, Reg.CUST_RESULT]) s t)) ∧
  (∀ (s : State) (v : Word), openBarred s → exec (.cerOpen v) s = .next s)

/-- The CUST command in progress completes with a code: BUSY and GO clear. -/
def custEnds (s : State) (f : Option Nat) (code : Nat) (P : State → Prop) : Prop :=
  Yields (.custCommandComplete f) s fun t =>
    t.cust.cmd = none ∧ t.fld Reg.CUST_RESULT 31 24 = code ∧ t.bit Reg.CUST_RESULT 23 = false ∧ t.bit Reg.CUST_CMD 31 = false ∧ P t

/-- R369, R372 to R376: a command stopped by its first checks changes no slot, key or byte of memory; CER_OPEN on a FREE slot opens
it with its members, its expiry a window from now and nothing counted; a good countersignature sets its Custodian's bit and
satisfies the slot once REQUIRED and every candidate are counted, and a bad one counts nothing and raises source 362; CER_CLOSE
frees the slot, and an expired slot is erased and raises source 361. R389 to R391, R398: ENROL writes an unused row with its
digest and ENROLLED; REVOKE sets REVOKED of an active row where enough stay active; DEVM_RAISE raises DEV_M to INDEX, by setting
bits only; each frees its slot, and a bit that fails reports OTP. The codes follow log entry 35 where the spec names none. -/
def Obligations.CeremonyAndEnrolment : Prop :=
  ((∀ (s : State) (c : CustCmd) (f : Option Nat) (code : Nat), s.cust.cmd = some c → s.custCheck c = some code → custEnds s f code fun t =>
      t.cust.slots = s.cust.slots ∧ t.mem = s.mem ∧ t.otp = s.otp ∧ t.rsv = s.rsv) ∧
    (∀ (s : State) (c : CustCmd) (p : Bytes) (m k : Word) (req : Nat), s.cust.cmd = some c → s.custCheck c = none → c.op = 0x10 →
      c.slot < 4 → s.cust.slots.length = 4 → s.cerState c.slot = 0 →
      (s.custRanges ([(c.at_ 0, 216, .read), (c.at_ 2, 168, .write)] ++
        (if needsEk (fieldOf c.arg 31 24) then [(c.at_ 1, 1568, .write)] else []))).2 = true →
      (needsEk (fieldOf c.arg 31 24) = true → s.flourishUp = true ∧ s.drbgReady 0 = true) →
      s.keyRead (c.at_ 0) 216 = some p → paramsOk p c.arg = true →
      s.cerMasks c p = some (m, req, k) → s.timeValid = true → 60 ≤ c.window → c.window ≤ 86400 → s.entropyOk = true →
      custEnds s none 0 fun t =>
        t.cerState c.slot = 1 ∧ (t.cerSlot c.slot).members = m ∧ (t.cerSlot c.slot).candidates = k ∧ t.cerCounted c.slot = 0 ∧
        t.rd64 (Reg.CUST_CER_EXPIRES c.slot) = BitVec.ofNat 64 (s.ns + c.window * 10 ^ 9) ∧ t.otp = s.otp ∧
        ∀ a : Nat, a < c.at_ 2 ∨ c.at_ 2 + 168 ≤ a →
          (needsEk (fieldOf c.arg 31 24) = true → a < c.at_ 1 ∨ c.at_ 1 + 1568 ≤ a) → t.memByte a = s.memByte a) ∧
    (∀ (s : State) (c : CustCmd) (i : Nat), s.cust.cmd = some c → s.custCheck c = none → c.op = 0x11 → c.slot < 4 →
      (s.custRanges [(c.at_ 0, 8844, .read)]).2 = true → s.flourishUp = true →
      s.countCheck c.slot ((s.keyRead (c.at_ 0) 8844).getD []) = .ok i →
      custEnds s none 0 fun t =>
        t.cerCounted c.slot = s.cerCounted c.slot ||| BitVec.ofNat 32 (2 ^ i) ∧ t.mem = s.mem ∧ t.otp = s.otp ∧
        (s.cerState c.slot = 1 → t.cerState c.slot = (if t.cerMet c.slot then 2 else 1))) ∧
    (∀ (s : State) (c : CustCmd) (code : Nat), s.cust.cmd = some c → s.custCheck c = none → c.op = 0x11 → c.slot < 4 →
      (s.custRanges [(c.at_ 0, 8844, .read)]).2 = true → s.flourishUp = true →
      s.countCheck c.slot ((s.keyRead (c.at_ 0) 8844).getD []) = .error code →
      custEnds s none code fun t =>
        t.cerCounted c.slot = s.cerCounted c.slot ∧ t.mem = s.mem ∧ t.otp = s.otp ∧ (code ≠ 0x07 → t.evtStatus 362 = true)) ∧
    (∀ (s : State) (c : CustCmd), s.cust.cmd = some c → c.op = 0x12 → c.slot < 4 → s.cerState c.slot ≠ 0 →
      custEnds s none 0 fun t => t.cerState c.slot = 0 ∧ t.cerCounted c.slot = 0 ∧ t.mem = s.mem ∧ t.otp = s.otp) ∧
    (∀ (s : State) (n : Nat), n < 4 → s.cust.slots.length = 4 → (s.cerState n = 1 ∨ s.cerState n = 2) →
      (s.rd64 (Reg.CUST_CER_EXPIRES n)).toNat ≤ s.ns → s.cerInUse n = false → Yields .ceremonyExpiry s fun t =>
        t.cerState n = 3 ∧ t.cerSlot n = {} ∧ t.evtStatus 361 = true ∧ t.mem = s.mem ∧ t.otp = s.otp)) ∧
  (∀ (s : State) (c : CustCmd), s.cust.cmd = some c → s.custCheck c = none → c.slot < 4 →
      let p := (s.cerSlot c.slot).params
      let i := paramIndex p
      (c.op = 0x01 → (s.custRow i).used = false → i < s.otp.rows.length → custEnds s none 0 fun t =>
        t.custRow i = { digest := paramDigestA p, enrolled := true } ∧ (∀ j : Nat, j ≠ i → t.custRow j = s.custRow j) ∧
        t.evtStatus 363 = true ∧ t.cerState c.slot = 0 ∧ t.mem = s.mem) ∧
      (∀ n : Nat, c.op = 0x01 → (s.custRow i).used = false → i < s.otp.rows.length → custEnds s (some n) 0x10 fun t =>
        (t.custRow i).enrolled = false ∧ t.mem = s.mem) ∧
      (c.op = 0x02 → s.devM ≤ maskCount (s.activeMask &&& ~~~(BitVec.ofNat 32 (2 ^ i))) → i < s.otp.rows.length → custEnds s none 0 fun t =>
        t.custRow i = { s.custRow i with revoked := true } ∧ (∀ j : Nat, j ≠ i → t.custRow j = s.custRow j) ∧
        t.evtStatus 363 = true ∧ t.cerState c.slot = 0 ∧ t.mem = s.mem) ∧
      (c.op = 0x03 → s.devM < i → i ≤ 8 → i ≤ maskCount s.activeMask → custEnds s none 0 fun t =>
        t.devM = i ∧ (∀ b : Nat, s.otp.devm.getLsbD b = true → t.otp.devm.getLsbD b = true) ∧ t.otp.rows = s.otp.rows ∧ t.mem = s.mem))

/-- R381 to R387: SUCC_BUILD rewrites the package of the domain it names; RESTORE_SHARE adds an opened share to its slot; RESTORE_FINISH
and HANDOVER_IMPORT write the domain record, and HANDOVER_EXPORT the package, where the command names, and no other byte; each
of the last three and SUCC_BUILD frees its slot. -/
def Obligations.Succession : Prop :=
  ∀ (s : State) (c : CustCmd), s.cust.cmd = some c → s.custCheck c = none → c.slot < 4 → s.flourishUp = true → s.drbgReady 0 = true →
    let slot := s.cerSlot c.slot
    (∀ (r : DomRec) (old kb : Bytes), c.op = 0x20 →
      (s.custRanges [(c.at_ 0, 192, .read), (c.at_ 1, packageLen (paramQuorum slot.params % 16), .write),
        (c.at_ 2, 4160 * (paramQuorum slot.params % 16), .read)]).2 = true →
      s.domRecAt (c.at_ 0) = some r → s.keyRead (c.at_ 1) 0xC0 = some old →
      s.keyRead (c.at_ 2) (4160 * (paramQuorum slot.params % 16)) = some kb → packageDigest old = paramDigestA slot.params →
      r.domain = paramDomain slot.params →
      s.membersOk (paramMembers slot.params) (memberKeys kb (paramQuorum slot.params % 16)) = true →
      custEnds s none 0 fun t => t.cerState c.slot = 0 ∧ t.evtStatus 364 = true ∧ t.otp = s.otp ∧ t.mem.flash = s.mem.flash) ∧
    (∀ b pkg y : Bytes, c.op = 0x22 → s.cust.slots.length = 4 → (s.cerState c.slot = 1 ∨ s.cerState c.slot = 2) → s.cerAction c.slot = 6 →
      s.cerPast c.slot = false → (s.custRanges [(c.at_ 0, 1640, .read), (c.at_ 1, 0xC0, .read)]).2 = true → s.keyRead (c.at_ 0) 1640 = some b →
      s.keyRead (c.at_ 1) 0xC0 = some pkg → leAt b 0 4 = 0x44524853 → leAt b 6 2 = 0 → leAt b 0x664 4 = 0 → leAt b 4 1 < 32 →
      (s.cerCounted c.slot).getLsbD (leAt b 4 1) = true → 0 < leAt b 5 1 → leAt b 5 1 ≤ 8 →
      leAt pkg (0x1F + leAt b 5 1) 1 = leAt b 4 1 → (slot.shares.any (·.1 == leAt b 5 1)) = false → openShare slot b = some y →
      custEnds s none 0 fun t =>
        (t.cerSlot c.slot).shares = slot.shares ++ [(leAt b 5 1, y)] ∧ t.mem = s.mem ∧ t.otp = s.otp ∧ t.rsv = s.rsv) ∧
    (∀ pkg dwk : Bytes, c.op = 0x23 → (s.custRanges [(c.at_ 0, 0xC0, .read), (c.at_ 1, 192, .write)]).2 = true → s.keyRead (c.at_ 0) 0xC0 = some pkg →
      packageDigest pkg = paramDigestA slot.params → s.domAt (leAt pkg 8 2) = none → leAt pkg 6 1 / 16 ≤ slot.shares.length →
      unwrapRecord (shamirJoin (slot.shares.take (leAt pkg 6 1 / 16))) pkg 0x80 32 = some dwk →
      custEnds s none 0 fun t => t.cerState c.slot = 0 ∧ t.evtStatus 364 = true ∧ t.otp = s.otp ∧
        ∀ a : Nat, a < c.at_ 1 ∨ c.at_ 1 + 192 ≤ a → t.memByte a = s.memByte a) ∧
    (∀ (r : DomRec) (ek : Bytes), c.op = 0x24 →
      (s.custRanges [(c.at_ 0, 192, .read), (c.at_ 1, 1568, .read), (c.at_ 2, 1712, .write)]).2 = true →
      s.domRecAt (c.at_ 0) = some r → s.keyRead (c.at_ 1) 1568 = some ek → r.domain = paramDomain slot.params →
      sha384 ek = paramDigestA slot.params →
      custEnds s none 0 fun t => t.cerState c.slot = 0 ∧ t.evtStatus 364 = true ∧ t.otp = s.otp ∧
        ∀ a : Nat, a < c.at_ 2 ∨ c.at_ 2 + 1712 ≤ a → t.memByte a = s.memByte a) ∧
    (∀ b dwk : Bytes, c.op = 0x25 → (s.custRanges [(c.at_ 0, 1712, .read), (c.at_ 1, 192, .write)]).2 = true → s.keyRead (c.at_ 0) 1712 = some b →
      leAt b 0 4 = 0x56444E48 → leAt b 4 2 = 1 → leAt b 7 1 = 0 → slice b 10 6 = zeros 6 → leAt b 0x6AC 4 = 0 →
      leAt b 0x18 8 = s.otp.serial → leAt b 0x10 8 = paramSerial slot.params → leAt b 8 2 = paramDomain slot.params →
      leAt b 6 1 = paramQuorum slot.params → slice b 0x20 48 = sha384 slot.ek → s.domAt (leAt b 8 2) = none →
      aeadOpen 2 (handoverKey (kemDecaps slot.seeds (slice b 0x50 1568)) (leAt b 8 2) (leAt b 0x10 8) (leAt b 0x18 8))
        (slice b 0x690 12) (slice b 0 0x50) (slice b 0x670 32) (slice b 0x69C 16) = some dwk →
      custEnds s none 0 fun t => t.cerState c.slot = 0 ∧ t.evtStatus 364 = true ∧ t.otp = s.otp ∧
        ∀ a : Nat, a < c.at_ 1 ∨ c.at_ 1 + 192 ≤ a → t.memByte a = s.memByte a)

/-! ## Chapter 11, entropy -/

/-- R469 to R471: a passed start-up test makes a source HEALTHY; a failed test makes it FAILED, counts it, raises its source, and
the third failure makes it PERSISTENT; RESTART starts a FAILED source's test again, and not a PERSISTENT one's. R477, R480,
R484: a reseed request marks its instances; instances that waited are instantiated once entropy is there, with source 338; a
read of ENT_RNG_S or ENT_RNG_D is one request and returns a fresh value, or returns 0 with RNG_ERR and source 339 where none can
be served. Waiting requests follow log entry 47; the values drawn are free (log entry 4). -/
def Obligations.EntropyRows : Prop :=
  ((∀ (s : State) (n : Nat) (rct apt : Bool), n < 4 → s.srcState n = 2 → (rct || apt) = true → Yields (.noiseSourceFail n rct apt) s fun t =>
      t.srcState n = 3 ∧ t.evtStatus (331 + n) = true ∧ (∀ k : Nat, k < 4 → k ≠ n → t.srcState k = s.srcState k) ∧
      (s.ent.fails.getD n 0 = 2 → t.bit Reg.ENT_STAT (16 + n) = true ∧ t.evtStatus 335 = true) ∧
      ((∀ k : Nat, k < 4 → k ≠ n → s.srcState k ≠ 2) → t.bit Reg.ENT_STAT 21 = true) ∧
      EventOnly (among [Reg.ENT_STAT, Reg.ENT_FAIL n]) { s with ent := { s.ent with fails := t.ent.fails } } t) ∧
    (∀ (s : State) (n : Nat), n < 4 → s.srcState n = 1 → Yields (.sourceStartupTestDone n false false) s fun t =>
      ∃ u : State, t = u.lcyNonceRetry ∧ u.srcState n = 2 ∧ u.bit Reg.ENT_STAT 21 = false ∧ u.bit Reg.ENT_SRC_CTL (4 + n) = false ∧
        RegsOnly (among [Reg.ENT_STAT, Reg.ENT_SRC_CTL]) s u) ∧
    (∀ (s : State) (n : Nat) (v : Word), n < 4 → v.getLsbD (4 + n) = true → s.srcState n = 3 →
      (∀ k : Nat, k < 4 → v.getLsbD k = true ∧ s.srcEnabled k = true) →
      Yields (.entSourceRestart v) s fun t =>
        t.srcState n = (if s.bit Reg.ENT_STAT (16 + n) then 3 else 1) ∧
        EventOnly (among [Reg.ENT_STAT, Reg.ENT_SRC_CTL]) s t)) ∧
  ((∀ (s : State) (v : Word) (i : Nat), i < 4 → v.getLsbD i = true → Yields (.entDrbgReseed v) s fun t =>
      i ∈ t.ent.due ∧ t.bit Reg.ENT_DRBG_CMD i = true ∧
      RegsOnly (among [Reg.ENT_DRBG_CMD]) { s with ent := { s.ent with due := t.ent.due } } t) ∧
    (∀ s : State, s.ent.wanted = true → s.entropyOk = true → s.drbgUp 0 = false → Yields .drbgInstantiate s fun t =>
      (∀ i : Nat, i < 4 → t.drbgUp i = true) ∧ t.evtStatus 338 = true ∧
      EventOnly (among [Reg.ENT_DRBG_STAT, Reg.ENT_DRBG_CMD]) { s with ent := t.ent } t) ∧
    (∀ (s : State) (c : Instr) (i : Nat), (c = .entRngS ∧ i = 0) ∨ (c = .entRngD ∧ i = 2) →
      (s.drbgReady i = true → Yields c s fun t => ∃ v : DWord,
        t.out = s.out ++ [.value v.toNat] ∧ t.ent.ctr.getD i 0 = (if s.drbgDue i then 0 else s.ent.ctr.getD i 0) + (if i < s.ent.ctr.length then 1 else 0) ∧
        RegsOnly (among [Reg.ENT_RESEED_COUNT i, Reg.ENT_DRBG_CMD]) { s with ent := t.ent, out := t.out, freeCtr := t.freeCtr } t) ∧
      (s.drbgReady i = false → Yields c s fun t =>
        t.out.getLast? = some (.value 0) ∧ t.bit Reg.ENT_RNG_ERR (i / 2) = true ∧ t.evtStatus 339 = true ∧
        EventOnly (among [Reg.ENT_RNG_ERR]) s t)))

/-! ## Chapter 12 -/

/-- A configuration request reaches the device: the link is up and in L0, and the fabric runs. -/
abbrev cfgReaches (s : State) (r : Nat) (w : Option Word) : Prop := s.hostLinkUp = true ∧ s.holds (.cfg r w) = false

/-- R203, R494, R499, R532, R892, R901 and Tables HST-1, HST-2: the configuration space. A read answers the register; a write sets the
bits of its mask, clears its W1C bits and leaves the others; before it is open, and during a function-level reset, a request is
answered with Retry Status; one that comes before the link is in L0, or while the fabric is stopped, is held. Bus Master Enable and
the power state are their bits. The numbers of the configuration registers are the model's choice (log entry 23). -/
def Obligations.ConfigSpace : Prop :=
  (∀ (s : State) (r : Nat) (w : Option Word), cfgReaches s r w → (s.host.cfgOpen = false ∨ s.host.flr = true) →
    exec (.configRequest r w) s = .next (s.emit (.pcie "CRS"))) ∧
  (∀ (s : State) (r : Nat) (w : Option Word), s.hostLinkUp = true → s.holds (.cfg r w) = true →
    Yields (.configRequest r w) s fun t => t.host.inbound = s.host.inbound ++ [.cfg r w] ∧
      (s.fld Reg.PWR_STAT 2 0 = 3 → t.pwr.exiting = true) ∧
      EventOnly (among []) { s with host := { s.host with inbound := t.host.inbound } } t) ∧
  (∀ (s : State) (r : Nat), cfgReaches s r none → s.host.cfgOpen = true → s.host.flr = false →
    exec (.configRequest r none) s = .next (s.emit (.value (s.cfgRd r).toNat))) ∧
  (∀ (s : State) (v : Word), cfgReaches s Cfg.pmcsr (some v) → s.host.cfgOpen = true → s.host.flr = false →
    (fieldOf v 1 0 = 0 ∨ fieldOf v 1 0 = 3) → Yields (.configRequest Cfg.pmcsr (some v)) s fun t =>
      t.host.d3 = decide (fieldOf v 1 0 = 3) ∧ t = { s with host := { s.host with d3 := t.host.d3, cfg := t.host.cfg } }) ∧
  (∀ (s : State) (v : Word), cfgReaches s Cfg.atsCtl (some v) → s.host.cfgOpen = true → s.host.flr = false →
    Yields (.configRequest Cfg.atsCtl (some v)) s fun t =>
      t.host.atsEnable = v.getLsbD 31 ∧ (v.getLsbD 31 = false → t.host.ats = [] ∧ t.host.xlReqs = [])) ∧
  (∀ (s : State) (r : Nat) (v : Word), cfgReaches s r (some v) → s.host.cfgOpen = true → s.host.flr = false →
    r ∉ [Cfg.command, Cfg.pmcsr, Cfg.msixCtl, Cfg.atsCtl] → Yields (.configRequest r (some v)) s fun t =>
      (∀ i : Nat, (Tab.get cfgReset t.host.cfg r).getLsbD i =
        if (cfgW1c r).getLsbD i then (Tab.get cfgReset s.host.cfg r).getLsbD i && !v.getLsbD i
        else if (cfgMask r).getLsbD i then v.getLsbD i else (Tab.get cfgReset s.host.cfg r).getLsbD i) ∧
      (∀ q : Nat, q ≠ r → Tab.get cfgReset t.host.cfg q = Tab.get cfgReset s.host.cfg q) ∧
      t = { s with host := { s.host with cfg := t.host.cfg } }) ∧
  (∀ s : State, Yields (.busMasterEnable false) s fun t =>
    t.host.busMaster = false ∧ (Tab.get cfgReset t.host.cfg Cfg.command).getLsbD 2 = false ∧
    t = { s with host := { s.host with busMaster := false, cfg := t.host.cfg } }) ∧
  (∀ s : State, s.ops = [] → Yields (.busMasterEnable true) s fun t =>
    t.host.busMaster = true ∧ (Tab.get cfgReset t.host.cfg Cfg.command).getLsbD 2 = true ∧
    (s.host.msixEnable = true → s.host.funcMask = false → ∀ v ∈ t.host.pba, s.msixWord (4 * v + 3) % 2 ≠ 0) ∧
    t = { s with host := { s.host with busMaster := true, cfg := t.host.cfg, pba := t.host.pba, msixHeld := t.host.msixHeld },
                 out := t.out, cyc := t.cyc }) ∧
  (∀ s : State, Yields (.busMasterEnable true) s fun t => ∃ u : State, t = u.commitAll.flushPba ∧ u.host.busMaster = true ∧
    u = { s with host := { s.host with busMaster := true, cfg := u.host.cfg } }) ∧
  (∀ (s : State) (d3 : Bool), Yields (.pmStateChange d3) s fun t =>
    t.host.d3 = d3 ∧ fieldOf (Tab.get cfgReset t.host.cfg Cfg.pmcsr) 1 0 = (if d3 then 3 else 0) ∧
    t = { s with host := { s.host with d3 := d3, cfg := t.host.cfg } })

/-- R499, R512, R513: a completion with data changes nothing by itself; a refused, poisoned or timed-out one sets its bit of FOL_ERR
and ends its operation with the status of R499, as a refused translation does with BAD_ADDRESS. An outstanding request that is
granted enters the translation cache and stays with what waits for it; an Invalidate Request removes what it names, and its
completion is sent in order. The AER bits are PRESUMED (log entry 66), and how ATS requests are told apart the model's choice (log
entry 62). -/
def Obligations.HostReads : Prop :=
  (∀ (s : State) (who : HostReader), exec (.hostReadCompletion who false false) s = .next s) ∧
  (∀ (s : State) (id : Nat) (o : Op) (poisoned : Bool), s.op id = some o → o.res = none → o.engine ≠ 0 → o.bspPort = none →
    exec (.hostReadCompletion (.op id) true poisoned) s = .next ((s.folErr o.folio 1).finish id St.badAddress) ∧
    exec (.hostReadCompletion (.op id) false true) s = .next (((s.aerReport 12 true).folErr o.folio 2).finish id St.aborted) ∧
    exec (.completionTimeout (.op id)) s = .next (((s.aerReport 14 false).folErr o.folio 3).finish id St.aborted)) ∧
  (∀ (s : State) (poisoned : Bool), s.bit Reg.BOOT_RCV_STAT 23 = true →
    exec (.hostReadCompletion .recovery true poisoned) s = .next s.rcvFail) ∧
  (∀ (s : State) (n : Nat), n < 128 → s.ringState n = 1 → Yields (.completionTimeout (.fetch n)) s fun t =>
    t.ringState n = 3 ∧ t.bit (Reg.RING_STAT n) 3 = true ∧ t.bit (Reg.FOL_ERR (s.ringFolio n)) 3 = true ∧
    t.evtStatus (192 + s.ringFolio n) = true ∧
    EventOnly (among [Reg.RING_STAT n, Reg.RING_ERR_INDEX n, Reg.FOL_ERR (s.ringFolio n)]) (s.aerReport 14 false) t) ∧
  (∀ (s : State) (f i : Nat), f < 64 → i < 32 → (s.folErr f i).bit (Reg.FOL_ERR f) i = true ∧ (s.folErr f i).evtStatus (192 + f) = true ∧
    EventOnly (among [Reg.FOL_ERR f]) s (s.folErr f i)) ∧
  (∀ (s : State) (id a dest size : Nat) (pasid : Option Nat) (rd wr write : Bool) (o : Op),
    s.host.xlReqs.contains ⟨.op id, pasid, a, write⟩ = true →
    (if write then wr else rd) = false → s.op id = some o → o.res = none →
    Yields (.atsTranslationCompletion (.op id) pasid a write dest size ⟨rd, wr⟩) s fun t => ∃ u : State,
      u = { s with host := { s.host with xlReqs := s.host.xlReqs.erase ⟨.op id, pasid, a, write⟩ } } ∧
      t = (u.folErr o.folio 0).finish id St.badAddress) ∧
  (∀ (s : State) (who : HostReader) (pasid : Option Nat) (a dest size : Nat) (rd wr write : Bool),
    s.host.xlReqs.contains ⟨who, pasid, a, write⟩ = true → (if write then wr else rd) = true →
    Yields (.atsTranslationCompletion who pasid a write dest size ⟨rd, wr⟩) s fun t =>
      (∃ e : AtsEnt, e ∈ t.host.ats ∧ e.pasid = pasid ∧ e.rd = rd ∧ e.wr = wr ∧ e.base ≤ a ∧ a < e.base + e.size ∧ e.size ≤ 2 ^ 30 ∧
        (s.xlWanted who = true → (who, e) ∈ t.host.granted)) ∧
      t.host.ats.length ≤ 1024 ∧ t.host.xlReqs = s.host.xlReqs.erase ⟨who, pasid, a, write⟩ ∧
      t = { s with host := { s.host with ats := t.host.ats, granted := t.host.granted, xlReqs := t.host.xlReqs } }) ∧
  (∀ (s : State) (who : HostReader) (pasid : Option Nat) (a dest size : Nat) (rd wr write : Bool),
    s.host.xlReqs.contains ⟨who, pasid, a, write⟩ = false →
    exec (.atsTranslationCompletion who pasid a write dest size ⟨rd, wr⟩) s = .next s) ∧
  (∀ (s : State) (tag a size : Nat) (pasid : Option Nat) (global : Bool), s.host.invals.length < 32 →
    Yields (.atsInvalidateRequest tag pasid a size global) s fun t =>
      (∀ e : AtsEnt, e ∈ t.host.ats ↔ e ∈ s.host.ats ∧
        ¬((global = true ∨ e.pasid = pasid) ∧ e.base < a + size ∧ a < e.base + e.size)) ∧
      (∀ g : HostReader × AtsEnt, g ∈ t.host.granted ↔ g ∈ s.host.granted ∧
        ¬((global = true ∨ g.2.pasid = pasid) ∧ g.2.base < a + size ∧ a < g.2.base + g.2.size)) ∧
      t.host.invals = s.host.invals ++ [tag] ∧
      t = { s with host := { s.host with ats := t.host.ats, granted := t.host.granted, invals := t.host.invals } }) ∧
  (∀ (s : State) (tag : Nat) (rest : List Nat), s.host.invals = tag :: rest → Yields .atsInvalidateCompletion s fun t =>
    t.host.invals = rest ∧ t.out = s.out ++ [.pcie "InvalidateCompletion"] ∧
    t = { s with host := { s.host with invals := rest }, out := t.out })

/-- R521, R529, R530 and Tables HST-10 to HST-12: QUIESCE stops an ACTIVE folio, RESUME makes it ACTIVE again and RESET or DESTROY
starts its reset, which removes its operations and quota slots; each is refused with its code in another state. QUIESCE ends the
operations of the folio's rings that wait in its gate. The mailbox
doorbells set FULL. R225, R532, R533, R895, R929: function-level reset closes the function, clears its configuration, the host's
sources and every PBA bit, and ends with every folio FREE; PERST_N resets the link and the configuration, before step 11 nothing
else; its rise ends the assertion of WAKE_N. That function-level reset clears the configuration, and that QUIESCE of an idle
folio completes by its own command, are the model's choice (log entry 25). -/
def Obligations.FoliosAndResets : Prop :=
  ((∀ (s : State) (f : Nat) (c : Instr) (op res : Nat), f < 64 →
      ((c = .quiesce f ∧ op = 1 ∧ res = (if s.folioState f = 4 then 1 else 2) ∧ s.folioState f ≠ 1) ∨
        (c = .resume f ∧ op = 2 ∧ res = 2 ∧ s.folioState f ≠ 2 ∧ s.folioState f ≠ 3) ∨
        (c = .reset f ∧ op = 3 ∧ s.folioState f = 4 ∧ res = 1) ∨ (c = .reset f ∧ op = 3 ∧ s.folioState f = 0 ∧ res = 2) ∨
        (c = .destroy f ∧ op = 4 ∧ res = 2 ∧ (s.folioState f = 4 ∨ s.folioState f = 0))) →
      Yields c s fun t => t.fld (Reg.FOL_CMD f) 30 28 = res ∧ t.fld (Reg.FOL_CMD f) 3 0 = op ∧
        t.bit (Reg.FOL_CMD f) 31 = false ∧ RegsOnly (among [Reg.FOL_CMD f]) s t) ∧
    (∀ (s : State) (f : Nat), f < 64 → s.folioState f = 1 →
      Yields (.quiesce f) s fun t => ∃ u : State, u.folioState f = 2 ∧ u.fld (Reg.FOL_CMD f) 30 28 = 0 ∧
        RegsOnly (among [Reg.FOL_CMD f, Reg.FOL_CTL f]) s u ∧
        t = (s.ops.filter fun o => o.folio == f && o.parked && o.isRing).foldl (fun s o => s.finish o.id St.aborted) u) ∧
    (∀ (s : State) (f : Nat), f < 64 → s.folioState f = 2 → (∀ o ∈ s.ops, o.folio = f → o.queued = true) → Yields (.folioQuiesced f) s fun t =>
      t.folioState f = 3 ∧ t.bit (Reg.FOL_ERR f) 8 = true ∧ t.evtStatus (192 + f) = true ∧
      EventOnly (among [Reg.FOL_CTL f, Reg.FOL_ERR f]) s t) ∧
    (∀ (s : State) (f : Nat), f < 64 → (s.folioState f = 2 ∨ s.folioState f = 3) → Yields (.resume f) s fun t =>
      t.folioState f = 1 ∧ t.fld (Reg.FOL_CMD f) 30 28 = 0 ∧ RegsOnly (among [Reg.FOL_CMD f, Reg.FOL_CTL f]) s t) ∧
    (∀ (s : State) (f : Nat), f < 64 → s.folioState f ≠ 4 → s.folioState f ≠ 0 →
      exec (.reset f) s = .next (((s.folCmd f 3 0).folioReset f false).setb (Reg.FOL_CMD f) 31 true) ∧
      exec (.destroy f) s = .next (((s.folCmd f 4 0).folioReset f true).setb (Reg.FOL_CMD f) 31 true)) ∧
    (∀ (s : State) (f : Nat) (d : Bool), f < 64 → (s.folioReset f d).folioState f = 4 ∧
      (∀ o ∈ (s.folioReset f d).ops, o.folio ≠ f) ∧ (∀ q ∈ (s.folioReset f d).rsv.slots, q.folio ≠ f) ∧
      (s.folioReset f d).otp = s.otp) ∧
    (∀ (s : State) (f : Nat), f < 64 → s.folioState f = 4 → s.host.flr = false → Yields (.folioResetComplete (some f)) s fun t =>
      t.folioState f = (if s.fld (Reg.FOL_CMD f) 3 0 = 3 then 1 else 0) ∧ t.bit (Reg.FOL_CMD f) 31 = false ∧
      RegsOnly (among [Reg.FOL_CTL f, Reg.FOL_CMD f]) s t) ∧
    (∀ (s : State) (f : Nat), 0 < f → f < 64 → s.mailboxOn f = true → s.bit (Reg.FOL_MBX_CTL f) 0 = false → Yields (.t2mFull f) s fun t =>
      t.bit (Reg.FOL_MBX_CTL f) 0 = true ∧ t.evtStatus (128 + f) = true ∧ EventOnly (among [Reg.FOL_MBX_CTL f]) s t) ∧
    (∀ (s : State) (f : Nat), 0 < f → f < 64 → s.mailboxOn f = true → s.bit (Reg.FOL_MBX_CTL f) 1 = false → Yields (.m2tFull f) s fun t =>
      t.bit (Reg.FOL_MBX_CTL f) 1 = true ∧
      (s.bit (Reg.FOL_MBX_VEC f) 31 = false → RegsOnly (among [Reg.FOL_MBX_CTL f]) s t) ∧
      (s.bit (Reg.FOL_MBX_VEC f) 31 = true → s.vectorOf f (s.fld (Reg.FOL_MBX_VEC f) 8 0) = true →
        t = (s.setb (Reg.FOL_MBX_CTL f) 1 true).sendMsix (s.fld (Reg.FOL_MBX_VEC f) 8 0)) ∧
      EventOnly (among [Reg.FOL_MBX_CTL f, Reg.FOL_ERR f]) s t) ∧
    (∀ (s : State) (f : Nat), (s.bit (Reg.FOL_MBX_CTL f) 0 = true → exec (.t2mFull f) s = .next s) ∧
      (s.bit (Reg.FOL_MBX_CTL f) 1 = true → exec (.m2tFull f) s = .next s))) ∧
  ((∀ s : State, s.host.perst = false → s.host.cfgOpen = true → Yields .functionLevelReset s fun t =>
      t.host.flr = true ∧ t.host.cfg = [] ∧ t.host.busMaster = false ∧ t.host.memSpace = false ∧ t.host.msixEnable = false ∧
      t.host.ats = [] ∧ t.host.pba = [] ∧ t.host.msixTab = [] ∧ (∀ n : Nat, n < 256 → t.evtStatus n = false) ∧ t.otp = s.otp) ∧
    (∀ s : State, s.host.flr = true → Yields (.folioResetComplete none) s fun t =>
      t.host.flr = false ∧ (∀ f : Nat, f < 64 → t.folioState f = 0 ∧ t.bit (Reg.FOL_CMD f) 31 = false) ∧
      RegsOnly (fun a => (List.range 64).any fun f => a == Reg.FOL_CTL f || a == Reg.FOL_CMD f) { s with host := t.host } t) ∧
    (∀ s : State, s.fld Reg.BOOT_STAT 23 20 ≠ 11 → Yields .perstNAssert s fun t =>
      t.host.perst = true ∧ t.host.linkL0 = false ∧ t.host.linkSub = .none ∧ t.host.cfg = [] ∧ t.host.busMaster = false ∧
      t.host.msixTab = [] ∧ t.host.inbound = [] ∧ (s.hostLinkUp = false → t.colo = s.colo) ∧
      t = { s with host := t.host, colo := t.colo }) ∧
    (∀ s : State, s.fld Reg.BOOT_STAT 23 20 = 11 → Yields .perstNAssert s fun t =>
      t.host.perst = true ∧ t.host.linkL0 = false ∧ t.host.cfg = [] ∧ t.host.pba = [] ∧
      (∀ n : Nat, n < 256 → t.evtStatus n = false) ∧ (∀ f : Nat, f < 64 → t.folioState f = 0) ∧ t.otp = s.otp) ∧
    (∀ s : State, s.host.perst = true → Yields .perstNDeassert s fun t =>
      t.host.perst = false ∧ t.host.linkL0 = (s.pwr.mainUp && decide (3 ≤ s.fld Reg.BOOT_STAT 23 20)) ∧ t.pwr.wakeOut = false ∧
      EventOnly (among []) { s with host := { s.host with perst := false, linkL0 := t.host.linkL0 } } t))

/-! ## Chapters 13 and 14 -/

/-- R549, R550, R552, R553, R900: a doorbell of an enabled ring pair whose folio takes doorbells moves the SQ tail, or the CQ head,
to the index written; an index out of range changes no index, sets its error bit and raises the folio's error source; while the
fabric is stopped the doorbell goes to the shadow. R545, R546, R573, R586: ENABLE takes effect when every check passes, with
every index 0, the phase 1 and the ring's records empty; otherwise only the code of the first failing check is recorded.
Clearing it moves the pair to DRAINING and aborts what waits, and a TAIL of the same cycle is recorded; a drained pair is DISABLED;
the coalescing timer raises the ring's source once its time has passed, and its count returns to 0. -/
def Obligations.RingsAndDoorbells : Prop :=
  ((∀ (s : State) (f k n : Nat) (v : Word), s.shadowing = false → s.ringOf f k = some n → s.doorbellsOn f = true →
      (v.toNat < 65536 → v.toNat < s.sqSize n → Yields (.ringDbSq f k v) s fun t =>
        t.sqTail n = v.toNat ∧ EventOnly (among [Reg.RING_SQ_TAIL n]) s t) ∧
      (65536 ≤ v.toNat ∨ s.sqSize n ≤ v.toNat → Yields (.ringDbSq f k v) s fun t =>
        t.sqTail n = s.sqTail n ∧ t.bit (Reg.RING_STAT n) 1 = true ∧ t.evtStatus (192 + f) = true ∧
        EventOnly (among [Reg.RING_STAT n]) s t) ∧
      (v.toNat < 65536 → v.toNat < s.cqSize n →
        (v.toNat + s.cqSize n - s.cqHead n) % s.cqSize n ≤ (s.cqTail n + s.cqSize n - s.cqHead n) % s.cqSize n →
        Yields (.ringDbCq f k v) s fun t => t.cqHead n = v.toNat ∧ EventOnly (among [Reg.RING_CQ_HEAD n]) s t) ∧
      (65536 ≤ v.toNat → Yields (.ringDbCq f k v) s fun t =>
        t.cqHead n = s.cqHead n ∧ t.bit (Reg.RING_STAT n) 1 = true ∧ t.evtStatus (192 + f) = true ∧
        EventOnly (among [Reg.RING_STAT n]) s t) ∧
      (v.toNat < 65536 → (s.cqSize n ≤ v.toNat ∨
        (s.cqTail n + s.cqSize n - s.cqHead n) % s.cqSize n < (v.toNat + s.cqSize n - s.cqHead n) % s.cqSize n) →
        Yields (.ringDbCq f k v) s fun t =>
          t.cqHead n = s.cqHead n ∧ t.bit (Reg.RING_STAT n) 2 = true ∧ t.evtStatus (192 + f) = true ∧
          EventOnly (among [Reg.RING_STAT n]) s t)) ∧
    (∀ (s : State) (f k : Nat) (v : Word), s.shadowing = true → Yields (.ringDbSq f k v) s fun t =>
      (f, k, false, v) ∈ t.pwr.shadow ∧ EventOnly (among []) { s with pwr := { s.pwr with shadow := t.pwr.shadow } } t) ∧
    (∀ (s : State) (f k : Nat) (v : Word), s.shadowing = true → Yields (.ringDbCq f k v) s fun t =>
      (f, k, true, v) ∈ t.pwr.shadow ∧ EventOnly (among []) { s with pwr := { s.pwr with shadow := t.pwr.shadow } } t)) ∧
  ((∀ (s : State) (n : Nat), n < 128 → s.enableCode n = 0 → Yields (.ringEnable n) s fun t =>
      t.ringState n = 1 ∧ t.sqHead n = 0 ∧ t.sqTail n = 0 ∧ t.cqHead n = 0 ∧ t.cqTail n = 0 ∧ t.bit (Reg.RING_STAT n) 8 = true ∧
      t.bit (Reg.RING_CTL n) 31 = true ∧ t.ringSt n = {} ∧
      RegsOnly (among [Reg.RING_CTL n, Reg.RING_STAT n, Reg.RING_SQ_HEAD n, Reg.RING_SQ_TAIL n, Reg.RING_CQ_TAIL n,
        Reg.RING_CQ_HEAD n]) { s with rings := t.rings } t) ∧
    (∀ (s : State) (n : Nat), n < 128 → s.enableCode n ≠ 0 → Yields (.ringEnable n) s fun t =>
      t.fld (Reg.RING_CTL n) 30 28 = s.enableCode n ∧ t.ringState n = s.ringState n ∧ RegsOnly (among [Reg.RING_CTL n]) s t) ∧
    (∀ (s : State) (n : Nat), n < 128 → (s.ringState n = 1 ∨ s.ringState n = 3) → Yields (.ringDisable n) s fun t =>
      t.ringState n = 2 ∧ t.bit (Reg.RING_CTL n) 31 = false ∧ t.mem = s.mem ∧ t.otp = s.otp ∧
      ∃ u : State, t = u.abortWaiting n ∧ u.ringState n = 2 ∧ u.bit (Reg.RING_CTL n) 31 = false ∧ n ∈ u.cycNow.closed ∧
        RegsOnly (among [Reg.RING_CTL n, Reg.RING_STAT n]) s u) ∧
    (∀ (s : State) (f k n : Nat) (v : Word), s.shadowing = false → s.ringOf f k = none → s.ringClosed f k = some n →
      s.doorbellsOn f = true → v.toNat < 65536 → v.toNat < s.sqSize n → Yields (.ringDbSq f k v) s fun t =>
        t.sqTail n = v.toNat ∧ t.ringState n = s.ringState n ∧ EventOnly (among [Reg.RING_SQ_TAIL n]) s t) ∧
    (∀ (s : State) (n : Nat), n < 128 → s.ringState n = 2 → (s.ringOps n).isEmpty = true → Yields (.ringDrained n) s fun t =>
      t.ringState n = 0 ∧ RegsOnly (among [Reg.RING_STAT n]) s t) ∧
    (∀ (s : State) (n : Nat), n < 128 → (s.ringSt n).pendingIrq ≠ 0 → s.fld (Reg.RING_COAL n) 15 0 ≠ 0 →
      (s.ringSt n).pendSince + 800 * s.fld (Reg.RING_COAL n) 15 0 ≤ s.stime.cycle →
      Yields (.coalesceTimerExpiry n) s fun t =>
        t.evtStatus n = true ∧ (t.ringSt n).pendingIrq = 0 ∧ EventOnly (among []) { s with rings := t.rings } t))

/-- R554 to R556, R578, R587, R614: a read of the ring whose turn it is brings its descriptors in ring order, and those that a fence or
a full gate held back are not read again (log entry 63); a read that fails at SQ head stops the ring. Each goes to admission with
a tag when its own time has passed and its predecessor has completed well, is parked until NOT_BEFORE, and completes with
BAD_OPCODE where a check of Table RNG-7 fails. The initiator of a fetch is free (log entry 10); the unused fields of a
descriptor follow log entry 20. -/
def Obligations.DescriptorFetch : Prop :=
  (∀ (s u v : State) (m : HostMem) (n : Nat) (b : Bytes), s.host.busMaster = true → s.host.d3 = false → s.pwr.mainUp = true →
    s.fetchRing = some n → u = (if s.ringFolio n = 0 then s else { s with sch := { s.sch with lastRing := n } }) →
    (u.ringSt n).ahead = [] →
    u.hostRead m { who := .fetch n, init := ringInit, folio := s.ringFolio n, pasid := s.ringPasid n, ro := true }
      ((s.rd64 (Reg.RING_SQ_BASE n)).toNat + 64 * s.sqHead n) (64 * s.fetchCount n) = (v, b, none) →
    ∃ w : State, w = (v.xlDone (.fetch n)).dropCredit ∧
      exec (.descriptorFetch m) s = .next (State.fetchMany n (s.fetchCount n)
        (w.setRing n { w.ringSt n with ahead := (List.range (b.length / 64)).map fun i => slice b (64 * i) 64 }))) ∧
  (∀ (s u : State) (m : HostMem) (n : Nat), s.host.busMaster = true → s.host.d3 = false → s.pwr.mainUp = true →
    s.fetchRing = some n → u = (if s.ringFolio n = 0 then s else { s with sch := { s.sch with lastRing := n } }) →
    (u.ringSt n).ahead ≠ [] → exec (.descriptorFetch m) s = .next (State.fetchMany n (s.fetchCount n) u.dropCredit)) ∧
  (∀ (s u v : State) (m : HostMem) (n st : Nat), s.host.busMaster = true → s.host.d3 = false → s.pwr.mainUp = true →
    s.fetchRing = some n → u = (if s.ringFolio n = 0 then s else { s with sch := { s.sch with lastRing := n } }) →
    (u.ringSt n).ahead = [] → st ≠ St.wait →
    u.hostRead m { who := .fetch n, init := ringInit, folio := s.ringFolio n, pasid := s.ringPasid n, ro := true }
      ((s.rd64 (Reg.RING_SQ_BASE n)).toNat + 64 * s.sqHead n) (64 * s.fetchCount n) = (v, [], some st) →
    Yields (.descriptorFetch m) s fun t =>
      t.ringState n = 3 ∧ t.bit (Reg.RING_STAT n) 3 = true ∧ t.evtStatus (192 + t.ringFolio n) = true ∧ t.sqHead n = v.sqHead n ∧
      t.fld (Reg.RING_ERR_INDEX n) 15 0 = v.sqHead n) ∧
  (∀ (s t : State) (n k : Nat) (b : Bytes) (rest : List Bytes), s.fenced n = false → (s.ringSt n).ahead = b :: rest →
    (s.fetchOne n (parseDesc b) = none → State.fetchMany n (k + 1) s = s.setRing n { s.ringSt n with gateStop := true }) ∧
    (s.fetchOne n (parseDesc b) = some t → ∃ u : State, State.fetchMany n (k + 1) s = State.fetchMany n k u ∧
      u.sqHead n = (t.sqHead n + 1) % t.sqSize n % 65536 ∧ (u.ringSt n).ahead = rest ∧
      RegsOnly (among [Reg.RING_SQ_HEAD n]) { t with rings := u.rings } u)) ∧
  (∀ (s : State) (n : Nat) (d : Desc), s.descOk n d = true → coveredOp d = false → d.notBefore ≤ s.ns → d.flags.testBit 2 = false →
    s.predecessor n ((s.ringSt n).fetched + 1) d.chain = some true →
    ∃ t : State, s.fetchOne n d = some t ∧ (t.ringSt n).fetched = (s.ringSt n).fetched + 1 ∧
      (∃ o : Op, t.ops = s.ops ++ [o] ∧ o.src = .ring n ((s.ringSt n).fetched + 1) ∧ o.desc = d ∧ o.at_ = .cand ∧ o.tag = true) ∧
      RegsOnly (among [Reg.SCH_TAG_HWM]) { s with rings := t.rings, ops := t.ops, nextOp := t.nextOp } t) ∧
  (∀ (s : State) (n : Nat) (d : Desc), s.descOk n d = true → coveredOp d = false → s.ns < d.notBefore →
    s.gateFree (s.ringFolio n) = true →
    ∃ t : State, s.fetchOne n d = some t ∧
      (∃ o : Op, t.ops = s.ops ++ [o] ∧ o.desc = d ∧ o.at_ = .parkTime s.stime.cycle ∧ o.tag = false) ∧
      RegsOnly (among [Reg.STRK_GATE_HWM]) { s with rings := t.rings, ops := t.ops, nextOp := t.nextOp } t) ∧
  (∀ (s : State) (n : Nat) (d : Desc), s.descOk n d = false → s.host.busMaster = false → (∀ o ∈ s.ops, o.id ≠ s.nextOp) →
    ∃ t : State, s.fetchOne n d = some t ∧ (t.op s.nextOp).bind (·.res) = some { status := St.badOpcode, engine := 0 } ∧
      t.regs = s.regs)

/-- R79 to R81, R578, R580, R583, R611: the one parked descriptor whose time, predecessor or original has come leaves its gate slot:
with a tag it becomes a candidate, and without one it keeps the slot; a failed predecessor ends it with ABORTED, a completed
original with DUPLICATE, and too long a wait with GATE_TIMEOUT and source 444. No memory, OTP or key changes. The order of
releases in one cycle is the model's choice (log entry 46). -/
def Obligations.GateReleases : Prop :=
  ∀ (s : State) (o : Op) (n no : Nat), s.strokes.due = [] → s.gateOrder = [o] → o.src = .ring n no → s.op o.id = some o → o.res = none →
    (∀ w : Nat, o.at_ = .parkTime w → o.desc.notBefore ≤ s.ns → s.predecessor n no o.desc.chain = some true →
      Yields .gateRelease s fun t =>
        (∀ x ∈ t.ops, x.id = o.id → x.at_ = (if s.canTag o.folio then .cand else .parkTag w) ∧ x.tag = (s.canTag o.folio || o.tag)) ∧
        RegsOnly (among [Reg.SCH_TAG_HWM]) { s with ops := t.ops, sch := { s.sch with deficit := t.sch.deficit } } t) ∧
    (∀ w : Nat, o.at_ = .parkTime w → s.ns < o.desc.notBefore → exec .gateRelease s = .next s) ∧
    (∀ w : Nat, o.at_ = .parkChain w → s.predecessor n no o.desc.chain = some true → Yields .chainRelease s fun t =>
      (∀ x ∈ t.ops, x.id = o.id → x.at_ = (if s.canTag o.folio then .cand else .parkTag w)) ∧
      RegsOnly (among [Reg.SCH_TAG_HWM]) { s with ops := t.ops, sch := { s.sch with deficit := t.sch.deficit } } t) ∧
    (∀ w : Nat, o.at_ = .parkChain w → s.predecessor n no o.desc.chain = some false → Yields .chainRelease s fun t =>
      (∀ x ∈ t.ops, x.id = o.id → x.res.map (·.status) = some St.aborted) ∧ t.mem = s.mem ∧ t.otp = s.otp ∧
      t.rsv = { s.rsv with trans := t.rsv.trans }) ∧
    (∀ (w k : Nat) (e : DupEnt) (r : OpRes), o.at_ = .parkDup w k → (s.ringSt n).window.find? (·.fetchNo == k) = some e → e.res = some r →
      Yields .duplicateRelease s fun t =>
        (∀ x ∈ t.ops, x.id = o.id → x.res = some (dupRes r)) ∧ t.mem = s.mem ∧ t.otp = s.otp ∧
        t.rsv = { s.rsv with trans := t.rsv.trans }) ∧
    (∀ w : Nat, o.at_ = .parkTime w → s.fld (Reg.RING_GATE_TO n) 19 0 ≠ 0 →
      s.fld (Reg.RING_GATE_TO n) 19 0 * 800000 < s.stime.cycle - w → Yields .gateTimeout s fun t =>
        (∀ x ∈ t.ops, x.id = o.id → x.res.map (·.status) = some St.gateTimeout) ∧ t.evtStatus 444 = true ∧ t.mem = s.mem ∧
        t.otp = s.otp ∧ t.rsv = { s.rsv with trans := t.rsv.trans })

/-- R21, R72, R497, R507, R575, R597, R602, R612, R622 and Table RNG-9: an admission gives the chosen candidate a tag, the engine and the
keys that it then names; where no engine of the class can serve, its candidates end with ENGINE_FENCED, and in a low-power state the
device leaves it first (log entry 62); while a stroke that has fallen due waits, nothing is admitted. A FENCE with nothing before it, a NOP and a TIME_READ get their
results at once; a known result is committed with its completion entry at the CQ tail, and its operation is gone;
the deficit of a Flourish operation is corrected by its busy time. The size of a transmit buffer is an operand (log entry 62). -/
def Obligations.AdmissionAndCompletion : Prop :=
  (∀ (s u : State) (c e tx : Nat) (find : EccFind) (m : HostMem) (o : Op), s.strokes.due = [] → c < 6 → s.fld Reg.PWR_STAT 2 0 = 0 →
    s.dropCredit.classServed c = true → s.dropCredit.engineFree c e = true → s.dropCredit.decide_ c tx m = some (o, u) →
    o.takesBlob = false → Yields (.admission c e tx ⟨find, m⟩) s fun t =>
      (∀ x ∈ t.ops, x.id = o.id → x.at_ = .run e ∧ x.tag = true ∧ x.cost = opCost m o ∧ x.desc = o.desc) ∧
      (find = .clean → t.ops.map (·.id) = s.ops.map (·.id) ∧ t.mem = s.mem ∧ t.otp = s.otp ∧
        t.rsv = { s.rsv with trans := t.rsv.trans } ∧
        ∀ x ∈ t.ops, x.id = o.id → ∀ ask : KeyAsk, o.keyAsk = some ask → (x.key, x.key2) = s.resolveKeys o ask)) ∧
  (∀ (s : State) (c e tx : Nat) (find : EccFind) (m : HostMem), s.strokes.due = [] → c < 6 → s.fld Reg.PWR_STAT 2 0 = 0 →
    s.dropCredit.classServed c = false → exec (.admission c e tx ⟨find, m⟩) s = .next ((s.dropCredit.candidates.filter fun o => classOf o.desc.opcode == c).foldl
      (fun t o => t.finish o.id St.engineFenced) s.dropCredit)) ∧
  (∀ (s : State) (c e tx : Nat) (find : EccFind) (m : HostMem), s.strokes.due = [] → c < 6 → s.fld Reg.PWR_STAT 2 0 ≠ 0 →
    s.candidates ≠ [] → Yields (.admission c e tx ⟨find, m⟩) s fun t => t.pwr.exiting = true ∧ t.ops = s.ops ∧ EventOnly (among []) s t) ∧
  (∀ (s : State) (c e tx : Nat) (find : EccFind) (m : HostMem), s.strokes.due ≠ [] → exec (.admission c e tx ⟨find, m⟩) s = .next s) ∧
  (∀ (s : State) (n : Nat) (o : Op), s.controlCandidate n 0x50 = some o → (∀ x ∈ s.ringOps n, o.fetchNo ≤ x.fetchNo) →
    Yields (.fence n) s fun t => (∀ x ∈ t.ops, x.id = o.id → x.res = some { status := St.ok, engine := 0x60 }) ∧
      t = { s with ops := t.ops, sch := { s.sch with deficit := t.sch.deficit } }) ∧
  (∀ (s : State) (n : Nat) (o : Op) (x : Op), s.controlCandidate n 0x50 = some o → x ∈ s.ringOps n → x.fetchNo < o.fetchNo →
    exec (.fence n) s = .next s) ∧
  (∀ (s : State) (n : Nat), s.strokes.due ≠ [] →
    exec (.fence n) s = .next s ∧ exec (.nop n) s = .next s ∧ exec (.timeRead n) s = .next s) ∧
  (∀ (s : State) (n : Nat) (o : Op), s.controlCandidate n 0x51 = some o → Yields (.nop n) s fun t =>
    (∀ x ∈ t.ops, x.id = o.id → x.res = some { status := St.ok, r0 := o.desc.param0, r1 := o.desc.param1, engine := 0x60 }) ∧
    t = { s with ops := t.ops, sch := { s.sch with deficit := t.sch.deficit } }) ∧
  (∀ (s : State) (n : Nat) (o : Op), s.controlCandidate n 0x52 = some o → Yields (.timeRead n) s fun t =>
    (∀ x ∈ t.ops, x.id = o.id → x.res = some { status := St.ok, engine := 0x60 }) ∧
    t = { s with ops := t.ops, sch := { s.sch with deficit := t.sch.deficit } }) ∧
  (∀ (s : State) (id busyNs : Nat) (o : Op) (r : OpRes), s.op id = some o → o.res = some r →
    ((s.commit id).op id ≠ none → exec (.operationComplete id busyNs) s = .next (s.commit id)) ∧
    ((s.commit id).op id = none → (r.engine ≠ 0x30 ∨ o.folio = 0) → exec (.operationComplete id busyNs) s = .next (s.commit id)) ∧
    ((s.commit id).op id = none → r.engine = 0x30 → o.folio ≠ 0 → Yields (.operationComplete id busyNs) s fun t =>
      t.deficit o.folio 3 = (s.commit id).deficit o.folio 3 - ((busyNs : Int) - (o.cost : Nat)) ∧
      t = { s.commit id with sch := { (s.commit id).sch with deficit := t.sch.deficit } })) ∧
  (∀ (s : State) (id busyNs n no : Nat) (o : Op) (r : OpRes), s.op id = some o → o.res = some r → o.src = .ring n no →
    s.host.busMaster = true → r.engine ≠ 0x30 → r.status ≠ St.authFailed → o.desc.opcode ≠ 0x52 → (s.ringSt n).lost = false →
    n < 128 → s.cqSize n ≤ 65536 → s.host.atsEnable = false → o.fill = none →
    (s.ruleFolio { s.opCtx o ringInit with ro := false } 4 ((s.rd64 (Reg.RING_CQ_BASE n)).toNat + 32 * s.cqTail n) 32 .write).2 = true →
    Yields (.operationComplete id busyNs) s fun t =>
      t.op id = none ∧ t.cqTail n = (s.cqTail n + 1) % s.cqSize n ∧
      Output.hostWrite { folio := o.folio, addr := (s.rd64 (Reg.RING_CQ_BASE n)).toNat + 32 * s.cqTail n, pasid := s.ringPasid n }
        (completionEntry o.desc.reqId (s.bit (Reg.RING_STAT n) 8) s.ns r) ∈ t.out ∧
      t.mem = s.mem ∧ t.otp = s.otp ∧ t.rsv = { s.rsv with trans := t.rsv.trans })

/-- A bucket's level as a write of its registers leaves it: a refill of the same cycle does not apply (Table SCH-4). -/
abbrev unfilledB (s : State) (f c : Nat) : Int := match s.cycNow.refilled with
  | some (b, _) => Tab.get zeroInt b (fcKey f c)
  | none => s.levelB f c

abbrev unfilledO (s : State) (f c : Nat) : Int := match s.cycNow.refilled with
  | some (_, o) => Tab.get zeroInt o (fcKey f c)
  | none => s.levelO f c

/-- R604 and Table SCH-7: one microsecond fills each CONTINUOUS bucket at its rate up to its depth and changes no other, and none whose
registers are written in the same cycle; a write of
SCH_FC_CTL sets weight and modes and fills the buckets it turns on, and a reserved mode sets its error bit and leaves that
bucket's mode. -/
def Obligations.Buckets : Prop :=
  (∀ s : State, Yields .tokenBucketRefill s fun t =>
    (∀ f c : Nat, f < 64 → c < 6 → s.cycNow.buckets.contains (fcKey f c) = true →
      t.levelB f c = s.levelB f c ∧ t.levelO f c = s.levelO f c) ∧
    (∀ f c : Nat, f < 64 → c < 6 → s.cycNow.buckets.contains (fcKey f c) = false →
      t.levelB f c = (if s.bytesMode f c = 1 then min (s.levelB f c + (s.fld (Reg.SCH_FC_RATE_B f c) 15 0 : Nat)) (s.depthB f c)
        else s.levelB f c) ∧
      t.levelO f c = (if s.opsMode f c = 1 then min (s.levelO f c + (s.fld (Reg.SCH_FC_RATE_O f c) 23 0 : Nat)) (s.depthO f c)
        else s.levelO f c)) ∧
    RegsOnly (among []) { s with sch := { s.sch with levelB := t.sch.levelB, levelO := t.sch.levelO } } t) ∧
  (∀ (s : State) (f c : Nat) (v : Word), f < 64 → c < 6 → Yields (.schFcCtl f c v) s fun t =>
    t.fld (Reg.SCH_FC_CTL f c) 23 16 = fieldOf v 23 16 ∧
    t.bytesMode f c = (if fieldOf v 1 0 = 3 then s.bytesMode f c else fieldOf v 1 0) ∧
    t.opsMode f c = (if fieldOf v 5 4 = 3 then s.opsMode f c else fieldOf v 5 4) ∧
    t.levelB f c = (if fieldOf v 1 0 = 1 ∨ fieldOf v 1 0 = 2 then s.depthB f c else unfilledB s f c) ∧
    t.levelO f c = (if fieldOf v 5 4 = 1 ∨ fieldOf v 5 4 = 2 then s.depthO f c else unfilledO s f c) ∧
    (fieldOf v 1 0 = 3 ∨ fieldOf v 5 4 = 3 → t.bit Reg.SCH_STAT 31 = true) ∧
    RegsOnly (among [Reg.SCH_FC_CTL f c, Reg.SCH_STAT]) { s with sch := t.sch } t)

/-! ## Chapter 10, and the operations of chapters 11 and 13 -/

/-- R410, R417 to R419, R421, R428, R433, R434: what a SEAL made opens to the plaintext, raw or as an envelope chunk, and a header reads
back as it was made. On a lane, one chunk of SEAL, OPEN or TRANSCRIBE whose input has been read whole, twice where GCM-SIV asks it,
has put out the sealed chunk, the plaintext or the chunk sealed again; a chunk whose tag is false is reported so. The algorithms
are those of the standards the spec names (log entry 5). -/
def Obligations.SealOpenRoundTrip : Prop :=
  (∀ (alg : Nat) (k nonce aad pt : Bytes), aeadOpen alg k nonce aad (aeadSeal alg k nonce aad pt).1 (aeadSeal alg k nonce aad pt).2 = some pt) ∧
  (∀ (e : Env) (k h : Bytes) (i : Nat) (pt : Bytes), openChunk e k h i (sealChunk e k h i pt) = some pt) ∧
  (∀ (e : Env) (key : Bytes), e.alg < 256 → e.shift < 256 → e.domain < 65536 → e.gen < 2 ^ 32 → e.keyId.length = 16 → e.seed.length = 32 →
    e.obj < 2 ^ 64 → e.sealedAt < 2 ^ 64 → parseEnv (e.header key) = e ∧ (e.header key).length = 128) ∧
  (∀ (e : Env) (k h : Bytes) (i : Nat) (pt : Bytes), pt.length = chunkLen e.obj e.shift i →
    (LaneWork.sealEnv e k h).part i (if e.alg = 2 then pt ++ pt else pt) = (sealChunk e k h i pt, false) ∧
    (LaneWork.openEnv e k h).part i (sealChunk e k h i pt) = (pt, false)) ∧
  (∀ (e : Env) (k h : Bytes) (i : Nat) (c : Bytes), c.length = chunkLen e.obj e.shift i + 16 → openChunk e k h i c = none →
    ((LaneWork.openEnv e k h).part i c).2 = true) ∧
  (∀ (se de : Env) (sk sh dk dh : Bytes) (i : Nat) (pt : Bytes), pt.length = chunkLen se.obj se.shift i →
    (LaneWork.trans se sk sh de dk dh).part i
      (if de.alg = 2 then sealChunk se sk sh i pt ++ (sealChunk se sk sh i pt).take pt.length else sealChunk se sk sh i pt) =
      (sealChunk de dk dh i pt, false))

/-- The operations that engines run in one command: the constructor, its opcode, the DRBG instance that a run can wait for, and what it
computes. -/
def engineRows : List ((Nat → HostMem → Instr) × Nat × (State → Op → Option Nat) × (State → HostMem → Op → Stop (State × OpRes))) :=
  [(.hash, 0x10, fun _ _ => none, State.hashRun), (.hmac, 0x11, fun _ _ => none, State.hashRun),
    (.kmac, 0x12, fun _ _ => none, State.hashRun), (.blobLoad, 0x30, fun _ _ => none, State.blobLoadRun),
    (.keyGenerate, 0x32, fun s _ => s.notReady [1, 0], State.keygenRun), (.sign, 0x40, fun s _ => s.notReady [1], State.signRun),
    (.verify, 0x41, fun _ _ => none, State.verifyRun), (.encaps, 0x42, fun s _ => s.notReady [1, 0], State.encapsRun),
    (.decaps, 0x43, fun s _ => s.notReady [0], State.decapsRun), (.ecdh, 0x44, fun s _ => s.notReady [0], State.ecdhRun)]

/-- The operations of nib lanes: the constructor, its opcode, and its checks. -/
def laneRows : List ((Nat → LaneEnv → Instr) × Nat × (State → HostMem → Op → Stop (State × LanePlan))) :=
  [(.seal, 0x01, State.planSeal), (.openNib, 0x02, State.planOpen), (.transcribe, 0x03, State.planTranscribe)]

/-- Command `c` holds operation `o` for DRBG instance `i`, with WAITING set. -/
def holdsFor (c : Instr) (s : State) (o : Op) (i : Nat) : Prop :=
  Yields c s fun t => t.bit Reg.ENT_DRBG_STAT (8 * i + 6) = true ∧ (∀ y ∈ t.ops, y.id = o.id → y.held = some i ∧ y.res = none) ∧
    RegsOnly (among [Reg.ENT_DRBG_STAT]) { s with ops := t.ops } t

/-- Command `c` runs operation `o`, whose run computes `x` and can wait for a DRBG instance. -/
def runsAs (c : Instr) (s : State) (o : Op) (blocked : Option Nat) (x : Stop (State × OpRes)) : Prop :=
  (∀ (t : State) (r : OpRes), x = .ok (t, r) → blocked = none →
    exec c s = .next (if r.status = St.wait then s.xlWait t else t.engineEnd o r)) ∧
  (∀ (t : State) (st : Nat), x = .error (t, st) →
    exec c s = .next (if st = St.wait then s.xlWait t else t.engineEnd o { status := st })) ∧
  (∀ (t : State) (r : OpRes) (i : Nat), x = .ok (t, r) → blocked = some i → holdsFor c s o i)

/-- R404, R412, R436, R439, R451, R479, R509: on an admitted operation of its opcode every engine row records what the operation computes
with the engine's number, or holds it for the DRBG instance that cannot serve it, once its checks have passed; one that lacks a
translation is left as it was. A lane row begins its chunks after its checks, and goes on with those of an operation that it has
begun. An operation that has ended reports the engine, holds no key, and leaves the others as they were. One chunk, its input
read and its output written, adds its bytes; a false tag leaves zeros and ends with AUTH_FAILED. That every engine but a lane does
its work in one command is the model's choice (log entry 14). -/
def Obligations.EngineRuns : Prop :=
  (∀ x ∈ engineRows, ∀ (s : State) (id : Nat) (m : HostMem) (o : Op), s.running id x.2.1 = some o →
    runsAs (x.1 id m) s o (x.2.2.1 s o) (x.2.2.2 s m o)) ∧
  (∀ x ∈ laneRows, ∀ (s : State) (id : Nat) (m : HostMem) (upto : Option Nat) (o : Op), s.running id x.2.1 = some o →
    (∀ j : LaneJob, o.job = some j → exec (x.1 id ⟨m, upto⟩) s = .next (s.laneTurn m o j (upto.map (4096 * ·)))) ∧
    (∀ (t : State) (st : Nat), o.job = none → x.2.2 s m o = .error (t, st) →
      exec (x.1 id ⟨m, upto⟩) s = .next (if st = St.wait then s.xlWait t else t.engineEnd o { status := st })) ∧
    (∀ (t : State) (p : LanePlan), o.job = none → x.2.2 s m o = .ok (t, p) → (p.draw = 0 ∨ s.drbgReady 3 = true) →
      exec (x.1 id ⟨m, upto⟩) s = .next (t.laneBegin s m o p upto)) ∧
    (∀ (t : State) (p : LanePlan), o.job = none → x.2.2 s m o = .ok (t, p) → p.draw ≠ 0 → s.drbgReady 3 = false →
      holdsFor (x.1 id ⟨m, upto⟩) s o 3)) ∧
  (∀ (t : State) (o p : Op) (r : OpRes), t.op o.id = some p →
    (∀ y ∈ (t.engineEnd o r).ops, y.id = o.id → y.res = some { r with engine := o.engine } ∧ y.key = .none ∧ y.key2 = .none ∧ y.job = none) ∧
    ((t.engineEnd o r).ops.filter fun y => y.id != o.id) = t.ops.filter (fun y => y.id != o.id) ∧
    RegsOnly (among [Reg.ENT_DRBG_STAT]) { t with ops := (t.engineEnd o r).ops } (t.engineEnd o r)) ∧
  (∀ (s t u : State) (m : HostMem) (o : Op) (j : LaneJob) (b out : Bytes) (bad : Bool), j.got = [] → j.part = 0 →
    State.readParts m o j.io (cutPieces (j.work.reads j.base j.start (j.start + j.done)) 0
      (sglTotal (j.work.reads j.base j.start (j.start + j.done)))) s = (t, b, none) →
    b.length = sglTotal (j.work.reads j.base j.start (j.start + j.done)) → j.work.part (j.start + j.done) b = (out, bad) →
    t.writeAt o j.io j.good out = (u, out.length, none) →
    (bad = false → s.laneChunk m o j none =
      (u.laneBytes o.engine (j.work.textLen (j.start + j.done)), .done { j with done := j.done + 1, good := j.good + out.length })) ∧
    (bad = true → s.laneChunk m o j none = ((u.writeAt o j.io j.good (zeros out.length)).1, .over (j.res St.authFailed j.good)))) ∧
  (∀ (s t : State) (m : HostMem) (o : Op) (j : LaneJob) (budget : Option Nat),
    (∀ r : OpRes, State.laneRun m o (j.count - j.done) s j budget = (t, .over r) → s.laneTurn m o j budget = t.engineEnd o r) ∧
    (∀ k : LaneJob, State.laneRun m o (j.count - j.done) s j budget = (t, .stop k) ∨ State.laneRun m o (j.count - j.done) s j budget = (t, .done k) →
      s.laneTurn m o j budget = t.setOp { (t.op o.id).getD o with job := some k }))

/-- The reference of a BLOB_EVICT, as the key checks see it (R342). -/
def evictAsk (o : Op) : KeyAsk :=
  { folio := o.folio, ref := o.desc.keyRef, domain := o.desc.domain, need := 0, dataOk := false, inlineOk := false }

/-- R428, R436, R437, R454, R458 to R460, R464, R482, R570a, R572: what the runs compute. A hash-lane operation from staging outputs
its digest; VERIFY reports whether the signature is true; the key-producing operations make the blob of their key; RANDOM
returns as many bytes as asked; BLOB_EVICT requests the erase of the slot and waits for it, reports KEY_ABSENT, or answers what the reference's form gives;
KEY_REWRAP keeps the key's material. The algorithms are those of the standards the spec names (log entry 5). -/
def Obligations.OperationResults : Prop :=
  (∀ (s : State) (m : HostMem) (o : Op), ctlOk o.desc = true → o.desc.opcode = 0x10 → hashLen (o.desc.param0 % 256) ≠ 0 → o.desc.param1 = 0 →
    o.desc.aadLen = 0 → o.isRing = false → s.op o.id = some o → o.output = [] →
    s.stageOk (s.opCtx o (readInit o.engine)) o.desc.dataLen .read = (s, true) →
    (s.laneBytes o.engine o.desc.dataLen).stageOk (s.opCtx o (writeInit o.engine)) (hashLen (o.desc.param0 % 256)) .write =
      (s.laneBytes o.engine o.desc.dataLen, true) →
    ∃ t : State, s.hashRun m o = .ok (t, { status := St.ok, bytesOut := hashLen (o.desc.param0 % 256) }) ∧
      (t.op o.id).map (·.output) = some (digest (o.desc.param0 % 256) (hashLen (o.desc.param0 % 256)) (slice o.data 0 o.desc.dataLen)) ∧
      t = { s.laneBytes o.engine o.desc.dataLen with ops := t.ops }) ∧
  (∀ (s v t u : State) (m : HostMem) (o : Op) (io : Io) (stream msg : Bytes), ctlOk o.desc = true → msgLenOk o.desc = true →
    s.openIo m o true false (some 0) = .ok (v, io) → o.wrapsOk true 0 = true → v.readStream m o = .ok (t, stream) →
    (verifyStream o.desc stream []).isSome = true → t.readData m o io 0 o.desc.dataLen = .ok (u, msg) →
    s.verifyRun m o = .ok (u, { status := if verifyStream o.desc stream msg = some true then St.ok else St.authFailed })) ∧
  (∀ (s t : State) (m : HostMem) (o : Op) (io : Io) (stream : Bytes) (p : Template) (gk : Nat × Bytes) (k : Key), o.key = .key k →
    let out := o.desc.param0.testBit 9
    (s.producer m o 1584 (fun _ => 160) = .ok (t, io, stream, p, gk) →
      s.decapsRun m o = .ok (t.produce o io p gk (kemDecaps k.material (stream.drop 16)) [] [] out)) ∧
    (s.producer m o 1584 (fun _ => 1728) = .ok (t, io, stream, p, gk) → kemKeyOk (stream.drop 16) = true →
      ∃ (r : Bytes) (u : State), r.length = 32 ∧ (r, u) = t.drbgDraw 1 32 ∧
        s.encapsRun m o = .ok (u.produce o io p gk (kemEncaps (stream.drop 16) r).2 (kemEncaps (stream.drop 16) r).1 [] out)) ∧
    (s.producer m o 1584 (fun _ => 1728) = .ok (t, io, stream, p, gk) → kemKeyOk (stream.drop 16) = false →
      s.encapsRun m o = .error (t, St.authFailed)) ∧
    (∀ z : Bytes, s.producer m o 113 (fun _ => 160) = .ok (t, io, stream, p, gk) →
      (p384Point (stream.drop 16)).bind (ecdhSecret k.material) = some z → s.ecdhRun m o = .ok (t.produce o io p gk z [] [] out)) ∧
    (s.producer m o 113 (fun _ => 160) = .ok (t, io, stream, p, gk) → (p384Point (stream.drop 16)).bind (ecdhSecret k.material) = none →
      s.ecdhRun m o = .error (t, St.authFailed)) ∧
    (s.bit Reg.LCY_STATE 10 = true → s.keygenRun m o = .error (s, St.denied)) ∧
    (s.bit Reg.LCY_STATE 10 = false → s.producer m o 16 (fun p => 160 + publicKeyLen p.type) = .ok (t, io, stream, p, gk) → p.type ≠ Kt.p384 →
      ∃ (r : Bytes) (u : State), r.length = p.len ∧ (r, u) = t.drbgDraw 1 p.len ∧
        s.keygenRun m o = .ok (u.produce o io p gk r [] (publicKey p.type r) out))) ∧
  (∀ (s t : State) (id : Nat) (m : HostMem) (o : Op) (r : OpRes), s.running id 0x20 = some o → s.randomRun m o = .ok (t, r) →
    (r.status = St.ok → r.bytesOut = o.desc.dataLen) ∧
    ((o.desc.dataLen = 0 ∨ (s.predResist o.desc = true → s.entropyOk = true) ∧ s.drbgServes 2 ((o.desc.dataLen + 65535) / 65536) = true) →
      exec (.random id m) s = .next (if r.status = St.wait then s.xlWait t else t.engineEnd o r)) ∧
    (o.desc.dataLen ≠ 0 → (s.predResist o.desc = true ∧ s.entropyOk = false ∨ s.drbgServes 2 ((o.desc.dataLen + 65535) / 65536) = false) →
      holdsFor (.random id m) s o 2)) ∧
  (∀ (s t : State) (id : Nat) (m : HostMem) (o : Op) (st : Nat), s.running id 0x20 = some o → s.randomRun m o = .error (t, st) →
    exec (.random id m) s = .next (if st = St.wait then s.xlWait t else t.engineEnd o { status := st })) ∧
  (∀ (s : State) (id : Nat) (o : Op), s.running id 0x31 = some o → o.waitErase = none →
    (∀ q : QuotaSlot, refShape (evictAsk o) = none → s.slotAt o.folio (o.desc.keyRef % 2 ^ 13) = some q → q.leaving = false →
      Yields (.blobEvict id) s fun t =>
      (∀ x ∈ t.rsv.slots, x.slot = q.slot → x.leaving = true) ∧ (∀ x ∈ t.ops, x.id = o.id → x.waitErase = some q.slot) ∧
      t = { s with rsv := { s.rsv with slots := t.rsv.slots }, ops := t.ops }) ∧
    (∀ st : Nat, refShape (evictAsk o) = some st → exec (.blobEvict id) s = .next (s.setRes id { status := st, engine := o.engine })) ∧
    (refShape (evictAsk o) = none → s.slotAt o.folio (o.desc.keyRef % 2 ^ 13) = none →
      exec (.blobEvict id) s = .next (s.setRes id { status := St.keyAbsent, engine := o.engine }))) ∧
  (∀ (s : State) (id : Nat) (m : HostMem) (o : Op),
    (s.running id 0x33 = none → s.running id 0x34 = some o → runsAs (.keyRewrap id m) s o (s.notReady [0]) (s.keyRewrap m o)) ∧
    (s.running id 0x33 = some o → runsAs (.keyRewrap id m) s o (s.notReady [0]) (s.keyDerive m o))) ∧
  (∀ (s t : State) (m : HostMem) (o : Op) (r : OpRes), s.keyRewrap m o = .ok (t, r) →
    ∃ (k : Key) (u : State) (io : Io) (p : Template) (gk : Nat × Bytes), o.key = .key k ∧ p.type = k.type ∧
      (t, r) = u.produce o io p gk k.material [] [] false)

/-! ## Chapter 12, the Scribe mailbox -/

/-- The commands of Table HST-8: the code and the least payload of each. -/
def mailboxRow : Instr → Option (Nat × Nat)
  | .folioCreate => some (0x0301, 1)
  | .aclGrant _ => some (0x0302, 4)
  | .aclRevoke => some (0x0303, 4)
  | .mbxCerOpen _ _ _ _ _ => some (0x0001, 217)
  | .cerCountersign _ _ => some (0x0002, 0)
  | .cerStatus => some (0x0003, 1)
  | .mbxCerClose => some (0x0004, 1)
  | .shareDeliver _ _ _ _ => some (0x0101, 0)
  | .domainAction _ _ _ _ _ => some (0x0102, 2)
  | .ductusLoad _ _ => some (0x0401, 0)
  | .ductusSwap => some (0x0402, 2)
  | .ductusDiscard => some (0x0403, 0)
  | .signerEnrol _ => some (0x0501, 97)
  | .signerRevoke _ _ => some (0x0502, 1)
  | .floorRaise _ => some (0x0503, 4)
  | .handoverStart _ => some (0x0601, 11)
  | .mbxTimeSet => some (0x0701, 8)
  | _ => none

/-- A command of the mailbox answered with a status and DETAIL, without payload: what its response buffer and its memory of
responses hold. -/
def answered (s t : State) (status detail : Nat) : Prop :=
  t.host.rspReady = true ∧ t.host.replies.head? = some (s.mbxTag, s.mbxCmd, status, detail) ∧
  leAt (t.regBytes (Reg.SCRB_RSP 0) 32) 2 2 = status % 65536

/-- What the Scribe runtime leaves after a command whose own work gives `x`: one that has to wait leaves only the Translation Requests
that it has sent. -/
def served (s x : State) : State := if x.host.mbxWait then s.xlWait x else x.readOver .mailbox

/-- From `s` to `t` nothing changes but the registers of `w`, the response buffer and the mailbox's own records. -/
def MailboxOnly (w : Nat → Bool) (s t : State) : Prop :=
  RegsOnly (fun a => (decide (Reg.SCRB_RSP 0 ≤ a) && decide (a < Reg.SCRB_RSP 0 + 4096)) || w a)
    { s with host := t.host, mem := { s.mem with bad := t.mem.bad } } t

/-- R523 to R528 and Tables HST-6, HST-7: the doorbell. REQ sets REQ and BUSY where no request stands; with the response in the
buffer RSP is set, REQ and BUSY clear, and source 128 is raised; a repeated TAG is answered DUPLICATE, and a code that Table
HST-8 does not list BAD_OPCODE. A response has the layout of Table HST-7. A command that the request is not, or that is served
already, changes nothing; one with too short a payload is answered BAD_LENGTH. R505, R515 to R517 and Table HST-8: FOLIO_CREATE
makes a folio ACTIVE that every check of R505 passes and refuses another with the check's number; ACL_GRANT puts the domain into
a free entry of the folio's access list, and ACL_REVOKE takes it out and leaves the folio no key of it but those that leave when
their operations end; an operation admitted in the same cycle is resolved by the list as it then stands. The order of the checks and the DETAIL of a refusal are the model's choice (log entry 33). -/
def Obligations.MailboxFolios : Prop :=
  ((∀ s : State, s.fld Reg.FOL_SCRB_CTL 31 29 = 0 → s.serve (s.mbxCmd / 256 % 8) ≠ .refuse → Yields .scribeMailboxReq s fun t =>
      t.bit Reg.FOL_SCRB_CTL 31 = true ∧ t.bit Reg.FOL_SCRB_CTL 30 = true ∧ t.host.rspReady = false ∧
      RegsOnly (among [Reg.FOL_SCRB_CTL]) { s with host := t.host } t) ∧
    (∀ s : State, s.fld Reg.FOL_SCRB_CTL 31 29 ≠ 0 → exec .scribeMailboxReq s = .next s) ∧
    (∀ s : State, s.bit Reg.FOL_SCRB_CTL 30 = true → s.host.rspReady = true → Yields .scribeMailboxRsp s fun t =>
      t.fld Reg.FOL_SCRB_CTL 31 29 = 1 ∧ t.host.rspReady = false ∧ t.evtStatus 128 = true ∧
      EventOnly (among [Reg.FOL_SCRB_CTL]) { s with host := { s.host with rspReady := false } } t) ∧
    (∀ (s : State) (status detail : Nat), s.mbxPending = true → s.mbxSeen = some (status, detail) →
      exec .scribeMailboxRsp s = .next (State.scrbDone
        { s.scrbRespond St.duplicate status 0 (leBytes 4 detail) with
          host := { (s.scrbRespond St.duplicate status 0 (leBytes 4 detail)).host with replies := s.host.replies } })) ∧
    (∀ s : State, s.mbxPending = true → s.mbxSeen = none → s.mbxCmd ∉ mbxCodes →
      exec .scribeMailboxRsp s = .next (s.mbxEnd St.badOpcode 0).scrbDone) ∧
    (∀ (s : State) (status detail written : Nat) (payload : Bytes), payload.length ≤ 4064 →
      let t := s.scrbRespond status detail written payload
      t.regBytes (Reg.SCRB_RSP 0) (32 + payload.length) =
        slice (s.scrbBytes 0 8) 0 2 ++ leBytes 2 status ++ slice (s.scrbBytes 0 8) 4 4 ++ leBytes 4 payload.length ++
          leBytes 4 written ++ leBytes 4 detail ++ zeros 12 ++ payload ∧
      t.host.rspReady = true ∧
      t.host.replies = ((leAt (s.scrbBytes 0 8) 4 4, leAt (s.scrbBytes 0 8) 0 2, status, detail) :: s.host.replies).take 16 ∧
      MailboxOnly (among []) s t) ∧
    (∀ (c : Instr) (s : State) (code n : Nat), mailboxRow c = some (code, n) →
      (s.mbxServes code = false → exec c s = .next s) ∧
      (s.mbxServes code = true → s.mbxLen < n → exec c s = .next (s.mbxEnd St.badLength 0)))) ∧
  ((∀ (s : State) (f : Nat), s.mbxServes 0x0301 = true → 1 ≤ s.mbxLen → f = leAt s.mbxPayload 0 1 → f < 64 →
      (s.folioCheck f = none → Yields .folioCreate s fun t =>
        t.folioState f = 1 ∧ answered s t St.ok 0 ∧ MailboxOnly (among [Reg.FOL_CTL f]) s t) ∧
      (∀ d : Nat, s.folioCheck f = some d → Yields .folioCreate s fun t =>
        answered s t St.denied d ∧ MailboxOnly (among []) s t)) ∧
    (∀ (s : State) (f d i : Nat), s.mbxServes 0x0302 = true → 4 ≤ s.mbxLen → f = leAt s.mbxPayload 0 1 → d = leAt s.mbxPayload 2 2 →
      f < 64 → (s.folioState f = 1 ∨ s.folioState f = 3) → s.cust.destroyed.contains d = false → s.aclFind f d = none →
      (List.range 64).find? (fun i => !s.bit (Reg.FOL_ACL f i) 31) = some i → Yields (.aclGrant true) s fun t =>
        t.aclHas f d = true ∧ t.bit (Reg.FOL_ACL f i) 31 = true ∧ t.fld (Reg.FOL_ACL f i) 15 0 = d ∧ answered s t St.ok 0 ∧
        t.rdn (Reg.FOL_ACL_COUNT f) = ((List.range 64).filter fun k => t.bit (Reg.FOL_ACL f k) 31).length ∧
        MailboxOnly (among [Reg.FOL_ACL f i, Reg.FOL_ACL_COUNT f]) { s with ops := t.ops } t ∧
        ∃ u : State, u = (s.wr (Reg.FOL_ACL f i) (BitVec.ofNat 32 (2 ^ 31 + d))).aclCount f ∧ t.ops = (u.aclChanged f).ops) ∧
    (∀ (s : State) (f d : Nat) (holds : Bool), s.mbxServes 0x0302 = true → 4 ≤ s.mbxLen → f = leAt s.mbxPayload 0 1 →
      d = leAt s.mbxPayload 2 2 → (holds = false ∨ 64 ≤ f ∨ s.folioState f ≠ 1 ∧ s.folioState f ≠ 3 ∨ s.cust.destroyed.contains d = true) →
      Yields (.aclGrant holds) s fun t => answered s t St.denied 0 ∧ MailboxOnly (among []) s t) ∧
    (∀ (s : State) (f d : Nat), s.mbxServes 0x0302 = true → 4 ≤ s.mbxLen → f = leAt s.mbxPayload 0 1 → d = leAt s.mbxPayload 2 2 →
      f < 64 → (s.folioState f = 1 ∨ s.folioState f = 3) → s.cust.destroyed.contains d = false →
      ((s.aclFind f d).isSome = true → Yields (.aclGrant true) s fun t =>
        answered s t St.ok 0 ∧ MailboxOnly (among []) s t) ∧
      (s.aclFind f d = none → (∀ i : Nat, i < 64 → s.bit (Reg.FOL_ACL f i) 31 = true) → Yields (.aclGrant true) s fun t =>
        answered s t St.slotFull 0 ∧ MailboxOnly (among []) s t)) ∧
    (∀ (s : State) (f d i : Nat), s.mbxServes 0x0303 = true → 4 ≤ s.mbxLen → f = leAt s.mbxPayload 0 1 → d = leAt s.mbxPayload 2 2 →
      f < 64 → s.aclFind f d = some i →
      exec .aclRevoke s = .next (served s (((((s.wr (Reg.FOL_ACL f i) 0).aclCount f).aclChanged f).eraseFolioDomain f d).mbxEnd St.ok 0))) ∧
    (∀ (s : State) (f d : Nat), s.mbxServes 0x0303 = true → 4 ≤ s.mbxLen → f = leAt s.mbxPayload 0 1 → d = leAt s.mbxPayload 2 2 →
      f < 64 → s.aclFind f d = none → Yields .aclRevoke s fun t => answered s t St.ok 0 ∧ MailboxOnly (among []) s t) ∧
    (∀ (s : State) (f : Nat) (o : Op) (ask : KeyAsk), o ∈ s.ops → o.folio = f → o.id ∈ s.cycNow.admitted → o.res = none → o.job = none →
      o.keyAsk = some ask → o.takesBlob = false → { o with key := (s.resolveKeys o ask).1, key2 := (s.resolveKeys o ask).2 } ∈ (s.aclChanged f).ops) ∧
    (∀ (s : State) (f d : Nat) (q : QuotaSlot), q ∈ (s.eraseFolioDomain f d).rsv.slots → q.folio = f →
      (blobHdr q.hdr).domain = d → q.leaving = true))

/-- R364, R369, R375, R377, R381, R382, R390, R524 and Tables CUS-1, HST-8: the ceremony rows. Each takes its input from the payload or, by DMA
under folio 0, from the bulk input, runs the command of CUST that Table HST-8 names, and answers its code: OK, or DENIED with
the code in DETAIL; CER_OPEN takes REQUIRED and MEMBER_MASK from the parameter record where that gives them, and refuses a revocation
that would leave a domain too few members; QUORUM_CHANGE rewrites the domain record after SUCC_BUILD. The scratch buffers and the
bulk output are the model's choice (log entry 34), as are the refusal's code (log entry 58) and the refusal of a ruled-out buffer
(log entry 60). -/
def Obligations.MailboxCeremonies : Prop :=
  (∀ (s : State) (window required buf : Nat) (members candidates : Word),
    let p := s.mbxPayload.take 216
    let n := leAt s.mbxPayload 216 1
    let ek := if needsEk (leAt p 0 1) then 1568 else 0
    let sign := cerSigners p required members
    s.mbxServes 0x0001 = true → 217 ≤ s.mbxLen → n < 4 → s.mbxRoom (168 + ek) = true →
    (s.cerBarred p = true → exec (.mbxCerOpen window required members candidates buf) s = .next (served s (s.mbxCode 0x0D))) ∧
    (s.cerBarred p = false → exec (.mbxCerOpen window required members candidates buf) s =
      .next (served s (s.mbxPut buf p fun u =>
        u.mbxAfter ((((u.wr Reg.CUST_WINDOW (BitVec.ofNat 32 (window % 2 ^ 17))).wr Reg.CUST_MEMBERS sign.2).wr
            Reg.CUST_CANDIDATES candidates).runCust 0x10 n [buf, buf + 0x1000, buf + 0x2000]
            (BitVec.ofNat 32 (leAt p 0 1 * 2 ^ 24 + sign.1 % 16 * 2 ^ 20 + paramDomain p)))
          [(buf + 0x2000, 168), (buf + 0x1000, ek)])))) ∧
  (∀ (p : Bytes) (required : Nat) (members : Word),
    (leAt p 0 1 ∈ [1, 4, 5] → (cerSigners p required members).1 = paramQuorum p / 16) ∧
    (leAt p 0 1 ∈ [1, 5] → ∀ i : Nat, i < 32 →
      ((cerSigners p required members).2.getLsbD i = true ↔ ∃ b ∈ paramMembers p, b.toNat = i))) ∧
  (∀ (s u : State) (m : HostMem) (buf slot pkgAt : Nat) (b : Bytes), s.host.busMaster = true →
    s.hostRead m (scribeCtx .mailbox) s.mbxInAddr s.mbxInLen = (u, b, none) →
    (s.mbxServes 0x0002 = true → 8844 ≤ s.mbxInLen → exec (.cerCountersign m buf) s =
      .next (served s (u.mbxPut buf (b.take 8844) fun v => v.mbxAfter (v.runCust 0x11 (leAt b 5 1 % 4) [buf] 0) []))) ∧
    (s.mbxServes 0x0101 = true → 1640 ≤ s.mbxInLen → exec (.shareDeliver m slot buf pkgAt) s =
      .next (served s (u.mbxPut buf (b.take 1640) fun v => v.mbxAfter (v.runCust 0x22 (slot % 4) [buf, pkgAt] 0) [])))) ∧
  (∀ (s u : State) (a : Nat) (b : Bytes) (k : State → State), inSram a b.length = true →
    (s.ruleRanges [(a, b.length, .write)] = (u, true) → s.mbxPut a b k = k (u.keyWrite a b)) ∧
    (s.ruleRanges [(a, b.length, .write)] = (u, false) → s.mbxPut a b k = u.mbxEnd St.badAddress 0)) ∧
  (∀ (s : State) (n : Nat), n = leAt s.mbxPayload 0 1 → n < 4 → 1 ≤ s.mbxLen →
    (s.mbxServes 0x0003 = true → exec .cerStatus s = .next (served s (s.scrbRespond St.ok 0 0
      (leBytes 4 (s.rdn (Reg.CUST_CER_STAT n)) ++ leBytes 4 (s.cerCounted n).toNat)))) ∧
    (s.mbxServes 0x0004 = true → exec .mbxCerClose s = .next (served s (s.mbxAfter (s.runCust 0x12 n [] 0) [])))) ∧
  (∀ (s t : State) (code : Nat) (out : List (Nat × Nat)), code ≠ 0 → s.mbxAfter (some (t, code)) out = t.mbxEnd St.denied code) ∧
  (∀ (s t : State) (out : List (Nat × Nat)), sglTotal out = 0 → s.mbxAfter (some (t, 0)) out = t.mbxEnd St.ok 0) ∧
  (∀ (s t u v : State) (b : Bytes) (out : List (Nat × Nat)) (n : Nat), sglTotal out ≠ 0 →
    t.mbxGet (out.filter fun r => r.2 != 0) = (u, some b) → u.host.busMaster = true →
    u.hostWrites (scribeCtx .mailbox) (splitPages u.writeMax u.mbxOutAddr b.length) b = (v, n, none) →
    s.mbxAfter (some (t, 0)) out = v.scrbRespond St.ok 0 n []) ∧
  (∀ (s : State) (m : HostMem) (buf recAt a n : Nat) (sectors : List Nat) (f : Option Nat), s.mbxServes 0x0102 = true → 2 ≤ s.mbxLen →
    a = leAt s.mbxPayload 0 1 → n = leAt s.mbxPayload 1 1 →
    (a ∉ [1, 2, 3, 4, 5, 6, 10, 11, 12] → exec (.domainAction m buf recAt sectors f) s = .next (served s (s.mbxEnd St.denied 0x0A))) ∧
    (a ∈ [1, 2, 3, 4, 5, 6, 10, 11, 12] → 4 ≤ n → exec (.domainAction m buf recAt sectors f) s = .next (served s (s.mbxEnd St.denied 0x02))) ∧
    (a ∈ [3, 10, 11, 12] → n < 4 → exec (.domainAction m buf recAt sectors f) s =
      .next (served s (s.mbxAfter (s.runAction a n buf recAt sectors f) [(buf + 0x10000, 0)]))) ∧
    (∀ (u : State) (b : Bytes), a ∈ [1, 2, 4, 5, 6] → n < 4 → s.mbxRoom (actionBulk (s.cerSlot n).params a).2 = true →
      0 < (actionBulk (s.cerSlot n).params a).1 → (actionBulk (s.cerSlot n).params a).1 ≤ s.mbxInLen → s.host.busMaster = true →
      s.hostRead m (scribeCtx .mailbox) s.mbxInAddr s.mbxInLen = (u, b, none) → exec (.domainAction m buf recAt sectors f) s =
        .next (served s (u.mbxPut buf b fun v =>
          let run := fun (w : State) =>
            w.mbxAfter (w.runAction a n buf recAt sectors f) [(buf + 0x10000, (actionBulk (s.cerSlot n).params a).2)]
          if a = 2 then v.mbxPut (buf + 0x10000) (b.take 0xC0) run else run v)))) ∧
  (∀ (s : State) (n buf recAt : Nat) (sectors : List Nat) (f : Option Nat), s.cerState n ≠ 2 →
    s.runAction 3 n buf recAt sectors f = some (s, 0x14)) ∧
  (∀ (s t : State) (n buf recAt : Nat) (sectors : List Nat) (f : Option Nat),
    s.runCust 0x20 n [recAt, buf + 0x10000, buf + 0xC0] 0 = some (t, 0) →
    s.runAction 2 n buf recAt sectors f = t.rewriteQuorum recAt (paramQuorum (s.cerSlot n).params))

/-- R39, R114, R119, R126, R209, R210, R220, R366, R660 and Table HST-8: the device rows. A stream of DUCTUS_LOAD is verified as a live
load; SWAP and DISCARD act as the DUCT_CMD rows do; SIGNER_ENROL programs the row and SIGNER_REVOKE, with its ceremony, its REVOKED bit; FLOOR_RAISE
answers the RESULT of its floor command; HANDOVER_START opens the client session; TIME_SET loads STIME. The scratch buffers and
the DETAIL codes are the model's choice (log entry 34). -/
def Obligations.MailboxDevice : Prop :=
  (∀ (s u w : State) (m : HostMem) (buf : Nat) (b : Bytes), s.mbxServes 0x0401 = true → s.host.busMaster = true →
    s.hostRead m (scribeCtx .mailbox) s.mbxInAddr s.mbxInLen = (u, b, none) → inSram buf b.length = true →
    u.ruleRanges [(buf, b.length, .write)] = (w, true) →
    let v := ((w.keyWrite buf b).wr64 Reg.DUCT_LIVE_ADDR (BitVec.ofNat 64 buf)).wr Reg.DUCT_LIVE_LEN (BitVec.ofNat 32 b.length)
    (v.duct.loading = none → (v.liveLoad buf b.length).duct.loading.isSome = true → exec (.ductusLoad m buf) s =
      .next (served s (match (v.liveLoad buf b.length).liveVerdict buf b.length with
        | (t, .ok x) => (t.loadOver.liveAccept x).mbxEnd St.ok 0
        | (t, .error c) => (t.loadOver.liveReject c).mbxCode c))) ∧
    ((v.duct.loading.isSome = true ∨ (v.liveLoad buf b.length).duct.loading = none) →
      exec (.ductusLoad m buf) s = .next (served s ((v.liveLoad buf b.length).mbxCode Rej.shadowBusy)))) ∧
  (∀ s : State, s.mbxServes 0x0402 = true → 2 ≤ s.mbxLen → leAt s.mbxPayload 0 2 &&& 0x6C4F = 0 → exec .ductusSwap s =
    .next (served s (((s.setf Reg.DUCT_CMD 15 0 (leAt s.mbxPayload 0 2)).ductSwap (leAt s.mbxPayload 0 2)).mbxEnd St.ok 0))) ∧
  (∀ s : State, s.mbxServes 0x0403 = true → Yields .ductusDiscard s fun t =>
    t.duct = { s.duct with shadow := [] } ∧ t.fld Reg.DUCT_LIVE_STAT 15 0 = 0 ∧ answered s t St.ok 0 ∧
    MailboxOnly (among [Reg.DUCT_LIVE_STAT]) { s with duct := t.duct } t) ∧
  (∀ (s : State) (i : Nat), s.mbxServes 0x0501 = true → 97 ≤ s.mbxLen → i = leAt s.mbxPayload 0 1 → i < 4 → s.life = 3 →
    (s.otp.customers.getD i {}).used = false → Yields (.signerEnrol none) s fun t =>
      t.otp.customers = s.otp.customers.set i
        ({ hss := slice s.mbxPayload 1 48, mldsa := slice s.mbxPayload 49 48, enrolled := true } : SignerRow) ∧
      t.otp = { s.otp with customers := t.otp.customers } ∧ answered s t St.ok 0 ∧
      MailboxOnly (among []) { s with otp := t.otp } t) ∧
  (∀ (s : State) (o : Option Nat), s.mbxServes 0x0501 = true → 97 ≤ s.mbxLen → s.life ≠ 3 → s.life ≠ 4 →
    Yields (.signerEnrol o) s fun t => answered s t St.denied 0x12 ∧ MailboxOnly (among []) s t) ∧
  (∀ (s : State) (o : Option Nat), s.mbxServes 0x0501 = true → 97 ≤ s.mbxLen → s.life = 4 →
    s.cerFor 8 (leAt s.mbxPayload 0 1) (slice s.mbxPayload 1 48) (slice s.mbxPayload 49 48) = none →
    Yields (.signerEnrol o) s fun t => answered s t St.denied 0x14 ∧ MailboxOnly (among []) s t) ∧
  (∀ (s : State) (i n : Nat) (order : Bytes), s.mbxServes 0x0502 = true → 1 ≤ s.mbxLen → leAt s.mbxPayload 0 1 = 0x80 + i → i < 4 →
    s.life = 3 → (s.otp.customers.getD i {}).honoured = true → s.cerFor 9 (0x80 + i) (zeros 48) (zeros 48) = some n →
    Yields (.signerRevoke order false) s fun t =>
      t.otp.customers = s.otp.customers.set i ({ (s.otp.customers.getD i {}) with revoked := true } : SignerRow) ∧
      t.otp = { s.otp with customers := t.otp.customers } ∧ answered s t St.ok 0 ∧
      ∃ u : State, u = s.cerFree n ∧ MailboxOnly (among []) { u with otp := t.otp } t) ∧
  (∀ (s : State) (who : Nat) (order : Bytes) (f : Bool), s.mbxServes 0x0502 = true → 1 ≤ s.mbxLen → who = leAt s.mbxPayload 0 1 →
    (who = 0 ∨ 0x80 ≤ who ∧ who < 0x84) → (s.life = 3 ∨ s.life = 4) → (∀ n : Nat, n < 4 → s.cerState n = 2 → s.cerAction n ≠ 9) →
    Yields (.signerRevoke order f) s fun t => answered s t St.denied 0x14 ∧ MailboxOnly (among []) s t) ∧
  (∀ (s : State) (o : Option Nat), s.mbxServes 0x0503 = true → 4 ≤ s.mbxLen →
    let v := BitVec.ofNat 32 (leAt s.mbxPayload 0 4) ||| 0x80000000#32
    fieldOf v 25 24 ≠ 3 → exec (.floorRaise o) s =
      .next (served s ((s.floorCmd v o).mbxCode ((s.floorCmd v o).fld Reg.BOOT_FLOOR_CMD 29 28)))) ∧
  (∀ (s : State) (ek : Bytes) (n e : Nat), s.mbxServes 0x0601 = true → 11 ≤ s.mbxLen → n = leAt s.mbxPayload 10 1 → n < 4 →
    s.cerState n = 2 → s.cerAction n = 5 → paramDomain (s.cerSlot n).params = leAt s.mbxPayload 0 2 →
    paramSerial (s.cerSlot n).params = leAt s.mbxPayload 2 8 → s.net.client = none → s.peerEntry (leAt s.mbxPayload 2 8) = some e →
    sha384 ek = s.tenantDigest e → s.net.svcDk.isEmpty = false → s.flourishUp = true → s.drbgReady 0 = true →
    exec (.handoverStart ek) s = .next (served s ((s.clientStart e n ek).mbxCode 0))) ∧
  (∀ s : State, s.mbxServes 0x0701 = true → 8 ≤ s.mbxLen →
    exec .mbxTimeSet s = .next (served s ((s.setTime (BitVec.ofNat 64 (leAt s.mbxPayload 0 8))).mbxEnd St.ok 0)))

/-! ## Chapters 15 and 16 -/

/-- The words that hold a 64-bit register. -/
def wide (a : Nat) : List Nat := [a, a + 4]

/-- R628 to R631, R638, R686, R691, R692: frames. One that fails the MAC's checks is counted and goes no further; a pause frame
stops transmission; the others go to Quill, or wait in the port's buffer while Quill does not run. A frame goes out with its
FCS, a Sync of a one-step port with its origin timestamp (R51), an event message otherwise with a timestamp in the FIFO, or waits for
the link. A queue's descriptor is read, sent or dropped, and the head advances. Runtime frames and queues
follow log entry 44. -/
def Obligations.PortFrames : Prop :=
  (∀ (s : State) (p : Nat) (f : Bytes), p < 2 → s.linkUp p = true → s.macVerdict p f ≠ 0 → Yields (.frameReceive p f) s fun t =>
    let a := Reg.PORT_CTR p (s.macVerdict p f)
    (t.rd64 a).toNat = min ((s.rd64 a).toNat + 1) (2 ^ 64 - 1) ∧
    RegsOnly (among (wide a)) { s with colo := t.colo } t) ∧
  (∀ (s : State) (p : Nat) (f : Bytes), p < 2 → s.linkUp p = false → exec (.frameReceive p f) s =
    .next (if s.proof.slice = some (17 + p) then s.portCount p 4 else s)) ∧
  (∀ (s : State) (p : Nat) (f : Bytes), p < 2 → s.linkUp p = true → s.macVerdict p f = 0 → beAt (f.take (f.length - 4)) 12 2 = 0x8808 →
    s.bit (Reg.PORT_CTL p) 7 = true → s.bit (Reg.PORT_CTL p) 6 = false → beAt (f.take (f.length - 4)) 14 2 = 1 →
    beAt (f.take (f.length - 4)) 16 2 ≠ 0 → Yields (.frameReceive p f) s fun t =>
      (t.portSt p).pausedAll = true ∧ (t.portSt p).txq = (s.portSt p).txq ∧
      RegsOnly (among (wide (Reg.PORT_CTR p 0))) { s with net := t.net } t) ∧
  (∀ (s : State) (p : Nat) (f : Bytes), p < 2 → s.linkUp p = true → s.macVerdict p f = 0 → beAt (f.take (f.length - 4)) 12 2 ≠ 0x8808 →
    s.quillRuns = true → exec (.frameReceive p f) s =
      .next ((s.portCount p 0).quillRx p (f.take (f.length - 4)) ((s.portCount p 0).ptpStamp p false))) ∧
  (∀ (s : State) (p : Nat) (f : Bytes), p < 2 → s.linkUp p = true → s.macVerdict p f = 0 → beAt (f.take (f.length - 4)) 12 2 ≠ 0x8808 →
    s.quillRuns = false → s.fld (Reg.PORT_CTL p) 7 6 = 0 → (s.portSt p).rxBytes none + f.length ≤ 1048576 →
    Yields (.frameReceive p f) s fun t => ∃ ts : Nat,
      (t.portSt p).rxHeld = (s.portSt p).rxHeld ++ [(f.take (f.length - 4), ts)] ∧
      EventOnly (among (wide (Reg.PORT_CTR p 0))) { s with net := t.net } t) ∧
  (∀ (s : State) (p prio : Nat) (f : Bytes), f.length + 4 ≤ s.maxFrame p →
    (s.linkUp p = true → (s.portSt p).paused prio = false → (∀ e ∈ (s.portSt p).txq, e.prio ≠ prio) →
      ((s.ptpEn p = false ∨ ptpEvent f = none) → s.portSend p f prio = (s.portCount p 5).emit (.frame p (f ++ fcs f))) ∧
      (∀ o ty : Nat, s.ptpEn p = true → ptpEvent f = some (o, ty) →
        (ty = 0 → s.bit (Reg.PORT_CTL p) 5 = true → s.portSend p f prio =
          (s.portCount p 5).emit (.frame p (stampSync f o (s.ptpStamp p true) ++ fcs (stampSync f o (s.ptpStamp p true))))) ∧
        ((ty ≠ 0 ∨ s.bit (Reg.PORT_CTL p) 5 = false) → s.portSend p f prio =
          ((s.pushTxts p (s.ptpStamp p true) f o ty).portCount p 5).emit (.frame p (f ++ fcs f))))) ∧
    (s.linkUp p = false → ((s.portSend p f prio).portSt p).txq =
        (s.portSt p).txq ++ [{ frame := f, since := s.stime.cycle, prio }] ∧
      s.portSend p f prio = { s with net := (s.portSend p f prio).net })) ∧
  (∀ (s : State) (pt : Party) (q : Nat) (v : Word), q < 9 → (pt = .scribe ∨ pt = .draft ∧ q ≠ 8) →
    Yields (.quilTxTail pt q v) s fun t =>
      t.fld (Reg.QUIL_TX_TAIL q) 13 0 = fieldOf v 13 0 ∧ RegsOnly (among [Reg.QUIL_TX_TAIL q]) s t) ∧
  (∀ (s u v : State) (q h : Nat) (d f : Bytes), q < 9 → s.bit (Reg.QUIL_TX_CFG q) 31 = true → s.quillRuns = true → s.quilFenced = false →
    h = s.fld (Reg.QUIL_TX_HEAD q) 13 0 → h ≠ s.fld (Reg.QUIL_TX_TAIL q) 13 0 →
    let a := (s.rd64 (Reg.QUIL_TX_BASE q)).toNat % 2 ^ 40 + 16 * h
    let past := fun (x : State) => x.setf (Reg.QUIL_TX_HEAD q) 13 0 ((h + 1) % 2 ^ x.fld (Reg.QUIL_TX_CFG q) 3 0)
    (s.quillRead q a 16 = (u, none) → exec (.frameTransmit q) s = .next (past (u.quilCount 10))) ∧
    (s.quillRead q a 16 = (u, some d) → leAt d 5 3 = 0 → leAt d 12 4 = 0 → leAt d 10 1 < 2 → leAt d 11 1 < 2 →
      leAt d 8 2 ≤ u.maxFrame (leAt d 10 1) - 4 → u.quillRead q (leAt d 0 5) (leAt d 8 2) = (v, some f) →
      exec (.frameTransmit q) s = .next (past (v.quillTx q (leAt d 10 1) (f ++ zeros (60 - f.length))
        (leAt d 11 1 == 1 && v.bit (Reg.QUIL_TX_CFG q) 30)))))

/-- R6, R626, R636 to R639, R966, Table NET-2: relocking. A new mode, RECAL, a temperature step of 25 °C and a synthesizer that loses lock relock the
port, whose link goes down and whose lanes become those of its mode; the completed relock sets LOCKED with source 270 + p and ends
RECAL, and alignment of the partner on every lane of the mode sets LINK with source 264 + p; loss of alignment clears LINK with source 256 + p. A reserved mode changes nothing. -/
def Obligations.PortLinks : Prop :=
  (∀ (s : State) (p mode : Nat), p < 2 → mode < 16 → s.proof.slice ≠ some (17 + p) → s.portFenced p = false →
    (s.relock p mode).bit (Reg.PORT_STAT p) 0 = false ∧ (s.relock p mode).bit (Reg.PORT_STAT p) 1 = false ∧
    (s.relock p mode).fld (Reg.PORT_STAT p) 7 4 = mode ∧ ((s.relock p mode).portSt p).relock = (if mode = 0 then 0 else 1) ∧
    (s.portLanes p ≠ modeLanes mode → Output.lanes p (modeLanes mode) ∈ (s.relock p mode).out) ∧
    (s.linkUp p = true → (s.relock p mode).evtStatus (256 + p) = true) ∧
    EventOnly (among (Reg.PORT_STAT p :: Reg.PORT_CTL p :: wide (Reg.PORT_CTR p 8))) { s with net := (s.relock p mode).net, colo := (s.relock p mode).colo }
      (s.relock p mode)) ∧
  (∀ (s : State) (p : Nat) (v : Word), p < 2 → 5 ≤ fieldOf v 3 0 → exec (.portModeWrite p v) s = .next s) ∧
  (∀ (s : State) (p : Nat) (v : Word), p < 2 → fieldOf v 3 0 < 5 → s.fld (Reg.PORT_STAT p) 7 4 = fieldOf v 3 0 → v.getLsbD 16 = false →
    s.linkUp p = false → Yields (.portModeWrite p v) s fun t =>
      t.fld (Reg.PORT_CTL p) 15 0 = fieldOf v 15 0 ∧ t.fld (Reg.PORT_STAT p) 7 4 = fieldOf v 3 0 ∧
      t.fld (Reg.PORT_STAT p) 2 0 = s.fld (Reg.PORT_STAT p) 2 0 ∧ (t.portSt p).relock = (s.portSt p).relock ∧
      RegsOnly (among [Reg.PORT_CTL p, Reg.PORT_STAT p]) { s with net := t.net } t) ∧
  (∀ (s : State) (p : Nat) (v : Word), p < 2 → fieldOf v 3 0 < 5 → (s.fld (Reg.PORT_STAT p) 7 4 ≠ fieldOf v 3 0 ∨ v.getLsbD 16 = true) →
    s.proof.slice ≠ some (17 + p) → s.portFenced p = false → Yields (.portModeWrite p v) s fun t =>
      t.fld (Reg.PORT_CTL p) 15 0 = fieldOf v 15 0 ∧ t.fld (Reg.PORT_STAT p) 7 4 = fieldOf v 3 0 ∧
      t.fld (Reg.PORT_STAT p) 1 0 = 0 ∧ t.bit (Reg.PORT_STAT p) 3 = (v.getLsbD 6 && v.getLsbD 7) ∧
      (v.getLsbD 16 = true → fieldOf v 3 0 ≠ 0 → t.bit (Reg.PORT_CTL p) 16 = true) ∧
      EventOnly (among (Reg.PORT_CTL p :: Reg.PORT_STAT p :: wide (Reg.PORT_CTR p 8))) { s with net := t.net, colo := t.colo } t) ∧
  (∀ (s : State) (p : Nat), p < 2 →
    exec (.recal p) s = .next ((s.setb (Reg.PORT_CTL p) 16 true).relock p (s.fld (Reg.PORT_STAT p) 7 4)) ∧
    (s.fld (Reg.PORT_STAT p) 7 4 ≠ 0 → exec (.synthLossOfLock p) s = .next (s.relock p (s.fld (Reg.PORT_STAT p) 7 4))) ∧
    (s.fld (Reg.PORT_STAT p) 7 4 ≠ 0 → (s.portSt p).relock = 0 → exec (.portTempCheck p) s =
      .next (if 25 ≤ (s.tj - (s.portSt p).calTj).natAbs then s.relock p (s.fld (Reg.PORT_STAT p) 7 4) else s))) ∧
  (∀ (s : State) (p : Nat), p < 2 → (s.portSt p).relock = 1 → exec (.relockComplete p) s = .next ((s.relockDone p).runWaiting p)) ∧
  (∀ (s : State) (p : Nat), p < 2 → (s.relockDone p).bit (Reg.PORT_STAT p) 1 = true ∧ (s.relockDone p).evtStatus (270 + p) = true ∧
    ((s.relockDone p).portSt p).relock = 2 ∧ ((s.relockDone p).portSt p).calTj = s.tj ∧
    (s.relockDone p).bit (Reg.PORT_CTL p) 16 = false ∧
    EventOnly (among [Reg.PORT_STAT p, Reg.PORT_CTL p]) { s with net := (s.relockDone p).net } (s.relockDone p)) ∧
  (∀ (s : State) (p lanes k : Nat), k < s.portLanes p → lanes.testBit k = false → exec (.linkUp ⟨p, lanes⟩) s = .next s) ∧
  (∀ (s : State) (p lanes : Nat), p < 2 → s.linkUp p = false → s.bit (Reg.PORT_STAT p) 1 = true → s.portFenced p = false →
    s.proof.slice ≠ some (17 + p) → (s.portSt p).txq = [] → (∀ k : Nat, k < s.portLanes p → lanes.testBit k = true) →
    Yields (.linkUp ⟨p, lanes⟩) s fun t =>
      t.linkUp p = true ∧ t.bit (Reg.PORT_STAT p) 2 = false ∧ t.evtStatus (264 + p) = true ∧
      EventOnly (among [Reg.PORT_STAT p]) { s with net := t.net } t) ∧
  (∀ (s : State) (p : Nat), p < 2 → s.linkUp p = true → Yields (.pcsAlignmentLoss p) s fun t =>
    t.linkUp p = false ∧ t.bit (Reg.PORT_STAT p) 1 = s.bit (Reg.PORT_STAT p) 1 ∧ t.evtStatus (256 + p) = true ∧
    EventOnly (among (Reg.PORT_STAT p :: wide (Reg.PORT_CTR p 8))) { s with net := t.net, colo := t.colo } t) ∧
  (∀ (s : State) (p : Nat), p < 2 → s.linkUp p = false →
    (∃ e ∈ (s.portSt p).txq, e.since + 8000000 < s.stime.cycle) → Yields (.txHoldTimeout p) s fun t =>
      (t.portSt p).txq = (s.portSt p).txq.filter (fun e => !decide (e.since + 8000000 < s.stime.cycle)) ∧
      ((s.portSt p).holdDropped = false → t.evtStatus (260 + p) = true) ∧
      EventOnly (among (wide (Reg.PORT_CTR p 6))) { s with net := t.net } t) ∧
  (∀ (s : State) (p q seq ty dom : Nat) (r : List (Nat × Nat × Nat × Nat)), p < 2 → (s.portSt p).txts = (q, seq, ty, dom) :: r →
    r.length < 64 → seq < 65536 → ty < 16 → dom < 256 → Yields (.portPtpTxtsInfo p) s fun t =>
      (t.portSt p).txts = r ∧ t.rd64 (Reg.PORT_PTP_TXTS_TIME p) = BitVec.ofNat 64 (q / 4) ∧
      t.out = s.out ++ [.value (t.rdn (Reg.PORT_PTP_TXTS_INFO p))] ∧ t.bit (Reg.PORT_PTP_TXTS_INFO p) 31 = true ∧
      t.fld (Reg.PORT_PTP_TXTS_INFO p) 30 24 = r.length ∧ t.fld (Reg.PORT_PTP_TXTS_INFO p) 23 8 = seq ∧
      t.fld (Reg.PORT_PTP_TXTS_INFO p) 7 4 = ty ∧ t.fld (Reg.PORT_PTP_TXTS_INFO2 p) 7 0 = dom ∧
      RegsOnly (among (Reg.PORT_PTP_TXTS_INFO p :: Reg.PORT_PTP_TXTS_INFO2 p :: wide (Reg.PORT_PTP_TXTS_TIME p)))
        { s with net := t.net, out := t.out } t) ∧
  (∀ (s : State) (p : Nat), p < 2 → (s.portSt p).txts = [] → Yields (.portPtpTxtsInfo p) s fun t =>
    t.rd (Reg.PORT_PTP_TXTS_INFO p) = 0 ∧ t.out = s.out ++ [.value 0] ∧
    RegsOnly (among [Reg.PORT_PTP_TXTS_INFO p]) { s with out := t.out } t) ∧
  (∀ (s : State) (p : Nat) (prio : Option Nat), p < 2 → s.linkUp p = true → Yields (.pauseTimeExpiry p prio) s fun t =>
    (match prio with
      | none => (t.portSt p).pausedAll = false
      | some q => q ∉ (t.portSt p).pausedPrio) ∧
    (∀ e ∈ (t.portSt p).txq, (t.portSt p).paused e.prio = true))

/-- R695 to R699: an entry write to the inactive bank puts the staged words there and clears its VALID; one to the active bank, with
a pending section, or of what only the Scribe world writes, is refused with its code; a read copies the entry or a hit counter.
VALIDATE gives its verdict with source 295, and a swap to a VALID bank that is not being validated makes it active with source 294; a
write of that bank in the same cycle is then refused. R681, R684: among the
matching rules the one with the lowest PRIORITY wins, and the lowest index among equals. A microsecond refills each enabled rate
class at its RATE up to its depth, debits of the same cycle after it; a write that enables a class fills it. An index out of the
table writes nothing and gives RESULT 0 (log entry 64). -/
def Obligations.QuillTables : Prop :=
  ((∀ (s : State) (p : Party) (bank table i : Nat), bank = s.fld Reg.QUIL_TBL_SEL 28 28 → table = s.fld Reg.QUIL_TBL_SEL 27 24 →
      i = s.fld Reg.QUIL_TBL_SEL 11 0 → table < 4 → i < quilSize table →
      let d := (List.range 34).map fun w => s.rd (Reg.QUIL_TBL_DATA w)
      (s.quilActive = bank → Yields (.quilTblWrite p) s fun t =>
        t.fld Reg.QUIL_TBL_CMD 29 28 = 1 ∧ RegsOnly (among [Reg.QUIL_TBL_CMD]) s t) ∧
      (s.quilActive ≠ bank → s.quilPending = true → Yields (.quilTblWrite p) s fun t =>
        t.fld Reg.QUIL_TBL_CMD 29 28 = 2 ∧ RegsOnly (among [Reg.QUIL_TBL_CMD]) s t) ∧
      (s.quilActive ≠ bank → s.quilPending = false → s.quilDenied p bank table i d = true → Yields (.quilTblWrite p) s fun t =>
        t.fld Reg.QUIL_TBL_CMD 29 28 = 3 ∧ RegsOnly (among [Reg.QUIL_TBL_CMD]) s t) ∧
      (s.quilActive ≠ bank → s.quilPending = false → s.quilDenied p bank table i d = false → Yields (.quilTblWrite p) s fun t =>
        (∀ w : Nat, w < quilWords table → t.quilBank bank table i w = s.rd (Reg.QUIL_TBL_DATA w)) ∧
        (∀ b tb k w : Nat, tb < 4 → k < 4096 → w < 64 → (b ≠ bank ∨ tb ≠ table ∨ k ≠ i) → t.quilBank b tb k w = s.quilBank b tb k w) ∧
        t.quilValid bank = false ∧ t.fld Reg.QUIL_TBL_CMD 29 28 = 0 ∧
        RegsOnly (among [Reg.QUIL_TBL_CMD, Reg.QUIL_STAT]) { s with quil := { s.quil with tab := t.quil.tab } } t) ∧
      (Yields .quilTblRead s fun t =>
        (∀ w : Nat, w < quilWords table → t.rd (Reg.QUIL_TBL_DATA w) = s.quilBank bank table i w) ∧
        t.fld Reg.QUIL_TBL_CMD 29 28 = 0 ∧
        RegsOnly (fun a => a == Reg.QUIL_TBL_CMD || (List.range 34).any fun w => a == Reg.QUIL_TBL_DATA w) s t)) ∧
    (∀ (s : State) (p : Party) (table : Nat), table = s.fld Reg.QUIL_TBL_SEL 27 24 →
      (4 < table ∨ table < 4 ∧ quilSize table ≤ s.fld Reg.QUIL_TBL_SEL 11 0 ∨ table = 4 ∧ s.rd (Reg.QUIL_TBL_DATA 0) ≠ 0) →
      Yields (.quilTblWrite p) s fun t => t.fld Reg.QUIL_TBL_CMD 29 28 = 0 ∧ RegsOnly (among [Reg.QUIL_TBL_CMD]) s t) ∧
    (∀ (s : State) (p : Party), s.fld Reg.QUIL_TBL_SEL 27 24 = 4 → s.rd (Reg.QUIL_TBL_DATA 0) = 0 → Yields (.quilTblWrite p) s fun t =>
      Tab.get (fun _ => 0) t.quil.hits (s.fld Reg.QUIL_TBL_SEL 28 28 * 4096 + s.fld Reg.QUIL_TBL_SEL 11 0) = 0 ∧
      RegsOnly (among [Reg.QUIL_TBL_CMD]) { s with quil := { s.quil with hits := t.quil.hits } } t) ∧
    (∀ s : State, s.fld Reg.QUIL_TBL_SEL 27 24 = 4 → Yields .quilTblRead s fun t =>
      t.rd64 (Reg.QUIL_TBL_DATA 0) = BitVec.ofNat 64 (Tab.get (fun _ => 0) s.quil.hits
        (s.fld Reg.QUIL_TBL_SEL 28 28 * 4096 + s.fld Reg.QUIL_TBL_SEL 11 0)) ∧
      RegsOnly (among (Reg.QUIL_TBL_CMD :: wide (Reg.QUIL_TBL_DATA 0))) s t) ∧
    (∀ s : State, s.quil.validating = none → Yields .quilValidate s fun t =>
      t.bit Reg.QUIL_CTL 30 = true ∧
      RegsOnly (among [Reg.QUIL_CTL]) { s with quil := { s.quil with validating := some (1 - s.quilActive) } } t) ∧
    (∀ s : State, s.quil.validating ≠ none → exec .quilValidate s = .next s) ∧
    (∀ (s : State) (b : Nat), s.quil.validating = some b → b < 2 → Yields .quilValidateDone s fun t =>
      t.quil = { s.quil with validating := none } ∧ t.bit Reg.QUIL_CTL 30 = false ∧ t.fld Reg.QUIL_CTL 15 12 = (quilVerdict (s.quilBank b)).1 ∧
      t.fld Reg.QUIL_CTL 11 0 = (quilVerdict (s.quilBank b)).2 ∧
      t.quilValid b = ((quilVerdict (s.quilBank b)).1 == 0) ∧ t.evtStatus 295 = true ∧
      EventOnly (among [Reg.QUIL_CTL, Reg.QUIL_STAT]) { s with quil := t.quil } t) ∧
    (∀ (s : State) (b : Nat), b < 2 → s.quilActive = b → Yields (.quilCtlSwap b) s fun t =>
      t.fld Reg.QUIL_CTL 15 12 = 0 ∧ t.fld Reg.QUIL_CTL 16 16 = b ∧ RegsOnly (among [Reg.QUIL_CTL]) s t) ∧
    (∀ (s : State) (b : Nat) (tab : Tab Word), b < 2 → s.quilActive ≠ b → s.cycNow.quilWrote = some (b, tab, true) →
      s.quil.validating ≠ some b → Yields (.quilCtlSwap b) s fun t =>
        t.quilActive = b ∧ t.quil = { s.quil with tab := tab } ∧ t.quilValid b = true ∧ t.fld Reg.QUIL_TBL_CMD 29 28 = 1 ∧
        t.fld Reg.QUIL_CTL 15 12 = 0 ∧ t.evtStatus 294 = true) ∧
    (∀ (s : State) (b : Nat), b < 2 → s.quilActive ≠ b → s.cycNow.quilWrote = none →
      (s.quilValid b = true → s.quil.validating ≠ some b → Yields (.quilCtlSwap b) s fun t =>
        t.quilActive = b ∧ t.fld Reg.QUIL_CTL 15 12 = 0 ∧ t.evtStatus 294 = true ∧ t.quilPending = false ∧
        EventOnly (among [Reg.QUIL_CTL, Reg.QUIL_STAT, Reg.DUCT_LIVE_STAT]) { s with duct := t.duct } t) ∧
      ((s.quilValid b = false ∨ s.quil.validating = some b) → Yields (.quilCtlSwap b) s fun t =>
        t.quilActive = s.quilActive ∧ t.fld Reg.QUIL_CTL 15 12 = 1 ∧ RegsOnly (among [Reg.QUIL_CTL]) s t))) ∧
  ((∀ (t : QuilTab) (hits : List Nat) (r : Nat), hits.Pairwise (· < ·) → winnerOf t hits = some r →
      r ∈ hits ∧ (t 1 r 0).getLsbD 23 = false ∧ ∀ q ∈ hits, (t 1 q 0).getLsbD 23 = false →
        fieldOf (t 1 r 0) 27 24 < fieldOf (t 1 q 0) 27 24 ∨ (fieldOf (t 1 r 0) 27 24 = fieldOf (t 1 q 0) 27 24 ∧ r ≤ q)) ∧
    (∀ s : State, s.quil.level.length = 16 → Yields .quilRateRefill s fun t =>
      (∀ c : Nat, c < 16 → t.quil.level.getD c 0 =
        if s.bit (Reg.QUIL_RATE c) 31 then (match s.cycNow.quilDebits.find? (·.1 == c) with
          | some d => d.2.2.foldl debited (min (d.2.1 + (s.fld (Reg.QUIL_RATE c) 30 16 : Nat)) (s.rateDepth c))
          | none => min (s.quil.level.getD c 0 + (s.fld (Reg.QUIL_RATE c) 30 16 : Nat)) (s.rateDepth c))
        else s.quil.level.getD c 0) ∧
      t = { s with quil := { s.quil with level := t.quil.level } }) ∧
    (∀ (s : State) (c : Nat) (v : Word), c < 16 → s.quil.level.length = 16 → Yields (.quilRateWrite c v) s fun t =>
      t.rd (Reg.QUIL_RATE c) = v ∧
      (v.getLsbD 31 = true → s.bit (Reg.QUIL_RATE c) 31 = false → t.quil.level.getD c 0 = 4096 * (fieldOf v 15 0 : Nat)) ∧
      (∀ k : Nat, k ≠ c → t.quil.level.getD k 0 = s.quil.level.getD k 0) ∧
      RegsOnly (among [Reg.QUIL_RATE c]) { s with quil := { s.quil with level := t.quil.level } } t))

/-! ## Chapter 15, BSP -/

/-- R643 to R649, R652 to R654, R657: sessions. A complete HS_INIT is answered, or refused with source 268; a right HS_FIN
establishes its session with source 266 and a wrong one ends it, as 100 ms without one do. A sequence accepted once is a
duplicate from then on, and a datagram that fails a check of Table NET-6 is counted and dropped. A complete request enters its
folio's queue; one incomplete after 100 ms is dropped with source 269. Staging of requests follows log entry 21. -/
def Obligations.BspSessions : Prop :=
  (∀ (s u : State) (d : BspDatagram) (body : Bytes), s.takeBsp [0x01] = some (u, d) →
    let h0 := (u.net.handshakes.find? (·.is d.src d.tenant)).getD { src := d.src, tenant := d.tenant, frags := [], reqId := d.reqId }
    let h := { h0 with frags := addFrag h0.frags d.index d.body, last := if d.last then some d.index else h0.last }
    let v := { u with net := { u.net with handshakes := u.net.handshakes.filter fun x => !x.is d.src d.tenant } }
    joinFrags h.frags h.last = some body →
    (hsForm h.frags h.last = false → exec .hsInit s = .next (v.hsReject h St.badLength)) ∧
    (hsForm h.frags h.last = true →
      (∀ st : Nat, v.hsCheck h body = .error st → exec .hsInit s = .next (v.hsReject h st)) ∧
      (∀ n : Nat, v.hsCheck h body = .ok n → v.serve 2 = .refuse → exec .hsInit s = .next (v.hsReject h St.serviceAbsent)) ∧
      (∀ n : Nat, v.hsCheck h body = .ok n → v.serve 2 = .wait → exec .hsInit s =
        .next { v with net := { v.net with handshakes := v.net.handshakes ++ [{ h with waiting := true }] } }) ∧
      (∀ n : Nat, v.hsCheck h body = .ok n → v.serve 2 = .now → v.net.svcDk.isEmpty = false → v.flourishUp = true →
        v.drbgReady 0 = true → exec .hsInit s = .next (v.hsAnswer h body n)))) ∧
  (∀ (s : State) (h : Handshake) (st : Nat), (s.hsReject h st).evtStatus 268 = true ∧
    (s.hsReject h st).net.sessions = s.net.sessions) ∧
  (∀ (s : State) (h : Handshake) (body : Bytes) (n : Nat), ∃ x ∈ (s.hsAnswer h body n).net.sessions, x.id = s.net.nextSession ∧
    x.tenant = h.tenant ∧ x.entry = n ∧ x.folio = fieldOf (s.tenantWord n) 29 24 ∧ x.established = false ∧ x.h = 0 ∧ x.seen = []) ∧
  (∀ (s u : State) (d : BspDatagram) (x : Session), s.takeBsp [0x03] = some (u, d) → u.session d.session = some x →
    x.established = false → x.tenant = d.tenant →
    (d.body = hmac384 x.kConf (ascii "BSP-C" ++ x.th) → Yields .hsFin s fun t =>
      (∃ y ∈ t.net.sessions, y.id = x.id ∧ y.established = true ∧ y.kConf = []) ∧ t.evtStatus 266 = true) ∧
    (d.body ≠ hmac384 x.kConf (ascii "BSP-C" ++ x.th) → Yields .hsFin s fun t =>
      (∀ y ∈ t.net.sessions, y.id ≠ x.id) ∧ t.evtStatus 268 = true ∧
      EventOnly (among []) { s with net := t.net } t)) ∧
  (∀ (s : State) (session tenant : Nat) (x : Session), session ≠ 0 → s.session session = some x → x.established = false →
    Yields (.handshakeTimeout session tenant) s fun t => (∀ y ∈ t.net.sessions, y.id ≠ x.id) ∧ t.evtStatus 268 = true ∧
      EventOnly (among []) { s with net := { s.net with sessions := t.net.sessions } } t) ∧
  (∀ (s u v : State) (d : BspDatagram), s.takeBsp [0x04, 0x05, 0x10, 0x11] = some (u, d) →
    (u.openBsp d = .dropped v → exec .request s = .next v) ∧
    (∀ x : Session, u.openBsp d = .duplicate v x → exec .request s = .next (v.bspDuplicate x d)) ∧
    (∀ (x : Session) (pt : Bytes), u.openBsp d = .fresh v x pt → d.type = 0x10 →
      exec .request s = .next ((v.requestFrag x d pt).closeIfIdle x.id))) ∧
  (∀ (x : Session) (seq : Nat), x.place seq = .fresh → (x.accept seq).place seq = .duplicate) ∧
  (∀ (s : State) (x : Session) (r : Reassembly) (b : Bytes) (port : Nat), x.peer = false → s.folioState x.folio = 1 →
    r.opcode ∈ bspOpcodes → (s.ops.filter fun o => o.folio == x.folio && o.bspPort.isSome && o.at_ == .cand).length < 64 →
    ∃ o : Op, (s.queueRequest x r b port).ops = s.ops ++ [o] ∧ o.id = s.nextOp ∧ o.src = .bsp x.id r.lastSeq port ∧
      o.folio = x.folio ∧ o.desc.opcode = r.opcode ∧ o.desc.reqId = r.reqId ∧ o.desc.keyRef = beAt b 0 4 ∧ o.res = none ∧
      o.stream = slice b 24 (beAt b 16 4) ∧ o.data = slice b (24 + beAt b 16 4) (beAt b 20 4) ∧
      (s.queueRequest x r b port).regs = s.regs) ∧
  (∀ (s : State) (session reqId : Nat) (x : Session) (r : Reassembly), s.session session = some x →
    x.reasm.find? (·.reqId == reqId) = some r → Yields (.reassemblyTimeout session reqId) s fun t =>
      (∀ y, t.session session = some y → ∀ q ∈ y.reasm, q.reqId ≠ reqId) ∧ t.evtStatus 269 = true ∧
      t.net.stageUsed = s.net.stageUsed - r.units ∧
      EventOnly (among (wide (Reg.PORT_CTR x.src.port 13))) { s with net := t.net } t)

/-- R261, R385 to R387, R644, R660, R661, R665, R670: handover and the tenant table. The predecessor answers an offer that fits a
satisfied EXPORT ceremony with the package, refuses another, and holds one, or refuses it, while the Scribe world is away; the successor establishes its session, puts the package in its
SRAM, and gives up on a refusal. An entry word takes the bits that its writer may write; one that would repeat a tenant, or the
Manager's for a PEER entry, or one that gives a reserved number of tags, is ignored. The scratch buffers follow log entries 34 and 60,
and the algorithms log entry 5. -/
def Obligations.BspHandover : Prop :=
  (∀ (s u v w : State) (recAt ekAt outAt : Nat) (d : BspDatagram) (x : Session) (pt b : Bytes), s.net.offers = [] →
    s.takeBsp [0x20] = some (u, d) → u.openBsp d = .fresh v x pt → x.peer = true → v.peerFrag x d pt = (w, some b) →
    exec (.handoverOffer recAt ekAt outAt) s =
      .next (w.offerServe { session := x.id, reqId := d.reqId, body := b, recAt, ekAt, outAt })) ∧
  (∀ (s : State) (o : Offer) (x : Session), s.session o.session = some x →
    (s.serve 6 = .refuse → s.offerServe o = s.offerRefuse o St.serviceAbsent) ∧
    (s.serve 6 = .wait → s.offerServe o = { s with net := { s.net with offers := s.net.offers ++ [o] } }) ∧
    (s.serve 6 = .now →
      ((o.body.length ≠ 1570 ∨ inSram o.ekAt 1568 = false ∨ s.exportSlot (beAt o.body 0 2) (slice o.body 2 1568) = none) →
        s.offerServe o = s.offerRefuse o St.denied) ∧
      (∀ (n : Nat) (u y : State) (code : Nat), o.body.length = 1570 → inSram o.ekAt 1568 = true →
        s.exportSlot (beAt o.body 0 2) (slice o.body 2 1568) = some n → s.ruleRanges [(o.ekAt, 1568, .write)] = (u, true) →
        (u.keyWrite o.ekAt (slice o.body 2 1568)).runCust 0x24 n [o.recAt, o.ekAt, o.outAt] 0 = some (y, code) →
        (code ≠ 0 → s.offerServe o = y.offerRefuse o St.denied) ∧
        (∀ (z : State) (b : Bytes), code = 0 → y.scribeRead o.outAt 1712 = (z, some b) → s.offerServe o =
          State.sendFragments o.session 0x21 0 0 o.reqId x.frag (1712 / max x.frag 1 + 1) 0 z b)) ∧
      (∀ (n : Nat) (u : State), o.body.length = 1570 → inSram o.ekAt 1568 = true →
        s.exportSlot (beAt o.body 0 2) (slice o.body 2 1568) = some n → s.ruleRanges [(o.ekAt, 1568, .write)] = (u, true) →
        (u.keyWrite o.ekAt (slice o.body 2 1568)).runCust 0x24 n [o.recAt, o.ekAt, o.outAt] 0 = none →
        s.offerServe o = s.offerHold o))) ∧
  (∀ (s u : State) (d : BspDatagram) (c : ClientSt) (b : Bytes), s.takeBsp [0x02] = some (u, d) → u.net.client = some c →
    c.finSent = false → c.tenant = d.tenant →
    joinFrags (addFrag c.frags d.index d.body) (if d.last then some d.index else c.last) = some b →
    let th := sha384 (c.body ++ b.take 3172)
    let okm := bspKeys (c.ssS ++ kemDecaps c.eph (slice b 36 1568) ++ kemDecaps u.net.svcDk (slice b 1604 1568)) th d.session d.tenant
    let good := decide (b.length = 3220 ∧ hsForm (addFrag c.frags d.index d.body) (if d.last then some d.index else c.last) = true ∧
      slice b 3172 48 = hmac384 (slice okm 64 32) (ascii "BSP-D" ++ th))
    (good = true → Yields .hsResp s fun t => ∃ k : ClientSt, t.net.client = some k ∧ k.finSent = true ∧ k.sessionId = d.session ∧
      k.kCD = slice okm 0 32 ∧ k.kDC = slice okm 32 32 ∧ k.eph = [] ∧ k.ssS = []) ∧
    (good = false → Yields .hsResp s fun t => t.net.client = none ∧ t.evtStatus 268 = true ∧
      EventOnly (among []) { s with net := t.net } t)) ∧
  (∀ (s u v : State) (d : BspDatagram) (c : ClientSt) (pt : Bytes), s.net.client.isSome = true → s.takeBsp [0x04] = some (u, d) →
    u.clientOpen d = (v, some pt) → v.net.client = some c → Yields .hsDone s fun t =>
      (∃ k : ClientSt, t.net.client = some k ∧ k.established = true ∧ k.slot = c.slot) ∧ t.evtStatus 266 = true) ∧
  (∀ (s u : State) (d : BspDatagram) (c : ClientSt), s.takeBsp [0x06] = some (u, d) → u.net.client = some c →
    c.established = false → c.tenant = d.tenant → Yields .hsReject s fun t =>
      t.net.client = none ∧ t.evtStatus 268 = true ∧ EventOnly (among []) { s with net := t.net } t) ∧
  (∀ (s u v : State) (outAt : Nat) (d : BspDatagram) (c : ClientSt) (pt b : Bytes), s.takeBsp [0x21] = some (u, d) →
    u.clientOpen d = (v, some pt) → v.net.client = some c →
    joinFrags (addFrag c.msg d.index pt) (if d.last then some d.index else c.msgLast) = some b → inSram outAt b.length = true →
    (v.ruleRanges [(outAt, b.length, .write)]).2 = true → v.badPartial outAt b.length = none → Yields (.handoverPackage outAt) s fun t => t.memBytes outAt b.length = b ∧
      (∀ a : Nat, a < outAt ∨ outAt + b.length ≤ a → t.memByte a = s.memByte a) ∧ t.otp = s.otp ∧ t.ops = s.ops) ∧
  (∀ (s u v : State) (d : BspDatagram) (pt : Bytes), s.takeBsp [0x22] = some (u, d) → u.clientOpen d = (v, some pt) →
    Yields .handoverRefuse s fun t => t.net.client = none ∧ t = { v with net := { v.net with client := none } }) ∧
  (∀ (s : State) (p : Party) (n w : Nat) (v : Word), n < 256 → w < 32 →
    let a := Reg.TENANT_W0 n + 4 * w
    let new := (s.rd a &&& ~~~tenantMask p w) ||| (v &&& tenantMask p w)
    let clash := decide (w = 0) && new.getLsbD 31 && (List.range 256).any fun k => k != n && (s.tenantWord k).getLsbD 31 &&
      fieldOf (s.tenantWord k) 23 0 == fieldOf new 23 0
    ((p = .manager ∧ (s.tenantWord n).getLsbD 30 = true ∨ clash = true ∨ w = 23 ∧ fieldOf v 1 0 = 3) →
      exec (.tenantEntryWrite p n w v) s = .next s) ∧
    (¬(w = 23 ∧ fieldOf v 1 0 = 3) → ¬(p = .manager ∧ (s.tenantWord n).getLsbD 30 = true) → clash = false → s.net.sessions = [] →
      Yields (.tenantEntryWrite p n w v) s fun t => t.rd a = new ∧ RegsOnly (among [a]) s t))

/-! ## Chapters 17 to 20 -/

/-- R713 to R717, R725 to R731, R349: what a sample decides and what a decided cause does. Two consecutive samples with both balls
of a pair on decide the pair, and two bad words a loop. A tamper cause is BLOT: its latches are set, the BRK is erased, and the
first cause is latched with its time and drives BLOT_OUT_N low. An alarm cause erases every key but the BRK and holds key loads, and is
a tamper cause once it has stayed active for its time (R726). The mesh generators have seeds of their own, and go on with every
sample (R717, R719). Samples are operands (log entry 13), the near-miss rules follow log entry 36, the generators log entry 65. -/
def Obligations.BlotterCauses : Prop :=
  (∀ (x : BlotSample) (s : State), s.blot.alive = true →
    let u := State.meshAdvance { s with blot := { s.blot with outLeft := s.blot.outLeft.map (· - 1) } }
    let t := u.alarmTime.sampleTamper x
    let j := (t.1.sampleVcore x).sampleTj x
    let p := j.1.samplePll x
    let r := p.1.sampleRef x
    exec (.blotterSample x) s = .next (r.1.sampleEcc.1.blotDecide t.2 (j.2 ++ p.2 ++ r.2 ++ r.1.sampleEcc.2))) ∧
  (∀ (p : PairSt) (d : Nat), p.a = true → p.b = true → (p.next true true d).debA = true ∧ (p.next true true d).debB = true ∧
    (p.next true true d).decided = true) ∧
  (∀ (s : State) (n : Nat), s.pairOn n = true → (s.blot.pairs.getD n {}).a = true → (s.blot.pairs.getD n {}).b = true →
    (s.samplePair n true true).2 = true) ∧
  (∀ s : State, s.meshSeed.blot.meshGen.length = 4 ∧ s.meshSeed.blot.meshGen.Pairwise (· ≠ ·)) ∧
  (∀ (s : State) (n : Nat) (g : DWord), s.blot.meshGen[n]? = some g →
    s.meshWord n = Config.meshBits g ∧ s.meshAdvance.meshWord n = Config.meshBits (Config.meshNext g)) ∧
  (∀ (s : State) (n : Nat), n < s.blot.alarmRun.length → s.alarmTime.blot.alarmRun.getD n 0 =
    if s.alarmActive n then s.blot.alarmRun.getD n 0 + (if s.bit Reg.BLOT_STAT 25 then 128 else 125) else s.blot.alarmRun.getD n 0) ∧
  (∀ (s : State) (n : Nat), s.meshOn n = true → 1 ≤ s.blot.meshBad.getD n 0 → (s.sampleMesh n true).2 = true) ∧
  (∀ (s : State) (n : Nat), n < 32 → s.tamperActive n = false →
    let t := s.blotDecide [n] []
    t.bit Reg.BLOT_CAUSE n = true ∧ t.tamperActive n = true ∧ t.bit Reg.BLOT_STAT 31 = true ∧ t.rsv.brk = none ∧
    t.blot.erasing.any (fun l => l.contains n) = true ∧ t.otp = s.otp ∧
    (s.pwr.mainUp = true → t.rsv.slots = [] ∧ t.rsv.doms = []) ∧
    (s.rd Reg.BLOT_CAUSE = 0 → t.blot.outLeft = some 16 ∧ Output.pin .blotOutN false ∈ t.out) ∧
    (s.rd Reg.BLOT_CAUSE = 0 → s.bit Reg.BLOT_STAT 30 = false → t.fld Reg.BLOT_STAT 5 0 = n ∧
      t.rd64 Reg.BLOT_TIME = s.stime.ns ∧ t.bit Reg.BLOT_STAT 27 = s.timeValid)) ∧
  (∀ (s : State) (n : Nat), n < 16 → s.alarmActive n = false →
    let t := s.blotDecide [] [n]
    t.bit Reg.BLOT_ALARM n = true ∧ t.alarmActive n = true ∧ t.bit Reg.BLOT_STAT 29 = true ∧ t.bit Reg.RSV_STAT 30 = true ∧
    t.rsv.slots = [] ∧ t.rsv.doms = [] ∧ t.rsv.brk = s.rsv.brk ∧ t.otp = s.otp ∧
    (s.pwr.mainUp = true → t.evtStatus 449 = true)) ∧
  (∀ (s : State) (high : Bool), s.blot.alive = true → s.watchCore = true → exec (.vcoreExcursion high) s =
    .next (State.blotDecide { s with blot := { s.blot with vOk := s.blot.vOk.set high.toNat 0 } } [] [high.toNat])) ∧
  (∀ s : State, s.blot.alive = true → s.watchPll = true →
    exec .pllLockLoss s = .next (State.blotDecide { s with blot := { s.blot with pllOk := 0 } } [] [4])) ∧
  (∀ (s : State) (n : Nat), s.blot.alive = true → n < 16 → s.alarmActive n = true → s.bit Reg.BLOT_ESC n = true →
    (128000 * s.fld Reg.BLOT_ESC 31 16 ≤ s.blot.alarmRun.getD n 0 → exec (.alarmEscalation n) s = .next (s.blotDecide [16 + n] [])) ∧
    (s.blot.alarmRun.getD n 0 < 128000 * s.fld Reg.BLOT_ESC 31 16 → exec (.alarmEscalation n) s = .next s))

/-- R707 to R710, R727, R730, R732: the end of the erase raises source 448 and BLOT_OUT_N rises when its sixteen samples are over; the
crystal's stop and return set and clear RC_CLOCK; the battery is measured with its thresholds; BLOT_ACK clears the latches once
no cause is active, and only sets REFUSED before; the Blotter domain's loss of power leaves nothing of its state. -/
def Obligations.BlotterRows : Prop :=
  (∀ (s : State) (l : List Nat), s.blot.erasing = some l → s.pwr.mainUp = true → Yields .blotEraseDone s fun t =>
    t.blot = { s.blot with erasing := none } ∧ t.evtStatus 448 = true ∧ t.rd64 Reg.RSV_ERASE_TIME = s.stime.ns ∧
    EventOnly (among (wide Reg.RSV_ERASE_TIME)) { s with blot := t.blot, colo := t.colo } t) ∧
  (∀ s : State, s.blot.outLeft = some 0 → Yields .blotOutRelease s fun t =>
    t.blot.outLeft = none ∧ t.out = s.out ++ [.pin .blotOutN true] ∧
    t = { s with blot := { s.blot with outLeft := none }, out := t.out }) ∧
  (∀ s : State, s.blot.alive = true → Yields .crystalStable s fun t =>
    t.bit Reg.BLOT_STAT 25 = false ∧ t.tamperActive 14 = false ∧ RegsOnly (among [Reg.BLOT_STAT, Reg.BLOT_ACTIVE]) s t) ∧
  (∀ s : State, s.blot.alive = true → s.bit Reg.BLOT_STAT 25 = false →
    (s.bit Reg.BLOT_CFG 31 = false → Yields .crystalStop s fun t =>
      t.bit Reg.BLOT_STAT 25 = true ∧ (s.pwr.mainUp = true → t.evtStatus 455 = true) ∧ EventOnly (among [Reg.BLOT_STAT]) s t) ∧
    (s.bit Reg.BLOT_CFG 31 = true →
      exec .crystalStop s = .next (((s.setb Reg.BLOT_STAT 25 true).raiseUp 455).blotDecide [14] []))) ∧
  (∀ (s : State) (mv : Nat), s.blot.alive = true → Yields (.vbatMeasure mv) s fun t =>
    t.fld Reg.BLOT_SENSE 11 0 = min mv 4095 ∧ t.bit Reg.BLOT_STAT 24 = decide (mv < 1000) ∧ t.bit Reg.BLOT_STAT 23 = decide (mv < 500) ∧
    (mv < 1000 → s.bit Reg.BLOT_STAT 24 = false → s.pwr.mainUp = true → t.evtStatus 453 = true) ∧
    EventOnly (among [Reg.BLOT_SENSE, Reg.BLOT_STAT]) { s with colo := t.colo } t) ∧
  (∀ s : State, s.rd Reg.BLOT_ACTIVE ≠ 0 → Yields (.blotAck .scribe 0xB107ACC0) s fun t =>
    t.bit Reg.BLOT_STAT 28 = true ∧ RegsOnly (among [Reg.BLOT_STAT]) s t) ∧
  (∀ s : State, s.rd Reg.BLOT_ACTIVE = 0 → Yields (.blotAck .scribe 0xB107ACC0) s fun t =>
    t.rd Reg.BLOT_CAUSE = 0 ∧ t.bit Reg.BLOT_STAT 31 = false ∧ t.bit Reg.BLOT_STAT 30 = false ∧ t.bit Reg.BLOT_STAT 27 = s.bit Reg.BLOT_STAT 27 ∧
    t.fld Reg.BLOT_STAT 5 0 = 63 ∧ t.rd64 Reg.BLOT_TIME = 0 ∧ t.rd64 Reg.BLOT_OPSEC = 0 ∧ t.rd Reg.BLOT_PCC = 0 ∧
    RegsOnly (among (Reg.BLOT_CAUSE :: Reg.BLOT_STAT :: Reg.BLOT_PCC :: wide Reg.BLOT_TIME ++ wide Reg.BLOT_OPSEC)) s t) ∧
  (∀ (s : State) (p : Party) (v : Word), p ≠ .scribe ∨ v ≠ 0xB107ACC0 → exec (.blotAck p v) s = .next s) ∧
  (∀ s : State, s.blot.aon = false → s.blot.alive = true → Yields .blotterPowerLoss s fun t =>
    t.rsv.brk = none ∧ t.blot = { aon := false, alive := false } ∧ t.colo.opsec = 0 ∧ t.colo.lost = true ∧
    t.rd Reg.BLOT_CAUSE = 0 ∧ t.rd Reg.BOOT_BFLOOR0 = 0 ∧ t.rd Reg.BOOT_BFLOOR1 = 0 ∧ t.rd Reg.BOOT_POLICY = 0 ∧
    t.otp = s.otp ∧ t.mem = s.mem ∧ t.colo.mram = s.colo.mram)

/-- R743, R749 to R753, R756, R758, R764: an operating second adds 1 to OPSEC and to the bins of the record, after a close that is due;
the end of an epoch snapshots its record, unless all 508 are written, and starts the next one; a record that reads back right stands
in its page, and one that fails three attempts sets WR_FAIL, with source 511 either way; an ECC error that its readback finds is
counted in the epoch that follows; COLO_SNAP copies the record in progress to the live window. The free bytes of a record follow
log entry 37; a close that no EPOCH_CLOSE made is made before the next second is counted (log entry 66). -/
def Obligations.ColophonRows : Prop :=
  (∀ (s : State) (mv : Nat), s.colo.running = true → s.closeDue = false → Yields (.opsecTick mv) s fun t =>
    t.colo.opsec = (s.colo.opsec + 1) % 2 ^ 40 ∧
    (s.epochSet = true →
      let k := 0x30 + 4 * tjBin (BitVec.ofNat 8 (s.fld Reg.BLOT_SENSE 31 24)).toInt
      let v := 0x70 + 4 * vcoreBin mv
      t.accGet k = min (s.accGet k + 1) (2 ^ 32 - 1) ∧ t.accGet v = min (s.accGet v + 1) (2 ^ 32 - 1)) ∧
    (((s.colo.opsec + 1) % 2 ^ 40) % 3600 ≠ 0 → t.colo.mram = s.colo.mram) ∧ t = { s with colo := t.colo }) ∧
  (∀ (s : State) (mv : Nat), s.colo.running = true → s.closeDue = true → Yields (.opsecTick mv) s fun t =>
    t.colo.opsec = (s.colo.opsec + 1) % 2 ^ 40 ∧ t.colo.epoch = s.colo.epoch + 1 ∧ t.colo.opsecStart = s.colo.opsec ∧
    t.accGet (0x30 + 4 * tjBin (BitVec.ofNat 8 (s.fld Reg.BLOT_SENSE 31 24)).toInt) = 1 ∧ t.accGet (0x70 + 4 * vcoreBin mv) = 1 ∧
    t = { s with colo := t.colo, freeCtr := t.freeCtr }) ∧
  (∀ (s : State) (mv : Nat), s.colo.running = false → exec (.opsecTick mv) s = .next s) ∧
  (∀ s : State, s.epochSet = true → s.epochEnd ≤ s.colo.opsec → s.coloFull = false → s.colo.epoch < 508 → Yields .epochClose s fun t =>
    ∃ rec : Bytes, t.colo.snaps = s.colo.snaps ++ [(s.colo.epoch, rec)] ∧ leAt rec 8 4 = s.colo.epoch ∧
      t.colo.epoch = s.colo.epoch + 1 ∧ t.colo.acc = [] ∧ t.colo.opsecStart = s.colo.opsec ∧ t.colo.mram = s.colo.mram ∧
      t = { s with colo := t.colo, freeCtr := t.freeCtr }) ∧
  (∀ s : State, s.closeDue = true → s.coloFull = true ∨ 508 ≤ s.colo.epoch → Yields .epochClose s fun t =>
    t.colo.snaps = s.colo.snaps ∧ t.colo.epoch = s.colo.epoch + 1 ∧ t = { s with colo := t.colo, freeCtr := t.freeCtr }) ∧
  (∀ s : State, s.closeDue = false → exec .epochClose s = .next s) ∧
  (∀ (s : State) (e : Nat) (rec : Bytes) (r : List (Nat × Bytes)) (reads : List Bool) (finds : List (Nat × EccFind)),
    s.colo.snaps = (e, rec) :: r → Yields (.epochRecordWritten ⟨reads, finds⟩) s fun t =>
      t.colo.snaps = r ∧ t.colo.epoch = s.colo.epoch ∧ t.evtStatus 511 = true ∧
      (true ∈ reads.take 3 → t.mram (1024 * (4 + e)) rec.length = rec ∧ t.freeCtr = s.freeCtr ∧
        t.bit Reg.COLO_STAT 28 = s.bit Reg.COLO_STAT 28) ∧
      (true ∉ reads.take 3 → t.bit Reg.COLO_STAT 28 = true) ∧
      (∀ (o syn : Nat), finds = [(o, .uncorrectable syn)] →
        t.fld (Reg.MEM_ECC 4) 15 0 = min (s.fld (Reg.MEM_ECC 4) 15 0 + 1) 65535 ∧
        (s.epochSet = true → t.accGet 0x184 = min (s.accGet 0x184 + 1) (2 ^ 32 - 1))) ∧
      (∀ (o syn : Nat), finds = [(o, .corrected syn)] →
        t.fld (Reg.MEM_ECC 4) 31 16 = min (s.fld (Reg.MEM_ECC 4) 31 16 + 1) 65535 ∧
        (s.epochSet = true → t.accGet 0x180 = min (s.accGet 0x180 + 1) (2 ^ 32 - 1))) ∧
      EventOnly (among ([Reg.COLO_STAT, Reg.MEM_ECC 4, Reg.MEM_ERR_INFO] ++ wide Reg.MEM_ERR_ADDR))
        { s with colo := t.colo, mem := { s.mem with fix := t.mem.fix }, lastRaise := t.lastRaise, freeCtr := t.freeCtr } t) ∧
  (∀ s : State, Yields .coloSnap s fun t => ∃ free : Bytes, t.colo = { s.colo with live := s.recordBody free ++ zeros 4 } ∧
    t = { s with colo := t.colo, freeCtr := t.freeCtr })

/-- R768, R770, R771, R773, R775, R776, R778 to R780: a request is queued, or ends at once with its result where its partition is not
enabled, the queue is full or the partition is fenced; a stroke's request stands before one that PROOF_CMD makes in its cycle; the next queued request starts its slice, with BUSY and CURRENT; a slice with the golden signature returns
its partition with PASS, and another fences it with source 465. A core's PROOF_PARK, and the end of its grace when PROOF_PARK_GRACE has passed, park it. What a
failed clear writes follows log entry 38. -/
def Obligations.ProofSlices : Prop :=
  (∀ (s : State) (p : Party) (dbg : Bool) (v : Word), (p = .scribe ∨ dbg = true ∧ (s.life = 3 ∨ s.right 4 = true)) →
    s.bit Reg.PROOF_CMD 31 = false → fieldOf v 4 0 < 20 →
    (v.getLsbD 31 = false → exec (.proofCmdStart p dbg v) s = .next (s.setf Reg.PROOF_CMD 4 0 (fieldOf v 4 0))) ∧
    (v.getLsbD 31 = true → s.bit Reg.PROOF_CFG (fieldOf v 4 0) = true → s.proof.queue.length < (if s.proof.slice.isSome then 8 else 9) →
      Yields (.proofCmdStart p dbg v) s fun t => t.proof.queue = s.proof.queue ++ [(fieldOf v 4 0, true)] ∧
        t.bit Reg.PROOF_CMD 31 = true ∧ t.fld Reg.PROOF_CMD 4 0 = fieldOf v 4 0 ∧
        RegsOnly (among [Reg.PROOF_CMD, Reg.PROOF_STAT]) { s with proof := { s.proof with queue := t.proof.queue } } t) ∧
    (v.getLsbD 31 = true → s.bit Reg.PROOF_CFG (fieldOf v 4 0) = true →
      (if s.proof.slice.isSome then 8 else 9) ≤ s.proof.queue.length → Yields (.proofCmdStart p dbg v) s fun t =>
        t.fld (Reg.PROOF_RESULT (fieldOf v 4 0)) 31 28 = 5 ∧ t.bit Reg.PROOF_CMD 31 = false ∧ t.evtStatus 464 = true ∧
        EventOnly (among (Reg.PROOF_CMD :: Reg.PROOF_RESULT (fieldOf v 4 0) :: wide (Reg.PROOF_TIME (fieldOf v 4 0)))) s t) ∧
    (v.getLsbD 31 = true → s.bit Reg.PROOF_CFG (fieldOf v 4 0) = false → Yields (.proofCmdStart p dbg v) s fun t =>
      t.fld (Reg.PROOF_RESULT (fieldOf v 4 0)) 31 28 = 6 ∧ t.bit Reg.PROOF_CMD 31 = false ∧
      RegsOnly (among [Reg.PROOF_CMD, Reg.PROOF_RESULT (fieldOf v 4 0)]) s t)) ∧
  (∀ (s : State) (p q : Nat) (r : List (Nat × Bool)), s.bit Reg.PROOF_CFG p = true → s.cycNow.proofCmd = some q →
    s.proof.queue = r ++ [(q, true)] → r.length + 2 ≤ (if s.proof.slice.isSome then 8 else 9) →
    (s.proofRequest p false).proof.queue = r ++ [(p, false), (q, true)]) ∧
  (∀ (s : State) (p : Nat) (c : Bool) (r : List (Nat × Bool)), s.proof.slice = none → s.proof.queue = (p, c) :: r → p < 20 →
    (s.proofFenced p = true → Yields .proofSliceStart s fun t => t.proof.queue = r ∧ t.fld (Reg.PROOF_RESULT p) 31 28 = 4 ∧
      t.evtStatus 464 = true ∧
      EventOnly (among (Reg.PROOF_STAT :: Reg.PROOF_CMD :: Reg.PROOF_RESULT p :: wide (Reg.PROOF_TIME p)))
        { s with proof := { s.proof with queue := r } } t) ∧
    (s.proofFenced p = false → s.pwr.mainUp = true → s.fld Reg.PWR_STAT 2 0 ≤ 1 →
      (decide (7 ≤ p ∧ p < 15) && (s.inScribe (p - 7) || s.switching (p - 7))) = false → Yields .proofSliceStart s fun t =>
        t.proof.slice = some p ∧ t.proof.byCmd = c ∧ t.proof.queue = r ∧ t.bit Reg.PROOF_STAT 30 = true ∧
        t.fld Reg.PROOF_STAT 29 25 = p ∧ t.mem = s.mem ∧ t.otp = s.otp)) ∧
  (∀ (s : State) (p misr : Nat) (clearFail : Bool), s.proof.slice = some p → s.proof.parking = false →
    let v := (s.setMisr p (misr % 2 ^ 128)).incSat (Reg.PROOF_RESULT p) 15 0
    (clearFail = false → misr % 2 ^ 128 = v.golden p → exec (.proofSliceEnd misr clearFail) s =
      .next (((v.countProof p false).proofOver.proofReturn p).proofRecord p 1 s.proof.byCmd)) ∧
    (clearFail = true ∨ misr % 2 ^ 128 ≠ v.golden p → exec (.proofSliceEnd misr clearFail) s =
      .next (let w := (((if clearFail then s else v).countProof p true).incSat (Reg.PROOF_RESULT p) 23 16).proofFence p
        let x := (w.proofOver.proofRecord p (if clearFail then 3 else 2) s.proof.byCmd).raise 465
        if x.bit Reg.PROOF_CFG 20 && !x.bit Reg.PROOF_STAT 31 then x.proofHalt else x))) ∧
  (∀ (s : State) (p code : Nat) (c : Bool), p < 20 → code < 16 →
    let t := s.proofRecord p code c
    t.fld (Reg.PROOF_RESULT p) 31 28 = code ∧ t.rd64 (Reg.PROOF_TIME p) = s.stime.ns ∧ t.evtStatus 464 = true ∧
    (c = true → t.bit Reg.PROOF_CMD 31 = false) ∧
    EventOnly (among (Reg.PROOF_CMD :: Reg.PROOF_RESULT p :: wide (Reg.PROOF_TIME p))) s t) ∧
  (∀ (s : State) (p : Nat), 7 ≤ p → p < 20 → (s.proofFence p).bit Reg.PROOF_STAT p = true ∧
    (p < 15 → (s.proofFence p).evtStatus (472 + (p - 7)) = true) ∧
    (15 ≤ p → p < 17 → (s.proofFence p).evtStatus (296 + (p - 15)) = true) ∧
    (17 ≤ p → p < 19 → (s.proofFence p).evtStatus (470 + (p - 17)) = true) ∧ (p = 19 → (s.proofFence p).evtStatus 337 = true)) ∧
  (∀ (s : State) (core : Nat), s.proof.slice = some (7 + core) →
    exec (.proofPark core) s = .next { s with proof := { s.proof with parking := false } } ∧
    (s.proof.parkAt + s.parkGrace ≤ s.stime.cycle →
      exec (.proofParkGraceExpiry core) s = .next { s with proof := { s.proof with parking := false } }) ∧
    (s.stime.cycle < s.proof.parkAt + s.parkGrace → exec (.proofParkGraceExpiry core) s = .next s))

/-- R791, R799, R800: a write of whole aligned words stores them whatever error they held; a partial write to a word that holds an
uncorrectable error is not performed, is counted and raises source 489. A read that finds an error corrects it, or answers poison,
and counts it with its memory or with the caches (R794); the write-back of a corrected word ends its wait and changes no byte. R801, R808, R811 to R815: a flash command starts where its length and its accesses are allowed, and reports
BUSY, LENGTH or DENIED; a completed erase leaves every cell of the range erased and no other cell changed, and a completed
program of erased cells leaves the source's bytes there. The map is locked when it passes its checks. A completed wipe leaves
every cell of its blocks erased, with source 494, and completes the erase that it is part of, with its time and source 355 (R350). A scrubber moves on word by word. -/
def Obligations.MemoryAndFlash : Prop :=
  ((∀ (s : State) (init a : Nat) (b : Bytes), a % 8 = 0 → b.length % 8 = 0 → inSram a b.length = true →
      (s.eccWrite init a b .clean).2 = true ∧ (s.eccWrite init a b .clean).1.memBytes a b.length = b ∧
      (s.eccWrite init a b .clean).1 = { s with mem := (s.eccWrite init a b .clean).1.mem } ∧
      (∀ w ∈ wordsOf a b.length, (s.eccWrite init a b .clean).1.isBad w = false) ∧
      (∀ x : Nat, x < a ∨ a + b.length ≤ x → (s.eccWrite init a b .clean).1.memByte x = s.memByte x)) ∧
    (∀ (s : State) (init a : Nat) (b : Bytes), a % 8 + b.length < 8 → 0 < b.length → inSram a b.length = true →
      s.isBad (a / 8 * 8) = true →
      (s.eccWrite init a b .clean).2 = false ∧ (s.eccWrite init a b .clean).1.evtStatus 489 = true ∧
      (s.eccWrite init a b .clean).1.mem = s.mem) ∧
    (∀ (s : State) (kind init w syn : Nat) (ev : Bool), s.isBad w = false → 0 < eccMem w →
      let c := s.eccRead kind init w (.corrected syn)
      let u := s.eccRead kind init w (.uncorrectable syn)
      let l := s.eccRead kind init w (.cacheWord syn ev)
      let up := fun (m hi lo : Nat) (t : State) => t.fld (Reg.MEM_ECC m) hi lo = min (s.fld (Reg.MEM_ECC m) hi lo + 1) 65535
      c.2 = false ∧ c.1.isBad w = false ∧ up (eccMem w) 31 16 c.1 ∧ w ∈ c.1.mem.fix ∧
      u.2 = true ∧ u.1.isBad w = true ∧ up (eccMem w) 15 0 u.1 ∧ l.2 = true ∧ l.1.isBad w = true ∧ up 3 15 0 l.1 ∧
      (∀ x : Nat, c.1.memByte x = s.memByte x ∧ u.1.memByte x = s.memByte x ∧ l.1.memByte x = s.memByte x)) ∧
    (∀ (s : State) (a : Nat), Yields (.eccWriteback a) s fun t =>
      a ∉ t.mem.fix ∧ (∀ x : Nat, t.memByte x = s.memByte x) ∧ t = { s with mem := { s.mem with fix := t.mem.fix } })) ∧
  ((∀ (s : State) (c : Instr) (op : Nat) (w : World) (pr : Priv) (core : Nat),
      (c = .xspiProgram w pr core ∧ op = 1 ∨ c = .xspiErase w pr core ∧ op = 2) →
      let addr := s.rdn Reg.MEM_XSPI_ADDR
      let len := s.rdn Reg.MEM_XSPI_LEN
      let src := (s.rd64 Reg.MEM_XSPI_SRC).toNat % 2 ^ 40
      let v := s.setf Reg.MEM_XSPI_CMD 1 0 op
      (s.bit Reg.MEM_XSPI_STAT 31 = true → Yields c s fun t => t.fld Reg.MEM_XSPI_STAT 30 28 = 1 ∧
        RegsOnly (among [Reg.MEM_XSPI_CMD, Reg.MEM_XSPI_STAT]) s t) ∧
      (s.bit Reg.MEM_XSPI_STAT 31 = false → flashLenOk op addr len = false → Yields c s fun t => t.fld Reg.MEM_XSPI_STAT 30 28 = 4 ∧
        t.evtStatus 492 = true ∧ EventOnly (among [Reg.MEM_XSPI_CMD, Reg.MEM_XSPI_STAT]) s t) ∧
      (∀ u : State, s.bit Reg.MEM_XSPI_STAT 31 = false → flashLenOk op addr len = true →
        (v.flashCheck op addr len src w pr core = (u, true) → exec c s =
          .next ((({ u with mem := { u.mem with cmd := some ⟨op, addr, len, src⟩ } }).setb Reg.MEM_XSPI_STAT 31 true).setb
            Reg.MEM_XSPI_CMD 31 true)) ∧
        (v.flashCheck op addr len src w pr core = (u, false) → Yields c s fun t => t.fld Reg.MEM_XSPI_STAT 30 28 = 2 ∧
          t.bit Reg.MEM_XSPI_CMD 31 = false ∧ t.evtStatus 493 = true ∧
          EventOnly (among [Reg.MEM_XSPI_CMD, Reg.MEM_XSPI_STAT]) u t))) ∧
    (∀ (s : State) (c : FlashCmd), s.mem.cmd = some c → s.mem.wipe = none →
      (c.op = 2 → c.addr % 4096 = 0 → c.len % 4096 = 0 → Yields (.xspiCommandDone none) s fun t =>
        (∀ o : Nat, c.addr ≤ o → o < c.addr + c.len → t.flashByte o = 0xFF) ∧
        (∀ o : Nat, o < c.addr ∨ c.addr + c.len ≤ o → t.flashByte o = s.flashByte o) ∧
        t.fld Reg.MEM_XSPI_STAT 31 28 = 0 ∧ t.bit Reg.MEM_XSPI_CMD 31 = false ∧ t.evtStatus 492 = true ∧
        EventOnly (among [Reg.MEM_XSPI_CMD, Reg.MEM_XSPI_STAT]) { s with mem := { s.mem with flash := t.mem.flash, cmd := none } } t) ∧
      (c.op = 1 → 1 ≤ c.len → c.addr + c.len ≤ s.flashSize → inSram c.src c.len = true → s.poisoned c.src c.len = false →
        (∀ o : Nat, c.addr ≤ o → o < c.addr + c.len → s.flashByte o = 0xFF) → Yields (.xspiCommandDone none) s fun t =>
          t.flashBytes c.addr c.len = s.memBytes c.src c.len ∧
          (∀ o : Nat, o < c.addr ∨ c.addr + c.len ≤ o → t.flashByte o = s.flashByte o) ∧
          t.fld Reg.MEM_XSPI_STAT 31 28 = 0 ∧ t.bit Reg.MEM_XSPI_CMD 31 = false ∧
          EventOnly (among [Reg.MEM_XSPI_CMD, Reg.MEM_XSPI_STAT]) { s with mem := { s.mem with flash := t.mem.flash, cmd := none } } t)) ∧
    (∀ (s : State) (v : Word), v.getLsbD 31 = true → s.bit Reg.MEM_XSPI_LOCK 31 = false → Yields (.xspiLock v) s fun t =>
      t.bit Reg.MEM_XSPI_LOCK 31 = s.xspiMapOk ∧ (s.xspiMapOk = false → t.bit Reg.MEM_XSPI_LOCK 30 = true) ∧
      RegsOnly (among [Reg.MEM_XSPI_LOCK]) s t) ∧
    (∀ (s : State) (user : Bool), s.mem.wipe = some user → s.mem.cmd = none → Yields (.wipeDone none) s fun t =>
      (∀ b ∈ s.wipeBlocks user, ∀ i : Nat, i < 65536 → t.flashByte (b + i) = 0xFF) ∧
      (∀ o : Nat, (∀ b ∈ s.wipeBlocks user, o < b ∨ b + 65536 ≤ o) → t.flashByte o = s.flashByte o) ∧
      t.bit Reg.MEM_WIPE_STAT 31 = true ∧ t.bit Reg.MEM_XSPI_STAT 31 = false ∧ t.cust.destroyed = [] ∧ t.evtStatus 494 = true ∧
      t.evtStatus 355 = true ∧ t.rd64 Reg.RSV_ERASE_TIME = BitVec.ofNat 64 s.ns ∧
      EventOnly (among (Reg.MEM_WIPE_STAT :: Reg.MEM_XSPI_STAT :: wide Reg.RSV_ERASE_TIME))
        { s with mem := { s.mem with flash := t.mem.flash, wipe := none }
                 cust := { s.cust with destroyed := [], packages := [] } } t) ∧
    (∀ (s : State) (k : Nat), k < 3 → s.scrubRuns k = true → s.mem.scrub.length = 3 →
      (k < 2 → s.isBad ((scrubSpan k).1 + 8 * s.mem.scrub.getD k 0) = false) → Yields (.scrubStep k .clean) s fun t =>
        t.mem.scrub.getD k 0 = (if (scrubSpan k).2 ≤ s.mem.scrub.getD k 0 + 1 then 0 else s.mem.scrub.getD k 0 + 1) ∧
        ((scrubSpan k).2 ≤ s.mem.scrub.getD k 0 + 1 → t.evtStatus 491 = true) ∧
        EventOnly (among [Reg.MEM_STAT]) { s with mem := { s.mem with scrub := t.mem.scrub } } t))

/-! ## Chapter 21 -/

/-- R823 to R834, R837 to R841, R850 and Tables CON-3, CON-6, CON-8: the console ports. A transmitted character enters the FIFO and
leaves in order, or reports overflow; a received one is stored with its flags, or counted as overrun; software reads them in
order; a refused configuration sets CFG_ERR; flushes empty a FIFO, but for a character of the same cycle; RESUME clears TX_PAUSED
unless an XOFF came in the same cycle; SEND_BREAK sends one break at a time; the pause, the tail and the idle timer act at their
ends. RS-485 enable, echo and EN follow log entry 41; the edges that end a character and a tail are taken within one CLK_PER cycle
of their times (log entry 68). -/
def Obligations.ConsolePorts : Prop :=
  (∀ (s : State) (n : Nat) (v : Word), s.conOpen n = true → s.conMode n ≠ 3 → (s.con n).tx.length < 256 →
    exec (.conTxdata n v) s = .next ((s.setCon n { s.con n with tx := (s.con n).tx ++ [v.toNat % 512] }).conKick n)) ∧
  (∀ (s : State) (n : Nat) (v : Word), s.conOpen n = true → (s.conMode n = 3 ∨ 256 ≤ (s.con n).tx.length) →
    Yields (.conTxdata n v) s fun t => t.bit (conStat n) (if s.conMode n = 3 then 22 else 26) = true ∧
      t.evtStatus (497 + 2 * n) = true ∧ EventOnly (among [conStat n]) s t) ∧
  (∀ (s : State) (n x : Nat) (r : List Nat), s.conEn n = true → s.conMode n ≠ 1 → (s.con n).busy = .idle → s.bit (conStat n) 28 = false →
    s.conSilent n = false → s.bit (conStat n) 31 = false → (s.con n).flow = [] → (s.con n).breakDue = false → (s.con n).echo = [] → (s.con n).tx = x :: r →
    ((s.conKick n).con n).busy = .char x ∧ ((s.conKick n).con n).tx = r) ∧
  (∀ (s : State) (n x : Nat), (s.con n).busy = .char x → s.conMode n ≠ 2 →
    ((s.conSent n false).con n).busy = .idle ∧ (s.conSent n false).out = s.out ++ [.conChar n (x % 2 ^ s.conBits n)]) ∧
  (∀ (s : State) (n : Nat) (b : Bool), s.conOpen n = true → s.conRuns = true → (s.con n).busy ≠ .idle →
    ((s.con n).endsAt ≤ s.stime.cycle + 4 ∨ b = true ∧ s.conMode n = 4) → exec (.conCharSent n b) s = .next (((s.conSent n b).conKick n).conIdle n)) ∧
  (∀ (s : State) (n : Nat) (c : RxChar), s.conOpen n = true → s.conRuns = true → c.begun = true → (s.con n).lineLow = false →
    s.conDeaf n = false → exec (.conCharReceived n c) s = .next (s.conReceive n c)) ∧
  (∀ (s : State) (n ch : Nat), n < 2 →
    ((s.con n).rx.length < 256 → ((s.conStore n ch).con n).rx = (s.con n).rx ++ [ch]) ∧
    (256 ≤ (s.con n).rx.length → (s.conStore n ch).bit (conStat n) 27 = true ∧ (s.conStore n ch).evtStatus (497 + 2 * n) = true ∧
      (s.conStore n ch).fld (conErrcnt n) 7 0 = min (s.fld (conErrcnt n) 7 0 + 1) 255 ∧
      EventOnly (among [conStat n, conErrcnt n]) s (s.conStore n ch))) ∧
  (∀ (s : State) (n : Nat), s.conOpen n = true → (s.con n).rx = [] → exec (.conRxdata n) s = .next (s.emit (.value 0))) ∧
  (∀ (s : State) (n x : Nat) (r : List Nat), s.conOpen n = true → (s.con n).rx = x :: r → s.xonEn n = false →
    exec (.conRxdata n) s = .next ((s.setCon n { s.con n with rx := r }).emit (.value (2 ^ 31 + x)))) ∧
  (∀ (s : State) (n : Nat), s.conOpen n = true → (Yields (.flushTx n) s fun t => (t.con n).tx = [] ∧ (t.con n).rx = (s.con n).rx) ∧
    (s.xonEn n = false → exec (.flushRx n) s = .next (s.setCon n { s.con n with
      rx := if (s.con n).rxAt = some s.stime.cycle then (s.con n).rx.drop ((s.con n).rx.length - 1) else [] })) ∧
    ((s.con n).xoffAt ≠ some s.stime.cycle → Yields (.conResume n) s fun t =>
      t.bit (conStat n) 31 = false ∧ (t.con n).pausedAt = none) ∧
    ((s.con n).xoffAt = some s.stime.cycle → exec (.conResume n) s = .next s) ∧
    (s.bit (conBase n + 0x10) 28 = false → exec (.sendBreak n) s =
      .next (((s.setb (conBase n + 0x10) 28 true).setCon n { s.con n with breakDue := true }).conKick n)) ∧
    (s.bit (conBase n + 0x10) 28 = true → exec (.sendBreak n) s = .next s) ∧
    exec (.conBreakEnd n) s = .next (s.setCon n { s.con n with lineLow := false })) ∧
  (∀ (s : State) (n : Nat) (r : ConReg) (v : Word), s.conOpen n = true →
    (s.conRefused n r v = true → Yields (.conCfgWrite n r v) s fun t => t.bit (conCfg n) 30 = true ∧ t.evtStatus (497 + 2 * n) = true ∧
      EventOnly (among [conCfg n]) s t) ∧
    (s.conRefused n r v = false → (s.con n).busy ≠ .idle → Yields (.conCfgWrite n r v) s fun t =>
      t.rd (conBase n + conOff r) &&& conMask r = v &&& conMask r ∧ RegsOnly (among [conBase n + conOff r]) s t)) ∧
  (∀ (s : State) (n c : Nat), s.conOpen n = true → s.bit (conStat n) 31 = true → s.fld (conFlow n) 7 0 ≠ 0 →
    (s.con n).pausedAt = some c →
    (c + s.fld (conFlow n) 7 0 * 8000000 ≤ s.stime.cycle → Yields (.conPauseTimeout n) s fun t =>
      t.bit (conStat n) 29 = true ∧ t.evtStatus (497 + 2 * n) = true ∧
      EventOnly (among [conStat n]) (s.setCon n { s.con n with pausedAt := none }) t) ∧
    (s.stime.cycle < c + s.fld (conFlow n) 7 0 * 8000000 → exec (.conPauseTimeout n) s = .next s)) ∧
  (∀ (s : State) (n : Nat), s.conOpen n = true → (s.con n).tail = true → (s.con n).busy = .idle →
    (s.con n).endsAt ≤ s.stime.cycle + 4 → Yields (.rs485TailEnd n) s fun t => (t.con n).tail = false ∧ t.bit (conStat n) 24 = false ∧
    (s.bit (conStat n) 24 = true → t.out = s.out ++ [.pin (if n = 0 then .con0De else .con1De) false])) ∧
  (∀ (s : State) (n : Nat), s.conOpen n = true → s.conRuns = true → (s.con n).rx ≠ [] → Yields (.conRxIdleTimeout n) s fun t =>
    t.evtStatus (496 + 2 * n) = true ∧ EventOnly (among []) s t) ∧
  (∀ (s : State) (n : Nat), s.conOpen n = true → s.conEn n = true → s.conRuns = false → Yields (.consoleBreak n) s fun t =>
    (s.fld Reg.PWR_STAT 2 0 = 3 → t.bit Reg.PWR_WAKE_CAUSE 5 = true ∧ t.pwr.exiting = true) ∧ EventOnly (among []) s t)

/-- R842 to R848 and Tables CON-4, CON-5: custodian frames. A frame made by R843 reads back as its address, type, sequence and
payload; each request that Table CON-5 lists is answered with its reply, COUNTERSIGN and SHARE by the code of their command;
another type, or another length of payload, is answered UNKNOWN. The buffers are operands (log entry 34). -/
def Obligations.CustodianFrames : Prop :=
  (∀ (addr : Byte) (type : Nat) (q p : Bytes), type < 256 → q.length = 2 → p.length ≤ 13248 →
    let body := [addr, BitVec.ofNat 8 type] ++ q ++ beBytes 2 p.length ++ p
    custFrame ((escape (body ++ beBytes 4 (crc32c body))).map (·.toNat)) = some ⟨addr, type, q, p⟩) ∧
  (∀ (s : State) (chars : List Nat) (f : CustFrame), s.custOf 1 chars = some f → exec (.statusGet chars) s =
    .next (s.custReply f 0x81 (beBytes 8 (s.rd64 Reg.BOOT_SERIAL).toNat ++ (List.range 4).flatMap fun n =>
      beBytes 4 (s.rdn (Reg.CUST_CER_STAT n)) ++ beBytes 8 (s.rd64 (Reg.CUST_CER_EXPIRES n)).toNat))) ∧
  (∀ (s : State) (chars : List Nat) (f : CustFrame), s.custOf 2 chars = some f → exec (.requestGet chars) s =
    .next (s.custReply f 0x82 (if s.cerHeld f.slot then (s.cerSlot f.slot).record ++ (s.cerSlot f.slot).ek else []))) ∧
  (∀ (s : State) (chars : List Nat) (pkgAt : Nat) (f : CustFrame), s.custOf 3 chars = some f →
    exec (.packageGet chars pkgAt) s = .next (s.custReply f 0x83 (s.slotPackage f.slot pkgAt))) ∧
  (∀ (s t : State) (chars : List Nat) (buf code : Nat) (f : CustFrame), s.custOf 4 chars = some f →
    (s.keyWrite buf f.payload).runCust 0x11 (leAt f.payload 5 1 % 4) [buf] 0 = some (t, code) →
    exec (.countersign chars buf) s = .next (t.custReply f 0x84 [BitVec.ofNat 8 code,
      BitVec.ofNat 8 (t.fld (Reg.CUST_CER_STAT (leAt f.payload 5 1 % 4)) 29 24)])) ∧
  (∀ (s t : State) (chars : List Nat) (slot buf pkgAt code : Nat) (f : CustFrame), s.custOf 5 chars = some f →
    (s.keyWrite buf f.payload).runCust 0x22 (slot % 4) [buf, pkgAt] 0 = some (t, code) →
    exec (.share chars slot buf pkgAt) s = .next (t.custReply f 0x84 [BitVec.ofNat 8 code,
      BitVec.ofNat 8 (t.fld (Reg.CUST_CER_STAT (slot % 4)) 29 24)])) ∧
  (∀ (s : State) (chars : List Nat) (f : CustFrame), s.custLine = true → custFrame chars = some f →
    custLen f.type ≠ some f.payload.length → exec (.unknownFrame chars) s = .next (s.custReply f 0x8E [])) ∧
  (∀ (s : State) (f : CustFrame) (type : Nat) (b : Bytes),
    let body := [f.addr, BitVec.ofNat 8 type] ++ f.seq ++ beBytes 2 b.length ++ b
    s.custReply f type b = s.emit (.custFrame ([0x7E] ++ escape (body ++ beBytes 4 (crc32c body)) ++ [0x7E])))

/-! ## Chapter 22 -/

/-- The read rows of Table SMB-2: the transaction, its code, whether it is a Run command, and the bytes it answers. -/
def smbReadRow : Instr → Option (SmbTx × Nat × Bool × (State → Bytes))
  | .alertStat t => some (t, 0x02, false, fun s => [BitVec.ofNat 8 (s.fld Reg.SMB_ALERT 7 0)])
  | .status t => some (t, 0x00, false, fun s => smbBlock ((s.viewBe Reg.LCY_STATE 1 ++ s.viewBe Reg.BOOT_STAT 1) ++ (s.viewBe Reg.WRLD_STAT 1 ++ s.viewBe Reg.BLOT_STAT 1)))
  | .ident t => some (t, 0x01, false, fun s => smbBlock (s.viewBe8 Reg.BOOT_SERIAL ++ s.viewBe Reg.BOOT_IDENT 1 ++ beBytes 4 0x1B960C4B))
  | .lcyState t => some (t, 0x10, false, fun s => smbBlock (s.viewBe Reg.LCY_STATE 1))
  | .lcyWord t => some (t, 0x11, false, fun s => smbBlock (s.viewBe8 Reg.LCY_WORD))
  | .lcyResult t => some (t, 0x12, false, fun s => smbBlock (s.viewBe Reg.LCY_RESULT 1))
  | .lcyRights t => some (t, 0x13, false, fun s => smbBlock (s.viewBe Reg.LCY_RIGHTS 1))
  | .lcyDebugCount t => some (t, 0x14, false, fun s => smbBlock (s.viewBe Reg.LCY_DEBUG_COUNT 1))
  | .bootStat t => some (t, 0x18, false, fun s => smbBlock (s.viewBe Reg.BOOT_STAT 1))
  | .bootTime t => some (t, 0x19, false, fun s => smbBlock (s.viewBe Reg.BOOT_TIME 1))
  | .bootSerial t => some (t, 0x1A, false, fun s => smbBlock (s.viewBe8 Reg.BOOT_SERIAL))
  | .bootIdent t => some (t, 0x1B, false, fun s => smbBlock (s.viewBe Reg.BOOT_IDENT 1))
  | .bootImgStat t => some (t, 0x1C, false, fun s => smbBlock (s.viewBe Reg.BOOT_IMG_STAT 1))
  | .bootFloorOtp t => some (t, 0x1D, false, fun s => smbBlock (s.viewBe Reg.BOOT_FLOOR_OTP 1))
  | .bootSigner t => some (t, 0x1E, false, fun s => smbBlock (s.viewBe Reg.BOOT_SIGNER 1))
  | .ductStat t => some (t, 0x20, false, fun s => smbBlock (s.viewBe Reg.DUCT_STAT 1))
  | .ductConfigId t => some (t, 0x21, true, fun s => smbBlock (s.viewBe Reg.DUCT_CONFIG_ID 1))
  | .ductConfigRev t => some (t, 0x22, true, fun s => smbBlock (s.viewBe Reg.DUCT_CONFIG_REV 1))
  | .ductVersion t => some (t, 0x23, true, fun s => smbBlock (s.viewBe Reg.DUCT_VERSION 1))
  | .wrldStat t => some (t, 0x28, false, fun s => smbBlock (s.viewBe Reg.WRLD_STAT 1))
  | .wrldCfg t => some (t, 0x29, true, fun s => smbBlock (s.viewBe Reg.WRLD_CFG 1))
  | .wrldFailTime t => some (t, 0x2A, true, fun s => smbBlock (s.viewBe8 Reg.WRLD_FAIL_TIME))
  | .wrldReadyTime t => some (t, 0x2B, true, fun s => smbBlock (s.viewBe8 Reg.WRLD_READY_TIME))
  | .rsvStat t => some (t, 0x30, true, fun s => smbBlock (s.viewBe Reg.RSV_STAT 1))
  | .custStat t => some (t, 0x31, true, fun s => smbBlock (s.viewBe Reg.CUST_STAT 1))
  | .entStat t => some (t, 0x32, true, fun s => smbBlock (s.viewBe Reg.ENT_STAT 1))
  | .portStat t => some (t, 0x38, true, fun s => smbBlock (s.viewBe (Reg.PORT_STAT 0) 1 ++ s.viewBe (Reg.PORT_STAT 1) 1))
  | .blotStat t => some (t, 0x40, false, fun s => smbBlock (s.viewBe Reg.BLOT_STAT 1))
  | .blotCause t => some (t, 0x41, false, fun s => smbBlock (s.viewBe Reg.BLOT_CAUSE 1))
  | .blotActive t => some (t, 0x42, false, fun s => smbBlock (s.viewBe Reg.BLOT_ACTIVE 1))
  | .blotAlarm t => some (t, 0x43, false, fun s => smbBlock (s.viewBe Reg.BLOT_ALARM 1))
  | .blotAlarmActive t => some (t, 0x44, false, fun s => smbBlock (s.viewBe Reg.BLOT_ALARM_ACTIVE 1))
  | .blotTime t => some (t, 0x45, false, fun s => smbBlock (s.viewBe8 Reg.BLOT_TIME))
  | .blotOpsec t => some (t, 0x46, false, fun s => smbBlock (s.viewBe8 Reg.BLOT_OPSEC))
  | .blotPcc t => some (t, 0x47, false, fun s => smbBlock (s.viewBe Reg.BLOT_PCC 1))
  | .blotNear t => some (t, 0x48, false, fun s => smbBlock (s.viewBe (Reg.BLOT_NEAR 0) 8))
  | .blotMeshNear t => some (t, 0x49, false, fun s => smbBlock (s.viewBe Reg.BLOT_MESH_NEAR 1))
  | .blotSense t => some (t, 0x4A, false, fun s => smbBlock (s.viewBe Reg.BLOT_SENSE 1))
  | .coloStat t => some (t, 0x50, true, fun s => smbBlock (s.viewBe Reg.COLO_STAT 1))
  | .coloOpsec t => some (t, 0x51, true, fun s => smbBlock (s.viewBe8 Reg.COLO_OPSEC))
  | .coloPcc t => some (t, 0x52, true, fun s => smbBlock (s.viewBe Reg.COLO_PCC 1))
  | .coloNextClose t => some (t, 0x53, true, fun s => smbBlock (s.viewBe8 Reg.COLO_NEXT_CLOSE))
  | .proofStat t => some (t, 0x58, true, fun s => smbBlock (s.viewBe Reg.PROOF_STAT 1))
  | .proofBoot t => some (t, 0x59, true, fun s => smbBlock (s.viewBe Reg.PROOF_BOOT 1))
  | .memStat t => some (t, 0x5C, true, fun s => smbBlock (s.viewBe Reg.MEM_STAT 1))
  | .memEcc t => some (t, 0x5D, true, fun s => smbBlock (s.viewBe (Reg.MEM_ECC 0) 5))
  | .memWipeStat t => some (t, 0x5E, true, fun s => smbBlock (s.viewBe Reg.MEM_WIPE_STAT 1))
  | _ => none

/-- The process calls of Table SMB-2: the transaction, its code, its argument bytes, and what the argument answers. -/
def smbCallRow : Instr → Option (SmbTx × Nat × Nat × (Nat → State → Bytes))
  | .svcEk t => some (t, 0x3A, 1, fun c s => if c ≤ 6 then s.regBytes (Reg.PORT_SVC_EK 0 + 224 * c) 224 else [])
  | .coloPage ⟨t, .clean⟩ => some (t, 0x54, 2, fun a s => if a < 4096 then s.mram (1024 * (a / 8) + 128 * (a % 8)) 128 else [])
  | .evtStatus t => some (t, 0x60, 1, fun g s => if g < 16 then beBytes 4 ((List.range 32).foldl (fun w i =>
      if s.evtStatus (32 * g + i) && s.alertRouted (32 * g + i) then w + 2 ^ i else w) 0) else [])
  | _ => none

/-- R853, R856, R858 to R866 and Table SMB-2: every read row answers its register's value, with PEC where the host asks for it, and
records the transaction; on the group address, before its command is served, or with data it does not take, it is refused; where
no address matches it does nothing. A process call answers the block that its argument names; an MRAM error that the read of a page
finds is counted, and the page is answered (R795). PEC is the standard's CRC-8 (log
entry 42). -/
def Obligations.SmbusReads : Prop :=
  (∀ (c : Instr) (t : SmbTx) (code : Nat) (late : Bool) (v : State → Bytes), smbReadRow c = some (t, code, late, v) → ∀ s : State,
    (s.smbOpen t.addr = none → exec c s = .next s) ∧
    (∀ (u : State) (m : Nat), s.smbOpen t.addr = some (u, m) →
      (u.smbBars code m late = true ∨ t.data ≠ [] → exec c s = .next (u.smbRefuse t code m 1)) ∧
      (u.smbBars code m late = false → t.data = [] → t.read = true → exec c s = .next (u.smbSend t code m (v u))))) ∧
  (∀ (c : Instr) (t : SmbTx) (code n : Nat) (v : Nat → State → Bytes), smbCallRow c = some (t, code, n, v) →
    ∀ (s u : State) (m : Nat), s.smbOpen t.addr = some (u, m) → u.smbBars code m true = false → t.read = true →
    0 < (t.data.headD 0).toNat → (t.data.headD 0).toNat ≤ n → (t.data.drop 1).length ≤ (t.data.headD 0).toNat →
    exec c s = .next (u.smbSend t code m (smbBlock (v (beAt (t.data.drop 1) 0 n) u)))) ∧
  (∀ (s u : State) (t : SmbTx) (m a : Nat) (e : EccFind), s.smbOpen t.addr = some (u, m) → u.smbBars 0x54 m true = false →
    t.read = true → a < 4096 → t.data = 2 :: beBytes 2 a →
    exec (.coloPage ⟨t, e⟩) s = .next ((u.mramFind 31 (1024 * (a / 8) + 128 * (a % 8)) e).smbSend t 0x54 m
      (smbBlock (u.mram (1024 * (a / 8) + 128 * (a % 8)) 128)))) ∧
  (∀ (s u : State) (t : SmbTx) (m : Nat), s.smbOpen t.addr = some (u, m) → u.smbBars 0x55 m true = false → t.read = true →
    t.data = [1, 0] → Yields (.coloLive t) s fun v => ∃ free : Bytes, v.colo = { u.colo with liveB := u.recordBody free ++ zeros 4 } ∧
      RegsOnly (among [Reg.SMB_STAT, Reg.SMB_LAST]) { u with colo := v.colo, freeCtr := v.freeCtr, out := v.out } v) ∧
  (∀ (s u : State) (t : SmbTx) (m c : Nat), s.smbOpen t.addr = some (u, m) → u.smbBars 0x55 m true = false → t.read = true →
    0 < c → c ≤ 7 → t.data = [1, BitVec.ofNat 8 c] →
    exec (.coloLive t) s = .next (u.smbSend t 0x55 m (smbBlock (slice u.colo.liveB (128 * c) 128)))) ∧
  (∀ (s : State) (t : SmbTx) (code m : Nat) (b : Bytes), m < 256 →
    (s.smbSend t code m b).out = s.out ++ [.smbus (b ++ if t.ack then
      [pec ([addrByte t.addr false, BitVec.ofNat 8 code] ++ t.data ++ [addrByte t.addr true] ++ b)] else [])] ∧
    (s.smbSend t code m b).fld Reg.SMB_LAST 30 28 = 0 ∧ (s.smbSend t code m b).fld Reg.SMB_LAST 15 8 = code % 256 ∧
    (s.smbSend t code m b).fld Reg.SMB_LAST 22 16 = t.addr % 128 ∧
    RegsOnly (among [Reg.SMB_STAT, Reg.SMB_LAST]) { s with out := (s.smbSend t code m b).out } (s.smbSend t code m b))

/-- R856, R857, R861 to R863, R866 to R873, R875, R876, R878 to R880: the other transactions. ALERT_MASK sets MASK with source 502
where that changes it, and a wrong PEC leaves it; EVT_CLEAR clears what is routed to SMBALERT#; a quick command is acknowledged;
the lowest pending slot answers the Alert Response Address and is no longer pending; faults are counted with source 500; a match
in DEEP_NAP wakes the device. What the hardware sets in the same cycle stays set (R10). A protocol mismatch and a short block follow log entry 42. -/
def Obligations.SmbusRows : Prop :=
  (∀ (s u : State) (t : SmbTx) (m : Nat) (v : Byte) (p : Bytes), s.smbOpen t.addr = some (u, m) → t.data = v :: p → t.read = false → v.toNat < 16 →
    (p = [pec [addrByte t.addr false, 0x04, v]] ∨ p = [] ∧ (m < 4 → u.bit Reg.SMB_CFG (24 + m) = false) →
      Yields (.alertMask t) s fun w => w.fld Reg.SMB_ALERT 7 4 = v.toNat ∧
        (u.fld Reg.SMB_ALERT 7 4 ≠ v.toNat → w.evtStatus 502 = true) ∧ w.fld Reg.SMB_LAST 30 28 = 0 ∧
        EventOnly (among [Reg.SMB_ALERT, Reg.SMB_STAT, Reg.SMB_LAST]) u w) ∧
    (∀ x : Byte, p = [x] → x ≠ pec [addrByte t.addr false, 0x04, v] → Yields (.alertMask t) s fun w =>
      w.fld Reg.SMB_ALERT 7 4 = u.fld Reg.SMB_ALERT 7 4 ∧ w.fld Reg.SMB_LAST 30 28 = 2 ∧ Output.smbusNack ∈ w.out)) ∧
  (∀ (s u : State) (t : SmbTx) (m : Nat) (g : Byte) (b : Bytes), s.smbOpen t.addr = some (u, m) → u.smbBars 0x61 m true = false →
    t.read = false → g.toNat < 16 → b.length = 4 → (m < 4 → u.bit Reg.SMB_CFG (24 + m) = false) → t.data = 5 :: g :: b →
    Yields (.evtClear t) s fun w =>
      (∀ i : Nat, i < 32 → w.evtStatus (32 * g.toNat + i) = (u.evtStatus (32 * g.toNat + i) &&
        !((beAt b 0 4).testBit i && u.alertRouted (32 * g.toNat + i) && !(u.hwSets (Reg.EVT_STATUS g.toNat)).getLsbD i))) ∧ w.fld Reg.SMB_LAST 30 28 = 0 ∧
      RegsOnly (among [Reg.EVT_STATUS g.toNat, Reg.SMB_STAT, Reg.SMB_LAST]) { u with out := w.out } w) ∧
  (∀ (s u : State) (addr m : Nat) (rw : Bool), s.smbOpen addr = some (u, m) →
    exec (.quickCommand addr rw) s = .next (if m == 4 && rw then u.emit .smbusNack else (u.emit (.smbus [])).smbEnd addr 0 m 0)) ∧
  (∀ (s u : State) (t : SmbTx) (code m : Nat), s.smbOpen t.addr = some (u, m) → (∀ e ∈ smbCodes, e.1 ≠ code) →
    exec (.unlistedCommandCode code t) s = .next (u.smbRefuse t code m 1)) ∧
  (∀ (s : State) (i : Nat) (ack : Bool), s.smbOn = true → (s.hwSets Reg.SMB_ALERT).getLsbD i = false → i < 4 → s.bit Reg.SMB_ALERT i = true → s.bit Reg.SMB_ALERT (4 + i) = false →
    (∀ j : Nat, j < i → s.bit Reg.SMB_ALERT j = false ∨ s.bit Reg.SMB_ALERT (4 + j) = true) →
    s.fld Reg.PWR_STAT 2 0 ≠ 3 → Yields (.alertResponse false ack) s fun t => t.bit Reg.SMB_ALERT i = false ∧
      (∀ j : Nat, j < 8 → j ≠ i → t.bit Reg.SMB_ALERT j = s.bit Reg.SMB_ALERT j) ∧
      (let r := addrByte (s.fld Reg.SMB_CFG 6 0 + i) false;
        Output.smbus (r :: if ack then [pec [addrByte 0x0C true, r]] else []) ∈ t.out) ∧
      RegsOnly (among [Reg.SMB_ALERT, Reg.SMB_STAT, Reg.SMB_LAST]) { s with out := t.out } t) ∧
  (∀ (s : State) (ack : Bool), s.smbOn = true → s.fld Reg.PWR_STAT 2 0 ≠ 3 →
    (s.alertAsserted = true → Yields (.alertResponse true ack) s fun t =>
      RegsOnly (among [Reg.SMB_STAT, Reg.SMB_LAST]) s t) ∧
    (s.alertAsserted = false → ∀ lost : Bool, exec (.alertResponse lost ack) s = .next s)) ∧
  (∀ (s : State) (i : Nat) (c : Instr) (addr cmd : Nat), s.smbOn = true →
    (c = .smbClockTimeout addr cmd ∧ i = 24 ∨ c = .smbProtocolBreach addr cmd ∧ i = 8) → Yields c s fun t =>
      t.fld Reg.SMB_ERRCNT (i + 7) i = min (s.fld Reg.SMB_ERRCNT (i + 7) i + 1) 255 ∧ t.evtStatus 500 = true ∧
      t.bit Reg.SMB_STAT 31 = false ∧ (∀ m : Nat, s.smbMatch addr = some m → m < 8 → t.fld Reg.SMB_LAST 30 28 = (if i = 24 then 5 else 4)) ∧
      EventOnly (among [Reg.SMB_ERRCNT, Reg.SMB_STAT, Reg.SMB_LAST]) s t) ∧
  (∀ (s : State) (addr : Nat) (x : BootIn), (s.smbMatch addr).isSome = true → s.boot.ioB = true →
    s.fld Reg.PWR_STAT 2 0 = 3 →
    Yields (.smbAddressMatch addr x) s fun t => t.bit Reg.SMB_STAT 31 = true ∧ t.bit Reg.SMB_STAT 29 = true ∧
      t.evtStatus 503 = true ∧ t.pwr.exiting = true ∧ t.bit Reg.PWR_WAKE_CAUSE 4 = true ∧ EventOnly (among [Reg.SMB_STAT]) s t) ∧
  (∀ (s : State) (addr : Nat) (x : BootIn), (s.smbMatch addr).isSome = true → s.fld Reg.PWR_STAT 2 0 = 4 → s.mayStart = true →
    x.ioB = true → exec (.smbAddressMatch addr x) s = .next ((s.standbyExit 4 x).raise 503)) ∧
  (∀ (s : State) (addr m : Nat), s.bit Reg.SMB_STAT 29 = true → s.smbMatch addr = some m → m < 8 → Yields (.smbStretchLimit addr) s fun t =>
    t.fld Reg.SMB_ERRCNT 7 0 = min (s.fld Reg.SMB_ERRCNT 7 0 + 1) 255 ∧ t.bit Reg.SMB_STAT 29 = false ∧
    t.fld Reg.SMB_LAST 30 28 = 6 ∧ t.out = s.out ++ [.smbusNack] ∧
    RegsOnly (among [Reg.SMB_ERRCNT, Reg.SMB_STAT, Reg.SMB_LAST]) { s with out := t.out } t)

/-! ## Chapter 24 -/

/-- R911, R912, R917, R918: raising a source sets its status bit. A route write that the writer may make stores EN, TARGET and
VECTOR, with LOCK only from the Scribe world; one to a locked route, with a reserved TARGET, or without the right sets ROUTE_ERR
and leaves the route; the writes of one cycle to one route count in the order Scribe world, Manager, Draft world (Table EVT-2). A
written 1 clears a status bit exactly where the writer holds the right and the hardware does not set it in the same cycle (R10). R913, R919: an unmasked vector
sends for its PBA bit when MSI-X is enabled; a claim answers a pending enabled interrupt of the highest priority above 0, or 0
for none, and takes it out of the pending bits; a completion lets a source still asserted be pending again. The order among
equal priorities follows log entry 43. -/
def Obligations.EventDelivery : Prop :=
  ((∀ (s : State) (n : Nat), n < 512 → (s.raise n).evtStatus n = true) ∧
    (∀ (s : State) (p : Party) (n : Nat) (v : Word), n < 512 → reachesRoutes p = true →
      s.cycNow.routes = [] → s.bit (Reg.EVT_ROUTE n) 30 = false → routeTarget v < 5 →
      mayRoute (s.rd (Reg.EVT_ROUTE n)) p n (routeTarget v) = true →
      Yields (.evtRouteWrite p n v) s fun t =>
        routeEn (t.rd (Reg.EVT_ROUTE n)) = routeEn v ∧ routeTarget (t.rd (Reg.EVT_ROUTE n)) = routeTarget v ∧
        t.fld (Reg.EVT_ROUTE n) 24 16 = fieldOf v 24 16 ∧
        t.bit (Reg.EVT_ROUTE n) 30 = (p == .scribe && v.getLsbD 30) ∧ EventOnly (among [Reg.EVT_ROUTE n]) s t) ∧
    (∀ (s : State) (p : Party) (n : Nat) (v : Word), n < 512 → reachesRoutes p = true → s.cycNow.routes = [] →
      (s.bit (Reg.EVT_ROUTE n) 30 = true ∨ 5 ≤ routeTarget v ∨ mayRoute (s.rd (Reg.EVT_ROUTE n)) p n (routeTarget v) = false) →
      Yields (.evtRouteWrite p n v) s fun t => t.bit Reg.EVT_STAT 31 = true ∧ RegsOnly (among [Reg.EVT_STAT]) s t) ∧
    (∀ (s : State) (p q : Party) (n : Nat) (v w : Word), n < 512 → reachesRoutes p = true → reachesRoutes q = true →
      routeRank p < routeRank q → s.cycNow.routes = [] → Yields (.evtRouteWrite q n w) s fun a => Yields (.evtRouteWrite p n v) a fun t =>
        t.rd (Reg.EVT_ROUTE n) = RouteCyc.now ⟨n, s.rd (Reg.EVT_ROUTE n), [(p, v), (q, w)]⟩) ∧
    (∀ (s : State) (p : Party) (g : Nat) (v : Word), g < 16 → Yields (.evtStatusClear p g v) s fun t =>
      (∀ i : Nat, i < 32 → t.evtStatus (32 * g + i) = (s.evtStatus (32 * g + i) &&
        !(v.getLsbD i && s.mayClear p (32 * g + i) && !(s.hwSets (Reg.EVT_STATUS g)).getLsbD i))) ∧
      RegsOnly (among [Reg.EVT_STATUS g]) s t) ∧
    (∀ (s : State) (f : Nat) (v : Word), f < 64 → Yields (.folTEvt f v) s fun t =>
      (∀ n : Nat, n < 512 → t.evtStatus n = (s.evtStatus n && ((s.hwSets (Reg.EVT_STATUS (n / 32))).getLsbD (n % 32) ||
        !((n == 192 + f && v.getLsbD 16) || (List.range 16).any fun k => s.localRing f k == some n && v.getLsbD k)))) ∧
      RegsOnly (fun a => (List.range 16).any fun g => a == Reg.EVT_STATUS g) s t)) ∧
  ((∀ (s : State) (v : Nat), v < 512 → s.host.msixEnable = true → s.host.funcMask = false → s.host.busMaster = true →
      v ∈ s.host.pba → Yields (.msixVectorUnmask v) s fun t =>
        t.msixWord (4 * v + 3) % 2 = 0 ∧ v ∉ t.host.pba ∧
        (s.host.linkL0 = true → Output.msix v (s.msixWord (4 * v) + 2 ^ 32 * s.msixWord (4 * v + 1)) (s.msixWord (4 * v + 2)) ∈ t.out) ∧
        (s.host.linkL0 = false → v ∈ t.host.msixHeld) ∧
        t = { s with host := { s.host with msixTab := t.host.msixTab, pba := t.host.pba, msixHeld := t.host.msixHeld }, out := t.out, cyc := t.cyc }) ∧
    (∀ (s : State) (w : World) (ctx : Nat), ctx < plicContexts w → Yields (.plicClaim w ctx) s fun t => ∃ id : Nat,
      t.out = s.out ++ [.value id] ∧
      (id = 0 → ∀ j ∈ (s.plicOf w).ip, j ≠ 0 → s.plicEnabled w ctx j = true → s.plicPrio w j = 0) ∧
      (id ≠ 0 → id ∈ (s.plicOf w).ip ∧ s.plicEnabled w ctx id = true ∧ 0 < s.plicPrio w id ∧
        (∀ j ∈ (s.plicOf w).ip, j ≠ 0 → s.plicEnabled w ctx j = true → s.plicPrio w j ≤ s.plicPrio w id) ∧
        id ∉ (t.plicOf w).ip ∧ id ∈ (t.plicOf w).busy) ∧
      t = { s with plicS := t.plicS, plicD := t.plicD, out := t.out }) ∧
    (∀ (s : State) (w : World) (ctx id : Nat), ctx < plicContexts w → 0 < id → id ≤ 512 → s.plicEnabled w ctx id = true →
      (s.plicOf w).busy.contains id = true → Yields (.plicComplete w ctx id) s fun t =>
        id ∉ (t.plicOf w).busy ∧ (s.plicLevel w id = true → id ∈ (t.plicOf w).ip) ∧
        t = { s with plicS := t.plicS, plicD := t.plicD }))
end

