-- ==== Sys2Proof/Laws/Tab.lean ====
section
/-! SUPPORT. Laws of sparse tables: read after write, and every operation keeps the canonical form. -/

namespace Sys2Proof.Machine

variable {α : Type}

theorem Tab.get_drop_ne (d : Nat → α) (t : Tab α) {a b : Nat} (h : b ≠ a) :
    Tab.get d (Tab.drop t a) b = Tab.get d t b := by
  induction t with
  | nil => rfl
  | cons e r ih =>
    by_cases he : e.1 = a
    · have hb : ¬ a = b := fun hb => h hb.symm
      simpa [Tab.drop, he, Tab.get, hb] using ih
    · by_cases hb : e.1 = b
      · simp [Tab.drop, Tab.get, hb, h]
      · simpa [Tab.drop, he, Tab.get, hb] using ih

theorem Tab.get_drop_same (d : Nat → α) (t : Tab α) (a : Nat) : Tab.get d (Tab.drop t a) a = d a := by
  induction t with
  | nil => rfl
  | cons e r ih =>
    by_cases he : e.1 = a
    · simpa [Tab.drop, he] using ih
    · simpa [Tab.drop, he, Tab.get] using ih

theorem Tab.get_ins_ne (d : Nat → α) (t : Tab α) {a b : Nat} (v : α) (h : b ≠ a) :
    Tab.get d (Tab.ins t a v) b = Tab.get d t b := by
  induction t with
  | nil => simp [Tab.ins, Tab.get, Ne.symm h]
  | cons e r ih =>
    simp only [Tab.ins]
    split
    · simp [Tab.get, Ne.symm h]
    · simp [Tab.get, ih]

theorem Tab.get_ins_same (d : Nat → α) (t : Tab α) (a : Nat) (v : α) (h : ∀ e ∈ t, e.1 ≠ a) :
    Tab.get d (Tab.ins t a v) a = v := by
  induction t with
  | nil => simp [Tab.ins, Tab.get]
  | cons e r ih =>
    simp only [Tab.ins]
    split
    · simp [Tab.get]
    · simp only [Tab.get, if_neg (h e (by simp))]
      exact ih fun x hx => h x (by simp [hx])

theorem Tab.drop_key_ne (t : Tab α) (a : Nat) : ∀ e ∈ Tab.drop t a, e.1 ≠ a := by
  intro e he
  simpa [Tab.drop] using (List.mem_filter.mp he).2

/-- Read after write, same key. -/
@[simp] theorem Tab.get_set_same [DecidableEq α] (d : Nat → α) (t : Tab α) (a : Nat) (v : α) :
    Tab.get d (Tab.set d t a v) a = v := by
  unfold Tab.set
  split
  · next h => rw [Tab.get_drop_same, h]
  · exact Tab.get_ins_same d _ a v (Tab.drop_key_ne t a)

/-- A write leaves every other key alone. -/
theorem Tab.get_set_ne [DecidableEq α] (d : Nat → α) (t : Tab α) {a b : Nat} (v : α) (h : b ≠ a) :
    Tab.get d (Tab.set d t a v) b = Tab.get d t b := by
  unfold Tab.set
  split
  · exact Tab.get_drop_ne d t h
  · rw [Tab.get_ins_ne d _ v h, Tab.get_drop_ne d t h]

/-- Read after write, any key. -/
theorem Tab.get_set [DecidableEq α] (d : Nat → α) (t : Tab α) (a b : Nat) (v : α) :
    Tab.get d (Tab.set d t a v) b = if b = a then v else Tab.get d t b := by
  split
  · next h => subst h; simp
  · next h => exact Tab.get_set_ne d t v h

theorem Tab.mem_ins {t : Tab α} {a : Nat} {v : α} {e : Nat × α} (h : e ∈ Tab.ins t a v) : e = (a, v) ∨ e ∈ t := by
  induction t with
  | nil => simpa [Tab.ins] using h
  | cons x r ih =>
    simp only [Tab.ins] at h
    split at h
    · simpa using h
    · rcases List.mem_cons.mp h with rfl | h
      · simp
      · rcases ih h with rfl | h <;> simp_all

theorem Tab.ins_pairwise {t : Tab α} {a : Nat} (v : α) (hp : t.Pairwise (fun x y => x.1 < y.1))
    (hne : ∀ e ∈ t, e.1 ≠ a) : (Tab.ins t a v).Pairwise (fun x y => x.1 < y.1) := by
  induction t with
  | nil => simp [Tab.ins]
  | cons e r ih =>
    rw [List.pairwise_cons] at hp
    simp only [Tab.ins]
    split
    · next h =>
      rw [List.pairwise_cons, List.pairwise_cons]
      refine ⟨?_, hp.1, hp.2⟩
      intro x hx
      rcases List.mem_cons.mp hx with rfl | hx
      · exact h
      · exact Nat.lt_trans h (hp.1 x hx)
    · next h =>
      have hea : e.1 < a := by
        have := hne e (by simp)
        omega
      rw [List.pairwise_cons]
      refine ⟨?_, ih hp.2 fun x hx => hne x (by simp [hx])⟩
      intro x hx
      rcases Tab.mem_ins hx with rfl | hx
      · exact hea
      · exact hp.1 x hx

/-- Every write keeps the canonical form. -/
theorem Tab.set_wf [DecidableEq α] (d : Nat → α) {t : Tab α} (h : Tab.wf d t) (a : Nat) (v : α) :
    Tab.wf d (Tab.set d t a v) := by
  have hp : (Tab.drop t a).Pairwise (fun x y => x.1 < y.1) := h.1.filter _
  have hv : ∀ e ∈ Tab.drop t a, e.2 ≠ d e.1 := fun e he => h.2 e (List.mem_filter.mp he).1
  unfold Tab.set
  split
  · exact ⟨hp, hv⟩
  · next hne =>
    refine ⟨Tab.ins_pairwise v hp (Tab.drop_key_ne t a), fun e he => ?_⟩
    rcases Tab.mem_ins he with rfl | he
    · exact hne
    · exact hv e he

/-- Clearing a range keeps the canonical form. -/
theorem Tab.clear_wf (d : Nat → α) {t : Tab α} (h : Tab.wf d t) (p : Nat → Bool) : Tab.wf d (Tab.clear t p) :=
  ⟨h.1.filter _, fun e he => h.2 e (List.mem_filter.mp he).1⟩

/-- A cleared key reads as the default; the others are unchanged. -/
theorem Tab.get_clear (d : Nat → α) (t : Tab α) (p : Nat → Bool) (a : Nat) :
    Tab.get d (Tab.clear t p) a = if p a then d a else Tab.get d t a := by
  induction t with
  | nil => cases h : p a <;> simp [Tab.clear, Tab.get]
  | cons e r ih =>
    by_cases he : e.1 = a
    · subst he
      cases h : p e.1
      · simp [Tab.clear, Tab.get, h]
      · simpa [Tab.clear, Tab.get, h] using ih
    · cases h : p e.1 <;> simpa [Tab.clear, Tab.get, h, he] using ih

end Sys2Proof.Machine
end

