-- ==== Sys2Proof/Laws/State.lean ====
section
/-! SUPPORT. What the basic updates of the state leave alone, field by field, and reading a register after a write. -/

namespace Sys2Proof.Machine

@[simp] theorem State.wr_stime (s : State) (a : Nat) (v : Word) : (s.wr a v).stime = s.stime := rfl
@[simp] theorem State.wr_cyc (s : State) (a : Nat) (v : Word) : (s.wr a v).cyc = s.cyc := rfl
@[simp] theorem State.wr_strokes (s : State) (a : Nat) (v : Word) : (s.wr a v).strokes = s.strokes := rfl
@[simp] theorem State.wr_lumro (s : State) (a : Nat) (v : Word) : (s.wr a v).lumro = s.lumro := rfl
@[simp] theorem State.wr_duct (s : State) (a : Nat) (v : Word) : (s.wr a v).duct = s.duct := rfl
@[simp] theorem State.wr_otp (s : State) (a : Nat) (v : Word) : (s.wr a v).otp = s.otp := rfl
@[simp] theorem State.wr_lcy (s : State) (a : Nat) (v : Word) : (s.wr a v).lcy = s.lcy := rfl
@[simp] theorem State.wr_boot (s : State) (a : Nat) (v : Word) : (s.wr a v).boot = s.boot := rfl
@[simp] theorem State.wr_wrld (s : State) (a : Nat) (v : Word) : (s.wr a v).wrld = s.wrld := rfl
@[simp] theorem State.wr_rsv (s : State) (a : Nat) (v : Word) : (s.wr a v).rsv = s.rsv := rfl
@[simp] theorem State.wr_cust (s : State) (a : Nat) (v : Word) : (s.wr a v).cust = s.cust := rfl
@[simp] theorem State.wr_ent (s : State) (a : Nat) (v : Word) : (s.wr a v).ent = s.ent := rfl
@[simp] theorem State.wr_host (s : State) (a : Nat) (v : Word) : (s.wr a v).host = s.host := rfl
@[simp] theorem State.wr_ops (s : State) (a : Nat) (v : Word) : (s.wr a v).ops = s.ops := rfl
@[simp] theorem State.wr_nextOp (s : State) (a : Nat) (v : Word) : (s.wr a v).nextOp = s.nextOp := rfl
@[simp] theorem State.wr_rings (s : State) (a : Nat) (v : Word) : (s.wr a v).rings = s.rings := rfl
@[simp] theorem State.wr_sch (s : State) (a : Nat) (v : Word) : (s.wr a v).sch = s.sch := rfl
@[simp] theorem State.wr_net (s : State) (a : Nat) (v : Word) : (s.wr a v).net = s.net := rfl
@[simp] theorem State.wr_quil (s : State) (a : Nat) (v : Word) : (s.wr a v).quil = s.quil := rfl
@[simp] theorem State.wr_blot (s : State) (a : Nat) (v : Word) : (s.wr a v).blot = s.blot := rfl
@[simp] theorem State.wr_colo (s : State) (a : Nat) (v : Word) : (s.wr a v).colo = s.colo := rfl
@[simp] theorem State.wr_proof (s : State) (a : Nat) (v : Word) : (s.wr a v).proof = s.proof := rfl
@[simp] theorem State.wr_mem (s : State) (a : Nat) (v : Word) : (s.wr a v).mem = s.mem := rfl
@[simp] theorem State.wr_lastRaise (s : State) (a : Nat) (v : Word) : (s.wr a v).lastRaise = s.lastRaise := rfl
@[simp] theorem State.wr_con0 (s : State) (a : Nat) (v : Word) : (s.wr a v).con0 = s.con0 := rfl
@[simp] theorem State.wr_con1 (s : State) (a : Nat) (v : Word) : (s.wr a v).con1 = s.con1 := rfl
@[simp] theorem State.wr_con1Open (s : State) (a : Nat) (v : Word) : (s.wr a v).con1Open = s.con1Open := rfl
@[simp] theorem State.wr_pwr (s : State) (a : Nat) (v : Word) : (s.wr a v).pwr = s.pwr := rfl
@[simp] theorem State.wr_plicS (s : State) (a : Nat) (v : Word) : (s.wr a v).plicS = s.plicS := rfl
@[simp] theorem State.wr_plicD (s : State) (a : Nat) (v : Word) : (s.wr a v).plicD = s.plicD := rfl
@[simp] theorem State.wr_freeCtr (s : State) (a : Nat) (v : Word) : (s.wr a v).freeCtr = s.freeCtr := rfl
@[simp] theorem State.wr_pending (s : State) (a : Nat) (v : Word) : (s.wr a v).pending = s.pending := rfl
@[simp] theorem State.wr_out (s : State) (a : Nat) (v : Word) : (s.wr a v).out = s.out := rfl

@[simp] theorem State.setf_stime (s : State) (a hi lo n : Nat) : (s.setf a hi lo n).stime = s.stime := rfl
@[simp] theorem State.setf_cyc (s : State) (a hi lo n : Nat) : (s.setf a hi lo n).cyc = s.cyc := rfl
@[simp] theorem State.setf_strokes (s : State) (a hi lo n : Nat) : (s.setf a hi lo n).strokes = s.strokes := rfl
@[simp] theorem State.setf_lumro (s : State) (a hi lo n : Nat) : (s.setf a hi lo n).lumro = s.lumro := rfl
@[simp] theorem State.setf_duct (s : State) (a hi lo n : Nat) : (s.setf a hi lo n).duct = s.duct := rfl
@[simp] theorem State.setf_otp (s : State) (a hi lo n : Nat) : (s.setf a hi lo n).otp = s.otp := rfl
@[simp] theorem State.setf_lcy (s : State) (a hi lo n : Nat) : (s.setf a hi lo n).lcy = s.lcy := rfl
@[simp] theorem State.setf_boot (s : State) (a hi lo n : Nat) : (s.setf a hi lo n).boot = s.boot := rfl
@[simp] theorem State.setf_wrld (s : State) (a hi lo n : Nat) : (s.setf a hi lo n).wrld = s.wrld := rfl
@[simp] theorem State.setf_rsv (s : State) (a hi lo n : Nat) : (s.setf a hi lo n).rsv = s.rsv := rfl
@[simp] theorem State.setf_cust (s : State) (a hi lo n : Nat) : (s.setf a hi lo n).cust = s.cust := rfl
@[simp] theorem State.setf_ent (s : State) (a hi lo n : Nat) : (s.setf a hi lo n).ent = s.ent := rfl
@[simp] theorem State.setf_host (s : State) (a hi lo n : Nat) : (s.setf a hi lo n).host = s.host := rfl
@[simp] theorem State.setf_ops (s : State) (a hi lo n : Nat) : (s.setf a hi lo n).ops = s.ops := rfl
@[simp] theorem State.setf_nextOp (s : State) (a hi lo n : Nat) : (s.setf a hi lo n).nextOp = s.nextOp := rfl
@[simp] theorem State.setf_rings (s : State) (a hi lo n : Nat) : (s.setf a hi lo n).rings = s.rings := rfl
@[simp] theorem State.setf_sch (s : State) (a hi lo n : Nat) : (s.setf a hi lo n).sch = s.sch := rfl
@[simp] theorem State.setf_net (s : State) (a hi lo n : Nat) : (s.setf a hi lo n).net = s.net := rfl
@[simp] theorem State.setf_quil (s : State) (a hi lo n : Nat) : (s.setf a hi lo n).quil = s.quil := rfl
@[simp] theorem State.setf_blot (s : State) (a hi lo n : Nat) : (s.setf a hi lo n).blot = s.blot := rfl
@[simp] theorem State.setf_colo (s : State) (a hi lo n : Nat) : (s.setf a hi lo n).colo = s.colo := rfl
@[simp] theorem State.setf_proof (s : State) (a hi lo n : Nat) : (s.setf a hi lo n).proof = s.proof := rfl
@[simp] theorem State.setf_mem (s : State) (a hi lo n : Nat) : (s.setf a hi lo n).mem = s.mem := rfl
@[simp] theorem State.setf_lastRaise (s : State) (a hi lo n : Nat) : (s.setf a hi lo n).lastRaise = s.lastRaise := rfl
@[simp] theorem State.setf_con0 (s : State) (a hi lo n : Nat) : (s.setf a hi lo n).con0 = s.con0 := rfl
@[simp] theorem State.setf_con1 (s : State) (a hi lo n : Nat) : (s.setf a hi lo n).con1 = s.con1 := rfl
@[simp] theorem State.setf_con1Open (s : State) (a hi lo n : Nat) : (s.setf a hi lo n).con1Open = s.con1Open := rfl
@[simp] theorem State.setf_pwr (s : State) (a hi lo n : Nat) : (s.setf a hi lo n).pwr = s.pwr := rfl
@[simp] theorem State.setf_plicS (s : State) (a hi lo n : Nat) : (s.setf a hi lo n).plicS = s.plicS := rfl
@[simp] theorem State.setf_plicD (s : State) (a hi lo n : Nat) : (s.setf a hi lo n).plicD = s.plicD := rfl
@[simp] theorem State.setf_freeCtr (s : State) (a hi lo n : Nat) : (s.setf a hi lo n).freeCtr = s.freeCtr := rfl
@[simp] theorem State.setf_pending (s : State) (a hi lo n : Nat) : (s.setf a hi lo n).pending = s.pending := rfl
@[simp] theorem State.setf_out (s : State) (a hi lo n : Nat) : (s.setf a hi lo n).out = s.out := rfl

@[simp] theorem State.setb_stime (s : State) (a i : Nat) (b : Bool) : (s.setb a i b).stime = s.stime := rfl
@[simp] theorem State.setb_strokes (s : State) (a i : Nat) (b : Bool) : (s.setb a i b).strokes = s.strokes := rfl
@[simp] theorem State.setb_lumro (s : State) (a i : Nat) (b : Bool) : (s.setb a i b).lumro = s.lumro := rfl
@[simp] theorem State.setb_duct (s : State) (a i : Nat) (b : Bool) : (s.setb a i b).duct = s.duct := rfl
@[simp] theorem State.setb_otp (s : State) (a i : Nat) (b : Bool) : (s.setb a i b).otp = s.otp := rfl
@[simp] theorem State.setb_lcy (s : State) (a i : Nat) (b : Bool) : (s.setb a i b).lcy = s.lcy := rfl
@[simp] theorem State.setb_boot (s : State) (a i : Nat) (b : Bool) : (s.setb a i b).boot = s.boot := rfl
@[simp] theorem State.setb_wrld (s : State) (a i : Nat) (b : Bool) : (s.setb a i b).wrld = s.wrld := rfl
@[simp] theorem State.setb_rsv (s : State) (a i : Nat) (b : Bool) : (s.setb a i b).rsv = s.rsv := rfl
@[simp] theorem State.setb_cust (s : State) (a i : Nat) (b : Bool) : (s.setb a i b).cust = s.cust := rfl
@[simp] theorem State.setb_ent (s : State) (a i : Nat) (b : Bool) : (s.setb a i b).ent = s.ent := rfl
@[simp] theorem State.setb_host (s : State) (a i : Nat) (b : Bool) : (s.setb a i b).host = s.host := rfl
@[simp] theorem State.setb_ops (s : State) (a i : Nat) (b : Bool) : (s.setb a i b).ops = s.ops := rfl
@[simp] theorem State.setb_nextOp (s : State) (a i : Nat) (b : Bool) : (s.setb a i b).nextOp = s.nextOp := rfl
@[simp] theorem State.setb_rings (s : State) (a i : Nat) (b : Bool) : (s.setb a i b).rings = s.rings := rfl
@[simp] theorem State.setb_sch (s : State) (a i : Nat) (b : Bool) : (s.setb a i b).sch = s.sch := rfl
@[simp] theorem State.setb_net (s : State) (a i : Nat) (b : Bool) : (s.setb a i b).net = s.net := rfl
@[simp] theorem State.setb_quil (s : State) (a i : Nat) (b : Bool) : (s.setb a i b).quil = s.quil := rfl
@[simp] theorem State.setb_blot (s : State) (a i : Nat) (b : Bool) : (s.setb a i b).blot = s.blot := rfl
@[simp] theorem State.setb_colo (s : State) (a i : Nat) (b : Bool) : (s.setb a i b).colo = s.colo := rfl
@[simp] theorem State.setb_proof (s : State) (a i : Nat) (b : Bool) : (s.setb a i b).proof = s.proof := rfl
@[simp] theorem State.setb_mem (s : State) (a i : Nat) (b : Bool) : (s.setb a i b).mem = s.mem := rfl
@[simp] theorem State.setb_lastRaise (s : State) (a i : Nat) (b : Bool) : (s.setb a i b).lastRaise = s.lastRaise := rfl
@[simp] theorem State.setb_con0 (s : State) (a i : Nat) (b : Bool) : (s.setb a i b).con0 = s.con0 := rfl
@[simp] theorem State.setb_con1 (s : State) (a i : Nat) (b : Bool) : (s.setb a i b).con1 = s.con1 := rfl
@[simp] theorem State.setb_con1Open (s : State) (a i : Nat) (b : Bool) : (s.setb a i b).con1Open = s.con1Open := rfl
@[simp] theorem State.setb_pwr (s : State) (a i : Nat) (b : Bool) : (s.setb a i b).pwr = s.pwr := rfl
@[simp] theorem State.setb_plicS (s : State) (a i : Nat) (b : Bool) : (s.setb a i b).plicS = s.plicS := rfl
@[simp] theorem State.setb_plicD (s : State) (a i : Nat) (b : Bool) : (s.setb a i b).plicD = s.plicD := rfl
@[simp] theorem State.setb_freeCtr (s : State) (a i : Nat) (b : Bool) : (s.setb a i b).freeCtr = s.freeCtr := rfl
@[simp] theorem State.setb_pending (s : State) (a i : Nat) (b : Bool) : (s.setb a i b).pending = s.pending := rfl
@[simp] theorem State.setb_out (s : State) (a i : Nat) (b : Bool) : (s.setb a i b).out = s.out := rfl

@[simp] theorem State.wr64_stime (s : State) (a : Nat) (v : DWord) : (s.wr64 a v).stime = s.stime := rfl
@[simp] theorem State.wr64_cyc (s : State) (a : Nat) (v : DWord) : (s.wr64 a v).cyc = s.cyc := rfl
@[simp] theorem State.wr64_strokes (s : State) (a : Nat) (v : DWord) : (s.wr64 a v).strokes = s.strokes := rfl
@[simp] theorem State.wr64_lumro (s : State) (a : Nat) (v : DWord) : (s.wr64 a v).lumro = s.lumro := rfl
@[simp] theorem State.wr64_duct (s : State) (a : Nat) (v : DWord) : (s.wr64 a v).duct = s.duct := rfl
@[simp] theorem State.wr64_otp (s : State) (a : Nat) (v : DWord) : (s.wr64 a v).otp = s.otp := rfl
@[simp] theorem State.wr64_lcy (s : State) (a : Nat) (v : DWord) : (s.wr64 a v).lcy = s.lcy := rfl
@[simp] theorem State.wr64_boot (s : State) (a : Nat) (v : DWord) : (s.wr64 a v).boot = s.boot := rfl
@[simp] theorem State.wr64_wrld (s : State) (a : Nat) (v : DWord) : (s.wr64 a v).wrld = s.wrld := rfl
@[simp] theorem State.wr64_rsv (s : State) (a : Nat) (v : DWord) : (s.wr64 a v).rsv = s.rsv := rfl
@[simp] theorem State.wr64_cust (s : State) (a : Nat) (v : DWord) : (s.wr64 a v).cust = s.cust := rfl
@[simp] theorem State.wr64_ent (s : State) (a : Nat) (v : DWord) : (s.wr64 a v).ent = s.ent := rfl
@[simp] theorem State.wr64_host (s : State) (a : Nat) (v : DWord) : (s.wr64 a v).host = s.host := rfl
@[simp] theorem State.wr64_ops (s : State) (a : Nat) (v : DWord) : (s.wr64 a v).ops = s.ops := rfl
@[simp] theorem State.wr64_nextOp (s : State) (a : Nat) (v : DWord) : (s.wr64 a v).nextOp = s.nextOp := rfl
@[simp] theorem State.wr64_rings (s : State) (a : Nat) (v : DWord) : (s.wr64 a v).rings = s.rings := rfl
@[simp] theorem State.wr64_sch (s : State) (a : Nat) (v : DWord) : (s.wr64 a v).sch = s.sch := rfl
@[simp] theorem State.wr64_net (s : State) (a : Nat) (v : DWord) : (s.wr64 a v).net = s.net := rfl
@[simp] theorem State.wr64_quil (s : State) (a : Nat) (v : DWord) : (s.wr64 a v).quil = s.quil := rfl
@[simp] theorem State.wr64_blot (s : State) (a : Nat) (v : DWord) : (s.wr64 a v).blot = s.blot := rfl
@[simp] theorem State.wr64_colo (s : State) (a : Nat) (v : DWord) : (s.wr64 a v).colo = s.colo := rfl
@[simp] theorem State.wr64_proof (s : State) (a : Nat) (v : DWord) : (s.wr64 a v).proof = s.proof := rfl
@[simp] theorem State.wr64_mem (s : State) (a : Nat) (v : DWord) : (s.wr64 a v).mem = s.mem := rfl
@[simp] theorem State.wr64_lastRaise (s : State) (a : Nat) (v : DWord) : (s.wr64 a v).lastRaise = s.lastRaise := rfl
@[simp] theorem State.wr64_con0 (s : State) (a : Nat) (v : DWord) : (s.wr64 a v).con0 = s.con0 := rfl
@[simp] theorem State.wr64_con1 (s : State) (a : Nat) (v : DWord) : (s.wr64 a v).con1 = s.con1 := rfl
@[simp] theorem State.wr64_con1Open (s : State) (a : Nat) (v : DWord) : (s.wr64 a v).con1Open = s.con1Open := rfl
@[simp] theorem State.wr64_pwr (s : State) (a : Nat) (v : DWord) : (s.wr64 a v).pwr = s.pwr := rfl
@[simp] theorem State.wr64_plicS (s : State) (a : Nat) (v : DWord) : (s.wr64 a v).plicS = s.plicS := rfl
@[simp] theorem State.wr64_plicD (s : State) (a : Nat) (v : DWord) : (s.wr64 a v).plicD = s.plicD := rfl
@[simp] theorem State.wr64_freeCtr (s : State) (a : Nat) (v : DWord) : (s.wr64 a v).freeCtr = s.freeCtr := rfl
@[simp] theorem State.wr64_pending (s : State) (a : Nat) (v : DWord) : (s.wr64 a v).pending = s.pending := rfl
@[simp] theorem State.wr64_out (s : State) (a : Nat) (v : DWord) : (s.wr64 a v).out = s.out := rfl

@[simp] theorem State.resetRegs_stime (s : State) (lo hi : Nat) : (s.resetRegs lo hi).stime = s.stime := rfl
@[simp] theorem State.resetRegs_cyc (s : State) (lo hi : Nat) : (s.resetRegs lo hi).cyc = s.cyc := rfl
@[simp] theorem State.resetRegs_strokes (s : State) (lo hi : Nat) : (s.resetRegs lo hi).strokes = s.strokes := rfl
@[simp] theorem State.resetRegs_lumro (s : State) (lo hi : Nat) : (s.resetRegs lo hi).lumro = s.lumro := rfl
@[simp] theorem State.resetRegs_duct (s : State) (lo hi : Nat) : (s.resetRegs lo hi).duct = s.duct := rfl
@[simp] theorem State.resetRegs_otp (s : State) (lo hi : Nat) : (s.resetRegs lo hi).otp = s.otp := rfl
@[simp] theorem State.resetRegs_lcy (s : State) (lo hi : Nat) : (s.resetRegs lo hi).lcy = s.lcy := rfl
@[simp] theorem State.resetRegs_boot (s : State) (lo hi : Nat) : (s.resetRegs lo hi).boot = s.boot := rfl
@[simp] theorem State.resetRegs_wrld (s : State) (lo hi : Nat) : (s.resetRegs lo hi).wrld = s.wrld := rfl
@[simp] theorem State.resetRegs_rsv (s : State) (lo hi : Nat) : (s.resetRegs lo hi).rsv = s.rsv := rfl
@[simp] theorem State.resetRegs_cust (s : State) (lo hi : Nat) : (s.resetRegs lo hi).cust = s.cust := rfl
@[simp] theorem State.resetRegs_ent (s : State) (lo hi : Nat) : (s.resetRegs lo hi).ent = s.ent := rfl
@[simp] theorem State.resetRegs_host (s : State) (lo hi : Nat) : (s.resetRegs lo hi).host = s.host := rfl
@[simp] theorem State.resetRegs_ops (s : State) (lo hi : Nat) : (s.resetRegs lo hi).ops = s.ops := rfl
@[simp] theorem State.resetRegs_nextOp (s : State) (lo hi : Nat) : (s.resetRegs lo hi).nextOp = s.nextOp := rfl
@[simp] theorem State.resetRegs_rings (s : State) (lo hi : Nat) : (s.resetRegs lo hi).rings = s.rings := rfl
@[simp] theorem State.resetRegs_sch (s : State) (lo hi : Nat) : (s.resetRegs lo hi).sch = s.sch := rfl
@[simp] theorem State.resetRegs_net (s : State) (lo hi : Nat) : (s.resetRegs lo hi).net = s.net := rfl
@[simp] theorem State.resetRegs_quil (s : State) (lo hi : Nat) : (s.resetRegs lo hi).quil = s.quil := rfl
@[simp] theorem State.resetRegs_blot (s : State) (lo hi : Nat) : (s.resetRegs lo hi).blot = s.blot := rfl
@[simp] theorem State.resetRegs_colo (s : State) (lo hi : Nat) : (s.resetRegs lo hi).colo = s.colo := rfl
@[simp] theorem State.resetRegs_proof (s : State) (lo hi : Nat) : (s.resetRegs lo hi).proof = s.proof := rfl
@[simp] theorem State.resetRegs_mem (s : State) (lo hi : Nat) : (s.resetRegs lo hi).mem = s.mem := rfl
@[simp] theorem State.resetRegs_lastRaise (s : State) (lo hi : Nat) : (s.resetRegs lo hi).lastRaise = s.lastRaise := rfl
@[simp] theorem State.resetRegs_con0 (s : State) (lo hi : Nat) : (s.resetRegs lo hi).con0 = s.con0 := rfl
@[simp] theorem State.resetRegs_con1 (s : State) (lo hi : Nat) : (s.resetRegs lo hi).con1 = s.con1 := rfl
@[simp] theorem State.resetRegs_con1Open (s : State) (lo hi : Nat) : (s.resetRegs lo hi).con1Open = s.con1Open := rfl
@[simp] theorem State.resetRegs_pwr (s : State) (lo hi : Nat) : (s.resetRegs lo hi).pwr = s.pwr := rfl
@[simp] theorem State.resetRegs_plicS (s : State) (lo hi : Nat) : (s.resetRegs lo hi).plicS = s.plicS := rfl
@[simp] theorem State.resetRegs_plicD (s : State) (lo hi : Nat) : (s.resetRegs lo hi).plicD = s.plicD := rfl
@[simp] theorem State.resetRegs_freeCtr (s : State) (lo hi : Nat) : (s.resetRegs lo hi).freeCtr = s.freeCtr := rfl
@[simp] theorem State.resetRegs_pending (s : State) (lo hi : Nat) : (s.resetRegs lo hi).pending = s.pending := rfl
@[simp] theorem State.resetRegs_out (s : State) (lo hi : Nat) : (s.resetRegs lo hi).out = s.out := rfl

@[simp] theorem State.emit_stime (s : State) (o : Output) : (s.emit o).stime = s.stime := rfl
@[simp] theorem State.emit_cyc (s : State) (o : Output) : (s.emit o).cyc = s.cyc := rfl
@[simp] theorem State.emit_strokes (s : State) (o : Output) : (s.emit o).strokes = s.strokes := rfl
@[simp] theorem State.emit_lumro (s : State) (o : Output) : (s.emit o).lumro = s.lumro := rfl
@[simp] theorem State.emit_duct (s : State) (o : Output) : (s.emit o).duct = s.duct := rfl
@[simp] theorem State.emit_otp (s : State) (o : Output) : (s.emit o).otp = s.otp := rfl
@[simp] theorem State.emit_lcy (s : State) (o : Output) : (s.emit o).lcy = s.lcy := rfl
@[simp] theorem State.emit_boot (s : State) (o : Output) : (s.emit o).boot = s.boot := rfl
@[simp] theorem State.emit_wrld (s : State) (o : Output) : (s.emit o).wrld = s.wrld := rfl
@[simp] theorem State.emit_rsv (s : State) (o : Output) : (s.emit o).rsv = s.rsv := rfl
@[simp] theorem State.emit_cust (s : State) (o : Output) : (s.emit o).cust = s.cust := rfl
@[simp] theorem State.emit_ent (s : State) (o : Output) : (s.emit o).ent = s.ent := rfl
@[simp] theorem State.emit_host (s : State) (o : Output) : (s.emit o).host = s.host := rfl
@[simp] theorem State.emit_ops (s : State) (o : Output) : (s.emit o).ops = s.ops := rfl
@[simp] theorem State.emit_nextOp (s : State) (o : Output) : (s.emit o).nextOp = s.nextOp := rfl
@[simp] theorem State.emit_rings (s : State) (o : Output) : (s.emit o).rings = s.rings := rfl
@[simp] theorem State.emit_sch (s : State) (o : Output) : (s.emit o).sch = s.sch := rfl
@[simp] theorem State.emit_net (s : State) (o : Output) : (s.emit o).net = s.net := rfl
@[simp] theorem State.emit_quil (s : State) (o : Output) : (s.emit o).quil = s.quil := rfl
@[simp] theorem State.emit_blot (s : State) (o : Output) : (s.emit o).blot = s.blot := rfl
@[simp] theorem State.emit_colo (s : State) (o : Output) : (s.emit o).colo = s.colo := rfl
@[simp] theorem State.emit_proof (s : State) (o : Output) : (s.emit o).proof = s.proof := rfl
@[simp] theorem State.emit_mem (s : State) (o : Output) : (s.emit o).mem = s.mem := rfl
@[simp] theorem State.emit_lastRaise (s : State) (o : Output) : (s.emit o).lastRaise = s.lastRaise := rfl
@[simp] theorem State.emit_con0 (s : State) (o : Output) : (s.emit o).con0 = s.con0 := rfl
@[simp] theorem State.emit_con1 (s : State) (o : Output) : (s.emit o).con1 = s.con1 := rfl
@[simp] theorem State.emit_con1Open (s : State) (o : Output) : (s.emit o).con1Open = s.con1Open := rfl
@[simp] theorem State.emit_pwr (s : State) (o : Output) : (s.emit o).pwr = s.pwr := rfl
@[simp] theorem State.emit_plicS (s : State) (o : Output) : (s.emit o).plicS = s.plicS := rfl
@[simp] theorem State.emit_plicD (s : State) (o : Output) : (s.emit o).plicD = s.plicD := rfl
@[simp] theorem State.emit_freeCtr (s : State) (o : Output) : (s.emit o).freeCtr = s.freeCtr := rfl
@[simp] theorem State.emit_pending (s : State) (o : Output) : (s.emit o).pending = s.pending := rfl
@[simp] theorem State.emit_regs (s : State) (o : Output) : (s.emit o).regs = s.regs := rfl

@[simp] theorem State.emit_out (s : State) (o : Output) : (s.emit o).out = s.out ++ [o] := rfl
@[simp] theorem State.emit_rd (s : State) (o : Output) (a : Nat) : (s.emit o).rd a = s.rd a := rfl
@[simp] theorem State.emit_emit_rd64 (s : State) (o : Output) (a : Nat) : (s.emit o).rd64 a = s.rd64 a := rfl

/-- A register read after a write. -/
theorem State.rd_wr (s : State) (a b : Nat) (v : Word) : (s.wr a v).rd b = if b = a then v else s.rd b := by
  simp [State.rd, State.wr, Tab.get_set]

@[simp] theorem State.rd_wr_same (s : State) (a : Nat) (v : Word) : (s.wr a v).rd a = v := by simp [State.rd_wr]

theorem State.rd_wr_ne (s : State) {a b : Nat} (v : Word) (h : b ≠ a) : (s.wr a v).rd b = s.rd b := by simp [State.rd_wr, h]

theorem State.rd_setf (s : State) (a hi lo n b : Nat) :
    (s.setf a hi lo n).rd b = if b = a then setFieldOf (s.rd a) hi lo n else s.rd b := by simp [State.setf, State.rd_wr]

@[simp] theorem State.rd_setf_same (s : State) (a hi lo n : Nat) :
    (s.setf a hi lo n).rd a = setFieldOf (s.rd a) hi lo n := by simp [State.rd_setf]

theorem State.rd_setf_ne (s : State) {a b : Nat} (hi lo n : Nat) (h : b ≠ a) : (s.setf a hi lo n).rd b = s.rd b := by
  simp [State.rd_setf, h]

theorem State.rd_setb_ne (s : State) {a b : Nat} (i : Nat) (v : Bool) (h : b ≠ a) : (s.setb a i v).rd b = s.rd b :=
  s.rd_setf_ne i i v.toNat h

@[simp] theorem State.rd_setb_same (s : State) (a i : Nat) (v : Bool) :
    (s.setb a i v).rd a = setFieldOf (s.rd a) i i v.toNat := s.rd_setf_same a i i v.toNat

end Sys2Proof.Machine
end

