-- ==== Sys2Proof/Laws/Field.lean ====
section
/-! SUPPORT. Reading a field after a field write. -/

namespace Sys2Proof.Machine

theorem fieldMask_getLsbD (hi lo i : Nat) :
    (fieldMask hi lo).getLsbD i = (decide (i < 32) && (decide (lo ≤ i) && decide (i - lo < hi + 1 - lo))) := by
  simp [fieldMask, BitVec.getLsbD_ofNat, Nat.testBit_shiftLeft, Nat.testBit_two_pow_sub_one]

/-- Bit `i` after a field write. -/
theorem setFieldOf_getLsbD (w : Word) (hi lo n i : Nat) :
    (setFieldOf w hi lo n).getLsbD i =
      (if i < 32 ∧ lo ≤ i ∧ i ≤ hi then n.testBit (i - lo) else w.getLsbD i) := by
  simp only [setFieldOf, BitVec.getLsbD_or, BitVec.getLsbD_and, BitVec.getLsbD_not, fieldMask_getLsbD, BitVec.getLsbD_ofNat,
    Nat.testBit_shiftLeft]
  by_cases h32 : i < 32
  · by_cases hl : lo ≤ i
    · by_cases hh : i ≤ hi
      · have hk : i - lo < hi + 1 - lo := by omega
        simp [h32, hl, hh, hk]
      · have hk : ¬ i - lo < hi + 1 - lo := by omega
        simp [h32, hl, hh, hk]
    · simp [h32, hl]
  · have h2 : w.getLsbD i = false := BitVec.getLsbD_of_ge _ _ (by omega)
    simp [h2, h32]

theorem fieldOf_testBit (w : Word) (hi lo j : Nat) :
    (fieldOf w hi lo).testBit j = (decide (j < hi + 1 - lo) && w.getLsbD (lo + j)) := by
  simp [fieldOf, Nat.testBit_mod_two_pow, Nat.testBit_shiftRight, BitVec.getLsbD]

/-- The field just written. -/
@[simp] theorem fieldOf_setFieldOf_same (w : Word) (hi lo n : Nat) (h : lo ≤ hi := by decide) (h32 : hi < 32 := by decide) :
    fieldOf (setFieldOf w hi lo n) hi lo = n % 2 ^ (hi + 1 - lo) := by
  apply Nat.eq_of_testBit_eq
  intro j
  rw [fieldOf_testBit, setFieldOf_getLsbD, Nat.testBit_mod_two_pow]
  by_cases hj : j < hi + 1 - lo
  · have h1 : lo + j < 32 := by omega
    have h2 : lo + j ≤ hi := by omega
    simp [hj, h1, h2]
  · simp [hj]

/-- A field apart from the one written. -/
theorem fieldOf_setFieldOf_ne (w : Word) (hi lo n hi' lo' : Nat) (h : hi < lo' ∨ hi' < lo) :
    fieldOf (setFieldOf w hi lo n) hi' lo' = fieldOf w hi' lo' := by
  apply Nat.eq_of_testBit_eq
  intro j
  rw [fieldOf_testBit, fieldOf_testBit, setFieldOf_getLsbD]
  by_cases hj : j < hi' + 1 - lo'
  · have hn : ¬ (lo' + j < 32 ∧ lo ≤ lo' + j ∧ lo' + j ≤ hi) := by omega
    simp [hn]
  · simp [hj]

/-- A single bit after a field write elsewhere. -/
theorem getLsbD_setFieldOf_ne (w : Word) (hi lo n i : Nat) (h : i < lo ∨ hi < i) :
    (setFieldOf w hi lo n).getLsbD i = w.getLsbD i := by
  rw [setFieldOf_getLsbD]
  split
  · omega
  · rfl

@[simp] theorem getLsbD_setFieldOf_bit (w : Word) (i : Nat) (b : Bool) (h : i < 32 := by decide) :
    (setFieldOf w i i b.toNat).getLsbD i = b := by
  rw [setFieldOf_getLsbD]
  cases b <;> simp [h]

theorem State.fld_setf_same (s : State) (a hi lo n : Nat) (h : lo ≤ hi) (h32 : hi < 32) :
    (s.setf a hi lo n).fld a hi lo = n % 2 ^ (hi + 1 - lo) := by
  simp [State.fld, fieldOf_setFieldOf_same _ _ _ _ h h32]

theorem State.bit_setb_same (s : State) (a i : Nat) (b : Bool) (h : i < 32) : (s.setb a i b).bit a i = b := by
  simp only [State.bit, State.rd_setb_same, getLsbD_setFieldOf_bit _ _ _ h]

end Sys2Proof.Machine
end

