-- ==== Sys2Proof/Laws/Events.lean ====
section
/-! SUPPORT. What raising an event may change, said once: `State.raise` keeps `EventOnly`. -/

namespace Sys2Proof.Machine

theorem EventOnly.refl (w : Nat → Bool) (s : State) : EventOnly w s s := ⟨rfl, fun _ _ _ => rfl⟩

theorem EventOnly.trans {w : Nat → Bool} {s t u : State} (h : EventOnly w s t) (k : EventOnly w t u) : EventOnly w s u := by
  refine ⟨?_, fun a ha he => (k.2 a ha he).trans (h.2 a ha he)⟩
  have h1 := h.1
  rw [k.1]
  rw [h1]

theorem EventOnly.mono {w w' : Nat → Bool} {s t : State} (hw : ∀ a, w a = true → w' a = true) (h : EventOnly w s t) :
    EventOnly w' s t :=
  ⟨h.1, fun a ha he => h.2 a (by
    cases hwa : w a with
    | false => rfl
    | true => rw [hw a hwa] at ha; exact absurd ha (by decide)) he⟩

/-- Nothing of `s` but its registers changed. -/
theorem RegsOnly.eventOnly {w : Nat → Bool} {s t : State} (h : RegsOnly w s t) : EventOnly w s t := by
  refine ⟨?_, fun a ha _ => h.2 a ha⟩
  have h1 := h.1
  rw [h1]

theorem RegsOnly.refl (w : Nat → Bool) (s : State) : RegsOnly w s s := ⟨rfl, fun _ _ => rfl⟩

theorem RegsOnly.trans {w : Nat → Bool} {s t u : State} (h : RegsOnly w s t) (k : RegsOnly w t u) : RegsOnly w s u := by
  refine ⟨?_, fun a ha => (k.2 a ha).trans (h.2 a ha)⟩
  have h1 := h.1
  rw [k.1]
  rw [h1]

theorem RegsOnly.wr {w : Nat → Bool} (s : State) {a : Nat} (v : Word) (h : w a = true) : RegsOnly w s (s.wr a v) := by
  refine ⟨rfl, fun b hb => State.rd_wr_ne s v ?_⟩
  rintro rfl
  rw [h] at hb
  exact absurd hb (by decide)

theorem RegsOnly.setf {w : Nat → Bool} (s : State) {a : Nat} (hi lo n : Nat) (h : w a = true) :
    RegsOnly w s (s.setf a hi lo n) := RegsOnly.wr s _ h

theorem RegsOnly.setb {w : Nat → Bool} (s : State) {a : Nat} (i : Nat) (b : Bool) (h : w a = true) :
    RegsOnly w s (s.setb a i b) := ⟨rfl, (RegsOnly.setf s i i b.toNat h).2⟩

/-- What only the model's record of the cycle changes. -/
theorem RegsOnly.cyc (w : Nat → Bool) (s : State) (c : CycleSt) : RegsOnly w s { s with cyc := c } := ⟨rfl, fun _ _ => rfl⟩

theorem RegsOnly.w1c {w : Nat → Bool} (s : State) {a : Nat} (m : Word) (h : w a = true) : RegsOnly w s (s.w1c a m) :=
  RegsOnly.wr s _ h

theorem RegsOnly.wr64 {w : Nat → Bool} (s : State) {a : Nat} (v : DWord) (h : w a = true) (h4 : w (a + 4) = true) :
    RegsOnly w s (s.wr64 a v) := (RegsOnly.wr s _ h).trans (RegsOnly.wr _ _ h4)

/-- A write of a register that events write. -/
theorem EventOnly.wrEvent {w : Nat → Bool} (s : State) {a : Nat} (v : Word) (h : eventReg a = true) :
    EventOnly w s (s.wr a v) := by
  refine ⟨rfl, fun b _ he => State.rd_wr_ne s v ?_⟩
  rintro rfl
  rw [h] at he
  exact absurd he (by decide)

theorem EventOnly.setbEvent {w : Nat → Bool} (s : State) {a : Nat} (i : Nat) (b : Bool) (h : eventReg a = true) :
    EventOnly w s (s.setb a i b) := ⟨rfl, (EventOnly.wrEvent (w := w) s (setFieldOf (s.rd a) i i b.toNat) h).2⟩

theorem EventOnly.cyc (w : Nat → Bool) (s : State) (c : CycleSt) : EventOnly w s { s with cyc := c } := ⟨rfl, fun _ _ _ => rfl⟩

theorem EventOnly.emit {w : Nat → Bool} (s : State) (o : Output) : EventOnly w s (s.emit o) := ⟨rfl, fun _ _ _ => rfl⟩

theorem eventReg_status (g : Nat) : eventReg (Reg.EVT_STATUS g) = true := by
  simp only [eventReg, Bool.or_eq_true]
  exact Or.inl (Or.inl (Or.inl (Or.inl (List.any_eq_true.mpr ⟨g % 16, List.mem_range.mpr (by omega), by simp⟩))))

theorem eventReg_folErr (f : Nat) : eventReg (Reg.FOL_ERR f) = true := by
  simp only [eventReg, Bool.or_eq_true]
  exact Or.inl (Or.inl (Or.inl (Or.inr (List.any_eq_true.mpr ⟨f % 64, List.mem_range.mpr (by omega), by simp⟩))))

theorem postMsix_eventOnly (w : Nat → Bool) (s : State) (v : Nat) : EventOnly w s (s.postMsix v) := by
  unfold State.postMsix
  split
  · exact EventOnly.emit s _
  · exact ⟨rfl, fun _ _ _ => rfl⟩

theorem sendMsix_eventOnly (w : Nat → Bool) (s : State) (v : Nat) : EventOnly w s (s.sendMsix v) := by
  unfold State.sendMsix
  split
  · split
    · exact EventOnly.refl w s
    · exact postMsix_eventOnly w s v
  · exact ⟨rfl, fun _ _ _ => rfl⟩

theorem deliverMsix_eventOnly (w : Nat → Bool) (s : State) (n : Nat) : EventOnly w s (s.deliverMsix n) := by
  unfold State.deliverMsix
  simp only
  split
  · exact sendMsix_eventOnly w s _
  · exact EventOnly.setbEvent s _ _ (eventReg_folErr _)

theorem driveClkreq_eventOnly (w : Nat → Bool) (s : State) (low : Bool) : EventOnly w s (s.driveClkreq low) := by
  unfold State.driveClkreq
  split
  · exact EventOnly.refl w s
  · exact ⟨rfl, fun _ _ _ => rfl⟩

theorem linkWake_eventOnly (w : Nat → Bool) (s : State) : EventOnly w s s.linkWake := by
  unfold State.linkWake
  split
  · split
    · exact EventOnly.refl w s
    · exact ⟨rfl, fun _ _ _ => rfl⟩
  · split
    · exact EventOnly.refl w s
    · exact driveClkreq_eventOnly w s true

theorem wakeBy_eventOnly (w : Nat → Bool) (s : State) (b : Nat) : EventOnly w s (s.wakeBy b) := by
  have hl : eventReg Reg.PWR_WAKE_LAST = true := by decide
  have hc : eventReg Reg.PWR_WAKE_CAUSE = true := by decide
  unfold State.wakeBy
  split
  · simp only
    have h1 : EventOnly w s (if s.pwr.exiting = true then s else s.wr Reg.PWR_WAKE_LAST 0) := by
      split
      · exact EventOnly.refl w s
      · exact EventOnly.wrEvent s _ hl
    generalize (if s.pwr.exiting = true then s else s.wr Reg.PWR_WAKE_LAST 0) = t at h1
    have h2 := (h1.trans (EventOnly.setbEvent (w := w) t b true hc)).trans (EventOnly.setbEvent (w := w) _ b true hl)
    generalize (t.setb Reg.PWR_WAKE_CAUSE b true).setb Reg.PWR_WAKE_LAST b true = u at h2
    have h3 : EventOnly w s { u with pwr := { u.pwr with exiting := true } } := h2.trans ⟨rfl, fun _ _ _ => rfl⟩
    split
    · exact h3.trans (linkWake_eventOnly w _)
    · exact h3
  · exact ⟨rfl, fun _ _ _ => rfl⟩

theorem setAlert_eventOnly (w : Nat → Bool) (s : State) (i : Nat) : EventOnly w s (s.setAlert i) := by
  have h := EventOnly.setbEvent (w := w) s i true (a := Reg.SMB_ALERT) (by decide)
  unfold State.setAlert State.driveAlert
  split
  · exact h
  · exact h.trans (EventOnly.emit _ _)

theorem deliver_eventOnly (w : Nat → Bool) (s : State) (n : Nat) (was : Bool) : EventOnly w s (s.deliver n was) := by
  unfold State.deliver
  split
  · split
    · exact (deliverMsix_eventOnly w s n).trans (wakeBy_eventOnly w _ 9)
    · exact EventOnly.trans ⟨rfl, fun _ _ _ => rfl⟩ (wakeBy_eventOnly w _ 9)
    · exact EventOnly.trans ⟨rfl, fun _ _ _ => rfl⟩ (wakeBy_eventOnly w _ 9)
    · split
      · exact EventOnly.refl w s
      · exact setAlert_eventOnly w s _
    · exact EventOnly.refl w s
  · exact EventOnly.refl w s

theorem raiseOne_eventOnly (w : Nat → Bool) (s : State) (n : Nat) : EventOnly w s (s.raiseOne n) := by
  have h := EventOnly.setbEvent (w := w) s (n % 32) true (eventReg_status (n / 32))
  unfold State.raiseOne State.noteRaise
  simp only
  split
  · exact h.trans (EventOnly.cyc w _ _)
  · exact (h.trans (EventOnly.cyc w _ _)).trans (deliver_eventOnly w _ n _)

/-- Raising an event changes what `EventOnly` names and nothing else. -/
theorem raise_eventOnly (w : Nat → Bool) (s : State) (n : Nat) : EventOnly w s (s.raise n) := by
  unfold State.raise
  simp only
  split
  · exact (raiseOne_eventOnly w s n).trans (raiseOne_eventOnly w _ _)
  · exact raiseOne_eventOnly w s n

theorem folErr_eventOnly (w : Nat → Bool) (s : State) (f i : Nat) : EventOnly w s (s.folErr f i) :=
  (EventOnly.setbEvent s _ _ (eventReg_folErr f)).trans (raise_eventOnly w _ _)

/-- A register that no event writes reads the same after a raise. -/
theorem raise_rd (s : State) {n a : Nat} (ha : eventReg a = false) : (s.raise n).rd a = s.rd a :=
  (raise_eventOnly (fun _ => false) s n).2 a rfl ha

/-- Delivery changes no status word. -/
theorem deliver_status (s : State) (n g : Nat) (was : Bool) :
    (s.deliver n was).rd (Reg.EVT_STATUS g) = s.rd (Reg.EVT_STATUS g) := by
  have ha : ∀ f, Reg.EVT_STATUS g ≠ Reg.FOL_ERR f := by
    intro f
    simp only [Reg.EVT_STATUS, Reg.FOL_ERR]
    omega
  have hb : Reg.EVT_STATUS g ≠ Reg.SMB_ALERT := by simp only [Reg.EVT_STATUS, Reg.SMB_ALERT]; omega
  have hc : Reg.EVT_STATUS g ≠ Reg.PWR_WAKE_CAUSE := by simp only [Reg.EVT_STATUS, Reg.PWR_WAKE_CAUSE]; omega
  have hl : Reg.EVT_STATUS g ≠ Reg.PWR_WAKE_LAST := by simp only [Reg.EVT_STATUS, Reg.PWR_WAKE_LAST]; omega
  have hw : ∀ (t : State) (b : Nat), (t.wakeBy b).rd (Reg.EVT_STATUS g) = t.rd (Reg.EVT_STATUS g) := by
    intro t b
    unfold State.wakeBy
    split
    · simp only
      have hk : ∀ (v : State), v.linkWake.rd (Reg.EVT_STATUS g) = v.rd (Reg.EVT_STATUS g) := by
        intro v
        unfold State.linkWake State.driveClkreq
        split <;> split <;> first | rfl | (split <;> rfl)
      have h0 : (if t.pwr.exiting = true then t else t.wr Reg.PWR_WAKE_LAST 0).rd (Reg.EVT_STATUS g) = t.rd (Reg.EVT_STATUS g) := by
        split
        · rfl
        · exact State.rd_wr_ne _ _ hl
      generalize (if t.pwr.exiting = true then t else t.wr Reg.PWR_WAKE_LAST 0) = u at h0
      have h1 : ((u.setb Reg.PWR_WAKE_CAUSE b true).setb Reg.PWR_WAKE_LAST b true).rd (Reg.EVT_STATUS g) = t.rd (Reg.EVT_STATUS g) := by
        rw [State.rd_setb_ne _ _ _ hl, State.rd_setb_ne _ _ _ hc, h0]
      split
      · rw [hk]; exact h1
      · exact h1
    · rfl
  have hp : ∀ (t : State) (v : Nat), (t.postMsix v).rd (Reg.EVT_STATUS g) = t.rd (Reg.EVT_STATUS g) := by
    intro t v
    unfold State.postMsix
    split <;> rfl
  have hs : ∀ (t : State) (v : Nat), (t.sendMsix v).rd (Reg.EVT_STATUS g) = t.rd (Reg.EVT_STATUS g) := by
    intro t v
    unfold State.sendMsix
    split
    · split
      · rfl
      · exact hp t v
    · rfl
  have hd : (s.deliverMsix n).rd (Reg.EVT_STATUS g) = s.rd (Reg.EVT_STATUS g) := by
    unfold State.deliverMsix
    simp only
    split
    · exact hs s _
    · exact State.rd_setb_ne s _ _ (ha _)
  unfold State.deliver
  split
  · split
    · rw [hw, hd]
    · rw [hw]; rfl
    · rw [hw]; rfl
    · split
      · rfl
      · unfold State.setAlert State.driveAlert
        split
        · exact State.rd_setb_ne s _ _ hb
        · exact State.rd_setb_ne s _ _ hb
    · rfl
  · rfl

/-- A raise of one source sets its status bit and clears none. -/
theorem raiseOne_status (s : State) (n m : Nat) (h : m = n ∨ s.evtStatus m = true) :
    (s.raiseOne n).evtStatus m = true := by
  have hd : (s.raiseOne n).rd (Reg.EVT_STATUS (m / 32)) =
      (s.setb (Reg.EVT_STATUS (n / 32)) (n % 32) true).rd (Reg.EVT_STATUS (m / 32)) := by
    unfold State.raiseOne
    simp only
    split
    · rfl
    · rw [deliver_status]; rfl
  unfold State.evtStatus State.bit
  rw [hd]
  by_cases hr : Reg.EVT_STATUS (m / 32) = Reg.EVT_STATUS (n / 32)
  · rw [hr, State.rd_setb_same, setFieldOf_getLsbD]
    have hm : m % 32 < 32 := Nat.mod_lt _ (by decide)
    rcases h with rfl | h
    · simp [hm]
    · unfold State.evtStatus State.bit at h
      rw [hr] at h
      by_cases he : m % 32 = n % 32
      · simp [he, Nat.mod_lt n (show 0 < 32 by decide)]
      · have hne : ¬ (m % 32 < 32 ∧ n % 32 ≤ m % 32 ∧ m % 32 ≤ n % 32) := by omega
        simp [hne, h]
  · rw [State.rd_setb_ne s _ _ hr]
    rcases h with rfl | h
    · exact absurd rfl hr
    · exact h

/-- A raised source has its status bit set, and no status bit clears. -/
theorem raise_status (s : State) (n m : Nat) (h : m = n ∨ s.evtStatus m = true) : (s.raise n).evtStatus m = true := by
  have h1 := raiseOne_status s n m h
  unfold State.raise
  simp only
  split
  · exact raiseOne_status _ _ m (Or.inr h1)
  · exact h1

@[simp] theorem raise_status_same (s : State) (n : Nat) : (s.raise n).evtStatus n = true := raise_status s n n (Or.inl rfl)

end Sys2Proof.Machine
end

