-- ==== Sys2Proof/Laws/Ops.lean ====
section
/-! SUPPORT. What the shared operations of registers, counters, byte strings and free values do, said once each. -/

namespace Sys2Proof.Machine

@[simp] theorem leBytes_length (k n : Nat) : (leBytes k n).length = k := by
  induction k generalizing n with
  | zero => rfl
  | succ k ih => simp [leBytes, ih]

@[simp] theorem beBytes_length (k n : Nat) : (beBytes k n).length = k := by simp [beBytes]

@[simp] theorem zeros_length (n : Nat) : (zeros n).length = n := by simp [zeros]

@[simp] theorem slice_length (b : Bytes) (o n : Nat) : (slice b o n).length = n := by simp [slice]

@[simp] theorem State.regBytes_length (s : State) (a n : Nat) : (s.regBytes a n).length = n := by simp [State.regBytes]

/-- A number read back from its little-endian bytes. -/
theorem ofLe_leBytes (k n : Nat) : ofLe (leBytes k n) = n % 256 ^ k := by
  induction k generalizing n with
  | zero => simp [leBytes, ofLe, Nat.mod_one]
  | succ k ih =>
    have h : (BitVec.ofNat 8 n).toNat = n % 256 := by simp
    rw [leBytes, ofLe, ih, h, Nat.pow_succ', Nat.mod_mul]

theorem ofBe_beBytes (k n : Nat) : ofBe (beBytes k n) = n % 256 ^ k := by simp [ofBe, beBytes, ofLe_leBytes]

/-- A 64-bit register just written. -/
@[simp] theorem State.rd64_wr64_same (s : State) (a : Nat) (v : DWord) : (s.wr64 a v).rd64 a = v := by
  have h : a ≠ a + 4 := by omega
  simp only [State.rd64, State.wr64, State.rd_wr_same, State.rd_wr_ne _ _ h]
  apply BitVec.eq_of_getLsbD_eq
  intro i hi
  rw [BitVec.getLsbD_append]
  by_cases h32 : i < 32
  · simp [h32]
  · have h64 : i - 32 < 32 := by omega
    have he : 32 + (i - 32) = i := by omega
    simp [h32, h64, he]

/-- A saturating count adds 1 or stays at all ones. -/
theorem State.fld_incSat (s : State) (a hi lo : Nat) (h : lo ≤ hi) (h32 : hi < 32) :
    (s.incSat a hi lo).fld a hi lo = min (s.fld a hi lo + 1) (2 ^ (hi + 1 - lo) - 1) := by
  have hlt : s.fld a hi lo < 2 ^ (hi + 1 - lo) := Nat.mod_lt _ (Nat.two_pow_pos _)
  unfold State.incSat
  by_cases hv : s.fld a hi lo + 1 < 2 ^ (hi + 1 - lo)
  · simp only [if_pos hv]
    rw [State.fld_setf_same s a hi lo _ h h32, Nat.mod_eq_of_lt hv]
    omega
  · simp only [if_neg hv]
    omega

theorem RegsOnly.incSat {w : Nat → Bool} (s : State) {a : Nat} (hi lo : Nat) (h : w a = true) : RegsOnly w s (s.incSat a hi lo) := by
  unfold State.incSat
  simp only
  split
  · exact RegsOnly.setf s _ _ _ h
  · exact RegsOnly.refl w s

theorem RegsOnly.addSat64 {w : Nat → Bool} (s : State) {a : Nat} (n : Nat) (h : w a = true) (h4 : w (a + 4) = true) :
    RegsOnly w s (s.addSat64 a n) := RegsOnly.wr64 s _ h h4

/-- A 64-bit count after an addition. -/
theorem State.rd64_addSat64 (s : State) (a n : Nat) :
    ((s.addSat64 a n).rd64 a).toNat = min ((s.rd64 a).toNat + n) (2 ^ 64 - 1) := by
  simp only [State.addSat64, State.rd64_wr64_same, BitVec.toNat_ofNat]
  exact Nat.mod_eq_of_lt (by omega)

/-- Taking free values advances the counter of free values and nothing else. -/
theorem State.freshWord_frame (s : State) : s.freshWord.2 = { s with freeCtr := s.freeCtr + 1 } := rfl

theorem State.freshBytes_frame (s : State) (n : Nat) : (s.freshBytes n).2 = { s with freeCtr := s.freeCtr + 1 } := rfl

@[simp] theorem State.freshBytes_length (s : State) (n : Nat) : (s.freshBytes n).1.length = n := by simp [State.freshBytes]

@[simp] theorem State.drbgDraw_length (s : State) (i n : Nat) : (s.drbgDraw i n).1.length = n := by simp [State.drbgDraw]

end Sys2Proof.Machine
end

