-- ==== Sys2Proof/Laws/Crypto.lean ====
section
/-! SUPPORT. How long the answers of the published algorithms are, and that a key stream undoes itself. -/

namespace Sys2Proof.Machine

@[simp] theorem fitTo_length (n : Nat) (b : Bytes) : (fitTo n b).length = n := by simp [fitTo]; omega

@[simp] theorem Sha2.hash_length (h : Sha2) (n : Nat) (m : Bytes) : (h.hash n m).length = n := by simp [Sha2.hash]

@[simp] theorem sponge_length (r sep n : Nat) (m : Bytes) : (sponge r sep n m).length = n := by simp [sponge]

@[simp] theorem digest_length (alg n : Nat) (m : Bytes) : (digest alg n m).length = n := by unfold digest; split <;> simp

@[simp] theorem sha384_length (m : Bytes) : (sha384 m).length = 48 := by simp [sha384]

@[simp] theorem hmac_length (alg n : Nat) (k m : Bytes) : (hmac alg n k m).length = n := by simp [hmac]

@[simp] theorem hmac384_length (k m : Bytes) : (hmac384 k m).length = 48 := by simp [hmac384]

@[simp] theorem kmac_length (alg n : Nat) (k c m : Bytes) : (kmac alg n k c m).length = n := by unfold kmac; simp [kmacAt]

@[simp] theorem keyStream_length (alg : Nat) (k nonce tag : Bytes) (n : Nat) : (keyStream alg k nonce tag n).length = n := by unfold keyStream; exact fitTo_length ..

@[simp] theorem aeadTag_length (alg : Nat) (k nonce aad t : Bytes) : (aeadTag alg k nonce aad t).length = 16 := by unfold aeadTag; exact fitTo_length ..

@[simp] theorem kemPublic_length (seeds : Bytes) : (kemPublic seeds).length = 1568 := by unfold kemPublic; exact fitTo_length ..

@[simp] theorem kemEncaps_ciphertext_length (ek m : Bytes) : (kemEncaps ek m).1.length = 1568 := by unfold kemEncaps; exact fitTo_length ..

@[simp] theorem kemEncaps_secret_length (ek m : Bytes) : (kemEncaps ek m).2.length = 32 := by unfold kemEncaps; exact fitTo_length ..

@[simp] theorem kemDecaps_length (seeds ct : Bytes) : (kemDecaps seeds ct).length = 32 := by unfold kemDecaps; exact fitTo_length ..

@[simp] theorem xorBytes_length (a b : Bytes) : (xorBytes a b).length = min a.length b.length := by simp [xorBytes]

/-- A stream put on twice leaves the bytes. -/
theorem xorBytes_twice (l k : Bytes) (h : l.length ≤ k.length) : xorBytes (xorBytes l k) k = l := by
  induction l generalizing k with
  | nil => simp [xorBytes]
  | cons x l ih =>
    cases k with
    | nil => simp at h
    | cons y k =>
      simp only [xorBytes, List.zipWith_cons_cons] at ih ⊢
      rw [ih k (by simpa using h), BitVec.xor_assoc, BitVec.xor_self, BitVec.xor_zero]

end Sys2Proof.Machine
end

