-- ==== Sys2Proof/Laws/Memory.lean ====
section
/-! SUPPORT. Memory: the canonical form is kept by every write and erase, and what a byte reads as afterwards. -/

namespace Sys2Proof.Machine

theorem tabWrite_wf (d : Nat → Byte) {t : Tab Byte} (h : Tab.wf d t) (a : Nat) (b : Bytes) : Tab.wf d (tabWrite d t a b) := by
  induction b generalizing t a with
  | nil => exact h
  | cons x r ih => exact ih (Tab.set_wf d h a x) (a + 1)

/-- A byte after a write of `b` at `a`: the byte written there, else what it was. -/
theorem tabWrite_get (d : Nat → Byte) (t : Tab Byte) (a : Nat) (b : Bytes) (x : Nat) :
    Tab.get d (tabWrite d t a b) x = if a ≤ x ∧ x < a + b.length then b.getD (x - a) 0 else Tab.get d t x := by
  induction b generalizing t a with
  | nil =>
    have hn : ¬(a ≤ x ∧ x < a + ([] : Bytes).length) := by simp
    rw [if_neg hn]; rfl
  | cons y r ih =>
    rw [tabWrite, ih, Tab.get_set]
    by_cases hx : x = a
    · subst hx
      have hn : ¬(x + 1 ≤ x ∧ x < x + 1 + r.length) := by omega
      have hp : x ≤ x ∧ x < x + (y :: r).length := by simp
      rw [if_neg hn, if_pos rfl, if_pos hp]; simp
    · by_cases hin : a ≤ x ∧ x < a + (y :: r).length
      · have h1 : a + 1 ≤ x ∧ x < a + 1 + r.length := by simp at hin; omega
        rw [if_pos h1, if_pos hin]
        have h2 : x - a = (x - (a + 1)) + 1 := by omega
        rw [h2]; simp
      · have h1 : ¬(a + 1 ≤ x ∧ x < a + 1 + r.length) := by simp at hin; omega
        rw [if_neg h1, if_neg hin, if_neg hx]

theorem reset_mem_wf : Memory.wf State.reset.mem := by decide

theorem sramWrite_wf (s : State) (a : Nat) (b : Bytes) (h : Memory.wf s.mem) : Memory.wf (s.sramWrite a b).mem :=
  ⟨tabWrite_wf zeroByte h.1 a b, h.2⟩

theorem flashWrite_wf (s : State) (o : Nat) (b : Bytes) (h : Memory.wf s.mem) : Memory.wf (s.flashWrite o b).mem :=
  ⟨h.1, tabWrite_wf onesByte h.2 o b⟩

theorem flashErased_wf (s : State) (o n : Nat) (h : Memory.wf s.mem) : Memory.wf (s.flashErased o n).mem :=
  ⟨h.1, Tab.clear_wf onesByte h.2 fun a => decide (o ≤ a ∧ a < o + n)⟩

theorem setMram_wf (s : State) (a : Nat) (b : Bytes) (h : Tab.wf zeroByte s.colo.mram) : Tab.wf zeroByte (s.setMram a b).colo.mram :=
  tabWrite_wf zeroByte h a b

/-- A write of SRAM changes nothing but the memories. -/
theorem sramWrite_frame (s : State) (a : Nat) (b : Bytes) : s.sramWrite a b = { s with mem := (s.sramWrite a b).mem } := rfl

theorem flashWrite_frame (s : State) (o : Nat) (b : Bytes) :
    s.flashWrite o b = { s with mem := { s.mem with flash := (s.flashWrite o b).mem.flash } } := rfl

theorem flashErased_frame (s : State) (o n : Nat) :
    s.flashErased o n = { s with mem := { s.mem with flash := (s.flashErased o n).mem.flash } } := rfl

/-- Erased cells read all ones, the others as before. -/
theorem flashErased_get (s : State) (o n x : Nat) :
    Tab.get onesByte (s.flashErased o n).mem.flash x = if o ≤ x ∧ x < o + n then 0xFF else Tab.get onesByte s.mem.flash x := by
  simp only [State.flashErased, Tab.get_clear, decide_eq_true_eq]
  rfl

/-- A byte of memory after a write that lies in SRAM: the byte written there, else what it was. -/
theorem memByte_sramWrite (s : State) (a : Nat) (b : Bytes) (x : Nat) (h : inSram a b.length = true) :
    (s.sramWrite a b).memByte x = if a ≤ x ∧ x < a + b.length then b.getD (x - a) 0 else s.memByte x := by
  have hg := tabWrite_get zeroByte s.mem.sram a b x
  have hs : (s.sramWrite a b).mem.sram = tabWrite zeroByte s.mem.sram a b := rfl
  simp only [inSram, Bool.or_eq_true, decide_eq_true_eq] at h
  by_cases hin : a ≤ x ∧ x < a + b.length
  · rw [if_pos hin] at hg ⊢
    have hm : memOf x = .scribe ∨ memOf x = .shared := by
      rcases h with h | h
      · left
        have h1 : ¬x < 0x40000 := by omega
        have h2 : 0x10000000 ≤ x ∧ x < 0x10400000 := by omega
        simp only [memOf, if_neg h1, if_pos h2]
      · right
        have h1 : ¬x < 0x40000 := by omega
        have h2 : ¬(0x10000000 ≤ x ∧ x < 0x10400000) := by omega
        have h3 : 0x20000000 ≤ x ∧ x < 0x22000000 := by omega
        simp only [memOf, if_neg h1, if_neg h2, if_pos h3]
    rcases hm with hm | hm <;> · unfold State.memByte; rw [hm]; simpa [hs] using hg
  · rw [if_neg hin] at hg ⊢
    unfold State.memByte
    split <;> first
      | rfl
      | (rw [hs]; exact hg)

end Sys2Proof.Machine
end

