-- ==== Sys2Proof/WellFormed.lean ====
section
/-! DEFINITION. Well-formedness of commands: every index, address and code lies in the range the spec gives it. The meanings
are total: no command is turned away for being ill-formed, and an index out of range is answered as its meaning says. -/

namespace Sys2Proof

/-- A Tenant is one of folios 0 to 63. -/
def Party.wf : Party → Bool
  | .tenant f => decide (f < 64)
  | .scribe | .draft | .manager | .bmc => true

/-- A transaction has an initiator of Table RUL-3, at least one byte and lies in the 40-bit address space. -/
def Access.wf (a : Access) : Bool := decide (a.init < 32) && decide (0 < a.len) && decide (a.addr + a.len ≤ 2 ^ 40) && a.folio.all (· < 64)

/-- A row that the part has. -/
def OtpRow.wf : OtpRow → Bool
  | .token n => decide (0 < n) && decide (n < 8)
  | .vendor p => decide (p < 4)
  | .customer k p => decide (k < 4) && decide (p < 4)
  | .custodian r p => decide (r < 32) && decide (p < 3)
  | .floor c => decide (c < 3)
  | .lcyWord | .thermometer | .serial | .ident | .devm => true

/-- Eight pairs of four channels, four mesh loops, two light sensors, and a lowest voltage not above the highest. -/
def BlotSample.wf (x : BlotSample) : Bool :=
  decide (x.a < 256) && decide (x.b < 256) && decide (x.mesh < 16) && decide (x.light < 4) && decide (x.vMin ≤ x.vMax)

/-- Three straps. -/
def BootIn.wf (x : BootIn) : Bool := decide (x.straps < 8)

/-- A 7-bit address. -/
def SmbTx.wf (t : SmbTx) : Bool := decide (t.addr < 128)

/-- Contexts of the two interrupt controllers: 3 of the Scribe's, 16 of the Draft's. -/
def ctxOk : World → Nat → Bool
  | .scribe, c => decide (c < 3)
  | .draft, c => decide (c < 16)

/-- The command's operands are in range. -/
def Instr.wf : Instr → Bool
  | .registerWrite p a _ => p.wf && decide (a % 4 = 0) && decide (a < 2 ^ 40)
  | .stimeTick => true
  | .keeperHandover _ => true
  | .timeSet _ => true
  | .timeStepS _ => true
  | .timeStepD _ => true
  | .timeRateD p _ => p.wf
  | .timeNowLo _ => true
  | .strokeEntryWrite p n word _ => p.wf && decide (n < 1024) && decide (word < 8)
  | .strokeLaunch => true
  | .ppsPulseEnd => true
  | .lumroFrameTx => true
  | .lumroFrameRx _ => true
  | .ppsInEdge => true
  | .lumroWindowExpiry => true
  | .gateRelease => true
  | .gateTimeout => true
  | .ductCmdLoad _ => true
  | .liveLoadComplete => true
  | .ductCmdDiscard _ => true
  | .ductCmdSwap _ => true
  | .porstNAssert => true
  | .porstNRise x => x.wf
  | .bootTestsDone _ _ _ => true
  | .ductusBankVerified _ _ => true
  | .scribeImageChecked _ _ => true
  | .draftRelease _ => true
  | .bootRcvGo _ => true
  | .recoveryItemDone _ _ => true
  | .bootFloorCmdGo _ _ => true
  | .bootMeasExtend _ => true
  | .lcySubmit => true
  | .lcyCheckDone => true
  | .lcyRequestComplete _ => true
  | .lcySelfReset x => x.wf
  | .lcyNonce => true
  | .idcode => true
  | .bypass => true
  | .extest _ => true
  | .samplePreload _ _ => true
  | .clamp => true
  | .highz => true
  | .testLogicReset x => x.wf
  | .lcTransition code => decide (code < 16)
  | .tokenUnlock token => decide (token < 2 ^ 128)
  | .debugAuthEmpty => true
  | .debugAuthAppend _ => true
  | .debugAuthNonce => true
  | .debugAuthSelect arg => decide (arg < 8)
  | .debugAuthSubmit => true
  | .debugAuthCapture => true
  | .otpAccess r _ => r.wf
  | .scanEntry => true
  | .dtmcs => true
  | .dmi a _ => decide (a < 128)
  | .haltRequest h => decide (h < 9)
  | .accessRegister h _ _ => decide (h < 9)
  | .systemBusAccess _ len _ _ => [1, 2, 4, 8].contains len
  | .wrldClaim _ => true
  | .wrldYield core => decide (core < 8)
  | .claimGraceExpiry core => decide (core < 8)
  | .wrldReturn core => decide (core < 8)
  | .lendMaxExpiry core => decide (core < 8)
  | .worldSwitchComplete core => decide (core < 8)
  | .wrldWdKick _ => true
  | .watchdogExpiry => true
  | .wrldReady _ => true
  | .wrldSelfFail _ => true
  | .lockstepDivergence => true
  | .scribeRestartImageDone _ => true
  | .restartBudgetExpiry => true
  | .machineTimerInterrupt hart => decide (hart < 9)
  | .coreAccess acc data _ _ => acc.wf && decide (data < 2 ^ (8 * acc.len))
  | .rulSetCmd u _ => decide (u < 7)
  | .rulStageCommit u _ => decide (u < 7)
  | .rulLock u _ => decide (u < 7)
  | .rootGenerate _ => true
  | .domCreate _ => true
  | .domOpen _ => true
  | .genLoad _ => true
  | .genCreate _ => true
  | .genSwitch _ => true
  | .domClose _ => true
  | .domRewrite _ => true
  | .eraseSlot _ => true
  | .eraseFolio _ => true
  | .eraseAll _ => true
  | .revalidate _ => true
  | .rsvCommandComplete => true
  | .slotEraseDone => true
  | .cerOpen _ => true
  | .cerCount _ => true
  | .cerClose _ => true
  | .enrol _ => true
  | .revoke _ => true
  | .devmRaise _ => true
  | .succBuild _ => true
  | .restoreShare _ => true
  | .restoreFinish _ => true
  | .handoverExport _ => true
  | .handoverImport _ => true
  | .custCommandComplete _ => true
  | .ceremonyExpiry => true
  | .ringDbSq f _ _ => decide (f < 64)
  | .ringDbCq f _ _ => decide (f < 64)
  | .ringEnable n => decide (n < 128)
  | .ringDisable n => decide (n < 128)
  | .ringDrained n => decide (n < 128)
  | .descriptorFetch _ => true
  | .duplicateRelease => true
  | .chainRelease => true
  | .admission c _ _ _ => decide (c < 6)
  | .seal _ _ => true
  | .openNib _ _ => true
  | .transcribe _ _ => true
  | .hash _ _ => true
  | .hmac _ _ => true
  | .kmac _ _ => true
  | .sign _ _ => true
  | .verify _ _ => true
  | .encaps _ _ => true
  | .decaps _ _ => true
  | .ecdh _ _ => true
  | .keyGenerate _ _ => true
  | .random _ _ => true
  | .blobLoad _ _ => true
  | .blobEvict _ => true
  | .keyRewrap _ _ => true
  | .fence n => decide (n < 128)
  | .nop n => decide (n < 128)
  | .timeRead n => decide (n < 128)
  | .operationComplete _ _ => true
  | .coalesceTimerExpiry n => decide (n < 128)
  | .noiseSourceFail n rct apt => decide (n < 4) && (rct || apt)
  | .entSourceRestart _ => true
  | .sourceStartupTestDone n _ _ => decide (n < 4)
  | .entDrbgReseed _ => true
  | .drbgInstantiate => true
  | .drbgHoldExpiry k => decide (k < 3)
  | .directDrawTimeout => true
  | .entRngS => true
  | .entRngD => true
  | .configRequest _ _ => true
  | .hostMmioAccess bar _ _ _ _ => [0, 2, 4].contains bar
  | .busMasterEnable _ => true
  | .pmStateChange _ => true
  | .hostReadCompletion _ _ _ => true
  | .completionTimeout _ => true
  | .atsInvalidateRequest tag _ _ _ _ => decide (tag < 32)
  | .atsInvalidateCompletion => true
  | .functionLevelReset => true
  | .perstNAssert => true
  | .perstNDeassert => true
  | .quiesce f => decide (f < 64)
  | .folioQuiesced f => decide (f < 64)
  | .resume f => decide (f < 64)
  | .reset f => decide (f < 64)
  | .destroy f => decide (f < 64)
  | .t2mFull f => decide (f < 64)
  | .m2tFull f => decide (f < 64)
  | .scribeMailboxReq => true
  | .scribeMailboxRsp => true
  | .folioCreate => true
  | .aclGrant _ => true
  | .aclRevoke => true
  | .mbxCerOpen _ _ _ _ _ => true
  | .cerCountersign _ _ => true
  | .cerStatus => true
  | .mbxCerClose => true
  | .shareDeliver _ _ _ _ => true
  | .domainAction _ _ _ _ _ => true
  | .ductusLoad _ _ => true
  | .ductusSwap => true
  | .ductusDiscard => true
  | .signerEnrol _ => true
  | .signerRevoke _ _ => true
  | .floorRaise _ => true
  | .handoverStart _ => true
  | .mbxTimeSet => true
  | .tokenBucketRefill => true
  | .schFcCtl f c _ => decide (f < 64) && decide (c < 6)
  | .frameReceive p _ => decide (p < 2)
  | .portModeWrite p _ => decide (p < 2)
  | .recal p => decide (p < 2)
  | .portTempCheck p => decide (p < 2)
  | .synthLossOfLock p => decide (p < 2)
  | .relockComplete p => decide (p < 2)
  | .linkUp x => decide (x.port < 2)
  | .pcsAlignmentLoss p => decide (p < 2)
  | .txHoldTimeout p => decide (p < 2)
  | .portPtpTxtsInfo p => decide (p < 2)
  | .hsInit => true
  | .hsResp => true
  | .hsFin => true
  | .request => true
  | .handoverOffer _ _ _ => true
  | .handoverPackage _ => true
  | .handoverRefuse => true
  | .handshakeTimeout _ _ => true
  | .reassemblyTimeout _ _ => true
  | .tenantEntryWrite p n w _ => p.wf && decide (n < 256) && decide (w < 32)
  | .quilTxTail p q _ => p.wf && decide (q < 9)
  | .frameTransmit q => decide (q < 9)
  | .quilTblWrite p => p.wf
  | .quilTblRead => true
  | .quilValidate => true
  | .quilValidateDone => true
  | .quilCtlSwap target => decide (target < 2)
  | .quilRateRefill => true
  | .quilRateWrite c _ => decide (c < 16)
  | .blotterSample x => x.wf
  | .blotEraseDone => true
  | .blotOutRelease => true
  | .crystalStable => true
  | .crystalStop => true
  | .vbatMeasure _ => true
  | .vddAonGood => true
  | .vddAonLoss => true
  | .blotterPowerLoss => true
  | .vcoreExcursion _ => true
  | .pllLockLoss => true
  | .alarmEscalation n => decide (n < 16)
  | .blotAck p _ => p.wf
  | .opsecTick _ => true
  | .epochClose => true
  | .epochRecordWritten _ => true
  | .coloSnap => true
  | .proofCmdStart p _ _ => p.wf
  | .proofSliceStart => true
  | .proofSliceEnd _ _ => true
  | .proofPark core => decide (core < 8)
  | .proofParkGraceExpiry core => decide (core < 8)
  | .eccWriteback _ => true
  | .scrubStep which _ => decide (which < 3)
  | .xspiProgram _ _ core => decide (core < 9)
  | .xspiErase _ _ core => decide (core < 9)
  | .xspiCommandDone _ => true
  | .xspiLock _ => true
  | .wipeDone _ => true
  | .conCharReceived n c => decide (n < 2) && decide (c.data < 512)
  | .conCharSent n _ => decide (n < 2)
  | .conTxdata n _ => decide (n < 2)
  | .conRxdata n => decide (n < 2)
  | .conCfgWrite n _ _ => decide (n < 2)
  | .flushTx n => decide (n < 2)
  | .flushRx n => decide (n < 2)
  | .conResume n => decide (n < 2)
  | .sendBreak n => decide (n < 2)
  | .conPauseTimeout n => decide (n < 2)
  | .rs485TailEnd n => decide (n < 2)
  | .conRxIdleTimeout n => decide (n < 2)
  | .consoleBreak n => decide (n < 2)
  | .statusGet chars => chars.all (· < 65536)
  | .requestGet chars => chars.all (· < 65536)
  | .packageGet chars _ => chars.all (· < 65536)
  | .countersign chars _ => chars.all (· < 65536)
  | .share chars _ _ _ => chars.all (· < 65536)
  | .unknownFrame chars => chars.all (· < 65536)
  | .status t => t.wf
  | .ident t => t.wf
  | .alertStat t => t.wf
  | .alertMask t => t.wf
  | .lcyState t => t.wf
  | .lcyWord t => t.wf
  | .lcyResult t => t.wf
  | .lcyRights t => t.wf
  | .lcyDebugCount t => t.wf
  | .bootStat t => t.wf
  | .bootTime t => t.wf
  | .bootSerial t => t.wf
  | .bootIdent t => t.wf
  | .bootImgStat t => t.wf
  | .bootFloorOtp t => t.wf
  | .bootSigner t => t.wf
  | .ductStat t => t.wf
  | .ductConfigId t => t.wf
  | .ductConfigRev t => t.wf
  | .ductVersion t => t.wf
  | .wrldStat t => t.wf
  | .wrldCfg t => t.wf
  | .wrldFailTime t => t.wf
  | .wrldReadyTime t => t.wf
  | .rsvStat t => t.wf
  | .custStat t => t.wf
  | .entStat t => t.wf
  | .portStat t => t.wf
  | .svcEk t => t.wf
  | .blotStat t => t.wf
  | .blotCause t => t.wf
  | .blotActive t => t.wf
  | .blotAlarm t => t.wf
  | .blotAlarmActive t => t.wf
  | .blotTime t => t.wf
  | .blotOpsec t => t.wf
  | .blotPcc t => t.wf
  | .blotNear t => t.wf
  | .blotMeshNear t => t.wf
  | .blotSense t => t.wf
  | .coloStat t => t.wf
  | .coloOpsec t => t.wf
  | .coloPcc t => t.wf
  | .coloNextClose t => t.wf
  | .coloPage x => x.tx.wf
  | .coloLive t => t.wf
  | .proofStat t => t.wf
  | .proofBoot t => t.wf
  | .memStat t => t.wf
  | .memEcc t => t.wf
  | .memWipeStat t => t.wf
  | .evtStatus t => t.wf
  | .evtClear t => t.wf
  | .quickCommand addr _ => decide (addr < 128)
  | .alertResponse _ _ => true
  | .smbClockTimeout addr cmd => decide (addr < 128) && decide (cmd < 256)
  | .smbProtocolBreach addr cmd => decide (addr < 128) && decide (cmd < 256)
  | .smbAddressMatch addr x => decide (addr < 128) && x.wf
  | .smbStretchLimit addr => decide (addr < 128)
  | .powerStateEntry _ _ _ => true
  | .aspmL1Entry => true
  | .preWake => true
  | .wake _ levels x => decide (levels < 256) && x.wf
  | .powerExitComplete => true
  | .pwrHint p _ => p.wf
  | .standbyEntry _ _ _ _ => true
  | .evtRouteWrite p n _ => p.wf && decide (n < 512)
  | .evtStatusClear p g _ => p.wf && decide (g < 16)
  | .folTEvt f _ => decide (f < 64)
  | .msixVectorUnmask v => decide (v < 512)
  | .plicClaim w ctx => ctxOk w ctx
  | .plicComplete w ctx _ => ctxOk w ctx
  | .atsTranslationCompletion _ _ _ _ _ _ _ => true
  | .linkReachesL0 => true
  | .pauseTimeExpiry p prio => decide (p < 2) && prio.all (· < 8)
  | .folioResetComplete f => f.all (· < 64)
  | .dmaTransfer _ _ _ _ _ => true
  | .hsDone => true
  | .hsReject => true
  | .unlistedCommandCode code t => decide (code < 256) && t.wf
  | .conBreakEnd n => decide (n < 2)

end Sys2Proof
end

