-- ==== Sys2Proof/Tests/Slice0.lean ====
section
/-! SUPPORT. The author's own tests: ill-formed commands that WellFormed refuses, a few values that the spec's cases and the
published standards give, and for each statement of the obligations states and operands that meet the hypotheses of its clauses
together, clause by clause in the statement's order.

Not shown by a concrete state: the clauses whose hypotheses have an ML-DSA-87 signature pass, which is too long to build here
(LifeCycleRequests, an accepted certificate; CeremonyAndEnrolment, a counted countersignature). -/

namespace Sys2Proof.Machine

set_option maxRecDepth 10000
set_option linter.unusedVariables false
set_option Elab.async false

/-! ## WellFormed refuses -/

theorem test_ill_formed_refused_0 : ([
    .registerWrite (.tenant 64) 0 (.w4 0),
    .registerWrite .scribe 2 (.w4 0),
    .registerWrite .scribe (2 ^ 40) (.w4 0),
    .timeRateD (.tenant 64) 0,
    .strokeEntryWrite (.tenant 64) 0 0 0,
    .strokeEntryWrite .scribe 1024 0 0,
    .strokeEntryWrite .scribe 0 8 0,
    .porstNRise ⟨8, true, none, 256, false, 1800, true⟩,
    .lcySelfReset ⟨8, true, none, 256, false, 1800, true⟩,
    .testLogicReset ⟨8, true, none, 256, false, 1800, true⟩,
    .lcTransition 16,
    .tokenUnlock (2 ^ 128),
    .debugAuthSelect 8,
    .otpAccess (.token 8) none,
    .dmi 128 none,
    .haltRequest 9,
    .accessRegister 9 0 none,
    .systemBusAccess 0 3 none .clean,
    .wrldYield 8,
    .claimGraceExpiry 8] : List Instr).all (fun i => !i.wf) = true := by decide

theorem test_ill_formed_refused_1 : ([
    .wrldReturn 8,
    .lendMaxExpiry 8,
    .worldSwitchComplete 8,
    .machineTimerInterrupt 9,
    .coreAccess ⟨0, 0, .read, 0, .scribe, .m, none⟩ 0 .clean {},
    .coreAccess ⟨0, 1, .read, 0, .scribe, .m, none⟩ 256 .clean {},
    .rulSetCmd 7 0,
    .rulStageCommit 7 0,
    .rulLock 7 (.both 0),
    .ringDbSq 64 0 0,
    .ringDbCq 64 0 0,
    .ringEnable 128,
    .ringDisable 128,
    .ringDrained 128,
    .admission 6 0 0 {},
    .fence 128,
    .nop 128,
    .timeRead 128,
    .coalesceTimerExpiry 128,
    .noiseSourceFail 4 false false] : List Instr).all (fun i => !i.wf) = true := by decide

theorem test_ill_formed_refused_2 : ([
    .noiseSourceFail 0 false false,
    .sourceStartupTestDone 4 false false,
    .drbgHoldExpiry 3,
    .hostMmioAccess 3 0 0 none ⟨false, .clean⟩,
    .atsInvalidateRequest 32 none 0 0 false,
    .quiesce 64,
    .folioQuiesced 64,
    .resume 64,
    .reset 64,
    .destroy 64,
    .t2mFull 64,
    .m2tFull 64,
    .schFcCtl 64 0 0,
    .schFcCtl 0 6 0,
    .frameReceive 2 [],
    .portModeWrite 2 0,
    .recal 2,
    .portTempCheck 2,
    .synthLossOfLock 2,
    .relockComplete 2] : List Instr).all (fun i => !i.wf) = true := by decide

theorem test_ill_formed_refused_3 : ([
    .linkUp ⟨2, 0⟩,
    .pcsAlignmentLoss 2,
    .txHoldTimeout 2,
    .portPtpTxtsInfo 2,
    .tenantEntryWrite (.tenant 64) 0 0 0,
    .tenantEntryWrite .scribe 256 0 0,
    .tenantEntryWrite .scribe 0 32 0,
    .quilTxTail (.tenant 64) 0 0,
    .quilTxTail .scribe 9 0,
    .frameTransmit 9,
    .quilTblWrite (.tenant 64),
    .quilCtlSwap 2,
    .quilRateWrite 16 0,
    .blotterSample ⟨256, 0, 0, 0, true, 40, 50, 800, 800, 0, 0, true, true⟩,
    .alarmEscalation 16,
    .blotAck (.tenant 64) 0,
    .proofCmdStart (.tenant 64) false 0,
    .proofPark 8,
    .proofParkGraceExpiry 8,
    .scrubStep 3 .clean] : List Instr).all (fun i => !i.wf) = true := by decide

theorem test_ill_formed_refused_4 : ([
    .xspiProgram .scribe .m 9,
    .xspiErase .scribe .m 9,
    .conCharReceived 2 ⟨255, true, true, false, true⟩,
    .conCharReceived 0 ⟨512, true, true, false, true⟩,
    .conCharSent 2 false,
    .conTxdata 2 0,
    .conRxdata 2,
    .conCfgWrite 2 .cfg 0,
    .flushTx 2,
    .flushRx 2,
    .conResume 2,
    .sendBreak 2,
    .conPauseTimeout 2,
    .rs485TailEnd 2,
    .conRxIdleTimeout 2,
    .consoleBreak 2,
    .statusGet [65536],
    .requestGet [65536],
    .packageGet [65536] 0,
    .countersign [65536] 0] : List Instr).all (fun i => !i.wf) = true := by decide

theorem test_ill_formed_refused_5 : ([
    .share [65536] 0 0 0,
    .unknownFrame [65536],
    .status ⟨128, [], true, true⟩,
    .ident ⟨128, [], true, true⟩,
    .alertStat ⟨128, [], true, true⟩,
    .alertMask ⟨128, [], true, true⟩,
    .lcyState ⟨128, [], true, true⟩,
    .lcyWord ⟨128, [], true, true⟩,
    .lcyResult ⟨128, [], true, true⟩,
    .lcyRights ⟨128, [], true, true⟩,
    .lcyDebugCount ⟨128, [], true, true⟩,
    .bootStat ⟨128, [], true, true⟩,
    .bootTime ⟨128, [], true, true⟩,
    .bootSerial ⟨128, [], true, true⟩,
    .bootIdent ⟨128, [], true, true⟩,
    .bootImgStat ⟨128, [], true, true⟩,
    .bootFloorOtp ⟨128, [], true, true⟩,
    .bootSigner ⟨128, [], true, true⟩,
    .ductStat ⟨128, [], true, true⟩,
    .ductConfigId ⟨128, [], true, true⟩] : List Instr).all (fun i => !i.wf) = true := by decide

theorem test_ill_formed_refused_6 : ([
    .ductConfigRev ⟨128, [], true, true⟩,
    .ductVersion ⟨128, [], true, true⟩,
    .wrldStat ⟨128, [], true, true⟩,
    .wrldCfg ⟨128, [], true, true⟩,
    .wrldFailTime ⟨128, [], true, true⟩,
    .wrldReadyTime ⟨128, [], true, true⟩,
    .rsvStat ⟨128, [], true, true⟩,
    .custStat ⟨128, [], true, true⟩,
    .entStat ⟨128, [], true, true⟩,
    .portStat ⟨128, [], true, true⟩,
    .svcEk ⟨128, [], true, true⟩,
    .blotStat ⟨128, [], true, true⟩,
    .blotCause ⟨128, [], true, true⟩,
    .blotActive ⟨128, [], true, true⟩,
    .blotAlarm ⟨128, [], true, true⟩,
    .blotAlarmActive ⟨128, [], true, true⟩,
    .blotTime ⟨128, [], true, true⟩,
    .blotOpsec ⟨128, [], true, true⟩,
    .blotPcc ⟨128, [], true, true⟩,
    .blotNear ⟨128, [], true, true⟩] : List Instr).all (fun i => !i.wf) = true := by decide

theorem test_ill_formed_refused_7 : ([
    .blotMeshNear ⟨128, [], true, true⟩,
    .blotSense ⟨128, [], true, true⟩,
    .coloStat ⟨128, [], true, true⟩,
    .coloOpsec ⟨128, [], true, true⟩,
    .coloPcc ⟨128, [], true, true⟩,
    .coloNextClose ⟨128, [], true, true⟩,
    .coloPage ⟨⟨128, [], true, true⟩, .clean⟩,
    .coloLive ⟨128, [], true, true⟩,
    .proofStat ⟨128, [], true, true⟩,
    .proofBoot ⟨128, [], true, true⟩,
    .memStat ⟨128, [], true, true⟩,
    .memEcc ⟨128, [], true, true⟩,
    .memWipeStat ⟨128, [], true, true⟩,
    .evtStatus ⟨128, [], true, true⟩,
    .evtClear ⟨128, [], true, true⟩,
    .quickCommand 128 false,
    .smbClockTimeout 128 0,
    .smbClockTimeout 0 256,
    .smbProtocolBreach 128 0,
    .smbProtocolBreach 0 256] : List Instr).all (fun i => !i.wf) = true := by decide

theorem test_ill_formed_refused_8 : ([
    .smbAddressMatch 128 ⟨7, true, none, 256, false, 1800, true⟩,
    .smbAddressMatch 0 ⟨8, true, none, 256, false, 1800, true⟩,
    .smbStretchLimit 128,
    .wake 0 256 ⟨7, true, none, 256, false, 1800, true⟩,
    .wake 0 0 ⟨8, true, none, 256, false, 1800, true⟩,
    .pwrHint (.tenant 64) 0,
    .evtRouteWrite (.tenant 64) 0 0,
    .evtRouteWrite .scribe 512 0,
    .evtStatusClear (.tenant 64) 0 0,
    .evtStatusClear .scribe 16 0,
    .folTEvt 64 0,
    .msixVectorUnmask 512,
    .plicClaim .draft 16,
    .plicComplete .draft 16 0,
    .pauseTimeExpiry 2 none,
    .pauseTimeExpiry 0 (some 8),
    .folioResetComplete (some 64),
    .unlistedCommandCode 256 ⟨127, [], true, true⟩,
    .unlistedCommandCode 0 ⟨128, [], true, true⟩,
    .conBreakEnd 2] : List Instr).all (fun i => !i.wf) = true := by decide

/-! ## States the witnesses are built from -/

def withRegs (s : State) (l : List (Nat × Nat)) : State := l.foldl (fun s e => s.wr e.1 (BitVec.ofNat 32 e.2)) s
def upState : State := { State.reset with pwr := { State.reset.pwr with mainUp := true } }
def liveState : State :=
  { withRegs upState [(Reg.BOOT_STAT, 11 * 2 ^ 20), (Reg.RUL_CTL 0, 4)] with
    host := { State.reset.host with busMaster := true, memSpace := true, linkL0 := true, cfgOpen := true, perst := false }
    boot := { State.reset.boot with porst := true, released := true } }
def accessOf (a n : Nat) (k : AccKind) (i : Nat) (w : World) : Access := ⟨a, n, k, i, w, .m, none⟩
def rsvCommand (op arg : Nat) : RsvCmd := { op, quorum := 0x32, policy1Valid := false, makeCurrent := true, arg, argGen := 2, addr := [0x10000000, 0x10001000, 0x10002000, 0x10003000], pol0 := zeros 48, pol1 := zeros 48, badField := false, keysAt := 0x20000000 }
def entryOf5 : DomEntry := { idx := 0, domain := 5, gen0 := 1, key0 := zeros 32, gen1 := 2, key1 := zeros 32, policy0 := zeros 48 }
def drbgRegs : List (Nat × Nat) := [(Reg.LCY_STATE, 3), (Reg.ENT_STAT, 0x200), (Reg.ENT_SRC_CTL, 1), (Reg.ENT_DRBG_STAT, 0x80808080)]
def rsvState (c : RsvCmd) : State := withRegs { liveState with rsv := { liveState.rsv with brk := some (zeros 32), cmd := some c } } drbgRegs
def domState (c : RsvCmd) (l : List DomEntry) : State := let s := rsvState c; { s with rsv := { s.rsv with doms := l } }
def slotOf1 : QuotaSlot := { slot := 3, folio := 1, handle := 2, hdr := zeros 48, tag := zeros 16, material := zeros 32 }
def slotState (c : RsvCmd) (l : List QuotaSlot) : State := let s := rsvState c; { s with rsv := { s.rsv with slots := l } }
def recOf5 : DomRec := { domain := 5, quorum := 0x32, pol0 := zeros 48, pol1 := none, dwk := zeros 32 }
/-- records in SRAM -/
def recsInSram (s : State) : State := (s.sramWrite 0x10000000 (makeDomRec (zeros 32) (zeros 12) recOf5)).sramWrite 0x10001000 (makeGenRec (zeros 32) (zeros 12) 5 7 9 (zeros 32))
def custCommand (op : Nat) (arg : Word) : CustCmd := { op, slot := 0, addr := [0x10000000, 0x10002000, 0x10008000], arg, window := 60, members := 3, candidates := 0 }
/-- a live machine with BRK, entropy, time, two active custodian rows and a CUST command in progress -/
def custState (c : CustCmd) (act st : Nat) : State :=
  let s := withRegs { liveState with rsv := { liveState.rsv with brk := some (zeros 32) }, cust := { liveState.cust with cmd := some c }, otp := { liveState.otp with rows := (List.replicate 32 ({} : CustRow)).mapIdx fun i r => { r with enrolled := i < 3 } } }
    (drbgRegs ++ [(Reg.TIME_STAT, 1), (Reg.CUST_CER_STAT 0, st * 2 ^ 30 + act * 2 ^ 8)])
  s
def withParams (s : State) (p : Bytes) : State := s.setCer 0 { (s.cerSlot 0) with members := 3, params := p }
def paramsOf (a : Nat) : Bytes := ([BitVec.ofNat 8 a, 0x32, 5, 0] ++ zeros 13 ++ [1] ++ zeros 198 : Bytes)
def succState (op act st : Nat) (mem : List (Nat × Bytes)) (shares : List (Nat × Bytes)) : State :=
  let s := custState (custCommand op 0) act st
  let s := s.setCer 0 { (s.cerSlot 0) with members := 3, params := paramsOf act, shares := shares }
  mem.foldl (fun s e => s.sramWrite e.1 e.2) s
def wdr : Bytes := makeDomRec (zeros 32) (zeros 12) recOf5
def wsh : Bytes := [0x53,0x48,0x52,0x44,1,1] ++ zeros 1634
def wpk2 : Bytes := zeros 0x20 ++ [1] ++ zeros 159
def wpk3 : Bytes := zeros 6 ++ [0x32, 0, 5] ++ zeros 183
def wimp : Bytes := [0x48,0x4E,0x44,0x56,1,0,0x32,0,5] ++ zeros 1703
def descOf (opcode : Nat) : Desc := { opcode, flags := 0, domain := 0, reqId := 7, keyRef := 0, aadLen := 0, dataLen := 0, param0 := 0, src := 0, dst := 0, aux := 0, notBefore := 0, param1 := 0, rsvd := 0, chain := 0 }
def opOf (id : Nat) (at_ : OpAt) : Op := { id, src := .ring 0 1, folio := 1, desc := descOf 0x51, at_, tag := true }
/-- unit 4 open to all; folio 1 and its tags; a ring pair 0 of folio 1, enabled, both sizes 16, bases set -/
def tenantState (s : State) : State :=
  let s := { s with duct := { s.duct with inForce := [(5, [0x00100004, 0x00040010, 0x00100004, 0x00040010])] } }
  withRegs (s.setEntry 4 0 0 [0, 0, 0xFFFFFFFF, 0xFFFFFFFF, 0x8003FFFF, 0x7FFFFF, 0xFFFFFFFF, 0xFFFFFFFF, 0])
    [(Reg.RUL_CTL 4, 0), (Reg.FOL_CTL 1, 1), (Reg.SCH_FOL_GATE_CAP 1, 16), (Reg.FOL_VEC 1, 0x00010002), (Reg.FOL_PASID 1 0, 0x80000001)]
def ringState : State := withRegs (tenantState liveState) [(Reg.RING_CFG 0, 0x01000404), (Reg.RING_STAT 0, 0x40000100), (Reg.RING_SQ_BASE 0, 0x10000), (Reg.RING_CQ_BASE 0, 0x20000), (Reg.RING_CTL 0, 0x80000000)]
def withOps (s : State) (l : List Op) : State := { s with ops := l, nextOp := 10 }
def ringState3 : State := withRegs ringState [(Reg.RING_SQ_TAIL 0, 3)]
def ringStateU : State := { ringState3 with sch := { ringState3.sch with lastRing := 0 } }
def hostMem : HostMem := [(0x10000, zeros 4096)]
/-- a RANDOM of folio 1 waits on ring 0 -/
def ringOp (opc : Nat) (at_ : OpAt) : Op := { id := 3, src := .ring 0 1, folio := 1, desc := descOf opc, at_, tag := true }
def admitState : State := withRegs (withOps ringState [ringOp 0x20 .cand]) [(Reg.SCH_FC_CTL 1 5, 0x00010000), (Reg.SCH_QUANTUM 5, 100)]
def wdecd : Op × State := (admitState.dropCredit.decide_ 5 100 []).getD (opOf 0 .cand, State.reset)
def candState (opc : Nat) : State := withOps ringState [ringOp opc .cand]
def doneState : State := withOps ringState [{ ringOp 0x20 (.run 0x40) with res := some { status := 0, engine := 0x40 } }]
def runState (opc e : Nat) : State := withRegs (withOps ringState [ringOp opc (.run e)]) drbgRegs
/-- a request in the Scribe mailbox, REQ and BUSY set, the Scribe world running, folio 0 over unit 4 -/
def mailboxWith (s : State) (cmd : Nat) (payload : Bytes) (inLen outLen : Nat) : State :=
  let h := leBytes 2 cmd ++ zeros 2 ++ leBytes 4 77 ++ leBytes 4 payload.length ++ zeros 4 ++ leBytes 8 0x40000 ++ leBytes 4 inLen ++ zeros 4 ++
    leBytes 8 0x80000 ++ leBytes 4 outLen ++ zeros 4
  withRegs (s.setRegBytes (Reg.SCRB_REQ 0) (h ++ payload ++ zeros ((4 - payload.length % 4) % 4))) [(Reg.FOL_SCRB_CTL, 0xC0000000), (Reg.WRLD_STAT, 0)]
def mailboxState (cmd : Nat) (payload : Bytes) : State := mailboxWith (withRegs (tenantState liveState) drbgRegs) cmd payload 0 0
def hostMem4 : HostMem := [(0x40000, zeros 12288)]
def afterRead (s : State) : State := (s.hostRead hostMem4 (scribeCtx .mailbox) s.mbxInAddr s.mbxInLen).1
def mailboxCust (c : CustCmd) (act st : Nat) (p : Bytes) : State := let s := tenantState (custState c act st); { withParams s p with cust := { (withParams s p).cust with cmd := none } }
def withFcs (b : Bytes) : Bytes := b ++ fcs b
def frameOf (et : Bytes) : Bytes := withFcs (zeros 12 ++ et ++ zeros 46)
def portState : State := withRegs (tenantState liveState) [(Reg.PORT_STAT 0, 0x23), (Reg.PORT_STAT 1, 0x23), (Reg.PORT_MAX_FRAME 0, 9000), (Reg.PORT_MAX_FRAME 1, 9000), (Reg.PORT_CTL 0, 0x82), (Reg.PWR_STAT, 0)]
def darkState : State := { withRegs portState [(Reg.PWR_STAT, 3), (Reg.PORT_CTL 0, 2)] with host := liveState.host }
/-- unit 2 or 1 open to all -/
def openUnit (s : State) (u : Nat) : State := withRegs (s.setEntry u 0 0 [0, 0, 0xFFFFFFFF, 0xFF, 0x8003FFFF, 0x7FFFFF, 0xFFFFFFFF, 0xFFFFFFFF, 0]) [(Reg.RUL_CTL u, 0)]
def transmitState (d : Bytes) : State := (withRegs (openUnit portState 1) [(Reg.QUIL_TX_CFG 2, 0xC0000004), (Reg.QUIL_TX_TAIL 2, 2), (Reg.QUIL_TX_BASE 2, 0x20000000)]).sramWrite 0x20000000 d
def wdtx : Bytes := leBytes 5 0x20001000 ++ zeros 3 ++ leBytes 2 60 ++ [1, 0] ++ zeros 4
def tableState (sel : Nat) : State := withRegs portState [(Reg.QUIL_TBL_SEL, sel), (Reg.QUIL_TBL_DATA 0, 0x1234567), (Reg.QUIL_TBL_DATA 3, 5)]
def bspOp (opc e : Nat) (d : Desc → Desc) (stream data : Bytes) (key : KeyRes) : Op := { id := 3, src := .bsp 1 1 0, folio := 1, desc := d (descOf opc), at_ := .run e, tag := true, stream, data, key }
def bspOpState (o : Op) : State := (let s := withOps (openUnit portState 1) [o]; withRegs { s with rsv := { s.rsv with brk := some (zeros 32), doms := [entryOf5] } } (drbgRegs ++ [(Reg.PORT_STAGE_BASE 0, 0x20000000), (Reg.FOL_ACL 1 0, 0x80000005)]))
def wtmpl : Bytes := [1, 32, 3, 0] ++ zeros 12
def keyOf5 : Key := ⟨0, 6, zeros 64, 5, 1, 0x100, 0, 0, []⟩
def wdec : Op := bspOp 0x43 0x30 (fun d => { d with aadLen := 1584, domain := 5 }) (wtmpl ++ zeros 1568) [] (.key keyOf5)
def wpro (n k : Nat) (o : Op) : State × Io × Bytes × Template × (Nat × Bytes) := match (bspOpState o).producer [] o n (fun _ => k) with
  | .ok x => x | .error _ => (State.reset, ⟨false, [], []⟩, [], ⟨0,0,0,0,0⟩, (0, []))
def wenc : Op := bspOp 0x42 0x30 (fun d => { d with aadLen := 1584, domain := 5 }) (wtmpl ++ zeros 1568) [] (.key keyOf5)
def wver : Op := bspOp 0x41 0x30 (fun d => { d with aadLen := 193, dataLen := 3, param0 := 3 }) (zeros 193) [1,2,3] .none
def wtouch (s : State) : State := s
def bspAddr : BspAddr := ⟨0, zeros 6, [], false, [10,0,0,1], 5000, 0⟩
def bspSession (est : Bool) : Session := { id := 7, entry := 3, tenant := 9, folio := 1, peer := false, src := bspAddr, kCD := zeros 32, kDC := zeros 32, kConf := zeros 32, th := zeros 48, frag := 1024, established := est, h := 5, seen := [0], devSeq := 4, reasm := [], results := [], closing := 0 }
def datagramOf (type session seq op : Nat) (body : Bytes) : BspDatagram := ⟨bspAddr, bspHeader type session seq 9 op body.length 0 3 0x80000000, body⟩
def bspState (l : List BspDatagram) (ss : List Session) : State := let s := withRegs (openUnit portState 1) (drbgRegs ++ [(Reg.PORT_STAGE_BASE 0, 0x20000000), (Reg.PORT_STAGE_SIZE 0, 0x100000), (Reg.WRLD_STAT, 0), (Reg.TENANT_W0 3, 0x81000009)]); { s with net := { s.net with rxBsp := l, sessions := ss, nextSession := 8, svcDk := zeros 64 } }
def popBsp (s : State) : State := { s with net := { s.net with rxBsp := s.net.rxBsp.tail } }
def clientOf (est fin : Bool) : ClientSt := { entry := 3, slot := 0, peer := bspAddr, tenant := 9, body := zeros 4740, eph := zeros 64, ssS := zeros 32, established := est, finSent := fin, sessionId := 7, kDC := zeros 32, kCD := zeros 32 }
def clientState (l : List BspDatagram) (c : ClientSt) : State := let s := bspState l []; { s with net := { s.net with client := some c } }
def whs : Handshake := { src := bspAddr, tenant := 9, frags := [(0, zeros 3)], reqId := 3, last := some 0 }
def wpar24 : Bytes := zeros 8 ++ beBytes 4 6 ++ zeros 4 ++ beBytes 4 0 ++ beBytes 4 2 ++ [7, 8]
def wbs : BlotSample := ⟨0, 0, 0, 0, true, 40, 50, 800, 800, 0, 0, true, true⟩
def blotterState : State := withRegs portState [(Reg.BLOT_CFG, 0x80000FFF), (Reg.TIME_STAT, 1)]
def colophonState : State := { portState with colo := { portState.colo with running := true, mram := [(4, 7), (5, 1), (6, 1), (7, 0xFE)] } }
def flashState : State := withRegs (openUnit portState 3) [(Reg.MEM_XSPI_CFG, 1), (Reg.MEM_XSPI_ADDR, 0x1000), (Reg.MEM_XSPI_LEN, 0x1000), (Reg.MEM_XSPI_SRC, 0x20000000)]
def consoleState (mode : Nat) : State := withRegs { portState with con1Open := true, con0 := { tx := [5, 6], rx := [9, 8] } } [(Reg.CON0_CFG, 0x80000800 + mode * 65536), (Reg.CON1_CFG, 0x80000800 + mode * 65536), (Reg.CON0_BAUD, 0x10010)]
def charsOf (type : Nat) (p : Bytes) : List Nat := let body := [(1 : Byte), BitVec.ofNat 8 type] ++ [0, 3] ++ beBytes 2 p.length ++ p
  (escape (body ++ beBytes 4 (crc32c body))).map (·.toNat)
def custFrameOf (type : Nat) (p : Bytes) : CustFrame := ⟨1, type, [0, 3], p⟩
def lineState (s : State) : State := withRegs s [(Reg.CON0_CFG, 0x80000800), (Reg.WRLD_STAT, 0), (Reg.PWR_STAT, 0), (Reg.SMB_CFG, 0x20)]
def smbusState : State := withRegs portState [(Reg.SMB_CFG, 0x00FF5020), (Reg.PWR_STAT, 0), (Reg.BOOT_STAT, 11 * 2 ^ 20)]
def smbTx (data : Bytes) (read ack : Bool) : SmbTx := ⟨0x21, data, read, ack⟩

/-! ## Values of the spec's cases -/

/-- 23_power.md, Case: 10,000 ns is reported as 0x8538, 400,000 ns as 0x8986. -/
theorem test_ltr_field : ltrField 10000 = 0x8538 ∧ ltrField 400000 = 0x8986 := by decide +kernel

/-- 27_walkthrough.md: an object of 2,400,000 bytes in chunks of 2^20 has 3, the last of 302,848 bytes. -/
theorem test_chunks : chunkCount 2400000 20 = 3 ∧ chunkLen 2400000 20 2 = 302848 := by decide +kernel

/-- 27_walkthrough.md, stage 8: A open for 7 samples while B stays closed: the counter peaks at 7 and the pair is not decided. -/
theorem test_near_miss_peak :
    (let l := (List.range 9).foldl (fun (x : PairSt × List Nat) i =>
      let q := x.1.next (decide (i < 7)) false 20
      (q, x.2 ++ [q.c])) (({} : PairSt), ([] : List Nat))
    l.2.foldl max 0 = 7 ∧ l.1.decided = false) := by decide +kernel

/-- 27_walkthrough.md: LCY_WORD 0x000000FF0000000F is OPEN, 0x0000FFFF0000000F is CLOSED. -/
theorem test_lcy_word : (lcyCodes.find? (·.word == 0x000000FF0000000F)).map (·.state) = some 3 ∧
    (lcyCodes.find? (·.word == 0x0000FFFF0000000F)).map (·.state) = some 4 := by decide +kernel

/-- 07_ruling_units.md, Case: in set B index 1 covers bank 6 for SCRIBE_M; a Draft S-mode store of core 0 there is refused for INITIATOR. -/
theorem test_case_initiator :
    (withRegs State.reset [(Reg.RUL_CTL 1, 0x14 - 4), (entryAddr 1 0 1, 0x21800000), (entryAddr 1 0 1 + 4 * 2, 0x21BFFFFF),
      (entryAddr 1 0 1 + 4 * 4, 0x80000006), (entryAddr 1 0 1 + 4 * 5, 0x181)]).ruleRefuses 1
      ⟨0x21800040, 8, .write, 1, .draft, .s, none⟩ = some (4, 1) := by decide +kernel

/-- The check values of the published CRC-32C, CRC-32 and SMBus CRC-8 (log entry 5). -/
theorem test_crcs : crc32c (ascii "123456789") = 0xE3069283 ∧ fcs (ascii "123456789") = [0x26, 0x39, 0xF4, 0xCB] ∧
    pec (ascii "123456789") = 0xF4 := by decide +kernel

/-- FIPS 180-4: SHA-384 of "abc" begins CB 00 75 3F (log entry 5). -/
theorem test_sha384 : (sha384 (ascii "abc")).take 4 = [0xCB, 0x00, 0x75, 0x3F] := by decide +kernel

/-- FIPS 197, C.3: AES-256 of 00 11 22 .. FF under 00 01 .. 1F begins 8E A2 B7 CA. -/
theorem test_aes256 : (aesWith (aesKeys ((List.range 32).map fun i => BitVec.ofNat 8 i)) ((List.range 16).map fun i => BitVec.ofNat 8 (17 * i))).take 4 =
    [0x8E, 0xA2, 0xB7, 0xCA] := by decide +kernel

/-- FIPS 197: S-box of 53 is ED, of 00 is 63. -/
theorem test_sbox : aesSub [0x53, 0x00] = [0xED, 0x63] := by decide +kernel

/-- FIPS 202: SHA3-512 of the empty string begins A6 9F 73 CC. -/
theorem test_sha3 : (sha3of512 []).take 4 = [0xA6, 0x9F, 0x73, 0xCC] := by decide +kernel

/-! ## Lemmas the witnesses are built from -/

/-! Conjuncts decided together. -/

theorem and3 {p1 p2 p3 r : Prop} (h : p1 ∧ p2 ∧ p3) (hr : r) : p1 ∧ p2 ∧ p3 ∧ r := by
  obtain ⟨h1, h2, h3⟩ := h
  exact ⟨h1, h2, h3, hr⟩

theorem and4 {p1 p2 p3 p4 r : Prop} (h : p1 ∧ p2 ∧ p3 ∧ p4) (hr : r) : p1 ∧ p2 ∧ p3 ∧ p4 ∧ r := by
  obtain ⟨h1, h2, h3, h4⟩ := h
  exact ⟨h1, h2, h3, h4, hr⟩

theorem and5 {p1 p2 p3 p4 p5 r : Prop} (h : p1 ∧ p2 ∧ p3 ∧ p4 ∧ p5) (hr : r) : p1 ∧ p2 ∧ p3 ∧ p4 ∧ p5 ∧ r := by
  obtain ⟨h1, h2, h3, h4, h5⟩ := h
  exact ⟨h1, h2, h3, h4, h5, hr⟩

theorem and7 {p1 p2 p3 p4 p5 p6 p7 r : Prop} (h : p1 ∧ p2 ∧ p3 ∧ p4 ∧ p5 ∧ p6 ∧ p7) (hr : r) : p1 ∧ p2 ∧ p3 ∧ p4 ∧ p5 ∧ p6 ∧ p7 ∧ r := by
  obtain ⟨h1, h2, h3, h4, h5, h6, h7⟩ := h
  exact ⟨h1, h2, h3, h4, h5, h6, h7, hr⟩

theorem and8 {p1 p2 p3 p4 p5 p6 p7 p8 r : Prop} (h : p1 ∧ p2 ∧ p3 ∧ p4 ∧ p5 ∧ p6 ∧ p7 ∧ p8) (hr : r) : p1 ∧ p2 ∧ p3 ∧ p4 ∧ p5 ∧ p6 ∧ p7 ∧ p8 ∧ r := by
  obtain ⟨h1, h2, h3, h4, h5, h6, h7, h8⟩ := h
  exact ⟨h1, h2, h3, h4, h5, h6, h7, h8, hr⟩

theorem and10 {p1 p2 p3 p4 p5 p6 p7 p8 p9 p10 r : Prop} (h : p1 ∧ p2 ∧ p3 ∧ p4 ∧ p5 ∧ p6 ∧ p7 ∧ p8 ∧ p9 ∧ p10) (hr : r) : p1 ∧ p2 ∧ p3 ∧ p4 ∧ p5 ∧ p6 ∧ p7 ∧ p8 ∧ p9 ∧ p10 ∧ r := by
  obtain ⟨h1, h2, h3, h4, h5, h6, h7, h8, h9, h10⟩ := h
  exact ⟨h1, h2, h3, h4, h5, h6, h7, h8, h9, h10, hr⟩

theorem and11 {p1 p2 p3 p4 p5 p6 p7 p8 p9 p10 p11 r : Prop} (h : p1 ∧ p2 ∧ p3 ∧ p4 ∧ p5 ∧ p6 ∧ p7 ∧ p8 ∧ p9 ∧ p10 ∧ p11) (hr : r) : p1 ∧ p2 ∧ p3 ∧ p4 ∧ p5 ∧ p6 ∧ p7 ∧ p8 ∧ p9 ∧ p10 ∧ p11 ∧ r := by
  obtain ⟨h1, h2, h3, h4, h5, h6, h7, h8, h9, h10, h11⟩ := h
  exact ⟨h1, h2, h3, h4, h5, h6, h7, h8, h9, h10, h11, hr⟩

/-! ## Witnesses with records, sessions and shares -/

theorem open_of (k n aad ct tag pt : Bytes) (ht : aeadTag 2 k n aad pt = tag) (hc : ct = xorBytes pt (keyStream 2 k n tag pt.length)) :
    aeadOpen 2 k n aad ct tag = some pt := by
  have hl : ct.length = pt.length := by simp [hc]
  have hx : xorBytes ct (keyStream 2 k n tag ct.length) = pt := by
    rw [hl, hc]; exact xorBytes_twice _ _ (by simp)
  simp [aeadOpen, hx, ht]

theorem slice_left (p q : Bytes) (o n : Nat) (h : o + n ≤ p.length) : slice (p ++ q) o n = slice p o n := by
  unfold slice
  apply List.map_congr_left
  intro i hi
  have hi := List.mem_range.1 hi
  simp [List.getD_eq_getElem?_getD, List.getElem?_append_left (show o + i < p.length by omega)]

theorem slice_right (p q : Bytes) (o n : Nat) : slice (p ++ q) (p.length + o) n = slice q o n := by
  unfold slice
  apply List.map_congr_left
  intro i hi
  simp [List.getD_eq_getElem?_getD, List.getElem?_append_right, Nat.add_assoc]

theorem slice_all (b : Bytes) : slice b 0 b.length = b := by
  apply List.ext_getElem
  · simp [slice]
  · intro j h1 h2
    simp [slice, List.getD_eq_getElem?_getD, List.getElem?_eq_getElem h2]

/-- The middle part of a byte string. -/
theorem slice_mid (p x q : Bytes) (o n : Nat) (ho : o = p.length) (hn : n = x.length) : slice (p ++ (x ++ q)) o n = x := by
  subst ho hn
  have h := slice_right p (x ++ q) 0 x.length
  rw [Nat.add_zero] at h
  rw [h, slice_left _ _ _ _ (by omega), slice_all]

theorem slice_zeros (n : Nat) : slice (zeros n) 0 n = zeros n := by
  apply List.ext_getElem
  · simp [slice, zeros]
  · intro j h1 h2
    have : j < n := by simpa [zeros] using h2
    simp [slice, zeros, List.getD_eq_getElem?_getD]

/-- A wrapped record opens to what was wrapped. -/
theorem unwrap_wrap (key nonce aad pt : Bytes) (hn : nonce.length = 12) :
    unwrapRecord key (wrapRecord key nonce aad pt) aad.length pt.length = some pt := by
  have h1 : (aeadSeal 2 key nonce aad pt).1.length = pt.length := by simp [aeadSeal]
  have h2 : (aeadSeal 2 key nonce aad pt).2.length = 16 := by simp [aeadSeal]
  have e : wrapRecord key nonce aad pt = aad ++ ((aeadSeal 2 key nonce aad pt).1 ++ (nonce ++ ((aeadSeal 2 key nonce aad pt).2 ++ zeros 4))) := by
    simp [wrapRecord, List.append_assoc]
  have s0 : slice (wrapRecord key nonce aad pt) 0 aad.length = aad := by rw [e, slice_left _ _ _ _ (by omega), slice_all]
  have s1 : slice (wrapRecord key nonce aad pt) aad.length pt.length = (aeadSeal 2 key nonce aad pt).1 := by
    rw [e]; exact slice_mid _ _ _ _ _ rfl h1.symm
  have s2 : slice (wrapRecord key nonce aad pt) (aad.length + pt.length) 12 = nonce := by
    rw [e, ← List.append_assoc]; exact slice_mid _ _ _ _ _ (by simp [h1]) hn.symm
  have s3 : slice (wrapRecord key nonce aad pt) (aad.length + pt.length + 12) 16 = (aeadSeal 2 key nonce aad pt).2 := by
    rw [e, ← List.append_assoc, ← List.append_assoc]; exact slice_mid _ _ _ _ _ (by simp [h1, hn]; omega) h2.symm
  unfold unwrapRecord
  rw [s0, s1, s2, s3]
  exact open_of _ _ _ _ _ _ rfl rfl

/-- SRAM cells that hold `b` from `a`. -/
def cells : Nat → Bytes → Tab Byte
  | _, [] => []
  | a, x :: b => (a, x) :: cells (a + 1) b

def State.sramOf (s : State) (l : List (Nat × Bytes)) : State :=
  { s with mem := { s.mem with sram := l.flatMap fun c => cells c.1 c.2 } }

def wrecs' (s : State) : State := s.sramOf [(0x10000000, wdr), (0x10001000, makeGenRec (zeros 32) (zeros 12) 5 7 9 (zeros 32))]

theorem wdr_opens : openDomRec (zeros 32) wdr = some recOf5 := by
  have h : unwrapRecord (kdr (zeros 32) 5) wdr 0x80 32 = some (zeros 32) :=
    unwrap_wrap _ (zeros 12) (domHeader 5 0x32 (zeros 48) none) (zeros 32) (by simp)
  unfold openDomRec
  rw [if_neg (by decide +kernel)]
  show Option.map _ (unwrapRecord (kdr (zeros 32) 5) wdr 0x80 32) = _
  rw [h]; rfl

theorem wgr_opens : openGenRec (zeros 32) (makeGenRec (zeros 32) (zeros 12) 5 7 9 (zeros 32)) 5 = some (7, zeros 32) := by
  have h : unwrapRecord (zeros 32) (makeGenRec (zeros 32) (zeros 12) 5 7 9 (zeros 32)) 0x20 32 = some (zeros 32) :=
    unwrap_wrap _ (zeros 12) (genHeader 5 7 9) (zeros 32) (by simp)
  unfold openGenRec
  rw [if_neg (by decide +kernel), h]; rfl

theorem cells_get (d : Nat → Byte) (a : Nat) (b : Bytes) (r : Tab Byte) (x : Nat) :
    Tab.get d (cells a b ++ r) x = if a ≤ x ∧ x < a + b.length then b.getD (x - a) 0 else Tab.get d r x := by
  induction b generalizing a with
  | nil => simp [cells]
  | cons y b ih =>
    simp only [cells, List.cons_append, Tab.get, ih, List.length_cons]
    by_cases h : a = x
    · subst h; simp
    · by_cases h2 : a ≤ x ∧ x < a + (b.length + 1)
      · have : x - a = (x - (a + 1)) + 1 := by omega
        simp only [h, if_false, h2, and_self, if_true]
        rw [if_pos (by omega), this, List.getD_cons_succ]
      · rw [if_neg h, if_neg h2, if_neg (by omega)]

theorem sram_get (d : Nat → Byte) (c : Nat × Bytes) (x : Nat) (hx : c.1 ≤ x ∧ x < c.1 + c.2.length) (l : List (Nat × Bytes)) :
    ∀ i, l[i]? = some c → (∀ e ∈ l.take i, x < e.1 ∨ e.1 + e.2.length ≤ x) →
    Tab.get d (l.flatMap fun c => cells c.1 c.2) x = c.2.getD (x - c.1) 0 := by
  induction l with
  | nil => intro i h; simp at h
  | cons e l ih =>
    intro i h hd
    simp only [List.flatMap_cons, cells_get]
    cases i with
    | zero =>
      have : e = c := by simpa using h
      subst this; rw [if_pos hx]
    | succ i =>
      have h1 := hd e (by simp)
      rw [if_neg (by omega)]
      exact ih i (by simpa using h) (fun e' he => hd e' (by simp [he]))

theorem sram_read (s : State) (l : List (Nat × Bytes)) (i a n : Nat) (b : Bytes) (hc : l[i]? = some (a, b)) (hn : b.length = n)
    (hb : s.mem.bad = []) (hin : inSram a n = true) (hd : ∀ e ∈ l.take i, a + n ≤ e.1 ∨ e.1 + e.2.length ≤ a) :
    (s.sramOf l).keyRead a n = some b := by
  have hp : (s.sramOf l).poisoned a n = false := by
    simp [State.poisoned, State.isBad, State.sramOf, hb, Tab.get]
  have hm : (s.sramOf l).memBytes a n = b := by
    apply List.ext_getElem
    · simp [State.memBytes, hn]
    · intro j h1 h2
      have hj : j < n := by omega
      have hmem : memOf (a + j) = .scribe ∨ memOf (a + j) = .shared := by
        simp only [inSram, Bool.or_eq_true, decide_eq_true_eq] at hin
        unfold memOf
        split_ifs <;> simp <;> omega
      have hg := sram_get zeroByte (a, b) (a + j) ⟨by simp, by simp; omega⟩ l i hc (fun e he => by have := hd e he; omega)
      have hb2 : b.getD (a + j - a) 0 = b[j] := by
        rw [show a + j - a = j by omega, List.getD_eq_getElem?_getD, List.getElem?_eq_getElem h2]; rfl
      simp only [State.memBytes, List.getElem_map, List.getElem_range, State.memByte]
      rcases hmem with h | h <;> rw [h] <;> exact hg.trans hb2
  simp [State.keyRead, hp, hm]

theorem domRec_read (s : State) (l : List (Nat × Bytes)) (i a : Nat) (hk : s.rsv.brk = some (zeros 32)) (hc : l[i]? = some (a, wdr))
    (hb : s.mem.bad = []) (hin : inSram a 192 = true) (hd : ∀ e ∈ l.take i, a + 192 ≤ e.1 ∨ e.1 + e.2.length ≤ a) :
    (s.sramOf l).domRecAt a = some recOf5 := by
  have h := sram_read s l i a 192 wdr hc (by decide +kernel) hb hin hd
  have hk' : (s.sramOf l).rsv.brk = some (zeros 32) := hk
  simp [State.domRecAt, h, hk', wdr_opens]

def wgr : Bytes := makeGenRec (zeros 32) (zeros 12) 5 7 9 (zeros 32)

theorem genRec_read (s : State) (l : List (Nat × Bytes)) (i a : Nat) (hc : l[i]? = some (a, wgr))
    (hb : s.mem.bad = []) (hin : inSram a 96 = true) (hd : ∀ e ∈ l.take i, a + 96 ≤ e.1 ∨ e.1 + e.2.length ≤ a) :
    (s.sramOf l).genRecAt recOf5 a = some (7, zeros 32) := by
  have h := sram_read s l i a 96 wgr hc (by decide +kernel) hb hin hd
  have h5 : recOf5.domain = 5 := rfl
  have hk : recOf5.dwk = zeros 32 := rfl
  simp only [State.genRecAt, h, Option.bind_some, h5, hk]
  exact wgr_opens

def wrl : List (Nat × Bytes) := [(0x10000000, wdr), (0x10001000, wgr)]

def wrs1 : State := (rsvState { rsvCommand 3 5 with addr := [0x10000000, 0x10001000, 0, 0]}).sramOf wrl

def wrs2 (c : RsvCmd) : State := (domState c [entryOf5]).sramOf wrl

/-- The same with an operation that holds generation 2 of domain 5. -/
def wrs3 : State := State.sramOf { domState (rsvCommand 4 5) [entryOf5] with ops := [{ opOf 4 (.run 0x30) with key := .key ⟨1, 0, zeros 32, 5, 2, 0, 0, 0, []⟩ }] } wrl

/-! successions -/

/-- Ceremony parameters: action, N = 1, domain 5, row 0, with the digest `d`. -/
def wprm (a : Nat) (d : Bytes) : Bytes := ([BitVec.ofNat 8 a, 0x11, 5, 0] ++ zeros 20 ++ d ++ zeros 144 : Bytes)

def wsuc (op act st : Nat) (slot : CerSlot) (mem : List (Nat × Bytes)) : State :=
  let s := custState (custCommand op 0) act st
  let s := { s with cust := { s.cust with slots := slot :: s.cust.slots.drop 1 }, otp := { s.otp with rows := { enrolled := true, digest := sha384 (zeros 4160) } :: s.otp.rows.drop 1 } }
  s.sramOf mem

def wm1 : List (Nat × Bytes) := [(0x10000000, wdr), (0x10002000, zeros 192), (0x10008000, zeros 4160)]

def wsl1 : CerSlot := { members := 1, params := wprm 2 (packageDigest (zeros 192)) }

def wsu1 : State := wsuc 0x20 2 2 wsl1 wm1

/-- A share record: its plain part, and the share zeros 32 sealed under the key that openShare derives. -/
def wshp : Bytes := [0x53, 0x48, 0x52, 0x44, 1, 1, 0, 0] ++ zeros 1568

def wsl2 : CerSlot := { members := 3, params := paramsOf 6 }

def wkek : Bytes := rsvKdf (kemDecaps wsl2.seeds (slice wshp 8 1568)) "BN96-RESTORE"
  (beBytes 2 (leAt wsl2.record 0x3A 2) ++ beBytes 1 (leAt wshp 5 1) ++ slice wsl2.record 0x18 32) 32

def wshx : Bytes × Bytes := aeadSeal 2 wkek (zeros 12) (slice wshp 0 8 ++ sha384 wsl2.record) (zeros 32)

def wshr : Bytes := wshp ++ (wshx.1 ++ zeros 12 ++ wshx.2 ++ zeros 4)

theorem wshr_opens : openShare wsl2 wshr = some (zeros 32) := by
  have hl : wshp.length = 1576 := by simp [wshp]
  have l1 : wshx.1.length = 32 := by simp [wshx, aeadSeal]
  have l2 : wshx.2.length = 16 := by simp [wshx, aeadSeal]
  have e : wshr = wshp ++ (wshx.1 ++ (zeros 12 ++ (wshx.2 ++ zeros 4))) := by simp [wshr, List.append_assoc]
  have h8 : slice wshr 8 1568 = slice wshp 8 1568 := slice_left _ _ _ _ (by rw [hl])
  have h5 : leAt wshr 5 1 = leAt wshp 5 1 := congrArg ofLe (slice_left _ _ _ _ (by rw [hl]; decide))
  have h0 : slice wshr 0 8 = slice wshp 0 8 := slice_left _ _ _ _ (by rw [hl]; decide)
  have h1 : slice wshr 0x648 12 = zeros 12 := by
    rw [e, ← List.append_assoc]; exact slice_mid _ _ _ _ _ (by simp [hl, l1]) (by simp)
  have h2 : slice wshr 0x628 32 = wshx.1 := by rw [e]; exact slice_mid _ _ _ _ _ hl.symm l1.symm
  have h3 : slice wshr 0x654 16 = wshx.2 := by
    rw [e, ← List.append_assoc, ← List.append_assoc]; exact slice_mid _ _ _ _ _ (by simp [hl, l1]) l2.symm
  simp only [openShare, h8, h5, h0, h1, h2, h3]
  exact open_of _ _ _ _ _ _ rfl rfl

def wm2 : List (Nat × Bytes) := [(0x10000000, wshr), (0x10002000, wpk2)]

def wsu2 : State := { wsuc 0x22 6 1 wsl2 wm2 with regs := (Reg.CUST_CER_COUNTED 0, (2 : Word)) :: (wsuc 0x22 6 1 wsl2 wm2).regs }

/-- Three shares, and a package whose data key opens under the key they join to. -/
def wshs : List (Nat × Bytes) := [(1, zeros 32), (2, zeros 32), (3, zeros 32)]

def wpkh : Bytes := zeros 6 ++ [0x31, 0, 5] ++ zeros 119

def wpkr : Bytes := wrapRecord (shamirJoin wshs) (zeros 12) wpkh (zeros 32)

theorem wpkr_opens : unwrapRecord (shamirJoin wshs) wpkr 128 32 = some (zeros 32) :=
  unwrap_wrap _ (zeros 12) wpkh (zeros 32) (by simp)

def wsl3 : CerSlot := { members := 3, params := wprm 6 (sha384 (wpkr.take 0xC0)), shares := wshs }

def wsu3 : State := wsuc 0x23 6 2 wsl3 [(0x10000000, wpkr)]

def wm4 : List (Nat × Bytes) := [(0x10000000, wdr), (0x10002000, zeros 1568)]

def wsl4 : CerSlot := { members := 3, params := wprm 4 (sha384 (zeros 1568)) }

def wsu4 : State := wsuc 0x24 4 2 wsl4 wm4

/-- An import record: header, encapsulation, and the data key sealed under the key that the seeds decapsulate to. -/
def wsl5 : CerSlot := { members := 3, params := wprm 5 [] }

def wimh : Bytes := [0x48, 0x4E, 0x44, 0x56, 1, 0, 0x11, 0, 5] ++ zeros 23 ++ sha384 wsl5.ek

def wimp2 : Bytes := wimh ++ zeros 1568

def wimk : Bytes := handoverKey (kemDecaps wsl5.seeds (slice wimp2 80 1568)) 5 0 0

def wimx : Bytes × Bytes := aeadSeal 2 wimk (zeros 12) wimh (zeros 32)

def wimr : Bytes := wimp2 ++ (wimx.1 ++ zeros 12 ++ wimx.2 ++ zeros 4)

def wsu5 : State := wsuc 0x25 5 2 wsl5 [(0x10000000, wimr)]

def wcre : RsvCmd := { rsvCommand 2 5 with quorum := 0x11, succ := 0x80000000, keysAt := 0x10008000, pol0 := zeros 48, pol1 := zeros 48 }

def wcr0 : State :=
  let s := wsuc 0x20 1 2 { members := 1, params := wprm 1 (zeros 48) } []
  { s with rsv := { s.rsv with cmd := some wcre }, cust := { s.cust with cmd := none } }

def wml : List (Nat × Bytes) := [(0x10008000, zeros 4160)]

def wdone6 : Op := { ringOp 0x20 (.run 0x40) with res := some { status := 0, engine := 0x40 } }

/-! BSP -/

theorem open1_of (k n aad ct tag : Bytes) (ht : aeadTag 1 k n aad ct = tag) :
    aeadOpen 1 k n aad ct tag = some (xorBytes ct (keyStream 1 k n [] ct.length)) := by
  simp [aeadOpen, ht]

theorem clientOpen_of (u : State) (d : BspDatagram) (c : ClientSt) (ct : Bytes) (hc : u.net.client = some c)
    (hm : (c.finSent && c.sessionId == d.session && c.tenant == d.tenant) = true)
    (hb : d.body = ct ++ aeadTag 1 c.kDC (bspNonce true d.seq) d.hdr ct) (hq : c.devSeq < d.seq) :
    u.clientOpen d = (u.setClient (some { c with devSeq := d.seq }),
      some (xorBytes ct (keyStream 1 c.kDC (bspNonce true d.seq) [] ct.length))) := by
  have hl : (aeadTag 1 c.kDC (bspNonce true d.seq) d.hdr ct).length = 16 := by simp
  have ho := open1_of c.kDC (bspNonce true d.seq) d.hdr ct _ rfl
  have hf : u.net.client.filter (fun c => c.finSent && c.sessionId == d.session && c.tenant == d.tenant) = some c := by
    rw [hc]; simp only [Option.filter, hm, if_true]
  unfold State.clientOpen
  rw [hf]
  have hlen : d.body.length - 16 = ct.length := by rw [hb, List.length_append, hl]; omega
  have h16 : ¬ d.body.length < 16 := by rw [hb, List.length_append, hl]; omega
  simp only [hlen, h16, if_false]
  rw [show d.body.take ct.length = ct by rw [hb]; simp, show d.body.drop ct.length = aeadTag 1 c.kDC (bspNonce true d.seq) d.hdr ct by rw [hb]; simp, ho]
  simp only [show ¬ d.seq ≤ c.devSeq by omega, if_false]

def wbsp1 (est fin : Bool) : ClientSt := { clientOf est fin with body := zeros 8 }

/-- A datagram of type `ty`, the first of session 7 from the peer, whose body opens to as many bytes as `ct` has. -/
def wsd (ty : Nat) (c : ClientSt) (ct : Bytes) : BspDatagram :=
  let h := (datagramOf ty 7 1 0 (zeros (ct.length + 16))).hdr
  ⟨bspAddr, h, ct ++ aeadTag 1 c.kDC (bspNonce true 1) h ct⟩

def whp : Bytes := beBytes 2 1024 ++ zeros 3170

theorem whp_len : whp.length = 3172 := by simp [whp, zeros, beBytes, leBytes]

/-- The confirmation of HS_RESP over `whp`. -/
def whc : Bytes := hmac384 (slice (bspKeys ((wbsp1 false false).ssS ++ kemDecaps (wbsp1 false false).eph (slice whp 36 1568) ++ kemDecaps (zeros 64) (slice whp 1604 1568))
    (sha384 ((wbsp1 false false).body ++ whp)) 7 9) 64 32) (ascii "BSP-D" ++ sha384 ((wbsp1 false false).body ++ whp))

def whr : BspDatagram := ⟨bspAddr, (datagramOf 2 7 0 0 []).hdr, whp ++ whc⟩

theorem read_all {α β γ : Type} (x : α × β × Option γ) (h : x.2.2 = none) : x = (x.1, x.2.1, none) := by
  obtain ⟨a, b, c⟩ := x
  simp only at h; subst h; rfl

def wm21 : State := mailboxWith (tenantState liveState) 0x0002 [] 8844 0

def wm22 : State := mailboxWith (tenantState liveState) 0x0101 [] 1640 0

/-! digest registers -/

theorem quad (w x y z : Byte) (i : Nat) (hi : i < 8) : (w ++ x ++ y ++ z).getLsbD i = z.getLsbD i ∧
    (w ++ x ++ y ++ z).getLsbD (8 + i) = y.getLsbD i ∧ (w ++ x ++ y ++ z).getLsbD (16 + i) = x.getLsbD i ∧
    (w ++ x ++ y ++ z).getLsbD (24 + i) = w.getLsbD i := by
  have h1 : ¬ 24 + i < 8 := by omega
  have h2 : ¬ 24 + i - 8 < 8 := by omega
  have h3 : ¬ 24 + i - 8 - 8 < 8 := by omega
  have h4 : ¬ 16 + i < 8 := by omega
  have h5 : ¬ 16 + i - 8 < 8 := by omega
  have h6 : 16 + i - 8 - 8 < 8 := by omega
  have h7 : ¬ 8 + i < 8 := by omega
  have h8 : 8 + i - 8 < 8 := by omega
  refine ⟨?_, ?_, ?_, ?_⟩ <;> simp only [BitVec.getLsbD_append, hi, h1, h2, h3, h4, h5, h6, h7, h8, if_true, if_false] <;> congr 1 <;> omega

theorem word_bytes (f : Nat → Byte) (k j : Nat) (hj : j < 4) :
    (((f (4 * k + 3) ++ f (4 * k + 2) ++ f (4 * k + 1) ++ f (4 * k) : BitVec 32)) >>> (8 * j)).truncate 8 = f (4 * k + j) := by
  apply BitVec.eq_of_getLsbD_eq
  intro i hi
  have q := quad (f (4 * k + 3)) (f (4 * k + 2)) (f (4 * k + 1)) (f (4 * k)) i hi
  rw [BitVec.truncate_eq_setWidth, BitVec.getLsbD_setWidth, BitVec.getLsbD_ushiftRight]
  simp only [hi, decide_true, Bool.true_and]
  interval_cases j
  · simpa using q.1
  · exact q.2.1
  · exact q.2.2.1
  · exact q.2.2.2

theorem regBytes_words (s : State) (a n : Nat) (f : Nat → Byte)
    (h : ∀ k < n, s.rd (a + k * 4) = (f (4 * k + 3) ++ f (4 * k + 2) ++ f (4 * k + 1) ++ f (4 * k) : BitVec 32)) :
    s.regBytes a (4 * n) = (List.range (4 * n)).map f := by
  unfold State.regBytes
  apply List.map_congr_left
  intro i hi
  have hi := List.mem_range.1 hi
  rw [h (i / 4) (by omega)]
  rw [word_bytes f (i / 4) (i % 4) (by omega), show 4 * (i / 4) + i % 4 = i by omega]

theorem bytes_of_get (b : Bytes) (n : Nat) (h : b.length = n) : b = (List.range n).map fun i => b.getD i 0 := by
  apply List.ext_getElem
  · simp [h]
  · intro i h1 h2
    simp [List.getD_eq_getElem?_getD, List.getElem?_eq_getElem h1]

theorem sha384_bytes (m : Bytes) : sha384 m = (List.range (4 * 12)).map fun i => (sha384 m).getD i 0 := bytes_of_get _ _ (by simp)

def wdw (m : Bytes) (k : Nat) : Word :=
  let f := fun i => (sha384 m).getD i 0
  f (4 * k + 3) ++ f (4 * k + 2) ++ f (4 * k + 1) ++ f (4 * k)

def wm9 : State :=
  let s := mailboxWith (withRegs (mailboxCust (custCommand 0 0) 5 2 (paramsOf 5)) [(Reg.TENANT_W0 3, 0xC0000000)]) 0x0601 ([5, 0] ++ zeros 8 ++ [0]) 0 0
  { s with net := { s.net with svcDk := zeros 64 }, regs := ((List.range 12).map fun k => (Reg.TENANT_EK_DIGEST 3 0 + k * 4, wdw (zeros 1568) k)) ++ s.regs }

/-! sessions -/

def wsds (ty : Nat) (x : Session) (seq : Nat) (ct : Bytes) : BspDatagram :=
  let h := (datagramOf ty 7 seq 0 (zeros (ct.length + 16))).hdr
  ⟨bspAddr, h, ct ++ aeadTag 1 x.kCD (bspNonce false seq) h ct⟩

theorem openBsp_of (s : State) (d : BspDatagram) (x : Session) (ct : Bytes) (hs : s.session d.session = some x)
    (hm : (x.established && x.tenant == d.tenant) = true)
    (hb : d.body = ct ++ aeadTag 1 x.kCD (bspNonce false d.seq) d.hdr ct) :
    s.openBsp d = match x.place d.seq with
      | .below => .dropped (s.portCount d.src.port 12)
      | .duplicate => .duplicate s x
      | .fresh =>
        let y := x.accept d.seq
        let y := if 2 ^ 40 ≤ d.seq ∧ y.closing = 0 then { y with closing := 2 } else y
        .fresh (s.setSession y) y (xorBytes ct (keyStream 1 x.kCD (bspNonce false d.seq) [] ct.length)) := by
  have hl : (aeadTag 1 x.kCD (bspNonce false d.seq) d.hdr ct).length = 16 := by simp
  have ho := open1_of x.kCD (bspNonce false d.seq) d.hdr ct _ rfl
  have hf : (s.session d.session).filter (fun x => x.established && x.tenant == d.tenant) = some x := by
    rw [hs]; simp only [Option.filter, hm, if_true]
  have hlen : d.body.length - 16 = ct.length := by rw [hb, List.length_append, hl]; omega
  have h16 : ¬ d.body.length < 16 := by rw [hb, List.length_append, hl]; omega
  unfold State.openBsp
  rw [hf]
  simp only [hlen, h16, if_false]
  rw [show d.body.take ct.length = ct by rw [hb]; simp, show d.body.drop ct.length = aeadTag 1 x.kCD (bspNonce false d.seq) d.hdr ct by rw [hb]; simp, ho]
  all_goals (cases x.place d.seq <;> rfl)

theorem openBsp_dup (s : State) (d : BspDatagram) (x : Session) (ct : Bytes) (hs : s.session d.session = some x)
    (hm : (x.established && x.tenant == d.tenant) = true)
    (hb : d.body = ct ++ aeadTag 1 x.kCD (bspNonce false d.seq) d.hdr ct) (hp : x.place d.seq = .duplicate) : s.openBsp d = .duplicate s x := by
  rw [openBsp_of s d x ct hs hm hb, hp]

theorem openBsp_fresh (s : State) (d : BspDatagram) (x : Session) (ct : Bytes) (hs : s.session d.session = some x)
    (hm : (x.established && x.tenant == d.tenant) = true)
    (hb : d.body = ct ++ aeadTag 1 x.kCD (bspNonce false d.seq) d.hdr ct) (hp : x.place d.seq = .fresh) (hq : d.seq < 2 ^ 40) :
    s.openBsp d = .fresh (s.setSession (x.accept d.seq)) (x.accept d.seq) (xorBytes ct (keyStream 1 x.kCD (bspNonce false d.seq) [] ct.length)) := by
  rw [openBsp_of s d x ct hs hm hb, hp]
  have h : ¬ (2 ^ 40 ≤ d.seq ∧ (x.accept d.seq).closing = 0) := fun h => absurd h.1 (by omega)
  simp only [h, if_false]

theorem wsds_body (ty : Nat) (x : Session) (seq : Nat) (ct : Bytes) (h : (wsds ty x seq ct).seq = seq) :
    (wsds ty x seq ct).body = ct ++ aeadTag 1 x.kCD (bspNonce false (wsds ty x seq ct).seq) (wsds ty x seq ct).hdr ct := by
  rw [h]; rfl

/-- A datagram of a session whose body opens to `pt`. -/
def wsdp (ty : Nat) (x : Session) (seq : Nat) (pt : Bytes) : BspDatagram :=
  wsds ty x seq (xorBytes pt (keyStream 1 x.kCD (bspNonce false seq) [] pt.length))

def wps : Session := { bspSession true with peer := true, th := [] }

theorem openPt (s : State) (ty : Nat) (x : Session) (seq : Nat) (pt : Bytes) (hq : (wsdp ty x seq pt).seq = seq) (hs : s.session (wsdp ty x seq pt).session = some x)
    (hm : (x.established && x.tenant == (wsdp ty x seq pt).tenant) = true) (hp : x.place seq = .fresh) (hl : seq < 2 ^ 40) :
    s.openBsp (wsdp ty x seq pt) = .fresh (s.setSession (x.accept seq)) (x.accept seq) pt := by
  have h := openBsp_fresh s (wsdp ty x seq pt) x (xorBytes pt (keyStream 1 x.kCD (bspNonce false seq) [] pt.length)) hs hm
    (wsds_body _ _ _ _ hq) (by rw [hq]; exact hp) (by rw [hq]; exact hl)
  rw [h, hq]
  have hlen : (xorBytes pt (keyStream 1 x.kCD (bspNonce false seq) [] pt.length)).length = pt.length := by simp
  rw [hlen, xorBytes_twice pt _ (by simp)]

theorem join_one (i : Nat) (b : Bytes) (hi : i = 0) : joinFrags [(i, b)] (some i) = some b := by
  subst hi; simp [joinFrags, List.range_succ]

theorem peerFrag_one (s : State) (x : Session) (d : BspDatagram) (pt : Bytes) (hr : x.reasm = []) (hi : d.index = 0) (hl : d.last = true) :
    s.peerFrag x d pt = (s.setSession { x with reasm := [] }, some pt) := by
  have h : joinFrags (addFrag [] d.index pt) (some d.index) = some pt := join_one _ _ hi
  unfold State.peerFrag
  simp only [hr, List.find?_nil, Option.getD_none, hl, if_true, h, List.filter_nil]

def wph (pt : Bytes) (s : State) : State := { s with net := { s.net with rxBsp := [wsdp 0x20 wps 6 pt], sessions := [wps] } }

def woff : Bytes := [0, 5] ++ zeros 1568

theorem woff_len : woff.length = 1570 := by simp [woff, zeros]

def wexp : State :=
  let s := custState (custCommand 0 0) 4 2
  wph woff { s with cust := { s.cust with cmd := none, slots := { members := 3, params := wprm 4 (sha384 (slice woff 2 1568)) } :: s.cust.slots.drop 1 } }

/-! HS_INIT -/

def winit : Bytes := beBytes 2 1024 ++ zeros 4738

theorem winit_len : winit.length = 4740 := by
  simp only [winit, List.length_append, zeros, List.length_replicate]; rfl

theorem hsCheck_ok (v : State) (h : Handshake) (body : Bytes) (n : Nat)
    (h1 : body.length = 4740) (h1' : (decide (beAt body 0 2 < 1024) || decide (8192 < beAt body 0 2) || beAt body 0 2 % 64 != 0 || beAt body 2 2 != 0) = false)
    (h2 : v.tenantEntry h.tenant = some n)
    (h3 : (if (v.tenantWord n).getLsbD 30 then !v.handoverRuns else v.folioState (fieldOf (v.tenantWord n) 29 24) != 1) = false)
    (h4 : sha384 (slice body 36 1568) = v.tenantDigest n) (h5 : v.net.sessions.length < 1024) : v.hsCheck h body = .ok n := by
  simp only [Bool.or_eq_false_iff, decide_eq_false_iff_not, bne_eq_false_iff_eq] at h1'
  obtain ⟨⟨⟨a, b⟩, c⟩, e⟩ := h1'
  unfold State.hsCheck
  simp only [h1, h2, h4, a, b, c, e, ne_eq, not_true_eq_false, or_self, if_false]
  have h3' := h3
  rw [← Bool.not_eq_true] at h3'
  rw [if_neg h3', if_neg (by omega)]

def wid : BspDatagram := ⟨bspAddr, (datagramOf 1 0 0 0 (zeros 0)).hdr, winit⟩

def wini (st : Nat) : State :=
  let s := bspState [wid] []
  { s with regs := ((List.range 12).map fun k => (Reg.TENANT_EK_DIGEST 3 0 + k * 4, wdw (slice winit 36 1568) k)) ++ (Reg.WRLD_STAT, BitVec.ofNat 32 st) :: s.regs }

def wiu (st : Nat) : State := { wini st with net := { (wini st).net with rxBsp := [] } }

def wiv (st : Nat) : State :=
  { wiu st with net := { (wiu st).net with handshakes := (wiu st).net.handshakes.filter fun x => !x.is wid.src wid.tenant } }

def wih : Handshake :=
  let h0 := ((wiu 0).net.handshakes.find? (·.is wid.src wid.tenant)).getD { src := wid.src, tenant := wid.tenant, frags := [], reqId := wid.reqId }
  { h0 with frags := addFrag h0.frags wid.index wid.body, last := if wid.last then some wid.index else h0.last }

theorem tab_map {α : Type} (d : Nat → α) (f : Nat → Nat) (hf : ∀ x y, f x = f y → x = y) (g : Nat → α) (r : Tab α) :
    ∀ (l : List Nat) (k : Nat), k ∈ l → Tab.get d (l.map (fun k => (f k, g k)) ++ r) (f k) = g k := by
  intro l
  induction l with
  | nil => intro k h; simp at h
  | cons x l ih =>
    intro k h
    simp only [List.map_cons, List.cons_append, Tab.get]
    by_cases he : f x = f k
    · rw [if_pos he, hf x k he]
    · rw [if_neg he]
      rcases List.mem_cons.1 h with rfl | h
      · exact absurd rfl he
      · exact ih k h

/-- Registers that hold a digest, word by word from `a`, read as its bytes. -/
theorem digest_regs (s : State) (a : Nat) (m : Bytes) (r : Tab Word)
    (h : s.regs = ((List.range 12).map fun k => (a + k * 4, wdw m k)) ++ r) : s.regBytes a 48 = sha384 m := by
  rw [sha384_bytes]
  refine regBytes_words s a 12 _ ?_
  intro k hk
  show Tab.get _ s.regs _ = _
  rw [h]
  exact tab_map _ (fun k => a + k * 4) (by intro x y h; omega) (wdw m) r _ k (List.mem_range.2 hk)

theorem wiv_digest (st : Nat) : sha384 (slice winit 36 1568) = (wiv st).tenantDigest 3 :=
  (digest_regs (wiv st) (Reg.TENANT_EK_DIGEST 3 0) (slice winit 36 1568) _ rfl).symm

theorem wini_check (st : Nat) (hs : (if ((wiv st).tenantWord 3).getLsbD 30 then !(wiv st).handoverRuns else (wiv st).folioState (fieldOf ((wiv st).tenantWord 3) 29 24) != 1) = false)
    (ht : (wiv st).tenantEntry wih.tenant = some 3) : (wiv st).hsCheck wih winit = .ok 3 :=
  hsCheck_ok (wiv st) wih winit 3 winit_len (by decide +kernel) ht hs (wiv_digest st) (by show 0 < 1024; decide)

theorem wih_joined : joinFrags wih.frags wih.last = some winit := by
  have h : wih.last = some 0 := by decide +kernel
  have h' : wih.frags = [(0, winit)] := rfl
  rw [h, h']; exact join_one 0 winit rfl


def dueState (s : State) : State := { s with strokes := { s.strokes with due := [⟨5, true, true, 0⟩] } }
/-- as done, behind an operation that still runs -/
def queuedState : State := withOps ringState [{ ringOp 0x20 (.run 0x40) with id := 2, src := .ring 0 0 }, ringOp 0x50 .cand]
def resState (e : Nat) (s : State) : State := withOps s [{ ringOp 0x20 (.run e) with res := some { status := 0, engine := e } }]
def deafState : State := { ringState with host := { ringState.host with busMaster := false } }

/-- A stream of unsigned sections: its flags, and code and body of each section (Tables DUC-1 and DUC-2). -/
def streamOf (flags : Word) (secs : List (Nat × List Word)) : List Word :=
  let n := secs.length
  let x := secs.foldl (fun (x : List Word × List Word) e =>
    let at_ := 16 + 2 * n + x.2.length
    (x.1 ++ [BitVec.ofNat 32 e.1, BitVec.ofNat 32 at_], x.2 ++ [BitVec.ofNat 32 (256 + e.1), BitVec.ofNat 32 e.2.length] ++ e.2)) ([], [])
  let head : List Word := [0x54435544, 0x00010000, BitVec.ofNat 32 (16 + 2 * n + x.2.length), BitVec.ofNat 32 n, flags]
  head ++ List.replicate 11 0 ++ x.1 ++ x.2

def bootWords : List Word := streamOf 0 [(1, List.replicate 10 0), (2, List.replicate 6 0), (3, [0x20000, 1, 0, 1, 0]),
  (4, (List.range 7).flatMap fun u => [BitVec.ofNat 32 u, 0, 0]), (5, ((List.range 64).flatMap fun _ => [0, 0x00080008]) ++ [0, 0]),
  (6, [0x40, 1, 0]), (8, [0, 64, 0, 0, 0, 64, 0, 0]), (9, [1, 0, 0, 0]), (12, List.replicate 512 0), (17, List.replicate 17 0)]

def liveWords : List Word := streamOf 1 [(1, List.replicate 10 0)]

/-- A machine in OPEN at boot step `n`, with these banks tried. -/
def bootState (n : Nat) (tried : List Nat) : State :=
  let s := withRegs liveState [(Reg.BOOT_STAT, n * 2 ^ 20), (Reg.LCY_STATE, 3), (Reg.MEM_XSPI_CFG, 16)]
  { s with boot := { s.boot with tried := tried } }

theorem boot_ok : ((bootState 4 []).verifyStream bootWords false true).isOk = true := by decide +kernel
/-- A machine in OPEN whose stream in force has one image, with a live load of `liveWords` begun. -/
def loadState : State :=
  let s := bootState 11 []
  let s := { s with duct := { s.duct with inForce := [(17, List.replicate 17 0)], loading := some (0x10000000, 120) } }
  s.sramOf [(0x10000000, bytesOfWords liveWords)]

theorem live_ok : (loadState.liveVerdict 0x10000000 120).2.isOk = true := by decide +kernel

theorem isOk_ok {ε α : Type} (x : Except ε α) (h : x.isOk = true) : ∃ a, x = .ok a := by
  cases x with
  | error e => cases h
  | ok a => exact ⟨a, rfl⟩

theorem wordsOfBytes_bytesOfWords (ws : List Word) : wordsOfBytes (bytesOfWords ws) = ws := by
  have hl : ∀ ws : List Word, (bytesOfWords ws).length = 4 * ws.length := by
    intro ws
    induction ws with
    | nil => rfl
    | cons w ws ih => simp only [bytesOfWords, List.map_cons, List.flatten_cons, List.length_append, leBytes_length, List.length_cons] at ih ⊢; omega
  have hg : ∀ (ws : List Word) (i : Nat), i < ws.length → leAt (bytesOfWords ws) (4 * i) 4 = (ws.getD i 0).toNat := by
    intro ws
    induction ws with
    | nil => intro i h; simp at h
    | cons w ws ih =>
      intro i h
      have e : bytesOfWords (w :: ws) = leBytes 4 w.toNat ++ bytesOfWords ws := rfl
      have h4 : (leBytes 4 w.toNat).length = 4 := leBytes_length ..
      cases i with
      | zero =>
        have a : slice (leBytes 4 w.toNat) 0 4 = leBytes 4 w.toNat := by have := slice_all (leBytes 4 w.toNat); rwa [h4] at this
        have b : w.toNat % 256 ^ 4 = w.toNat := Nat.mod_eq_of_lt w.isLt
        show ofLe (slice _ (4 * 0) 4) = _
        rw [e, Nat.mul_zero, slice_left _ _ _ _ (by rw [h4]), a, ofLe_leBytes, b]; rfl
      | succ i =>
        have b := slice_right (leBytes 4 w.toNat) (bytesOfWords ws) (4 * i) 4
        rw [h4] at b
        have c := ih i (by simpa using h)
        show ofLe (slice _ (4 * (i + 1)) 4) = _
        rw [e, show 4 * (i + 1) = 4 + 4 * i by omega, b]
        exact c.trans (by simp)
  apply List.ext_getElem
  · simp [wordsOfBytes, hl]
  · intro i h1 h2
    simp only [wordsOfBytes, List.getElem_map, List.getElem_range, hg ws i h2, List.getD_eq_getElem?_getD, List.getElem?_eq_getElem h2]
    simp

/-- Flash that holds `b` from its start. -/
def State.flashOf (s : State) (b : Bytes) : State := { s with mem := { s.mem with flash := cells 0 b } }

theorem flash_read (s : State) (b : Bytes) (n : Nat) (hn : n ≤ b.length) (hs : n ≤ s.flashSize) : (s.flashOf b).flashBytes 0 n = b.take n := by
  have hf : (s.flashOf b).flashSize = s.flashSize := rfl
  apply List.ext_getElem
  · simp [State.flashBytes]; omega
  · intro i h1 h2
    have hi : i < n := by simpa [State.flashBytes] using h1
    have hg := cells_get onesByte 0 b [] i
    rw [List.append_nil] at hg
    simp only [State.flashBytes, List.getElem_map, List.getElem_range, State.flashByte, Nat.zero_add, hf, show i < s.flashSize by omega, if_true,
      List.getElem_take]
    show Tab.get onesByte (cells 0 b) i = _
    rw [hg, if_pos (by omega)]
    simp [List.getD_eq_getElem?_getD, List.getElem?_eq_getElem (show i < b.length by omega)]

def bootFlash (n : Nat) (tried : List Nat) : State := (bootState n tried).flashOf (bytesOfWords bootWords)

theorem boot_bank (n : Nat) (tried : List Nat) (hs : 4 * bootWords.length ≤ (bootState n tried).flashSize) : (bootFlash n tried).bankWords 0 = bootWords := by
  have hl : (bytesOfWords bootWords).length = 4 * bootWords.length := by decide +kernel
  have h0 : (bootFlash n tried).flashBytes (0 * 0x400000) 16 = (bytesOfWords bootWords).take 16 := by
    rw [Nat.zero_mul]; exact flash_read _ _ _ (by rw [hl]; decide +kernel) (Nat.le_trans (by decide +kernel) hs)
  have h1 : (bootFlash n tried).flashBytes (0 * 0x400000) (4 * bootWords.length) = bytesOfWords bootWords := by
    rw [Nat.zero_mul, bootFlash, flash_read _ _ _ (by rw [hl]) hs, ← hl, List.take_length]
  have h2 : (if (wordsOfBytes ((bytesOfWords bootWords).take 16)).getD 0 0 = 0x54435544 ∧ (wordsOfBytes ((bytesOfWords bootWords).take 16)).getD 1 0 = 0x00010000
      then min 0x100000 (max 16 ((wordsOfBytes ((bytesOfWords bootWords).take 16)).getD 2 0).toNat) else 16) = bootWords.length := by decide +kernel
  unfold State.bankWords
  simp only [h0, h2, h1, wordsOfBytes_bytesOfWords]

/-- A NOP that waits for a time far ahead, as its 64 bytes. -/
def parkDesc : Bytes := [0x51] ++ zeros 47 ++ leBytes 8 (2 ^ 40) ++ zeros 8

/-- The header of a debug certificate, and a machine that holds it at CERT_ADDR, with ceremony slot 0 in `st`. -/
def debugCert : Bytes := zeros 6 ++ [1, 0] ++ zeros 64

def certState (st : Nat) : State :=
  let s := (withRegs liveState [(Reg.LCY_CERT_ADDR, 0x10000000), (Reg.LCY_CERT_LEN, 72), (Reg.CUST_CER_STAT 0, st)]).sramWrite 0x10000000 debugCert
  s.setCer 0 { (s.cerSlot 0) with params := zeros 24 ++ sha384 (debugCert.take 64) ++ zeros 144 }

theorem stop_ok {α β γ : Type} (x : Except γ (α × β)) (f : β → Bool) (h : (match x with | .ok y => f y.2 | .error _ => false) = true) :
    ∃ a b, x = .ok (a, b) ∧ f b = true := by
  cases x with
  | error e => cases h
  | ok y => exact ⟨y.1, y.2, rfl, h⟩

theorem stop_error {α β γ : Type} (x : Except (α × γ) β) (h : x.isOk = false) : ∃ a b, x = .error (a, b) := by
  cases x with
  | error e => exact ⟨e.1, e.2, rfl⟩
  | ok y => cases h

theorem some_of {α : Type} (x : Option α) (h : x.isSome = true) : ∃ a, x = some a := Option.isSome_iff_exists.1 h

/-- An operation of a BSP request at engine `e`, and a machine in which it runs. -/
def wop (opc e : Nat) (d : Desc → Desc) (stream data : Bytes) : Op := bspOp opc e d stream data (.key keyOf5)

def unready (s : State) : State := withRegs s [(Reg.ENT_DRBG_STAT, 0)]

def whash (p : Nat) : Op := bspOp 0x10 0x20 (fun d => { d with dataLen := 3, param0 := p }) [] [1,2,3] .none

def wseal : Op := wop 0x01 0x10 (fun d => { d with dataLen := 4, param0 := 1 }) [] [1,2,3,4]

def wgen : Op := bspOp 0x32 0x30 (fun d => { d with aadLen := 16, domain := 5 }) ([1, 32, 3, 0] ++ zeros 12) [] .none

def wecdh (p : Bytes) : Op := bspOp 0x44 0x30 (fun d => { d with aadLen := 113, domain := 5 }) ([3, 48, 0x40, 0] ++ zeros 12 ++ p) []
  (.key { keyOf5 with material := beBytes 48 5 })

def wbase : Bytes := [4] ++ beBytes 48 p384Gx ++ beBytes 48 p384Gy

def wderive : Op := bspOp 0x33 0x30 (fun d => { d with aadLen := 20, domain := 5 }) ([1, 32, 3, 0] ++ zeros 12 ++ [1, 0, 7, 9]) [] (.key keyOf5)

def wrewrap : Op := bspOp 0x34 0x30 (fun d => { d with aadLen := 16, domain := 5 }) ([6, 64, 0, 1] ++ zeros 12) [] (.key keyOf5)

def wrandom (n : Nat) : Op := bspOp 0x20 0x30 (fun d => { d with dataLen := n }) [] [] .none

def wjob (w : LaneWork) (n : Nat) : LaneJob := { work := w, io := ⟨false, [], []⟩, base := 0, start := 0, count := n, gen := 0 }

def wjob1 : LaneJob := wjob (.sealRaw 3 (zeros 32) (zeros 12) [] 4) 1

def wjob2 : LaneJob := wjob (.openRaw 3 (zeros 32) [] 32) 1

def wopen : Op := wop 0x02 0x10 (fun d => { d with dataLen := 32, param0 := 3 }) [] (zeros 32)
def wenc2 : Op := bspOp 0x42 0x30 (fun d => { d with aadLen := 1584, domain := 5 }) (wtmpl ++ List.replicate 1568 0xFF) [] (.key keyOf5)

/-- Ruling unit 1 in BYPASS. -/
def bypass (s : State) : State := withRegs s [(Reg.RUL_CTL 1, 4)]

def ChunkEnd.job : ChunkEnd → LaneJob
  | .done j => j
  | .stop j => j
  | .over _ => wjob1

def wread (o : Op) (j : LaneJob) : State × Bytes × Option Nat :=
  State.readParts [] o j.io (cutPieces (j.work.reads j.base j.start (j.start + j.done)) 0 (sglTotal (j.work.reads j.base j.start (j.start + j.done)))) (bspOpState o)

def wpart (o : Op) (j : LaneJob) : Bytes × Bool := j.work.part (j.start + j.done) (wread o j).2.1

def wwrite (o : Op) (j : LaneJob) : State × Nat × Option Nat := (wread o j).1.writeAt o j.io j.good (wpart o j).1

def bypassU (u : Nat) (s : State) : State := withRegs s [(Reg.RUL_CTL u, 4)]

/-- An offer of session 7, and a machine that holds that session, with the Scribe world in `st`. -/
def woffer (b : Bytes) : Offer := ⟨7, 3, b, 0x10002000, 0x10000000, 0x10001000⟩

def wofferState (s : State) (st cfg : Nat) : State :=
  let s := withRegs s [(Reg.WRLD_STAT, st), (Reg.WRLD_CFG, cfg), (Reg.RUL_CTL 0, 4)]
  { s with net := { s.net with sessions := [wps] } }

def wexpo : State := wofferState { wexp with net := { wexp.net with rxBsp := [] } } 0 0

def wexpo1 : State := (State.ruleRanges [(0x10000000, 1568, .write)] wexpo).1

theorem wprm_digest (a : Nat) (d : Bytes) (h : d.length = 48) : paramDigestA (wprm a d) = d := by
  have e : wprm a d = ([BitVec.ofNat 8 a, 0x11, 5, 0] ++ zeros 20 : Bytes) ++ (d ++ zeros 144) := by simp [wprm, List.append_assoc]
  unfold paramDigestA
  rw [e]; exact slice_mid _ _ _ _ _ (by simp) h.symm

theorem pair_true {α : Type} (x : α × Bool) (h : x.2 = true) : x = (x.1, true) := Prod.ext rfl h

theorem wexpo_digest : paramDigestA (wexpo.cerSlot 0).params = sha384 (slice woff 2 1568) := by
  have h : (wexpo.cerSlot 0).params = wprm 4 (sha384 (slice woff 2 1568)) := by
    unfold wexpo wexp
    generalize sha384 (slice woff 2 1568) = d
    rfl
  rw [h]; exact wprm_digest 4 _ (by simp)

theorem woffer_slot : wexpo.exportSlot (beAt woff 0 2) (slice woff 2 1568) = some 0 := by
  have h1 : (wexpo.cerState 0 == 2 && wexpo.cerAction 0 == 4 && paramDomain (wexpo.cerSlot 0).params == beAt woff 0 2) = true := by decide +kernel
  unfold State.exportSlot
  rw [show List.range 4 = [0, 1, 2, 3] from rfl]
  apply List.find?_cons_of_pos
  rw [h1, wexpo_digest, Bool.true_and]; exact beq_self_eq_true _

def wcmd3 : RsvCmd := { rsvCommand 3 5 with addr := [0x10000000, 0x10001000, 0, 0] }

theorem wrs1_dom : wrs1.domRecAt 0x10000000 = some recOf5 :=
  domRec_read (rsvState wcmd3) wrl 0 _ (by decide +kernel) rfl (by decide +kernel) (by decide +kernel) (by simp)

theorem wrs1_gen : wrs1.genRecAt recOf5 0x10001000 = some (7, zeros 32) :=
  genRec_read (rsvState wcmd3) wrl 1 _ rfl (by decide +kernel) (by decide +kernel) (by decide +kernel)

theorem wrs2_dom (c : RsvCmd) : (wrs2 c).domRecAt 0x10000000 = some recOf5 :=
  domRec_read (domState c [entryOf5]) wrl 0 _ rfl rfl rfl (by decide +kernel) (by simp)

theorem wrs2_gen (c : RsvCmd) : (wrs2 c).genRecAt recOf5 0x10001000 = some (7, zeros 32) :=
  genRec_read (domState c [entryOf5]) wrl 1 _ rfl rfl (by decide +kernel) (by decide +kernel)

theorem members_one (s : State) (rows : Bytes) (h0 : s.rowActive (leAt rows 0 1) = true)
    (h1 : (s.custRow (leAt rows 0 1)).digest = sha384 (zeros 4160)) : s.membersOk rows (memberKeys (zeros 4160) 1) = true := by
  have hm : memberKeys (zeros 4160) 1 = [zeros 4160] := by
    show [slice (zeros 4160) (4160 * 0) 4160] = _
    rw [Nat.mul_zero, slice_zeros]
  rw [hm]
  simp [State.membersOk, List.zipIdx, h0, h1]

def wcrs : State := wcr0.sramOf wml

theorem wcrs_keys : wcrs.keyRead wcre.keysAt (4160 * (wcre.quorum % 16)) = some (zeros 4160) :=
  sram_read wcr0 wml 0 0x10008000 4160 _ rfl (zeros_length _) (by decide +kernel) (by decide +kernel) (by simp)

theorem wcrs_members : wcrs.membersOk (paramMembers (wcrs.cerSlot (fieldOf wcre.succ 1 0)).params) (memberKeys (zeros 4160) (wcre.quorum % 16)) = true :=
  members_one _ _ (by decide +kernel) (by rfl)

theorem wsu1_members : wsu1.membersOk (paramMembers (wsu1.cerSlot 0).params) (memberKeys (zeros 4160) 1) = true :=
  members_one _ _ (by decide +kernel) (by rfl)

theorem params_digest (s : State) (n a : Nat) (d : Bytes) (hd : d.length = 48) (h : (s.cerSlot n).params = wprm a d) : d = paramDigestA (s.cerSlot n).params := by
  rw [h]; exact (wprm_digest a d hd).symm

theorem wsu1_digest : packageDigest (zeros 192) = paramDigestA (wsu1.cerSlot 0).params := by
  refine params_digest _ _ 2 _ (by simp [packageDigest]) ?_
  unfold wsu1 wsl1
  generalize packageDigest (zeros 192) = d
  rfl

theorem wsu3_digest : packageDigest wpkr = paramDigestA (wsu3.cerSlot 0).params := by
  have h : packageDigest wpkr = sha384 (wpkr.take 0xC0) := rfl
  rw [h]
  refine params_digest _ _ 6 _ (by simp) ?_
  unfold wsu3 wsl3
  generalize sha384 (wpkr.take 0xC0) = d
  rfl

theorem wsu4_digest : sha384 (zeros 1568) = paramDigestA (wsu4.cerSlot 0).params := by
  refine params_digest _ _ 4 _ (by simp) ?_
  unfold wsu4 wsl4
  generalize sha384 (zeros 1568) = d
  rfl

theorem wshp_len : wshp.length = 1576 := by simp [wshp]

theorem wshr_len : wshr.length = 1640 := by simp [wshr, wshp_len, wshx, aeadSeal]

theorem wshr_low (o n : Nat) (h : o + n ≤ 1576) : leAt wshr o n = leAt wshp o n := congrArg ofLe (slice_left _ _ _ _ (by rw [wshp_len]; exact h))

theorem slice_end (p : Bytes) (n o : Nat) (h : p.length = o) : slice (p ++ zeros n) o n = zeros n := by
  subst h; exact (slice_right p (zeros n) 0 n).trans (slice_zeros n)

theorem wshr_pad : leAt wshr 1636 4 = 0 := by
  have e : wshr = (wshp ++ (wshx.1 ++ zeros 12 ++ wshx.2)) ++ zeros 4 := by simp [wshr, List.append_assoc]
  show ofLe (slice wshr 1636 4) = 0
  rw [e, slice_end _ _ _ (by simp [wshp_len, wshx, aeadSeal])]
  rfl

theorem wimp2_len : wimp2.length = 1648 := by simp [wimp2, wimh]

theorem wimr_len : wimr.length = 1712 := by simp [wimr, wimp2_len, wimx, aeadSeal]

theorem wimr_low (o n : Nat) (h : o + n ≤ 1648) : leAt wimr o n = leAt wimp2 o n := congrArg ofLe (slice_left _ _ _ _ (by rw [wimp2_len]; exact h))

theorem wimr_pad : leAt wimr 1708 4 = 0 := by
  have e : wimr = (wimp2 ++ (wimx.1 ++ zeros 12 ++ wimx.2)) ++ zeros 4 := by simp [wimr, List.append_assoc]
  show ofLe (slice wimr 1708 4) = 0
  rw [e, slice_end _ _ _ (by simp [wimp2_len, wimx, aeadSeal])]
  rfl

def wsu2b : State := { wsuc 0x22 6 1 wsl2 [] with regs := (Reg.CUST_CER_COUNTED 0, (2 : Word)) :: (wsuc 0x22 6 1 wsl2 []).regs }

def wexpo2 : State := wexpo.sramOf [(0x10002000, wdr)]
def wexpo3 : State := (State.ruleRanges [(0x10000000, 1568, .write)] wexpo2).1
def wexpo4 : State := wexpo3.keyWrite 0x10000000 (slice woff 2 1568)
def wexpo5 : State :=
  (([0x10002000, 0x10000000, 0x10001000].zipIdx.foldl (fun s a => s.wr64 (Reg.CUST_ADDR a.2) (BitVec.ofNat 64 a.1)) wexpo4).wr Reg.CUST_ARG 0).custStart 0x24 (BitVec.ofNat 32 (0 * 2 ^ 16))
def wcmd5 : CustCmd := (wexpo5.cust.cmd).getD (custCommand 0 0)
theorem e5 : wexpo5.cust.cmd = some wcmd5 := by rfl
theorem e5m : wexpo5.mem = (wexpo2.sramWrite 0x10000000 (slice woff 2 1568)).mem := by rfl
theorem e5a : wcmd5.at_ 0 = 0x10002000 ∧ wcmd5.at_ 1 = 0x10000000 ∧ wcmd5.at_ 2 = 0x10001000 := by decide +kernel
theorem e5r : (wexpo5.custRanges [(wcmd5.at_ 0, 192, .read), (wcmd5.at_ 1, 1568, .read), (wcmd5.at_ 2, 1712, .write)]).2 = true := by decide +kernel
theorem e5c : wexpo5.custCheck wcmd5 = none := by decide +kernel
theorem e5f : wexpo5.flourishUp = true ∧ wexpo5.drbgReady 0 = true := by decide +kernel
theorem e5b : (State.custRanges wexpo5 [(wcmd5.at_ 0, 192, .read), (wcmd5.at_ 1, 1568, .read), (wcmd5.at_ 2, 1712, .write)]).1.mem = wexpo5.mem := by rfl
def wexpo6 : State := (State.custRanges wexpo5 [(wcmd5.at_ 0, 192, .read), (wcmd5.at_ 1, 1568, .read), (wcmd5.at_ 2, 1712, .write)]).1

theorem memByte_mem (s t : State) (h : s.mem = t.mem) (hs : s.flashSize = t.flashSize) (x : Nat) : s.memByte x = t.memByte x := by
  unfold State.memByte State.flashByte
  rw [h, hs]

theorem slice_len : (slice woff 2 1568).length = 1568 := by simp

theorem e6_bytes (x : Nat) : wexpo6.memByte x = if 0x10000000 ≤ x ∧ x < 0x10000000 + 1568 then (slice woff 2 1568).getD (x - 0x10000000) 0 else wexpo2.memByte x := by
  have h := memByte_sramWrite wexpo2 0x10000000 (slice woff 2 1568) x (by rw [slice_len]; decide +kernel)
  rw [slice_len] at h
  rw [← h]
  exact memByte_mem _ _ (e5b.trans e5m) (by decide +kernel) x

theorem e6_rec : wexpo6.keyRead 0x10002000 192 = some wdr := by
  have h := sram_read wexpo [(0x10002000, wdr)] 0 0x10002000 192 wdr rfl (by decide +kernel) (by decide +kernel) (by decide +kernel) (by simp)
  have h1 : wexpo2.poisoned 0x10002000 192 = false := by decide +kernel
  have h2 : wexpo6.poisoned 0x10002000 192 = false := by decide +kernel
  have h3 : wexpo6.memBytes 0x10002000 192 = wexpo2.memBytes 0x10002000 192 := by
    apply List.map_congr_left
    intro i hi
    have := List.mem_range.1 hi
    rw [e6_bytes, if_neg (by omega)]
  have h' : wexpo2.keyRead 0x10002000 192 = some wdr := h
  simpa [State.keyRead, h1, h2, h3] using h'

theorem e6_ek : wexpo6.keyRead 0x10000000 1568 = some (slice woff 2 1568) := by
  have h2 : wexpo6.poisoned 0x10000000 1568 = false := by decide +kernel
  have h3 : wexpo6.memBytes 0x10000000 1568 = slice woff 2 1568 := by
    apply List.ext_getElem
    · simp [State.memBytes]
    · intro i h4 h5
      have : i < 1568 := by simpa [State.memBytes] using h4
      simp only [State.memBytes, List.getElem_map, List.getElem_range]
      rw [e6_bytes, if_pos (by omega)]
      simp [List.getD_eq_getElem?_getD, List.getElem?_eq_getElem h5]
  simp [State.keyRead, h2, h3]

theorem e6_slots : wexpo6.cust.slots = wexpo.cust.slots := by
  have h1 : wexpo6.cust.slots = wexpo5.cust.slots := by rfl
  have h2 : wexpo5.cust.slots = wexpo4.cust.slots := by rfl
  have h3 : wexpo4.cust.slots = wexpo3.cust.slots := by rfl
  have h4 : wexpo3.cust.slots = wexpo2.cust.slots := by rfl
  have h5 : wexpo2.cust.slots = wexpo.cust.slots := by rfl
  exact h1.trans (h2.trans (h3.trans (h4.trans h5)))

theorem e6_slot : wexpo6.cerSlot 0 = wexpo.cerSlot 0 := congrArg (fun l => l.getD 0 {}) e6_slots

theorem e5_slot : wexpo5.cerSlot 0 = wexpo.cerSlot 0 := by
  have h1 : wexpo6.cust.slots = wexpo5.cust.slots := by rfl
  exact congrArg (fun l => l.getD 0 {}) (h1.symm.trans e6_slots)

theorem e5_digest : sha384 (slice woff 2 1568) = paramDigestA (wexpo5.cerSlot 0).params := by rw [e5_slot]; exact wexpo_digest.symm

theorem custExport_done (s u : State) (c : CustCmd) (r : DomRec) (ek : Bytes)
    (h0 : s.custRanges [(c.at_ 0, 192, .read), (c.at_ 1, 1568, .read), (c.at_ 2, 1712, .write)] = (u, true)) (h1 : u.domRecAt (c.at_ 0) = some r)
    (h2 : u.keyRead (c.at_ 1) 1568 = some ek) (h3 : r.domain = paramDomain (s.cerSlot c.slot).params) (h4 : sha384 ek = paramDigestA (s.cerSlot c.slot).params)
    (h5 : u.flourishUp = true) (h6 : u.drbgReady 0 = true) :
    ∃ b, s.custExport c = ((((u.drbgDraw 0 32).2.drbgDraw 0 12).2.keyWrite (c.at_ 2) b).cerFree c.slot, .done 0) := by
  simp [State.custExport, h0, h1, h2, h3, h4, h5, h6]
  exact ⟨_, rfl⟩

theorem keyWrite_clean (s : State) (a : Nat) (b : Bytes) (h : s.mem.bad = []) : s.keyWrite a b = s.sramWrite a b := by
  have hb : ∀ n, s.badPartial a n = none := by intro n; simp [State.badPartial, State.isBad, h, Tab.get]
  simp [State.keyWrite, State.eccWrite, State.eccWriteCheck, State.writeFind, hb]

theorem custRun_export (s : State) (c : CustCmd) (hc : s.custCheck c = none) (ho : c.op = 0x24) : s.custRun c none = s.custExport c := by
  unfold State.custRun
  rw [hc, ho]
  rfl

theorem runCust_done (s t : State) (op slot : Nat) (addr : List Nat) (arg : Word) (c : CustCmd) (h : s.cust.cmd.isSome = false)
    (ht : (((addr.zipIdx).foldl (fun s a => s.wr64 (Reg.CUST_ADDR a.2) (BitVec.ofNat 64 a.1)) s).wr Reg.CUST_ARG arg).custStart op (BitVec.ofNat 32 (slot * 2 ^ 16)) = t)
    (hc : t.cust.cmd = some c) (hr : (t.custRun c none).2 = .done 0) :
    s.runCust op slot addr arg = some ((t.custRun c none).1.custFinish op 0, 0) := by
  unfold State.runCust
  obtain ⟨u, e⟩ : ∃ u, t.custRun c none = (u, .done 0) := ⟨_, Prod.ext rfl hr⟩
  simp only [h, ht, hc, e, Bool.false_eq_true, if_false]

def wexpo7 : State := ((wexpo6.drbgDraw 0 32).2.drbgDraw 0 12).2

theorem e5_export : ∃ b, wexpo5.custRun wcmd5 none = ((wexpo7.sramWrite (wcmd5.at_ 2) b).cerFree wcmd5.slot, .done 0) := by
  have hd : wexpo6.domRecAt (wcmd5.at_ 0) = some recOf5 := by
    have hk : wexpo6.rsv.brk = some (zeros 32) := by decide +kernel
    rw [e5a.1]; simp [State.domRecAt, hk, e6_rec, wdr_opens]
  have e5s : wcmd5.slot = 0 := by decide +kernel
  obtain ⟨b, h⟩ := custExport_done wexpo5 wexpo6 wcmd5 recOf5 (slice woff 2 1568) (pair_true _ e5r) hd (by rw [e5a.2.1]; exact e6_ek) (by rw [e5s, e5_slot]; decide +kernel)
    (by rw [e5s]; exact e5_digest) (by decide +kernel) (by decide +kernel)
  refine ⟨b, ?_⟩
  rw [custRun_export _ _ e5c (by decide +kernel), h, keyWrite_clean _ _ _ (by decide +kernel)]
  rfl

theorem raise_mem (s : State) (n : Nat) : (s.raise n).mem = s.mem := by rw [(raise_eventOnly (fun _ => false) s n).1]

theorem finish_mem (s : State) : (s.custFinish 0x24 0).mem = s.mem := by
  have h : isSuccession 0x24 = true := by decide +kernel
  unfold State.custFinish
  simp only [h, if_true]
  rw [raise_mem]; rfl

theorem free_rd (s : State) (x n a : Nat) (b : Bytes) : ((s.sramWrite x b).cerFree n).rd a = (s.cerFree n).rd a := rfl

theorem finish_rd (s : State) {a : Nat} (h1 : a ≠ Reg.CUST_CMD) (h2 : a ≠ Reg.CUST_RESULT) (h3 : eventReg a = false) :
    (s.custFinish 0x24 0).rd a = s.rd a := by
  have h : isSuccession 0x24 = true := by decide +kernel
  unfold State.custFinish
  simp only [h, if_true]
  rw [raise_rd _ h3, State.rd_wr_ne _ _ h2]
  exact State.rd_wr_ne _ _ h1

theorem scribeRead_some (s : State) (hb : s.mem.bad = []) (h : s.rd (Reg.RUL_CTL 0) = 4) : ∃ z b, s.scribeRead 0x10001000 1712 = (z, some b) := by
  have h1 : s.poisoned 0x10001000 1712 = false := by simp [State.poisoned, State.isBad, hb, Tab.get]
  have hg : bootGrants ⟨0x10001000, 1712, .read, scribeInit, .scribe, .m, none⟩ = true := by decide +kernel
  have hu : (unitOf 0x10001000).getD 0 = 0 := by decide +kernel
  have h2 : (s.ruleRanges [(0x10001000, 1712, .read)]).2 = true := by simp [State.ruleRanges, State.rule, State.ruleRefuses, State.bit, hu, h, hg]
  have h5 : (!inSram 0x10001000 1712) = false := by decide +kernel
  unfold State.scribeRead
  rw [h5]
  simp only [h1, h2, Bool.false_eq_true, if_false]
  exact ⟨_, _, rfl⟩

theorem e7_bad : wexpo7.mem.bad = [] := by decide +kernel

theorem e7_rd : (wexpo7.cerFree wcmd5.slot).rd (Reg.RUL_CTL 0) = 4 := by decide +kernel

theorem free_bad (s : State) (x n : Nat) (b : Bytes) (h : s.mem.bad = []) : ((s.sramWrite x b).cerFree n).mem.bad = [] := by
  show (s.sramWrite x b).mem.bad = []
  simp [State.sramWrite, h, Tab.clear]

theorem e5_read (b : Bytes) : ∃ z b', (((wexpo7.sramWrite (wcmd5.at_ 2) b).cerFree wcmd5.slot).custFinish 0x24 0).scribeRead 0x10001000 1712 = (z, some b') := by
  refine scribeRead_some _ ?_ ?_
  · rw [finish_mem]; exact free_bad _ _ _ _ e7_bad
  · rw [finish_rd _ (by decide +kernel) (by decide +kernel) (by decide +kernel), free_rd]; exact e7_rd

theorem e5_run : ∃ y z b, wexpo4.runCust 0x24 0 [0x10002000, 0x10000000, 0x10001000] 0 = some (y, 0) ∧ y.scribeRead 0x10001000 1712 = (z, some b) := by
  obtain ⟨b, h⟩ := e5_export
  have hr := runCust_done wexpo4 wexpo5 0x24 0 _ 0 wcmd5 (by decide +kernel) rfl e5 (by rw [h])
  rw [h] at hr
  obtain ⟨z, b', hz⟩ := e5_read b
  exact ⟨_, z, b', hr, hz⟩

/-- The handshake that an HS_INIT datagram adds to, and the machine without it. -/
def hsOf (u : State) (d : BspDatagram) : Handshake :=
  let h := (u.net.handshakes.find? (·.is d.src d.tenant)).getD { src := d.src, tenant := d.tenant, frags := [], reqId := d.reqId }
  { h with frags := addFrag h.frags d.index d.body, last := if d.last then some d.index else h.last }

def hsLess (u : State) (d : BspDatagram) : State :=
  { u with net := { u.net with handshakes := u.net.handshakes.filter fun x => !x.is d.src d.tenant } }

def wfrag : BspDatagram := ⟨bspAddr, bspHeader 1 0 0 9 0 3 0 3 0x80000001, zeros 3⟩

def wfragState : State :=
  let s := bspState [wfrag] []
  { s with net := { s.net with handshakes := [{ src := bspAddr, tenant := 9, frags := [(0, zeros 3)], reqId := 3 }] } }

/-! Recovery items. -/

/-- A machine that waits for a recovery item of `n` bytes, with this section 0x11 in force. -/
def rcvState (kind id n : Nat) (imgs : List Word) : State :=
  let s := withRegs liveState [(Reg.LCY_STATE, 3), (Reg.RUL_CTL 1, 4), (Reg.BOOT_STAT, 4 * 2 ^ 20), (Reg.MEM_XSPI_CFG, 16)]
  { s with boot := { s.boot with rcv := some ⟨kind, id, 0x1000, n⟩ }, duct := { s.duct with inForce := [(17, imgs)] } }

/-- An unsigned Scribe image of one word, and its entry of section 0x11. -/
def wimg : Bytes := [0x42, 0x49, 0x4D, 0x47, 1, 0, 0, 0, 3, 0, 0, 1, 4, 0, 0, 0] ++ leBytes 5 0x10000000 ++ zeros 43 ++ zeros 4

def wimgRow : List Word := [0, 0, 68, 0x10000000, 0] ++ wordsOfBytes (sha384 wimg)

def rcvGet (s : State) (m : HostMem) (n : Nat) : State × Bytes × Option Nat := s.hostRead m (scribeCtx .recovery) 0x1000 n

/-- The item in the recovery buffer. -/
def rcvIn (s : State) (m : HostMem) (n : Nat) : State :=
  (State.ruleRanges [(rcvBuffer, (rcvGet s m n).2.1.length, .write)] ((rcvGet s m n).1.readOver .recovery)).1.sramWrite rcvBuffer (rcvGet s m n).2.1

theorem rcvRead_of (s : State) (m : HostMem) (kind id n : Nat) (h1 : s.boot.rcv = some ⟨kind, id, 0x1000, n⟩) (h2 : s.host.busMaster = true)
    (h3 : n ≤ 0x400000) (h4 : (rcvGet s m n).2.2 = none)
    (h5 : (State.ruleRanges [(rcvBuffer, (rcvGet s m n).2.1.length, .write)] ((rcvGet s m n).1.readOver .recovery)).2 = true) :
    rcvRead s m ⟨kind, id, 0x1000, n⟩ (rcvGet s m n).2.1 (rcvIn s m n) :=
  ⟨h1, h2, h3, _, _, read_all _ h4, pair_true _ h5, rfl⟩

theorem error_of {ε α : Type} (x : Except ε α) (h : x.isOk = false) : ∃ c, x = .error c := by
  cases x with
  | error e => exact ⟨e, rfl⟩
  | ok a => cases h

/-- A read of one piece that the host answers. -/
theorem hostRead_one (s : State) (m : HostMem) (c : HostCtx) (a n : Nat) (b : Bytes) (hp : splitPages s.readMax a n = [(a, n)])
    (h1 : (s.ruleFolio c 4 a n .read).2 = true) (h2 : ((s.ruleFolio c 4 a n .read).1.hostReq c a false).2.isSome = true)
    (h3 : ((s.ruleFolio c 4 a n .read).1.hostReq c a false).1.npFree = true) (hb : hostBytes m a n = some b) :
    ∃ t, s.hostRead m c a n = (t, b, none) := by
  obtain ⟨q, hq⟩ := some_of _ h2
  generalize hr : (s.ruleFolio c 4 a n .read).1.hostReq c a false = r at *
  obtain ⟨r1, r2⟩ := r
  simp only at hq h3
  subst hq
  simp [State.hostRead, hp, State.hostReads, State.hostRead1, h1, hr, h3, hb]

def wrcv : State := let s := rcvState 1 0 3088 []; { s with host := { s.host with cfg := [(Cfg.devCtl, 0x5000)] } }

def wrcvMem : HostMem := [(0x1000, bytesOfWords bootWords)]

theorem wrcv_bytes : hostBytes wrcvMem 0x1000 3088 = some (bytesOfWords bootWords) := by
  have hl : (bytesOfWords bootWords).length = 3088 := by decide +kernel
  have hs := slice_all (bytesOfWords bootWords)
  rw [hl] at hs
  simp [hostBytes, wrcvMem, hl, hs]

theorem wrcv_get : (rcvGet wrcv wrcvMem 3088).2.1 = bytesOfWords bootWords ∧ (rcvGet wrcv wrcvMem 3088).2.2 = none := by
  obtain ⟨t, h⟩ := hostRead_one wrcv wrcvMem (scribeCtx .recovery) 0x1000 3088 _ (by decide +kernel) (by decide +kernel) (by decide +kernel) (by decide +kernel) wrcv_bytes
  unfold rcvGet
  rw [h]; exact ⟨rfl, rfl⟩

/-! Custodian frames. -/

theorem unescape_escape (b : Bytes) : unescape (escape b) = some b := by
  induction b with
  | nil => rfl
  | cons x b ih =>
    have e : escape (x :: b) = (if x = 0x7E ∨ x = 0x7D ∨ x = 0x11 ∨ x = 0x13 then [0x7D, x ^^^ 0x20] else [x]) ++ escape b := rfl
    rw [e]
    by_cases h : x = 0x7E ∨ x = 0x7D ∨ x = 0x11 ∨ x = 0x13
    · have hx : x ^^^ 0x20 ^^^ 0x20 = x := by rw [BitVec.xor_assoc, BitVec.xor_self, BitVec.xor_zero]
      rw [if_pos h]
      simp only [List.cons_append, List.nil_append, unescape, if_true, hx, h, ih, Option.map_some]
    · rw [if_neg h]
      have h7 : x ≠ 0x7D := fun h' => h (.inr (.inl h'))
      cases hb : escape b with
      | nil =>
        rw [hb] at ih
        simp [unescape] at ih
        subst ih
        simp [unescape]; exact h7
      | cons c r =>
        rw [hb] at ih
        simp only [List.cons_append, List.nil_append, unescape, h7, if_false, ih, Option.map_some]

theorem crcBit_lt (c : Nat) (h : c < 2 ^ 32) : crcBit c < 2 ^ 32 := by
  unfold crcBit
  split
  · exact Nat.xor_lt_two_pow (by omega) (by decide)
  · omega

theorem crc32c_lt (b : Bytes) : crc32c b < 2 ^ 32 := by
  have hb (c : Nat) (h : c < 2 ^ 32) (x : Byte) : crcByte c x < 2 ^ 32 := by
    have h0 : c ^^^ x.toNat < 2 ^ 32 := Nat.xor_lt_two_pow h (by have := x.isLt; omega)
    unfold crcByte
    generalize c ^^^ x.toNat = y at h0
    generalize List.range 8 = l
    induction l generalizing y with
    | nil => exact h0
    | cons a l ih => exact ih _ (crcBit_lt y h0)
  have hf (c : Nat) (h : c < 2 ^ 32) : b.foldl crcByte c < 2 ^ 32 := by
    induction b generalizing c with
    | nil => exact h
    | cons x b ih => exact ih _ (hb c h x)
  exact Nat.xor_lt_two_pow (hf _ (by decide)) (by decide)

/-- A frame as `charsOf` spells it is read as it stands. -/
theorem custFrame_charsOf (type : Nat) (p : Bytes) (ht : type < 256) (hp : p.length ≤ 13248) :
    custFrame (charsOf type p) = some (custFrameOf type p) := by
  let head : Bytes := [(1 : Byte), BitVec.ofNat 8 type] ++ [0, 3]
  let body : Bytes := head ++ (beBytes 2 p.length ++ p)
  have hb : charsOf type p = (escape (body ++ beBytes 4 (crc32c body))).map (·.toNat) := by
    simp only [charsOf, body, head, List.append_assoc]
  have hl : body.length = 6 + p.length := by simp [body, head, beBytes_length]; omega
  have h1 : (charsOf type p).any (fun c => (c / 4096) % 16 != 0) = false := by
    rw [hb, List.any_map, List.any_eq_false]
    intro x _
    have := x.isLt
    have : x.toNat / 4096 = 0 := Nat.div_eq_of_lt (by omega)
    simp [this]
  have h2 : (charsOf type p).map (fun c => BitVec.ofNat 8 c) = escape (body ++ beBytes 4 (crc32c body)) := by
    rw [hb, List.map_map]
    simp [Function.comp_def]
  have hlen : (body ++ beBytes 4 (crc32c body)).length = 10 + p.length := by rw [List.length_append, hl, beBytes_length]; omega
  have hn : beAt (body ++ beBytes 4 (crc32c body)) 4 2 = p.length := by
    have : slice (body ++ beBytes 4 (crc32c body)) 4 2 = beBytes 2 p.length := by
      rw [slice_left _ _ _ _ (by omega)]
      exact slice_mid _ _ _ _ _ rfl (by simp [beBytes_length])
    unfold beAt
    rw [this, ofBe_beBytes]; exact Nat.mod_eq_of_lt (by omega)
  have hc : beAt (body ++ beBytes 4 (crc32c body)) (10 + p.length - 4) 4 = crc32c body := by
    have : slice (body ++ beBytes 4 (crc32c body)) (10 + p.length - 4) 4 = beBytes 4 (crc32c body) := by
      rw [← List.append_nil (beBytes 4 (crc32c body))]
      exact slice_mid _ _ _ _ _ (by omega) (by simp [beBytes_length])
    unfold beAt
    rw [this, ofBe_beBytes]; exact Nat.mod_eq_of_lt (crc32c_lt body)
  have ht' : (body ++ beBytes 4 (crc32c body)).take (10 + p.length - 4) = body := by
    rw [show 10 + p.length - 4 = body.length by omega, List.take_left]
  have hp6 : slice (body ++ beBytes 4 (crc32c body)) 6 p.length = p := by
    rw [slice_left _ _ _ _ (by omega)]
    have e : body = (head ++ beBytes 2 p.length) ++ (p ++ []) := by simp [body]
    rw [e]; exact slice_mid _ _ _ _ _ (by simp [head, beBytes_length]) rfl
  have hty : beAt (body ++ beBytes 4 (crc32c body)) 1 1 = type := by
    have : slice (body ++ beBytes 4 (crc32c body)) 1 1 = [BitVec.ofNat 8 type] := by simp [slice, body, head, List.range_succ]
    unfold beAt
    rw [this]; simp [ofBe, ofLe]; omega
  have hsq : slice (body ++ beBytes 4 (crc32c body)) 2 2 = [0, 3] := by simp [slice, body, head, List.range_succ]
  have h0 : (body ++ beBytes 4 (crc32c body)).getD 0 0 = 1 := by simp [body, head]
  unfold custFrame
  rw [h1, h2, unescape_escape]
  simp only [hlen, hn, hc, ht', hp6, hty, hsq, h0, Bool.false_eq_true, if_false]
  rw [if_neg (by omega)]
  rfl

theorem custOf_charsOf (s : State) (type : Nat) (p : Bytes) (ht : type < 256) (hp : p.length ≤ 13248) (hs : s.custLine = true)
    (hl : custLen type = some p.length) : s.custOf type (charsOf type p) = some (custFrameOf type p) := by
  have h : (custFrameOf type p).type = type ∧ (custFrameOf type p).payload = p := ⟨rfl, rfl⟩
  unfold State.custOf
  rw [if_pos hs, custFrame_charsOf type p ht hp]
  simp [Option.filter, h.1, h.2, hl]

def wline : State := let s := lineState (custState (custCommand 0 0) 0 0); { s with cust := { s.cust with cmd := none } }

theorem pair_snd {α β : Type} (x : α × β) (c : β) (h : x.2 = c) : x = (x.1, c) := Prod.ext rfl h

/-! A package built. -/

theorem keyRead_mem (s t : State) (h : s.mem = t.mem) (hf : s.flashSize = t.flashSize) (a n : Nat) : s.keyRead a n = t.keyRead a n := by
  have hb : s.memBytes a n = t.memBytes a n := List.map_congr_left fun i _ => memByte_mem s t h hf (a + i)
  have hp : s.poisoned a n = t.poisoned a n := by unfold State.poisoned State.isBad; rw [h]
  unfold State.keyRead
  rw [hb, hp]

theorem custBuild_done (s u : State) (c : CustCmd) (r : DomRec) (old kb : Bytes) (p : Bytes) (hp : (s.cerSlot c.slot).params = p)
    (h0 : s.custRanges [(c.at_ 0, 192, .read), (c.at_ 1, packageLen (paramQuorum p % 16), .write), (c.at_ 2, 4160 * (paramQuorum p % 16), .read)] = (u, true))
    (h1 : u.domRecAt (c.at_ 0) = some r) (h2 : u.keyRead (c.at_ 1) 192 = some old) (h3 : u.keyRead (c.at_ 2) (4160 * (paramQuorum p % 16)) = some kb)
    (h4 : packageDigest old = paramDigestA p) (h5 : r.domain = paramDomain p) (h6 : u.membersOk (paramMembers p) (memberKeys kb (paramQuorum p % 16)) = true)
    (h7 : u.flourishUp = true) (h8 : u.drbgReady 0 = true) : (s.custBuild c).2 = .done 0 := by
  simp [State.custBuild, hp, h0, h1, h2, h3, h4, h5, h6, h7, h8]

theorem custRun_build (s : State) (c : CustCmd) (hc : s.custCheck c = none) (ho : c.op = 0x20) : s.custRun c none = s.custBuild c := by
  unfold State.custRun
  rw [hc, ho]
  rfl

def wbm : List (Nat × Bytes) := [(0x10100000, wdr), (0x10010000, zeros 192), (0x100000C0, zeros 4160)]

def wbb : State := let s := wsuc 0x20 2 2 wsl1 []; { s with cust := { s.cust with cmd := none } }

def wb1 : State := wbb.sramOf wbm

def wb2 : State :=
  (([0x10100000, 0x10010000, 0x100000C0].zipIdx.foldl (fun s a => s.wr64 (Reg.CUST_ADDR a.2) (BitVec.ofNat 64 a.1)) wb1).wr Reg.CUST_ARG 0).custStart 0x20 (BitVec.ofNat 32 (0 * 2 ^ 16))

def wbc : CustCmd := (wb2.cust.cmd).getD (custCommand 0 0)

theorem b2 : wb2.cust.cmd = some wbc := by rfl

theorem b2a : wbc.at_ 0 = 0x10100000 ∧ wbc.at_ 1 = 0x10010000 ∧ wbc.at_ 2 = 0x100000C0 ∧ wbc.slot = 0 := by decide +kernel

def wb3 : State := (wb2.custRanges [(wbc.at_ 0, 192, .read), (wbc.at_ 1, packageLen 1, .write), (wbc.at_ 2, 4160, .read)]).1

theorem b3m : wb3.mem = wb1.mem := by
  have h1 : wb3.mem = wb2.mem := by rfl
  have h2 : wb2.mem = wb1.mem := by rfl
  exact h1.trans h2

theorem b3_read (a n : Nat) : wb3.keyRead a n = wb1.keyRead a n := keyRead_mem _ _ b3m (by decide +kernel) a n

theorem b2_slot : (wb2.cerSlot 0).params = wsl1.params := by
  have h1 : wb2.cust.slots = wb1.cust.slots := by rfl
  have h2 : wb1.cust.slots = wbb.cust.slots := by rfl
  have h3 : (wbb.cerSlot 0).params = wsl1.params := by rfl
  exact (congrArg (fun l : List CerSlot => (l.getD 0 {}).params) (h1.trans h2)).trans h3

theorem b1_rec : wb1.keyRead 0x10100000 192 = some wdr :=
  sram_read wbb wbm 0 _ 192 wdr rfl (by decide +kernel) (by decide +kernel) (by decide +kernel) (by simp)

theorem b3_members : wb3.membersOk (paramMembers wsl1.params) (memberKeys (zeros 4160) 1) = true :=
  members_one _ _ (by decide +kernel) (by rfl)

theorem b2_done : (wb2.custRun wbc none).2 = .done 0 := by
  have hk : wb3.rsv.brk = some (zeros 32) := by decide +kernel
  have hq : paramQuorum wsl1.params % 16 = 1 := by decide +kernel
  have hs : wbc.slot = 0 := b2a.2.2.2
  have hd : wb3.domRecAt (wbc.at_ 0) = some recOf5 := by
    rw [b2a.1]; simp [State.domRecAt, hk, b3_read, b1_rec, wdr_opens]
  rw [custRun_build _ _ (by decide +kernel) (by decide +kernel)]
  refine custBuild_done wb2 wb3 wbc recOf5 (zeros 192) (zeros 4160) wsl1.params (by rw [hs]; exact b2_slot) (by rw [hq]; exact pair_true _ (by decide +kernel)) hd
    ?_ ?_ ?_ (by decide +kernel) (by rw [hq]; exact b3_members) (by decide +kernel) (by decide +kernel)
  · rw [b2a.2.1, b3_read]
    exact sram_read wbb wbm 1 _ 192 _ rfl (zeros_length _) (by decide +kernel) (by decide +kernel) (by decide +kernel)
  · rw [b2a.2.2.1, hq, b3_read]
    exact sram_read wbb wbm 2 _ 4160 _ rfl (zeros_length _) (by decide +kernel) (by decide +kernel) (by decide +kernel)
  · exact (wprm_digest 2 _ (by simp [packageDigest])).symm

theorem b_run : wb1.runCust 0x20 0 [0x10100000, 0x10010000, 0x100000C0] 0 = some ((wb2.custRun wbc none).1.custFinish 0x20 0, 0) :=
  runCust_done wb1 wb2 0x20 0 _ 0 wbc (by decide +kernel) rfl b2 b2_done

theorem slice_of_zeros (k o n : Nat) : slice (zeros k) o n = zeros n := by
  apply List.ext_getElem
  · simp
  · intro i h1 h2
    simp only [slice, zeros, List.getElem_map, List.getElem_range, List.getElem_replicate, List.getD_eq_getElem?_getD, List.getElem?_replicate]
    split <;> rfl

theorem ofLe_zeros (n : Nat) : ofLe (zeros n) = 0 := by
  induction n with
  | zero => rfl
  | succ n ih =>
    have e : zeros (n + 1) = 0 :: zeros n := rfl
    rw [e]
    simp [ofLe, ih]

/-- The key of zeros passes the check of an encapsulation key. -/
theorem kemKeyOk_zeros : kemKeyOk (zeros 1568) = true := by
  unfold kemKeyOk kemKeyPolys
  simp [slice_of_zeros, unpackBits, ofLe_zeros]

/-! ## Witnesses, statement by statement -/

theorem witness_AccessTypes :
    (∃ (f : Fld) (party : Nat) (locked : Bool) (rst w x : Word) (i : Nat), f.lo ≤ f.hi ∧ f.hi < 32 ∧ (i < f.lo ∨ f.hi < i)) ∧
    (∃ (f : Fld) (party : Nat) (locked : Bool) (rst w x : Word), f.lo ≤ f.hi ∧ f.hi < 32 ∧ f.by_ &&& party = 0) ∧
    (∃ (f : Fld) (party : Nat) (locked : Bool) (rst w x : Word), f.lo ≤ f.hi ∧ f.hi < 32 ∧ f.by_ &&& party ≠ 0 ∧ (f.acc = Acc.ro ∨ f.acc = Acc.sc)) ∧
    (∃ (f : Fld) (party : Nat) (locked : Bool) (rst w x : Word), f.lo ≤ f.hi ∧ f.hi < 32 ∧ f.by_ &&& party ≠ 0 ∧ (f.acc = Acc.rw ∨ f.acc = Acc.wo)) ∧
    (∃ (f : Fld) (party : Nat) (locked : Bool) (rst w x : Word) (i : Nat), f.lo ≤ f.hi ∧ f.hi < 32 ∧ f.by_ &&& party ≠ 0 ∧ f.acc = Acc.w1c ∧
      f.lo ≤ i ∧ i ≤ f.hi) ∧
    (∃ (f : Fld) (party : Nat) (locked : Bool) (rst w x : Word) (i : Nat), f.lo ≤ f.hi ∧ f.hi < 32 ∧ f.by_ &&& party ≠ 0 ∧ f.acc = Acc.w1s ∧
      f.lo ≤ i ∧ i ≤ f.hi) ∧
    (∃ (f : Fld) (party : Nat) (locked : Bool) (rst w x : Word), f.lo ≤ f.hi ∧ f.hi < 32 ∧ f.by_ &&& party ≠ 0 ∧ f.acc = Acc.w0c) ∧
    (∃ (f : Fld) (party : Nat) (locked : Bool) (rst w x : Word), f.lo ≤ f.hi ∧ f.hi < 32 ∧ f.by_ &&& party ≠ 0 ∧ f.acc = Acc.anyc) ∧
    (∃ (f : Fld) (party : Nat) (locked : Bool) (rst w x : Word), f.lo ≤ f.hi ∧ f.hi < 32 ∧ f.by_ &&& party ≠ 0 ∧ f.acc = Acc.rwl) ∧
    (∃ (f : Fld) (party : Nat) (locked : Bool) (rst w x : Word), f.lo ≤ f.hi ∧ f.hi < 32 ∧ f.by_ &&& party ≠ 0 ∧ f.acc = Acc.rwo) := by
  and_intros
  · exact ⟨⟨31, 1, .rw, 1⟩, 2, false, 0, 5, 7, 0, by decide +kernel⟩
  · exact ⟨⟨31, 0, .rw, 1⟩, 2, false, 0, 5, 7, by decide +kernel⟩
  · exact ⟨⟨31, 31, .ro, 1⟩, 1, false, 0, 5, 7, by decide +kernel⟩
  · exact ⟨⟨31, 0, .rw, 1⟩, 1, true, 0, 5, 7, by decide +kernel⟩
  · exact ⟨⟨31, 0, .w1c, 3⟩, 2, false, 0, 5, 7, 31, by decide +kernel⟩
  · exact ⟨⟨0, 0, .w1s, 3⟩, 2, false, 0, 5, 7, 0, by decide +kernel⟩
  · exact ⟨⟨7, 4, .w0c, 3⟩, 2, false, 0, 5, 7, by decide +kernel⟩
  · exact ⟨⟨7, 4, .anyc, 3⟩, 2, false, 0, 5, 7, by decide +kernel⟩
  · exact ⟨⟨7, 4, .rwl, 3⟩, 2, true, 0, 5, 7, by decide +kernel⟩
  · exact ⟨⟨7, 4, .rwo, 3⟩, 2, false, 0, 5, 7, by decide +kernel⟩

theorem witness_AdmissionAndCompletion :
    (∃ (s u : State) (c e tx : Nat) (find : EccFind) (m : HostMem) (o : Op), s.strokes.due = [] ∧ c < 6 ∧ s.fld Reg.PWR_STAT 2 0 = 0 ∧
      s.dropCredit.classServed c = true ∧ s.dropCredit.engineFree c e = true ∧ s.dropCredit.decide_ c tx m = some (o, u) ∧ o.takesBlob = false) ∧
    (∃ (s : State) (c e tx : Nat) (find : EccFind) (m : HostMem), s.strokes.due = [] ∧ c < 6 ∧ s.fld Reg.PWR_STAT 2 0 = 0 ∧
      s.dropCredit.classServed c = false) ∧
    (∃ (s : State) (c e tx : Nat) (find : EccFind) (m : HostMem), s.strokes.due = [] ∧ c < 6 ∧ s.fld Reg.PWR_STAT 2 0 ≠ 0 ∧ s.candidates ≠ []) ∧
    (∃ (s : State) (c e tx : Nat) (find : EccFind) (m : HostMem), s.strokes.due ≠ []) ∧
    (∃ (s : State) (n : Nat) (o : Op), s.controlCandidate n 80 = some o ∧ (∀ x ∈ s.ringOps n, o.fetchNo ≤ x.fetchNo)) ∧
    (∃ (s : State) (n : Nat) (o x : Op), s.controlCandidate n 80 = some o ∧ x ∈ s.ringOps n ∧ x.fetchNo < o.fetchNo) ∧
    (∃ (s : State) (n : Nat), s.strokes.due ≠ []) ∧
    (∃ (s : State) (n : Nat) (o : Op), s.controlCandidate n 81 = some o) ∧
    (∃ (s : State) (n : Nat) (o : Op), s.controlCandidate n 82 = some o) ∧
    (∃ (s : State) (id busyNs : Nat) (o : Op) (r : OpRes), s.op id = some o ∧ o.res = some r ∧ (s.commit id).op id ≠ none) ∧
    (∃ (s : State) (id busyNs : Nat) (o : Op) (r : OpRes), s.op id = some o ∧ o.res = some r ∧ (s.commit id).op id = none ∧
      (r.engine ≠ 48 ∨ o.folio = 0)) ∧
    (∃ (s : State) (id busyNs : Nat) (o : Op) (r : OpRes), s.op id = some o ∧ o.res = some r ∧ (s.commit id).op id = none ∧ r.engine = 48 ∧
      o.folio ≠ 0) ∧
    (∃ (s : State) (id busyNs n no : Nat) (o : Op) (r : OpRes), s.op id = some o ∧ o.res = some r ∧ o.src = OpSrc.ring n no ∧
      s.host.busMaster = true ∧ r.engine ≠ 48 ∧ r.status ≠ St.authFailed ∧ o.desc.opcode ≠ 82 ∧ (s.ringSt n).lost = false ∧ n < 128 ∧
      s.cqSize n ≤ 65536 ∧ s.host.atsEnable = false ∧ o.fill = none ∧
      (s.ruleFolio { s.opCtx o ringInit with ro := false } 4 (BitVec.toNat (s.rd64 (Reg.RING_CQ_BASE n)) + 32 * s.cqTail n) 32 AccKind.write).2 = true) := by
  and_intros
  · exact ⟨admitState, wdecd.2, 5, 0x40, 100, .clean, [], wdecd.1, by decide +kernel⟩
  · exact ⟨withRegs admitState [(Reg.FLO_STAT, 4)], 3, 0x30, 0, .clean, [], by decide +kernel⟩
  · exact ⟨withRegs admitState [(Reg.PWR_STAT, 1)], 3, 0x30, 0, .clean, [], by decide +kernel⟩
  · exact ⟨dueState admitState, 3, 0x30, 0, .clean, [], by decide +kernel⟩
  · exact ⟨candState 0x50, 0, ringOp 0x50 .cand, by decide +kernel⟩
  · exact ⟨queuedState, 0, ringOp 0x50 .cand, { ringOp 0x20 (.run 0x40) with id := 2, src := .ring 0 0 }, by decide +kernel⟩
  · exact ⟨dueState (candState 0x51), 0, by decide +kernel⟩
  · exact ⟨candState 0x51, 0, ringOp 0x51 .cand, by decide +kernel⟩
  · exact ⟨candState 0x52, 0, ringOp 0x52 .cand, by decide +kernel⟩
  · exact ⟨resState 0x40 deafState, 3, 5, { ringOp 0x20 (.run 0x40) with res := some { status := 0, engine := 0x40 } }, { status := 0, engine := 0x40 },
      by decide +kernel⟩
  · exact ⟨(let s := doneState.setRing 0 { lost := true }; { s with ops := [{ ringOp 0x20 (.run 0x40) with res := some { status := 0, engine := 0x40 } }] }), 3, 5,
      { ringOp 0x20 (.run 0x40) with res := some { status := 0, engine := 0x40 } }, { status := 0, engine := 0x40 }, by decide +kernel⟩
  · exact ⟨(let s := doneState.setRing 0 { lost := true }; { s with ops := [{ ringOp 0x20 (.run 0x30) with res := some { status := 0, engine := 0x30 } }] }), 3, 5,
      { ringOp 0x20 (.run 0x30) with res := some { status := 0, engine := 0x30 } }, { status := 0, engine := 0x30 }, by decide +kernel⟩
  · have h : ∀ k : Fin 12,
      (doneState.ruleFolio { doneState.opCtx wdone6 9 with init := 9 + k } 4 ((doneState.rd64 (Reg.RING_CQ_BASE 0)).toNat + 32 * doneState.cqTail 0) 32 .write).2 = true := by decide +kernel
    exact ⟨doneState, 3, 5, 0, 1, wdone6, { status := 0, engine := 0x40 }, and8 (by decide +kernel) ⟨by decide,
      and3 (by decide +kernel) (h ⟨Config.hostInitiator % 12, Nat.mod_lt _ (by decide)⟩)⟩⟩

theorem witness_BlotterCauses :
    (∃ (x : BlotSample) (s : State), s.blot.alive = true) ∧
    (∃ (p : PairSt) (d : Nat), p.a = true ∧ p.b = true) ∧
    (∃ (s : State) (n : Nat), s.pairOn n = true ∧ (s.blot.pairs.getD n { }).a = true ∧ (s.blot.pairs.getD n { }).b = true) ∧
    (∃ (s : State) (n : Nat) (g : DWord), s.blot.meshGen[n]? = some g) ∧
    (∃ (s : State) (n : Nat), n < s.blot.alarmRun.length) ∧
    (∃ (s : State) (n : Nat), s.meshOn n = true ∧ 1 ≤ s.blot.meshBad.getD n 0) ∧
    (∃ (s : State) (n : Nat), n < 32 ∧ s.tamperActive n = false) ∧
    (∃ (s : State) (n : Nat), n < 32 ∧ s.tamperActive n = false ∧ s.pwr.mainUp = true) ∧
    (∃ (s : State) (n : Nat), n < 32 ∧ s.tamperActive n = false ∧ s.rd Reg.BLOT_CAUSE = 0) ∧
    (∃ (s : State) (n : Nat), n < 32 ∧ s.tamperActive n = false ∧ s.rd Reg.BLOT_CAUSE = 0 ∧ s.bit Reg.BLOT_STAT 30 = false) ∧
    (∃ (s : State) (n : Nat), n < 16 ∧ s.alarmActive n = false) ∧
    (∃ (s : State) (n : Nat), n < 16 ∧ s.alarmActive n = false ∧ s.pwr.mainUp = true) ∧
    (∃ (s : State) (high : Bool), s.blot.alive = true ∧ s.watchCore = true) ∧
    (∃ (s : State), s.blot.alive = true ∧ s.watchPll = true) ∧
    (∃ (s : State) (n : Nat), s.blot.alive = true ∧ n < 16 ∧ s.alarmActive n = true ∧ s.bit Reg.BLOT_ESC n = true ∧
      128000 * s.fld Reg.BLOT_ESC 31 16 ≤ s.blot.alarmRun.getD n 0) ∧
    (∃ (s : State) (n : Nat), s.blot.alive = true ∧ n < 16 ∧ s.alarmActive n = true ∧ s.bit Reg.BLOT_ESC n = true ∧
      s.blot.alarmRun.getD n 0 < 128000 * s.fld Reg.BLOT_ESC 31 16) := by
  and_intros
  · exact ⟨wbs, blotterState, by decide +kernel⟩
  · exact ⟨{ a := true, b := true }, 3, by decide +kernel⟩
  · exact ⟨(let s := blotterState; { s with blot := { s.blot with pairs := List.replicate 8 { a := true, b := true } } }), 7, by decide +kernel⟩
  · exact ⟨{ blotterState with blot := { blotterState.blot with meshGen := [7] } }, 0, 7, by decide +kernel⟩
  · exact ⟨{ blotterState with rsv := { blotterState.rsv with brk := some (zeros 32), slots := [slotOf1], doms := [entryOf5] } }, 13, by decide +kernel⟩
  · exact ⟨(let s := blotterState; { s with blot := { s.blot with meshBad := [1,1,1,1] } }), 3, by decide +kernel⟩
  · exact ⟨{ blotterState with rsv := { blotterState.rsv with brk := some (zeros 32), slots := [slotOf1], doms := [entryOf5] } }, 13, by decide +kernel⟩
  · exact ⟨{ blotterState with rsv := { blotterState.rsv with brk := some (zeros 32), slots := [slotOf1], doms := [entryOf5] } }, 13, by decide +kernel⟩
  · exact ⟨{ blotterState with rsv := { blotterState.rsv with brk := some (zeros 32), slots := [slotOf1], doms := [entryOf5] } }, 13, by decide +kernel⟩
  · exact ⟨withRegs blotterState [(Reg.BLOT_STAT, 0x86000020)], 31, by decide +kernel⟩
  · exact ⟨{ blotterState with rsv := { blotterState.rsv with brk := some (zeros 32), slots := [slotOf1], doms := [entryOf5] } }, 13, by decide +kernel⟩
  · exact ⟨{ blotterState with rsv := { blotterState.rsv with brk := some (zeros 32), slots := [slotOf1], doms := [entryOf5] } }, 15, by decide +kernel⟩
  · exact ⟨blotterState, true, by decide +kernel⟩
  · exact ⟨blotterState, by decide +kernel⟩
  · exact ⟨withRegs blotterState [(Reg.BLOT_ALARM_ACTIVE, 8), (Reg.BLOT_ESC, 8)], 3, by decide +kernel⟩
  · exact ⟨withRegs blotterState [(Reg.BLOT_ALARM_ACTIVE, 8), (Reg.BLOT_ESC, 0x10008), (Reg.BLOT_ALARM, 8)], 3, by decide +kernel⟩

theorem witness_BlotterRows :
    (∃ (s : State) (l : List Nat), s.blot.erasing = some l ∧ s.pwr.mainUp = true) ∧
    (∃ (s : State), s.blot.outLeft = some 0) ∧
    (∃ (s : State), s.blot.alive = true) ∧
    (∃ (s : State), s.blot.alive = true ∧ s.bit Reg.BLOT_STAT 25 = false ∧ s.bit Reg.BLOT_CFG 31 = false) ∧
    (∃ (s : State), s.blot.alive = true ∧ s.bit Reg.BLOT_STAT 25 = false ∧ s.bit Reg.BLOT_CFG 31 = true) ∧
    (∃ (s : State) (mv : Nat), s.blot.alive = true) ∧
    (∃ (s : State), s.rd Reg.BLOT_ACTIVE ≠ 0) ∧
    (∃ (s : State), s.rd Reg.BLOT_ACTIVE = 0) ∧
    (∃ (s : State) (p : Party) (v : Word), (p ≠ Party.scribe ∨ v ≠ 2970070208)) ∧
    (∃ (s : State), s.blot.aon = false ∧ s.blot.alive = true) := by
  and_intros
  · exact ⟨{ blotterState with blot := { blotterState.blot with erasing := some [3] } }, [3], by decide +kernel⟩
  · exact ⟨{ blotterState with blot := { blotterState.blot with outLeft := some 0 } }, by decide +kernel⟩
  · exact ⟨withRegs blotterState [(Reg.BLOT_STAT, 0x02000000), (Reg.BLOT_ACTIVE, 0x4000)], by decide +kernel⟩
  · exact ⟨withRegs blotterState [(Reg.BLOT_CFG, 0), (Reg.BLOT_STAT, 0x08000000)], by decide +kernel⟩
  · exact ⟨withRegs blotterState [(Reg.BLOT_STAT, 0x08000000)], by decide +kernel⟩
  · exact ⟨blotterState, 999, by decide +kernel⟩
  · exact ⟨withRegs blotterState [(Reg.BLOT_ACTIVE, 0x4000), (Reg.BLOT_CAUSE, 0x4000)], by decide +kernel⟩
  · exact ⟨withRegs blotterState [(Reg.BLOT_CAUSE, 0x4000), (Reg.BLOT_STAT, 0xC8000003)], by decide +kernel⟩
  · exact ⟨blotterState, .manager, 0xB107ACC0, by decide +kernel⟩
  · exact ⟨(let s := { blotterState with blot := { blotterState.blot with aon := false } }; s), by decide +kernel⟩

theorem witness_BspHandover :
    (∃ (s u v w : State) (recAt ekAt outAt : Nat) (d : BspDatagram) (x : Session) (pt b : Bytes), s.net.offers = [] ∧ s.takeBsp [32] = some (u, d) ∧
      u.openBsp d = Opened.fresh v x pt ∧ x.peer = true ∧ v.peerFrag x d pt = (w, some b)) ∧
    (∃ (s : State) (o : Offer) (x : Session), s.session o.session = some x ∧ s.serve 6 = Serve.refuse) ∧
    (∃ (s : State) (o : Offer) (x : Session), s.session o.session = some x ∧ s.serve 6 = Serve.wait) ∧
    (∃ (s : State) (o : Offer) (x : Session), s.session o.session = some x ∧ s.serve 6 = Serve.now ∧
      (List.length o.body ≠ 1570 ∨ inSram o.ekAt 1568 = false ∨ s.exportSlot (beAt o.body 0 2) (slice o.body 2 1568) = none)) ∧
    (∃ (s : State) (o : Offer) (x : Session) (n : Nat) (u y : State) (code : Nat), s.session o.session = some x ∧ s.serve 6 = Serve.now ∧
      List.length o.body = 1570 ∧ inSram o.ekAt 1568 = true ∧ s.exportSlot (beAt o.body 0 2) (slice o.body 2 1568) = some n ∧
      State.ruleRanges [(o.ekAt, 1568, AccKind.write)] s = (u, true) ∧
      (u.keyWrite o.ekAt (slice o.body 2 1568)).runCust 36 n [o.recAt, o.ekAt, o.outAt] 0 = some (y, code) ∧ code ≠ 0) ∧
    (∃ (s : State) (o : Offer) (x : Session) (n : Nat) (u y : State) (code : Nat) (z : State) (b : Bytes), s.session o.session = some x ∧
      s.serve 6 = Serve.now ∧ List.length o.body = 1570 ∧ inSram o.ekAt 1568 = true ∧ s.exportSlot (beAt o.body 0 2) (slice o.body 2 1568) = some n ∧
      State.ruleRanges [(o.ekAt, 1568, AccKind.write)] s = (u, true) ∧
      (u.keyWrite o.ekAt (slice o.body 2 1568)).runCust 36 n [o.recAt, o.ekAt, o.outAt] 0 = some (y, code) ∧ code = 0 ∧
      y.scribeRead o.outAt 1712 = (z, some b)) ∧
    (∃ (s : State) (o : Offer) (x : Session) (n : Nat) (u : State), s.session o.session = some x ∧ s.serve 6 = Serve.now ∧
      List.length o.body = 1570 ∧ inSram o.ekAt 1568 = true ∧ s.exportSlot (beAt o.body 0 2) (slice o.body 2 1568) = some n ∧
      State.ruleRanges [(o.ekAt, 1568, AccKind.write)] s = (u, true) ∧
      (u.keyWrite o.ekAt (slice o.body 2 1568)).runCust 36 n [o.recAt, o.ekAt, o.outAt] 0 = none) ∧
    (∃ (s u : State) (d : BspDatagram) (c : ClientSt) (b : Bytes), s.takeBsp [2] = some (u, d) ∧ u.net.client = some c ∧ c.finSent = false ∧
      c.tenant = d.tenant ∧ joinFrags (addFrag c.frags d.index d.body) (if d.last = true then some d.index else c.last) = some b ∧
      decide (List.length b = 3220 ∧ hsForm (addFrag c.frags d.index d.body) (if d.last = true then some d.index else c.last) = true ∧
      slice b 3172 48 = hmac384 (slice (bspKeys (c.ssS ++ kemDecaps c.eph (slice b 36 1568) ++ kemDecaps u.net.svcDk (slice b 1604 1568)) (sha384 (c.body ++ List.take 3172 b)) d.session d.tenant) 64 32) (ascii "BSP-D" ++ sha384 (c.body ++ List.take 3172 b))) = true) ∧
    (∃ (s u : State) (d : BspDatagram) (c : ClientSt) (b : Bytes), s.takeBsp [2] = some (u, d) ∧ u.net.client = some c ∧ c.finSent = false ∧
      c.tenant = d.tenant ∧ joinFrags (addFrag c.frags d.index d.body) (if d.last = true then some d.index else c.last) = some b ∧
      decide (List.length b = 3220 ∧ hsForm (addFrag c.frags d.index d.body) (if d.last = true then some d.index else c.last) = true ∧
      slice b 3172 48 = hmac384 (slice (bspKeys (c.ssS ++ kemDecaps c.eph (slice b 36 1568) ++ kemDecaps u.net.svcDk (slice b 1604 1568)) (sha384 (c.body ++ List.take 3172 b)) d.session d.tenant) 64 32) (ascii "BSP-D" ++ sha384 (c.body ++ List.take 3172 b))) = false) ∧
    (∃ (s u v : State) (d : BspDatagram) (c : ClientSt) (pt : Bytes), s.net.client.isSome = true ∧ s.takeBsp [4] = some (u, d) ∧
      u.clientOpen d = (v, some pt) ∧ v.net.client = some c) ∧
    (∃ (s u : State) (d : BspDatagram) (c : ClientSt), s.takeBsp [6] = some (u, d) ∧ u.net.client = some c ∧ c.established = false ∧
      c.tenant = d.tenant) ∧
    (∃ (s u v : State) (outAt : Nat) (d : BspDatagram) (c : ClientSt) (pt b : Bytes), s.takeBsp [33] = some (u, d) ∧ u.clientOpen d = (v, some pt) ∧
      v.net.client = some c ∧ joinFrags (addFrag c.msg d.index pt) (if d.last = true then some d.index else c.msgLast) = some b ∧
      inSram outAt (List.length b) = true ∧ (State.ruleRanges [(outAt, List.length b, AccKind.write)] v).2 = true ∧
      v.badPartial outAt (List.length b) = none) ∧
    (∃ (s u v : State) (d : BspDatagram) (pt : Bytes), s.takeBsp [34] = some (u, d) ∧ u.clientOpen d = (v, some pt)) ∧
    (∃ (s : State) (p : Party) (n w : Nat) (v : Word), n < 256 ∧ w < 32 ∧ (p = Party.manager ∧
      BitVec.getLsbD (s.tenantWord n) 30 = true ∨ (decide (w = 0) && BitVec.getLsbD (s.rd (Reg.TENANT_W0 n + 4 * w) &&& ~~~tenantMask p w ||| v &&& tenantMask p w) 31 && (List.range 256).any fun k => k != n && BitVec.getLsbD (s.tenantWord k) 31 && fieldOf (s.tenantWord k) 23 0 == fieldOf (s.rd (Reg.TENANT_W0 n + 4 * w) &&& ~~~tenantMask p w ||| v &&& tenantMask p w) 23 0) = true ∨ w = 23 ∧
      fieldOf v 1 0 = 3)) ∧
    (∃ (s : State) (p : Party) (n w : Nat) (v : Word), n < 256 ∧ w < 32 ∧ (¬(w = 23 ∧ fieldOf v 1 0 = 3)) ∧ (¬(p = Party.manager ∧
      BitVec.getLsbD (s.tenantWord n) 30 = true)) ∧
      (decide (w = 0) && BitVec.getLsbD (s.rd (Reg.TENANT_W0 n + 4 * w) &&& ~~~tenantMask p w ||| v &&& tenantMask p w) 31 && (List.range 256).any fun k => k != n && BitVec.getLsbD (s.tenantWord k) 31 && fieldOf (s.tenantWord k) 23 0 == fieldOf (s.rd (Reg.TENANT_W0 n + 4 * w) &&& ~~~tenantMask p w ||| v &&& tenantMask p w) 23 0) = false ∧
      s.net.sessions = []) := by
  and_intros
  · exact ⟨wph (zeros 4) liveState, _, _, _, 0x10002000, 0x10000000, 0x10001000, wsdp 0x20 wps 6 (zeros 4), _, _, _, rfl, rfl,
      openPt _ _ wps 6 (zeros 4) (by decide +kernel) rfl (by decide +kernel) (by decide +kernel) (by decide),
      rfl, peerFrag_one _ _ _ _ rfl (by decide +kernel) (by decide +kernel)⟩
  · exact ⟨wofferState liveState 2 0, woffer [], wps, by decide +kernel⟩
  · exact ⟨wofferState liveState 3 0, woffer [], wps, by decide +kernel⟩
  · exact ⟨wofferState liveState 0 0, woffer [], wps, by decide +kernel, by decide +kernel, .inl (by decide +kernel)⟩
  · have hr : ((wexpo1.keyWrite 0x10000000 (slice woff 2 1568)).runCust 0x24 0 [0, 0x10000000, 0x10001000] 0).isSome = true := by decide +kernel
    have hc : ((wexpo1.keyWrite 0x10000000 (slice woff 2 1568)).runCust 0x24 0 [0, 0x10000000, 0x10001000] 0).any (fun y => y.2 != 0) = true := by decide +kernel
    have ⟨⟨y, code⟩, hy⟩ := some_of _ hr
    exact ⟨wexpo, { woffer woff with recAt := 0 }, wps, 0, wexpo1, y, code, by decide +kernel, by decide +kernel, woff_len, by decide +kernel, woffer_slot,
      pair_true _ (by decide +kernel), hy,
      by rw [hy] at hc; simpa using hc⟩
  · have ⟨y, z, b, h, h2⟩ := e5_run
    exact ⟨wexpo2, woffer woff, wps, 0, wexpo3, y, 0, z, b, by decide +kernel, by decide +kernel, woff_len, by decide +kernel, woffer_slot,
      pair_true _ (by decide +kernel), h, rfl, h2⟩
  · exact ⟨{ wexpo with cust := { wexpo.cust with cmd := some (custCommand 0x20 0) } }, woffer woff, wps, 0,
      (State.ruleRanges [(0x10000000, 1568, .write)] { wexpo with cust := { wexpo.cust with cmd := some (custCommand 0x20 0) } }).1, by decide +kernel,
        by decide +kernel, woff_len, by decide +kernel, woffer_slot, pair_true _ (by decide +kernel), by decide +kernel⟩
  · have hc : whc.length = 48 := by simp [whc]
    refine ⟨clientState [whr] (wbsp1 false false), _, whr, wbsp1 false false, whp ++ whc, rfl, rfl, rfl, by decide +kernel, ?_, ?_⟩
    · have h1 : addFrag (wbsp1 false false).frags whr.index whr.body = [(0, whp ++ whc)] := rfl
      have h2 : (if whr.last = true then some whr.index else (wbsp1 false false).last) = some 0 := by decide +kernel
      rw [h1, h2]; simp [joinFrags, List.range_succ]
    · have h1 : slice (whp ++ whc) 36 1568 = slice whp 36 1568 := slice_left _ _ _ _ (by rw [whp_len]; omega)
      have h2 : slice (whp ++ whc) 1604 1568 = slice whp 1604 1568 := slice_left _ _ _ _ (by rw [whp_len])
      have h3 : (whp ++ whc).take 3172 = whp := by rw [← whp_len]; exact List.take_left
      have h4 : slice (whp ++ whc) 3172 48 = whc := by
        rw [show (3172 : Nat) = whp.length + 0 by rw [whp_len]]
        exact (slice_right _ _ _ _).trans (by rw [← hc]; exact slice_all _)
      have h5 : addFrag (wbsp1 false false).frags whr.index whr.body = [(0, whp ++ whc)] := rfl
      have h6 : (if whr.last = true then some whr.index else (wbsp1 false false).last) = some 0 := by decide +kernel
      have h7 : whr.session = 7 ∧ whr.tenant = 9 := by decide +kernel
      rw [decide_eq_true_eq]
      refine ⟨by rw [List.length_append, hc, whp_len], by rw [h5, h6]; simp [hsForm], ?_⟩
      rw [h1, h2, h3, h4, h7.1, h7.2]; rfl
  · exact ⟨clientState [datagramOf 2 7 0 0 (zeros 9)] (wbsp1 false false), _, datagramOf 2 7 0 0 (zeros 9), wbsp1 false false, zeros 9, rfl, rfl, rfl, by decide +kernel,
      by decide +kernel, by simp [zeros]⟩
  · exact ⟨clientState [wsd 4 (wbsp1 false true) []] (wbsp1 false true), popBsp (clientState [wsd 4 (wbsp1 false true) []] (wbsp1 false true)), _,
      wsd 4 (wbsp1 false true) [], _, _, rfl, rfl,
      clientOpen_of _ _ (wbsp1 false true) [] rfl (by decide +kernel) rfl (by decide +kernel), rfl⟩
  · exact ⟨clientState [datagramOf 6 0 0 0 []] (wbsp1 false true), _, datagramOf 6 0 0 0 [], wbsp1 false true, rfl, rfl, rfl, by decide +kernel⟩
  · exact ⟨bypassU 0 (clientState [wsd 0x21 (wbsp1 true true) (zeros 4)] (wbsp1 true true)),
      popBsp (bypassU 0 (clientState [wsd 0x21 (wbsp1 true true) (zeros 4)] (wbsp1 true true))), _,
      0x10000000, wsd 0x21 (wbsp1 true true) (zeros 4), _, _, _, rfl,
      clientOpen_of _ _ (wbsp1 true true) (zeros 4) rfl (by decide +kernel) rfl (by decide +kernel), rfl, join_one _ _ (by decide +kernel), by decide +kernel⟩
  · exact ⟨clientState [wsd 0x22 (wbsp1 true true) (zeros 4)] (wbsp1 true true), popBsp (clientState [wsd 0x22 (wbsp1 true true) (zeros 4)] (wbsp1 true true)), _,
      wsd 0x22 (wbsp1 true true) (zeros 4), _, rfl,
      clientOpen_of _ _ (wbsp1 true true) (zeros 4) rfl (by decide +kernel) rfl (by decide +kernel)⟩
  · exact ⟨bspState [] [], .scribe, 4, 0, 0x80000009, by decide +kernel⟩
  · exact ⟨bspState [] [], .scribe, 255, 31, 0xFFFFFFFF, by decide +kernel⟩

theorem witness_BspSessions :
    (∃ (s u : State) (d : BspDatagram) (body : Bytes), s.takeBsp [0x01] = some (u, d) ∧ joinFrags (hsOf u d).frags (hsOf u d).last = some body ∧
      hsForm (hsOf u d).frags (hsOf u d).last = false) ∧
    (∃ (s u : State) (d : BspDatagram) (body : Bytes) (st : Nat), s.takeBsp [0x01] = some (u, d) ∧
      joinFrags (hsOf u d).frags (hsOf u d).last = some body ∧ hsForm (hsOf u d).frags (hsOf u d).last = true ∧
      (hsLess u d).hsCheck (hsOf u d) body = .error st) ∧
    (∃ (s u : State) (d : BspDatagram) (body : Bytes) (n : Nat), s.takeBsp [0x01] = some (u, d) ∧
      joinFrags (hsOf u d).frags (hsOf u d).last = some body ∧ hsForm (hsOf u d).frags (hsOf u d).last = true ∧
      (hsLess u d).hsCheck (hsOf u d) body = .ok n ∧ (hsLess u d).serve 2 = .refuse) ∧
    (∃ (s u : State) (d : BspDatagram) (body : Bytes) (n : Nat), s.takeBsp [0x01] = some (u, d) ∧
      joinFrags (hsOf u d).frags (hsOf u d).last = some body ∧ hsForm (hsOf u d).frags (hsOf u d).last = true ∧
      (hsLess u d).hsCheck (hsOf u d) body = .ok n ∧ (hsLess u d).serve 2 = .wait) ∧
    (∃ (s u : State) (d : BspDatagram) (body : Bytes) (n : Nat), s.takeBsp [0x01] = some (u, d) ∧
      joinFrags (hsOf u d).frags (hsOf u d).last = some body ∧ hsForm (hsOf u d).frags (hsOf u d).last = true ∧
      (hsLess u d).hsCheck (hsOf u d) body = .ok n ∧ (hsLess u d).serve 2 = .now ∧ (hsLess u d).net.svcDk.isEmpty = false ∧
      (hsLess u d).flourishUp = true ∧ (hsLess u d).drbgReady 0 = true) ∧
    (∃ (s u : State) (d : BspDatagram) (x : Session), s.takeBsp [3] = some (u, d) ∧ u.session d.session = some x ∧ x.established = false ∧
      x.tenant = d.tenant ∧ d.body = hmac384 x.kConf (ascii "BSP-C" ++ x.th)) ∧
    (∃ (s u : State) (d : BspDatagram) (x : Session), s.takeBsp [3] = some (u, d) ∧ u.session d.session = some x ∧ x.established = false ∧
      x.tenant = d.tenant ∧ d.body ≠ hmac384 x.kConf (ascii "BSP-C" ++ x.th)) ∧
    (∃ (s : State) (session tenant : Nat) (x : Session), session ≠ 0 ∧ s.session session = some x ∧ x.established = false) ∧
    (∃ (s u v : State) (d : BspDatagram), s.takeBsp [4, 5, 16, 17] = some (u, d) ∧ u.openBsp d = Opened.dropped v) ∧
    (∃ (s u v : State) (d : BspDatagram) (x : Session), s.takeBsp [4, 5, 16, 17] = some (u, d) ∧ u.openBsp d = Opened.duplicate v x) ∧
    (∃ (s u v : State) (d : BspDatagram) (x : Session) (pt : Bytes), s.takeBsp [4, 5, 16, 17] = some (u, d) ∧ u.openBsp d = Opened.fresh v x pt ∧
      d.type = 16) ∧
    (∃ (x : Session) (seq : Nat), x.place seq = SeqPlace.fresh) ∧
    (∃ (s : State) (x : Session) (r : Reassembly) (b : Bytes) (port : Nat), x.peer = false ∧ s.folioState x.folio = 1 ∧ r.opcode ∈ bspOpcodes ∧
      (List.filter (fun o => o.folio == x.folio && o.bspPort.isSome && o.at_ == OpAt.cand) s.ops).length < 64) ∧
    (∃ (s : State) (session reqId : Nat) (x : Session) (r : Reassembly), s.session session = some x ∧
      List.find? (fun x => x.reqId == reqId) x.reasm = some r) := by
  and_intros
  · exact ⟨wfragState, popBsp wfragState, wfrag, zeros 6, by decide +kernel⟩
  · exact ⟨bspState [datagramOf 1 0 0 0 (zeros 3)] [], popBsp (bspState [datagramOf 1 0 0 0 (zeros 3)] []), datagramOf 1 0 0 0 (zeros 3), zeros 3, St.badLength,
      by decide +kernel⟩
  · exact ⟨wini 2, wiu 2, wid, winit, 3, rfl, wih_joined, by decide +kernel, wini_check 2 (by decide +kernel) (by decide +kernel), by decide +kernel⟩
  · exact ⟨wini 3, wiu 3, wid, winit, 3, rfl, wih_joined, by decide +kernel, wini_check 3 (by decide +kernel) (by decide +kernel), by decide +kernel⟩
  · exact ⟨wini 0, wiu 0, wid, winit, 3, rfl, wih_joined, by decide +kernel, wini_check 0 (by decide +kernel) (by decide +kernel), by decide +kernel⟩
  · exact ⟨bspState [⟨bspAddr, (datagramOf 3 7 0 0 (zeros 48)).hdr, hmac384 (bspSession false).kConf (ascii "BSP-C" ++ (bspSession false).th)⟩] [bspSession false],
      _, _, bspSession false,
      rfl, by rfl, rfl, by decide +kernel, rfl⟩
  · exact ⟨bspState [datagramOf 3 7 0 0 (zeros 47)] [bspSession false], _, _, bspSession false, rfl, by rfl, rfl, by decide +kernel, fun h => by
      have := congrArg List.length h
      simp [datagramOf] at this⟩
  · exact ⟨bspState [] [bspSession false], 7, 9, bspSession false, by decide +kernel⟩
  · exact ⟨bspState [datagramOf 0x10 9 1 0 (zeros 20)] [bspSession true], _, _, datagramOf 0x10 9 1 0 (zeros 20), rfl, rfl⟩
  · exact ⟨bspState [wsds 0x10 (bspSession true) 5 (zeros 4)] [bspSession true], _, _, wsds 0x10 (bspSession true) 5 (zeros 4), _, rfl,
      openBsp_dup _ _ (bspSession true) (zeros 4) rfl (by decide +kernel) (wsds_body _ _ _ _ (by decide +kernel)) (by decide +kernel)⟩
  · exact ⟨bspState [wsds 0x10 (bspSession true) 6 (zeros 4)] [bspSession true], _, _, wsds 0x10 (bspSession true) 6 (zeros 4), _, _, rfl,
      openBsp_fresh _ _ (bspSession true) (zeros 4) rfl (by decide +kernel) (wsds_body _ _ _ _ (by decide +kernel)) (by decide +kernel) (by decide +kernel),
      by decide +kernel⟩
  · exact ⟨bspSession true, 9, by decide +kernel⟩
  · exact ⟨bspState [] [bspSession true], bspSession true, { reqId := 3, opcode := 0x10, frags := [], last := none, lastSeq := 6, units := 1 }, wpar24, 0,
      by decide +kernel⟩
  · exact ⟨bspState [] [{ bspSession true with reasm := [{ reqId := 3, opcode := 0x10, frags := [], last := none, lastSeq := 6, units := 1 }] }], 7, 3,
      { bspSession true with reasm := [{ reqId := 3, opcode := 0x10, frags := [], last := none, lastSeq := 6, units := 1 }] },
        { reqId := 3, opcode := 0x10, frags := [], last := none, lastSeq := 6, units := 1 }, by decide +kernel⟩

theorem witness_Buckets :
    ∃ (s : State) (f c : Nat) (v : Word), f < 64 ∧ c < 6 := by
  exact ⟨ringState, 1, 3, 0xFFFFFFFF, by decide +kernel⟩

theorem witness_CeremonyAndEnrolment :
    (∃ (s : State) (c : CustCmd) (f : Option Nat) (code : Nat), s.cust.cmd = some c ∧ s.custCheck c = some code) ∧
    (∃ (s : State) (c : CustCmd) (p : Bytes) (m k : Word) (req : Nat), s.cust.cmd = some c ∧ s.custCheck c = none ∧ c.op = 16 ∧ c.slot < 4 ∧
      s.cust.slots.length = 4 ∧ s.cerState c.slot = 0 ∧
      (s.custRanges ([(c.at_ 0, 216, AccKind.read), (c.at_ 2, 168, AccKind.write)] ++ if needsEk (fieldOf c.arg 31 24) = true then [(c.at_ 1, 1568, AccKind.write)] else [])).2 = true ∧
      (needsEk (fieldOf c.arg 31 24) = true → s.flourishUp = true ∧ s.drbgReady 0 = true) ∧ s.keyRead (c.at_ 0) 216 = some p ∧
      paramsOk p c.arg = true ∧ s.cerMasks c p = some (m, req, k) ∧ s.timeValid = true ∧ 60 ≤ c.window ∧ c.window ≤ 86400 ∧ s.entropyOk = true) ∧
    (∃ (s : State) (c : CustCmd) (code : Nat), s.cust.cmd = some c ∧ s.custCheck c = none ∧ c.op = 17 ∧ c.slot < 4 ∧
      (s.custRanges [(c.at_ 0, 8844, AccKind.read)]).2 = true ∧ s.flourishUp = true ∧
      s.countCheck c.slot ((s.keyRead (c.at_ 0) 8844).getD []) = Except.error code) ∧
    (∃ (s : State) (c : CustCmd), s.cust.cmd = some c ∧ c.op = 18 ∧ c.slot < 4 ∧ s.cerState c.slot ≠ 0) ∧
    (∃ (s : State) (n : Nat), n < 4 ∧ s.cust.slots.length = 4 ∧ (s.cerState n = 1 ∨ s.cerState n = 2) ∧
      BitVec.toNat (s.rd64 (Reg.CUST_CER_EXPIRES n)) ≤ s.ns ∧ s.cerInUse n = false) ∧
    (∃ (s : State) (c : CustCmd), s.cust.cmd = some c ∧ s.custCheck c = none ∧ c.slot < 4 ∧ c.op = 1 ∧
      (s.custRow (paramIndex (s.cerSlot c.slot).params)).used = false ∧ paramIndex (s.cerSlot c.slot).params < s.otp.rows.length) ∧
    (∃ (s : State) (c : CustCmd) (n : Nat), s.cust.cmd = some c ∧ s.custCheck c = none ∧ c.slot < 4 ∧ c.op = 1 ∧
      (s.custRow (paramIndex (s.cerSlot c.slot).params)).used = false ∧ paramIndex (s.cerSlot c.slot).params < s.otp.rows.length) ∧
    (∃ (s : State) (c : CustCmd), s.cust.cmd = some c ∧ s.custCheck c = none ∧ c.slot < 4 ∧ c.op = 2 ∧
      s.devM ≤ maskCount (s.activeMask &&& ~~~BitVec.ofNat 32 (2 ^ paramIndex (s.cerSlot c.slot).params)) ∧
      paramIndex (s.cerSlot c.slot).params < s.otp.rows.length) ∧
    (∃ (s : State) (c : CustCmd), s.cust.cmd = some c ∧ s.custCheck c = none ∧ c.slot < 4 ∧ c.op = 3 ∧
      s.devM < paramIndex (s.cerSlot c.slot).params ∧ paramIndex (s.cerSlot c.slot).params ≤ 8 ∧
      paramIndex (s.cerSlot c.slot).params ≤ maskCount s.activeMask) := by
  and_intros
  · exact ⟨custState (custCommand 0x01 0) 10 1, custCommand 0x01 0, none, 0x14, by decide +kernel⟩
  · exact ⟨(custState (custCommand 0x10 0x03200005) 0 0).sramWrite 0x10000000 ([3,0,5,0] ++ zeros 212), custCommand 0x10 0x03200005, [3,0,5,0] ++ zeros 212, 3, 0,
      2, by decide +kernel⟩
  · exact ⟨(custState (custCommand 0x11 0) 3 1).wr64 (Reg.CUST_CER_EXPIRES 0) 1000, custCommand 0x11 0, 0x13, by decide +kernel⟩
  · exact ⟨custState (custCommand 0x12 0) 3 1, custCommand 0x12 0, by decide +kernel⟩
  · exact ⟨(let s := custState (custCommand 0x20 0) 3 1; { s with cust := { s.cust with cmd := none }, regs := (Reg.CUST_CER_EXPIRES 0, (0 : Word)) :: (Reg.CUST_CER_EXPIRES 0 + 4, (0 : Word)) :: s.regs }), 0, by decide +kernel⟩
  · exact ⟨withParams (custState (custCommand 0x01 0) 10 2) (zeros 4 ++ [7] ++ zeros 211), custCommand 0x01 0, by decide +kernel⟩
  · exact ⟨withParams (custState (custCommand 0x01 0) 10 2) (zeros 4 ++ [7] ++ zeros 211), custCommand 0x01 0, 5, by decide +kernel⟩
  · exact ⟨withParams (custState (custCommand 0x02 0) 11 2) (zeros 4 ++ [1] ++ zeros 211), custCommand 0x02 0, by decide +kernel⟩
  · exact ⟨withParams (custState (custCommand 0x03 0) 12 2) (zeros 4 ++ [3] ++ zeros 211), custCommand 0x03 0, by decide +kernel⟩

theorem witness_ColophonRows :
    (∃ (s : State) (mv : Nat), s.colo.running = true ∧ s.closeDue = false) ∧
    (∃ (s : State) (mv : Nat), s.colo.running = true ∧ s.closeDue = true) ∧
    (∃ (s : State) (mv : Nat), s.colo.running = false) ∧
    (∃ (s : State), s.epochSet = true ∧ s.epochEnd ≤ s.colo.opsec ∧ s.coloFull = false ∧ s.colo.epoch < 508) ∧
    (∃ (s : State), s.closeDue = true ∧ (s.coloFull = true ∨ 508 ≤ s.colo.epoch)) ∧
    (∃ (s : State), s.closeDue = false) ∧
    (∃ (s : State) (e : Nat) (rec : Bytes) (r : List (Nat × Bytes)) (reads : List Bool) (finds : List (Nat × EccFind)), s.colo.snaps = (e, rec) :: r) := by
  and_intros
  · exact ⟨colophonState, 750, by decide +kernel⟩
  · exact ⟨{ colophonState with colo := { colophonState.colo with mram := [(4, 7), (5, 1), (6, 1), (7, 0xFE)], opsec := 2000000 } }, 750, by decide +kernel⟩
  · exact ⟨portState, 750, by decide +kernel⟩
  · exact ⟨{ colophonState with colo := { colophonState.colo with opsec := 2000000 } }, by decide +kernel⟩
  · exact ⟨{ colophonState with colo := { colophonState.colo with mram := [(4, 7), (5, 1), (6, 3), (7, 0xFE)], opsec := 2000000 } }, by decide +kernel⟩
  · exact ⟨colophonState, by decide +kernel⟩
  · exact ⟨{ colophonState with colo := { colophonState.colo with snaps := [(3, zeros 512)] } }, 3, zeros 512, [], [false, false, true], [], by decide +kernel⟩

theorem witness_ConfigSpace :
    (∃ (s : State) (r : Nat) (w : Option Word), cfgReaches s r w ∧ (s.host.cfgOpen = false ∨ s.host.flr = true)) ∧
    (∃ (s : State) (r : Nat) (w : Option Word), s.hostLinkUp = true ∧ s.holds (Inbound.cfg r w) = true) ∧
    (∃ (s : State) (r : Nat), cfgReaches s r none ∧ s.host.cfgOpen = true ∧ s.host.flr = false) ∧
    (∃ (s : State) (v : Word), cfgReaches s Cfg.pmcsr (some v) ∧ s.host.cfgOpen = true ∧ s.host.flr = false ∧
      (fieldOf v 1 0 = 0 ∨ fieldOf v 1 0 = 3)) ∧
    (∃ (s : State) (v : Word), cfgReaches s Cfg.atsCtl (some v) ∧ s.host.cfgOpen = true ∧ s.host.flr = false) ∧
    (∃ (s : State) (r : Nat) (v : Word), cfgReaches s r (some v) ∧ s.host.cfgOpen = true ∧ s.host.flr = false ∧
      r ∉ [Cfg.command, Cfg.pmcsr, Cfg.msixCtl, Cfg.atsCtl]) ∧
    (∃ (s : State), s.ops = []) := by
  and_intros
  · exact ⟨{ liveState with host := { liveState.host with cfgOpen := false } }, 1, none, by decide +kernel⟩
  · exact ⟨{ liveState with host := { liveState.host with linkL0 := false } }, 1, none, by decide +kernel⟩
  · exact ⟨liveState, 0, by decide +kernel⟩
  · exact ⟨liveState, 0, by decide +kernel⟩
  · exact ⟨liveState, 0, by decide +kernel⟩
  · exact ⟨liveState, 9, 0xFFFFFFFF, by decide +kernel⟩
  · exact ⟨liveState, by decide +kernel⟩

theorem witness_ConsolePorts :
    (∃ (s : State) (n : Nat) (v : Word), s.conOpen n = true ∧ s.conMode n ≠ 3 ∧ (s.con n).tx.length < 256) ∧
    (∃ (s : State) (n : Nat) (v : Word), s.conOpen n = true ∧ (s.conMode n = 3 ∨ 256 ≤ (s.con n).tx.length)) ∧
    (∃ (s : State) (n x : Nat) (r : List Nat), s.conEn n = true ∧ s.conMode n ≠ 1 ∧ (s.con n).busy = ConTx.idle ∧ s.bit (conStat n) 28 = false ∧
      s.conSilent n = false ∧ s.bit (conStat n) 31 = false ∧ (s.con n).flow = [] ∧ (s.con n).breakDue = false ∧ (s.con n).echo = [] ∧
      (s.con n).tx = x :: r) ∧
    (∃ (s : State) (n x : Nat), (s.con n).busy = ConTx.char x ∧ s.conMode n ≠ 2) ∧
    (∃ (s : State) (n : Nat) (b : Bool), s.conOpen n = true ∧ s.conRuns = true ∧ (s.con n).busy ≠ ConTx.idle ∧
      ((s.con n).endsAt ≤ s.stime.cycle + 4 ∨ b = true ∧ s.conMode n = 4)) ∧
    (∃ (s : State) (n : Nat) (c : RxChar), s.conOpen n = true ∧ s.conRuns = true ∧ c.begun = true ∧ (s.con n).lineLow = false ∧ s.conDeaf n = false) ∧
    (∃ (s : State) (n ch : Nat), n < 2 ∧ (s.con n).rx.length < 256) ∧
    (∃ (s : State) (n ch : Nat), n < 2 ∧ 256 ≤ (s.con n).rx.length) ∧
    (∃ (s : State) (n : Nat), s.conOpen n = true ∧ (s.con n).rx = []) ∧
    (∃ (s : State) (n x : Nat) (r : List Nat), s.conOpen n = true ∧ (s.con n).rx = x :: r ∧ s.xonEn n = false) ∧
    (∃ (s : State) (n : Nat), s.conOpen n = true) ∧
    (∃ (s : State) (n : Nat), s.conOpen n = true ∧ s.xonEn n = false) ∧
    (∃ (s : State) (n : Nat), s.conOpen n = true ∧ (s.con n).xoffAt ≠ some s.stime.cycle) ∧
    (∃ (s : State) (n : Nat), s.conOpen n = true ∧ (s.con n).xoffAt = some s.stime.cycle) ∧
    (∃ (s : State) (n : Nat), s.conOpen n = true ∧ s.bit (conBase n + 16) 28 = false) ∧
    (∃ (s : State) (n : Nat), s.conOpen n = true ∧ s.bit (conBase n + 16) 28 = true) ∧
    (∃ (s : State) (n : Nat) (r : ConReg) (v : Word), s.conOpen n = true ∧ s.conRefused n r v = true) ∧
    (∃ (s : State) (n : Nat) (r : ConReg) (v : Word), s.conOpen n = true ∧ s.conRefused n r v = false ∧ (s.con n).busy ≠ ConTx.idle) ∧
    (∃ (s : State) (n c : Nat), s.conOpen n = true ∧ s.bit (conStat n) 31 = true ∧ s.fld (conFlow n) 7 0 ≠ 0 ∧ (s.con n).pausedAt = some c ∧
      c + s.fld (conFlow n) 7 0 * 8000000 ≤ s.stime.cycle) ∧
    (∃ (s : State) (n c : Nat), s.conOpen n = true ∧ s.bit (conStat n) 31 = true ∧ s.fld (conFlow n) 7 0 ≠ 0 ∧ (s.con n).pausedAt = some c ∧
      s.stime.cycle < c + s.fld (conFlow n) 7 0 * 8000000) ∧
    (∃ (s : State) (n : Nat), s.conOpen n = true ∧ (s.con n).tail = true ∧ (s.con n).busy = ConTx.idle ∧ (s.con n).endsAt ≤ s.stime.cycle + 4) ∧
    (∃ (s : State) (n : Nat), s.conOpen n = true ∧ s.conRuns = true ∧ (s.con n).rx ≠ []) ∧
    (∃ (s : State) (n : Nat), s.conOpen n = true ∧ s.conEn n = true ∧ s.conRuns = false) := by
  and_intros
  · exact ⟨consoleState 0, 0, 0x41, by decide +kernel⟩
  · exact ⟨consoleState 3, 0, 0x41, by decide +kernel⟩
  · exact ⟨consoleState 0, 0, 5, [6], by decide +kernel⟩
  · exact ⟨{ consoleState 0 with con0 := { busy := .char 0x141 } }, 0, 0x141, by decide +kernel⟩
  · exact ⟨{ consoleState 0 with con0 := { busy := .char 0x141 } }, 0, false, by decide +kernel⟩
  · exact ⟨consoleState 0, 0, ⟨0x41, true, true, false, true⟩, by decide +kernel⟩
  · exact ⟨consoleState 0, 0, 77, by decide +kernel⟩
  · exact ⟨{ consoleState 0 with con0 := { rx := List.replicate 256 1 } }, 0, 77, by decide +kernel⟩
  · exact ⟨consoleState 0, 1, by decide +kernel⟩
  · exact ⟨consoleState 0, 0, 9, [8], by decide +kernel⟩
  · exact ⟨consoleState 0, 1, by decide +kernel⟩
  · exact ⟨consoleState 0, 0, by decide +kernel⟩
  · exact ⟨consoleState 0, 1, by decide +kernel⟩
  · exact ⟨{ consoleState 0 with con1 := { xoffAt := some 0 } }, 1, by decide +kernel⟩
  · exact ⟨consoleState 0, 0, by decide +kernel⟩
  · exact ⟨withRegs (consoleState 0) [(Reg.CON1_CFG, 0x80000800), (conBase 1 + 16, 0x10000000)], 1, by decide +kernel⟩
  · exact ⟨consoleState 0, 0, .baud, 0, by decide +kernel⟩
  · exact ⟨withRegs { consoleState 0 with con0 := { busy := .char 3 } } [(Reg.CON0_CFG, 0x800)], 0, .flow, 0x7FFFFFFF, by decide +kernel⟩
  · exact ⟨{ withRegs (consoleState 0) [(Reg.CON0_STAT, 0x80000000), (Reg.CON0_FLOW, 5)] with con0 := { pausedAt := some 0 }, stime := { State.reset.stime with cycle := 40000000 } }, 0, 0, by decide +kernel⟩
  · exact ⟨{ withRegs (consoleState 0) [(Reg.CON0_STAT, 0x80000000), (Reg.CON0_FLOW, 5)] with con0 := { pausedAt := some 0 }, stime := { State.reset.stime with cycle := 39999999 } }, 0, 0, by decide +kernel⟩
  · exact ⟨withRegs { consoleState 1 with con0 := { tail := true } } [(Reg.CON0_STAT, 0x01000000)], 0, by decide +kernel⟩
  · exact ⟨consoleState 0, 0, by decide +kernel⟩
  · exact ⟨withRegs (consoleState 0) [(Reg.PWR_STAT, 3)], 0, by decide +kernel⟩

theorem witness_CoreMemory :
    (∃ (s : State) (acc : Access) (data : Nat) (m : HostMem) (c : CoreCsr), coreDirect s acc c ∧ acc.kind = AccKind.write ∧ acc.len = 8 ∧
      acc.addr % 8 = 0 ∧ inSram acc.addr 8 = true ∧ s.ruleRefuses (if acc.addr < 536870912 then 0 else 1) (asRuled s acc) = none) ∧
    (∃ (s : State) (acc : Access) (data : Nat) (m : HostMem) (c : CoreCsr), coreDirect s acc c ∧ acc.kind = AccKind.read ∧ acc.len = 8 ∧
      acc.addr % 8 = 0 ∧ inSram acc.addr 8 = true ∧ s.isBad acc.addr = false ∧
      s.ruleRefuses (if acc.addr < 536870912 then 0 else 1) (asRuled s acc) = none) ∧
    (∃ (s : State) (acc : Access) (data : Nat) (e : EccFind) (m : HostMem) (c : CoreCsr), coreDirect s acc c ∧ 0 < acc.len ∧
      memOf acc.addr = Mem.none) ∧
    (∃ (s : State) (acc : Access) (data : Nat) (e : EccFind) (m : HostMem) (c : CoreCsr), s.coreRuns acc.init = true ∧
      modeOk acc.init acc.priv = true ∧ s.firedTrigger acc.init acc = none ∧
      (acc.init = 0 ∨ acc.priv = Priv.m ∨ BitVec.toNat c.satp / 2 ^ 60 ∉ [8, 9]) ∧ pmpOk c acc.priv acc.kind acc.addr acc.len = false) ∧
    (∃ (s t : State) (acc : Access) (data cause : Nat) (e : EccFind) (m : HostMem) (c : CoreCsr), s.coreRuns acc.init = true ∧
      modeOk acc.init acc.priv = true ∧ s.firedTrigger acc.init acc = none ∧ s.coreWorld acc.init = World.draft ∧
      s.translate { party := Party.draft, world := World.draft, priv := acc.priv, init := acc.init, dbg := false } (asRuled s acc) c = (t, Except.error cause)) ∧
    (∃ (s t : State) (acc : Access) (data a : Nat) (m : HostMem) (c : CoreCsr), s.coreRuns acc.init = true ∧ modeOk acc.init acc.priv = true ∧
      s.firedTrigger acc.init acc = none ∧ s.coreWorld acc.init = World.draft ∧
      s.translate { party := Party.draft, world := World.draft, priv := acc.priv, init := acc.init, dbg := false } (asRuled s acc) c = (t, Except.ok a) ∧
      pmpOk c acc.priv acc.kind a acc.len = true ∧ acc.kind = AccKind.read ∧ acc.len = 8 ∧ a % 8 = 0 ∧ inSram a 8 = true ∧ t.isBad a = false ∧
      t.ruleRefuses (if a < 536870912 then 0 else 1) { asRuled s acc with addr := a } = none) ∧
    (∃ (s : State) (acc : Access) (data i : Nat) (e : EccFind) (m : HostMem) (c : CoreCsr), s.coreRuns acc.init = true ∧
      modeOk acc.init acc.priv = true ∧ s.firedTrigger acc.init acc = some i ∧ BitVec.getLsbD (s.trigger acc.init i).1 12 = false) ∧
    (∃ (s : State) (addr : Nat) (w : Option Nat), s.pwr.mainUp = true ∧ s.right 2 = true ∧ addr % 4 = 0 ∧ memOf addr = Mem.none) ∧
    (∃ (s : State) (addr v : Nat), s.pwr.mainUp = true ∧ s.sbMay addr = true ∧ addr % 8 = 0 ∧ inSram addr 8 = true ∧
      s.ruleRefuses (if addr < 536870912 then 0 else 1) (asBus s addr 8 AccKind.write) = none) ∧
    (∃ (s : State) (addr : Nat), s.pwr.mainUp = true ∧ s.sbMay addr = true ∧ addr % 8 = 0 ∧ inSram addr 8 = true ∧ s.isBad addr = false ∧
      s.ruleRefuses (if addr < 536870912 then 0 else 1) (asBus s addr 8 AccKind.read) = none) := by
  and_intros
  · exact ⟨liveState, accessOf 0x10000008 8 .write 0 .scribe, 0x1122334455667788, [], {}, by decide +kernel⟩
  · exact ⟨liveState, accessOf 0x10000008 8 .read 0 .scribe, 0, [], {}, by decide +kernel⟩
  · exact ⟨liveState, accessOf 0x50000 4 .read 0 .scribe, 0, .clean, [], {}, by decide +kernel⟩
  · exact ⟨liveState, { accessOf 0x50000 4 .read 0 .scribe with priv := .u }, 0, .clean, [], {}, by decide +kernel⟩
  · exact ⟨withRegs liveState [(coreStat, 0x10000), (Reg.RUL_CTL 1, 4)], _, { accessOf (2 ^ 38) 4 .read 1 .draft with priv := .s }, 0, 13, .clean, [],
      { satp := BitVec.ofNat 64 (2 ^ 63) }, and4 (by decide +kernel) (rfl)⟩
  · exact ⟨withRegs (openUnit liveState 1) [(coreStat, 0x10000)], _, accessOf 0x20000008 8 .read 1 .draft, 0, 0x20000008, [], {}, and4 (by decide +kernel) ⟨rfl,
      by decide +kernel⟩⟩
  · exact ⟨{ liveState with wrld := { liveState.wrld with trig := [(0, BitVec.ofNat 64 (2 ^ 6 + 1), BitVec.ofNat 64 0x50000)] } },
      accessOf 0x50000 4 .read 0 .scribe, 0, 0, .clean, [], {}, by decide +kernel⟩
  · exact ⟨withRegs liveState [(Reg.LCY_RIGHTS, 4), (Reg.LCY_STATE, 0x404)], 0x50000, none, by decide +kernel⟩
  · exact ⟨withRegs (openUnit liveState 1) [(Reg.LCY_STATE, 1)], 0x20000008, 7, by decide +kernel⟩
  · exact ⟨withRegs (openUnit liveState 1) [(Reg.LCY_STATE, 1)], 0x20000008, by decide +kernel⟩

theorem witness_CustodianFrames :
    (∃ (addr : Byte) (type : Nat) (q p : Bytes), type < 256 ∧ List.length q = 2 ∧ List.length p ≤ 13248) ∧
    (∃ (s : State) (chars : List Nat) (f : CustFrame), s.custOf 1 chars = some f) ∧
    (∃ (s : State) (chars : List Nat) (f : CustFrame), s.custOf 2 chars = some f) ∧
    (∃ (s : State) (chars : List Nat) (pkgAt : Nat) (f : CustFrame), s.custOf 3 chars = some f) ∧
    (∃ (s t : State) (chars : List Nat) (buf code : Nat) (f : CustFrame), s.custOf 4 chars = some f ∧
      (s.keyWrite buf f.payload).runCust 17 (leAt f.payload 5 1 % 4) [buf] 0 = some (t, code)) ∧
    (∃ (s t : State) (chars : List Nat) (slot buf pkgAt code : Nat) (f : CustFrame), s.custOf 5 chars = some f ∧
      (s.keyWrite buf f.payload).runCust 34 (slot % 4) [buf, pkgAt] 0 = some (t, code)) ∧
    (∃ (s : State) (chars : List Nat) (f : CustFrame), s.custLine = true ∧ custFrame chars = some f ∧ custLen f.type ≠ some (List.length f.payload)) := by
  and_intros
  · exact ⟨0x7E, 3, [0x7D, 0x7E], [0x7D, 1, 0x7E], by decide +kernel⟩
  · exact ⟨lineState (custState (custCommand 0 0) 3 1), charsOf 1 [], custFrameOf 1 [], by decide +kernel⟩
  · exact ⟨lineState (custState (custCommand 0 0) 3 1), charsOf 2 [0], custFrameOf 2 [0], by decide +kernel⟩
  · exact ⟨lineState (custState (custCommand 0 0) 3 1), charsOf 3 [0], 0x10000000, custFrameOf 3 [0], by decide +kernel⟩
  · have ⟨⟨t, code⟩, h⟩ := some_of ((wline.keyWrite 0x10000000 (zeros 8844)).runCust 17 (leAt (zeros 8844) 5 1 % 4) [0x10000000] 0) (by decide +kernel)
    exact ⟨wline, t, charsOf 4 (zeros 8844), 0x10000000, code, custFrameOf 4 (zeros 8844),
      custOf_charsOf _ _ _ (by decide) (by rw [zeros_length]; decide) (by decide +kernel) (by rw [zeros_length]; rfl), h⟩
  · have ⟨⟨t, code⟩, h⟩ := some_of ((wline.keyWrite 0x10000000 (zeros 1640)).runCust 34 (0 % 4) [0x10000000, 0x10008000] 0) (by decide +kernel)
    exact ⟨wline, t, charsOf 5 (zeros 1640), 0, 0x10000000, 0x10008000, code, custFrameOf 5 (zeros 1640),
      custOf_charsOf _ _ _ (by decide) (by rw [zeros_length]; decide) (by decide +kernel) (by rw [zeros_length]; rfl), h⟩
  · exact ⟨lineState (custState (custCommand 0 0) 3 1), charsOf 9 [0], custFrameOf 9 [0], by decide +kernel⟩

theorem witness_CustodianStart :
    (∃ (x : (Word → Instr) × Nat) (s : State) (v : Word), x ∈ custodianRows ∧ (x.2 = 16 → ¬openBarred s) ∧ s.cust.cmd = none) ∧
    (∃ (x : (Word → Instr) × Nat) (s : State) (v : Word), x ∈ custodianRows ∧ (x.2 = 16 → ¬openBarred s) ∧ s.cust.cmd.isSome = true) ∧
    (∃ (s : State) (v : Word), openBarred s) := by
  and_intros
  · exact ⟨(.cerOpen, 0x10), withRegs liveState [(Reg.CUST_ADDR 0, 0x10000000)], 0x80020000, by simp [custodianRows], fun _ => by decide +kernel, by decide +kernel⟩
  · exact ⟨(.succBuild, 0x20), custState (custCommand 0 0) 0 0, 0x80020000, by simp [custodianRows], by decide +kernel⟩
  · exact ⟨(let s := (withRegs liveState [(Reg.CUST_ADDR 0, 0x10000000)]).sramWrite 0x10000000 [11, 0, 0, 0, 7]; { s with cust := { s.cust with packages := [(5, 2, [7, 8])] } }), 0x80020000, by decide +kernel⟩

theorem witness_DebugAuth :
    (∃ (s : State), s.tapOffers 12 = true) ∧
    (∃ (s : State) (w : Word), s.tapOffers 12 = true) ∧
    (∃ (s : State), s.tapOffers 12 = true ∧ s.lcyBusy = false ∧ s.entropyOk = true) ∧
    (∃ (s : State), s.tapOffers 12 = true ∧ s.lcyBusy = true) ∧
    (∃ (s : State) (n : Nat), s.tapOffers 12 = true) ∧
    (∃ (s : State), s.tapOffers 12 = true ∧ s.lcyBusy = false) ∧
    (∃ (s : State), s.tapOffers 12 = false) := by
  and_intros
  · exact ⟨withRegs liveState [(Reg.LCY_STATE, 4)], by decide +kernel⟩
  · exact ⟨withRegs liveState [(Reg.LCY_STATE, 4)], 7, by decide +kernel⟩
  · exact ⟨withRegs liveState [(Reg.LCY_STATE, 4), (Reg.ENT_STAT, 0x200), (Reg.ENT_SRC_CTL, 1)], by decide +kernel⟩
  · exact ⟨{ withRegs liveState [(Reg.LCY_STATE, 4)] with lcy := { liveState.lcy with nonceHeld := true } }, by decide +kernel⟩
  · exact ⟨withRegs liveState [(Reg.LCY_STATE, 4)], 7, by decide +kernel⟩
  · exact ⟨withRegs liveState [(Reg.LCY_STATE, 4)], by decide +kernel⟩
  · exact ⟨withRegs liveState [(Reg.LCY_STATE, 1)], by decide +kernel⟩

theorem witness_DescriptorFetch :
    (∃ (s u v : State) (m : HostMem) (n : Nat) (b : Bytes), s.host.busMaster = true ∧ s.host.d3 = false ∧ s.pwr.mainUp = true ∧
      s.fetchRing = some n ∧ (u = if s.ringFolio n = 0 then s else { s with sch := { s.sch with lastRing := n } }) ∧ (u.ringSt n).ahead = [] ∧
      u.hostRead m { who := HostReader.fetch n, init := ringInit, folio := s.ringFolio n, pasid := s.ringPasid n, ro := true } (BitVec.toNat (s.rd64 (Reg.RING_SQ_BASE n)) + 64 * s.sqHead n) (64 * s.fetchCount n) = (v, b, none)) ∧
    (∃ (s u : State) (m : HostMem) (n : Nat), s.host.busMaster = true ∧ s.host.d3 = false ∧ s.pwr.mainUp = true ∧ s.fetchRing = some n ∧
      (u = if s.ringFolio n = 0 then s else { s with sch := { s.sch with lastRing := n } }) ∧ (u.ringSt n).ahead ≠ []) ∧
    (∃ (s u v : State) (m : HostMem) (n st : Nat), s.host.busMaster = true ∧ s.host.d3 = false ∧ s.pwr.mainUp = true ∧ s.fetchRing = some n ∧
      (u = if s.ringFolio n = 0 then s else { s with sch := { s.sch with lastRing := n } }) ∧ (u.ringSt n).ahead = [] ∧ st ≠ St.wait ∧
      u.hostRead m { who := HostReader.fetch n, init := ringInit, folio := s.ringFolio n, pasid := s.ringPasid n, ro := true } (BitVec.toNat (s.rd64 (Reg.RING_SQ_BASE n)) + 64 * s.sqHead n) (64 * s.fetchCount n) = (v, [], some st)) ∧
    (∃ (s t : State) (n k : Nat) (b : Bytes) (rest : List Bytes), s.fenced n = false ∧ (s.ringSt n).ahead = b :: rest ∧
      s.fetchOne n (parseDesc b) = none) ∧
    (∃ (s t : State) (n k : Nat) (b : Bytes) (rest : List Bytes), s.fenced n = false ∧ (s.ringSt n).ahead = b :: rest ∧
      s.fetchOne n (parseDesc b) = some t) ∧
    (∃ (s : State) (n : Nat) (d : Desc), s.descOk n d = true ∧ coveredOp d = false ∧ d.notBefore ≤ s.ns ∧ d.flags.testBit 2 = false ∧
      s.predecessor n ((s.ringSt n).fetched + 1) d.chain = some true) ∧
    (∃ (s : State) (n : Nat) (d : Desc), s.descOk n d = true ∧ coveredOp d = false ∧ s.ns < d.notBefore ∧ s.gateFree (s.ringFolio n) = true) ∧
    (∃ (s : State) (n : Nat) (d : Desc), s.descOk n d = false ∧ s.host.busMaster = false ∧ (∀ o ∈ s.ops, o.id ≠ s.nextOp)) := by
  and_intros
  · have h : ∀ k : Fin 12,
      (ringStateU.hostRead hostMem { who := .fetch 0, init := 9 + k, folio := 1, pasid := ringState3.ringPasid 0, ro := true } 65536 192).2 = (zeros 192,
        none) := by decide +kernel
    have hf : ringState3.ringFolio 0 = 1 := by decide +kernel
    have ha : (ringState3.rd64 (Reg.RING_SQ_BASE 0)).toNat + 64 * ringState3.sqHead 0 = 65536 := by decide +kernel
    have hn : 64 * ringState3.fetchCount 0 = 192 := by decide +kernel
    exact ⟨ringState3, ringStateU,
      (ringStateU.hostRead hostMem { who := .fetch 0, init := ringInit, folio := 1, pasid := ringState3.ringPasid 0, ro := true } 65536 192).1, hostMem, 0,
        zeros 192, and4 (by decide +kernel) ⟨by rw [hf]; rfl, by decide +kernel, by
        rw [hf, ha, hn]; exact Prod.ext rfl (h ⟨Config.hostInitiator % 12, Nat.mod_lt _ (by decide)⟩)⟩⟩
  · exact ⟨(ringState3.setRing 0 { ahead := [zeros 64] }), _, [], 0, and4 (by decide +kernel) ⟨rfl, by decide +kernel⟩⟩
  · have h : ∀ k : Fin 12, (ringStateU.hostRead [] { who := .fetch 0, init := 9 + k, folio := 1, pasid := ringState3.ringPasid 0, ro := true } 65536 192).2 = ([],
      some St.badAddress) := by decide +kernel
    have hf : ringState3.ringFolio 0 = 1 := by decide +kernel
    have ha : (ringState3.rd64 (Reg.RING_SQ_BASE 0)).toNat + 64 * ringState3.sqHead 0 = 65536 := by decide +kernel
    have hn : 64 * ringState3.fetchCount 0 = 192 := by decide +kernel
    exact ⟨ringState3, ringStateU,
      (ringStateU.hostRead [] { who := .fetch 0, init := ringInit, folio := 1, pasid := ringState3.ringPasid 0, ro := true } 65536 192).1, [], 0, St.badAddress,
        and4 (by decide +kernel) ⟨by rw [hf]; rfl, by decide +kernel, by decide, by
        rw [hf, ha, hn]; exact Prod.ext rfl (h ⟨Config.hostInitiator % 12, Nat.mod_lt _ (by decide)⟩)⟩⟩
  · exact ⟨withRegs (ringState3.setRing 0 { ahead := [parkDesc] }) [(Reg.SCH_FOL_GATE_CAP 1, 0)], ringState3, 0, 1, parkDesc, [], by decide +kernel⟩
  · exact ⟨ringState3.setRing 0 { ahead := [zeros 64] }, _, 0, 1, zeros 64, [], by decide +kernel, by decide +kernel, rfl⟩
  · exact ⟨ringState, 0, descOf 0x52, by decide +kernel⟩
  · exact ⟨ringState, 0, { descOf 0x52 with notBefore := 100 }, by decide +kernel⟩
  · exact ⟨{ ringState with host := { liveState.host with busMaster := false } }, 0, { descOf 0x52 with rsvd := 1 }, by decide +kernel⟩

theorem witness_DmaAndHostAccess :
    (∃ (s : State) (w : World) (src dst n : Nat), s.pwr.mainUp = true ∧ 0 < n ∧ n ≤ 64 ∧ src % 8 = 0 ∧ dst % 8 = 0 ∧ n % 8 = 0 ∧
      inSram src n = true ∧ inSram dst n = true ∧ (∀ a ∈ wordsOf src n, s.isBad a = false) ∧
      s.ruleRefuses ((unitOf src).getD 0) { addr := src, len := n, kind := AccKind.read, init := if w = World.scribe then 9 else 10, world := w, priv := Priv.m, folio := none } = none ∧
      s.ruleRefuses ((unitOf dst).getD 0) { addr := dst, len := n, kind := AccKind.write, init := if w = World.scribe then 9 else 10, world := w, priv := Priv.m, folio := none } = none) ∧
    (∃ (s : State) (w : World) (src dst n : Nat), s.pwr.mainUp = true ∧ 0 < n ∧ n ≤ 64 ∧ inSram src n = true ∧ inSram dst n = true ∧
      s.ruleRefuses ((unitOf src).getD 0) { addr := src, len := n, kind := AccKind.read, init := if w = World.scribe then 9 else 10, world := w, priv := Priv.m, folio := none } ≠ none) ∧
    (∃ (s : State) (off len : Nat) (w : Option Bytes) (full : Bool) (e : EccFind), hostReaches s ∧ off < 4194304 ∧ s.folioState (off / 65536) = 0) ∧
    (∃ (s : State) (f i : Nat) (b : Bytes), hostReaches s ∧ s.fld Reg.BOOT_STAT 23 20 = 11 ∧ 0 < f ∧ f < 64 ∧ i < 64 ∧ List.length b = 4 ∧
      s.folioState f ≠ 0 ∧ s.mailboxOn f = true ∧ s.bit (Reg.FOL_MBX_CTL f) 0 = false ∧ s.isBad ((Reg.FOL_CTL f + 4096 + 4 * i) / 8 * 8) = false) ∧
    (∃ (s : State) (f : Nat), hostReaches s ∧ s.fld Reg.BOOT_STAT 23 20 = 11 ∧ f < 64 ∧ s.folioState f ≠ 0) ∧
    (∃ (s : State) (bar off len : Nat) (w : Option Bytes) (full : Bool) (e : EccFind), s.hostLinkUp = true ∧
      s.holds (Inbound.mmio bar off len w full e) = true) := by
  and_intros
  · exact ⟨liveState, .scribe, 0x10000000, 0x10000100, 64, by decide +kernel⟩
  · exact ⟨liveState, .draft, 0x10000000, 0x10000100, 64, by decide +kernel⟩
  · exact ⟨liveState, 0x30000, 4, none, true, .clean, by decide +kernel⟩
  · exact ⟨withRegs liveState [(Reg.FOL_CTL 5, 1)], 5, 63, [1,2,3,4], by decide +kernel⟩
  · exact ⟨withRegs liveState [(Reg.FOL_CTL 5, 1), (Reg.FOL_ERR 5, 3)], 5, by decide +kernel⟩
  · exact ⟨{ liveState with host := { liveState.host with linkL0 := false } }, 0, 0x10004, 4, none, true, .clean, by decide +kernel⟩

theorem witness_EngineRuns :
    (∃ (x : (Nat → HostMem → Instr) × Nat × (State → Op → Option Nat) × (State → HostMem → Op → Stop (State × OpRes))) (s : State) (id : Nat) (m : HostMem) (o : Op) (t : State) (r : OpRes), x ∈ engineRows ∧
      s.running id x.2.1 = some o ∧ x.2.2.2 s m o = Except.ok (t, r) ∧ x.2.2.1 s o = none) ∧
    (∃ (x : (Nat → HostMem → Instr) × Nat × (State → Op → Option Nat) × (State → HostMem → Op → Stop (State × OpRes))) (s : State) (id : Nat) (m : HostMem) (o : Op) (t : State) (st : Nat), x ∈ engineRows ∧
      s.running id x.2.1 = some o ∧ x.2.2.2 s m o = Except.error (t, st)) ∧
    (∃ (x : (Nat → HostMem → Instr) × Nat × (State → Op → Option Nat) × (State → HostMem → Op → Stop (State × OpRes))) (s : State) (id : Nat) (m : HostMem) (o : Op) (t : State) (r : OpRes) (i : Nat), x ∈ engineRows ∧
      s.running id x.2.1 = some o ∧ x.2.2.2 s m o = Except.ok (t, r) ∧ x.2.2.1 s o = some i) ∧
    (∃ (x : (Nat → LaneEnv → Instr) × Nat × (State → HostMem → Op → Stop (State × LanePlan))) (s : State) (id : Nat) (m : HostMem) (upto : Option Nat) (o : Op) (j : LaneJob), x ∈ laneRows ∧
      s.running id x.2.1 = some o ∧ o.job = some j) ∧
    (∃ (x : (Nat → LaneEnv → Instr) × Nat × (State → HostMem → Op → Stop (State × LanePlan))) (s : State) (id : Nat) (m : HostMem) (upto : Option Nat) (o : Op) (t : State) (st : Nat), x ∈ laneRows ∧
      s.running id x.2.1 = some o ∧ o.job = none ∧ x.2.2 s m o = Except.error (t, st)) ∧
    (∃ (x : (Nat → LaneEnv → Instr) × Nat × (State → HostMem → Op → Stop (State × LanePlan))) (s : State) (id : Nat) (m : HostMem) (upto : Option Nat) (o : Op) (t : State) (p : LanePlan), x ∈ laneRows ∧
      s.running id x.2.1 = some o ∧ o.job = none ∧ x.2.2 s m o = Except.ok (t, p) ∧ (p.draw = 0 ∨ s.drbgReady 3 = true)) ∧
    (∃ (x : (Nat → LaneEnv → Instr) × Nat × (State → HostMem → Op → Stop (State × LanePlan))) (s : State) (id : Nat) (m : HostMem) (upto : Option Nat) (o : Op) (t : State) (p : LanePlan), x ∈ laneRows ∧
      s.running id x.2.1 = some o ∧ o.job = none ∧ x.2.2 s m o = Except.ok (t, p) ∧ p.draw ≠ 0 ∧ s.drbgReady 3 = false) ∧
    (∃ (t : State) (o p : Op) (r : OpRes) (y : Op), t.op o.id = some p ∧ y ∈ (t.engineEnd o r).ops ∧ y.id = o.id) ∧
    (∃ (t : State) (o p : Op) (r : OpRes), t.op o.id = some p) ∧
    (∃ (s t u : State) (m : HostMem) (o : Op) (j : LaneJob) (b out : Bytes) (bad : Bool), j.got = [] ∧ j.part = 0 ∧
      State.readParts m o j.io (cutPieces (j.work.reads j.base j.start (j.start + j.done)) 0 (sglTotal (j.work.reads j.base j.start (j.start + j.done)))) s = (t, b,
        none) ∧
      List.length b = sglTotal (j.work.reads j.base j.start (j.start + j.done)) ∧ j.work.part (j.start + j.done) b = (out, bad) ∧
      t.writeAt o j.io j.good out = (u, List.length out, none) ∧ bad = false) ∧
    (∃ (s t u : State) (m : HostMem) (o : Op) (j : LaneJob) (b out : Bytes) (bad : Bool), j.got = [] ∧ j.part = 0 ∧
      State.readParts m o j.io (cutPieces (j.work.reads j.base j.start (j.start + j.done)) 0 (sglTotal (j.work.reads j.base j.start (j.start + j.done)))) s = (t, b,
        none) ∧
      List.length b = sglTotal (j.work.reads j.base j.start (j.start + j.done)) ∧ j.work.part (j.start + j.done) b = (out, bad) ∧
      t.writeAt o j.io j.good out = (u, List.length out, none) ∧ bad = true) ∧
    (∃ (s t : State) (m : HostMem) (o : Op) (j : LaneJob) (budget : Option Nat) (r : OpRes), State.laneRun m o (j.count - j.done) s j budget = (t, ChunkEnd.over r)) ∧
    (∃ (s t : State) (m : HostMem) (o : Op) (j : LaneJob) (budget : Option Nat) (k : LaneJob), (State.laneRun m o (j.count - j.done) s j budget = (t,
      ChunkEnd.stop k) ∨ State.laneRun m o (j.count - j.done) s j budget = (t, ChunkEnd.done k))) := by
  and_intros
  · have ⟨t, r, h, _⟩ := stop_ok ((bspOpState (whash 6)).hashRun [] (whash 6)) (fun _ => true) (by decide +kernel)
    exact ⟨(.hash, 0x10, fun _ _ => none, State.hashRun), bspOpState (whash 6), 3, [], whash 6, t, r, by simp [engineRows], by decide +kernel, h, rfl⟩
  · have ⟨t, r, h⟩ := stop_error ((bspOpState (whash 99)).hashRun [] (whash 99)) (by decide +kernel)
    exact ⟨(.hash, 0x10, fun _ _ => none, State.hashRun), bspOpState (whash 99), 3, [], whash 99, t, r, by simp [engineRows], by decide +kernel, h⟩
  · have ⟨t, r, h, _⟩ := stop_ok ((unready (bspOpState wgen)).keygenRun [] wgen) (fun _ => true) (by decide +kernel)
    exact ⟨(.keyGenerate, 0x32, fun s _ => s.notReady [1, 0], State.keygenRun), unready (bspOpState wgen), 3, [], wgen, t, r, 1, by simp [engineRows],
      by decide +kernel, h, by decide +kernel⟩
  · exact ⟨(.seal, 0x01, State.planSeal), bspOpState { wseal with job := some wjob1 }, 3, [], none, { wseal with job := some wjob1 }, wjob1, by simp [laneRows],
      by decide +kernel⟩
  · have ⟨t, r, h⟩ := stop_error ((runState 0x01 0x10).planSeal [] (ringOp 0x01 (.run 0x10))) (by decide +kernel)
    exact ⟨(.seal, 0x01, State.planSeal), runState 0x01 0x10, 3, [], none, ringOp 0x01 (.run 0x10), t, r, by simp [laneRows], by decide +kernel, by decide +kernel, h⟩
  · have ⟨t, p, h, _⟩ := stop_ok ((bspOpState wseal).planSeal [] wseal) (fun _ => true) (by decide +kernel)
    exact ⟨(.seal, 0x01, State.planSeal), bspOpState wseal, 3, [], none, wseal, t, p, by simp [laneRows], by decide +kernel, by decide +kernel, h,
      .inr (by decide +kernel)⟩
  · have ⟨t, p, h, hp⟩ := stop_ok ((unready (bspOpState wseal)).planSeal [] wseal) (fun p => p.draw != 0) (by decide +kernel)
    exact ⟨(.seal, 0x01, State.planSeal), unready (bspOpState wseal), 3, [], none, wseal, t, p, by simp [laneRows], by decide +kernel, by decide +kernel, h,
      by simpa using hp, by decide +kernel⟩
  · exact ⟨runState 0x20 0x40, ringOp 0x20 (.run 0x40), ringOp 0x20 (.run 0x40), { status := 0 },
      ((runState 0x20 0x40).engineEnd (ringOp 0x20 (.run 0x40)) { status := 0 }).ops.headD (opOf 0 .cand), by decide +kernel⟩
  · exact ⟨runState 0x20 0x40, ringOp 0x20 (.run 0x40), ringOp 0x20 (.run 0x40), { status := 0 }, by decide +kernel⟩
  · have hw (x : State × Nat × Option Nat) (n : Nat) (h1 : x.2.1 = n) (h2 : x.2.2 = none) : x = (x.1, n, none) := by
      obtain ⟨a, b, c⟩ := x
      simp only at h1 h2; subst h1 h2; rfl
    exact ⟨bspOpState wseal, (wread wseal wjob1).1, (wwrite wseal wjob1).1, [], wseal, wjob1, (wread wseal wjob1).2.1, (wpart wseal wjob1).1, (wpart wseal wjob1).2,
      by decide +kernel, by decide +kernel,
      read_all (wread wseal wjob1) (by decide +kernel), by decide +kernel, rfl, hw (wwrite wseal wjob1) _ (by decide +kernel) (by decide +kernel), by decide +kernel⟩
  · exact ⟨bspOpState wopen, (wread wopen wjob2).1, (wwrite wopen wjob2).1, [], wopen, wjob2, (wread wopen wjob2).2.1, (wpart wopen wjob2).1, (wpart wopen wjob2).2,
      by decide +kernel, by decide +kernel, read_all (wread wopen wjob2) (by decide +kernel),
      by decide +kernel, Prod.ext (Eq.refl (wpart wopen wjob2).1) (Eq.refl (wpart wopen wjob2).2),
        Prod.ext (Eq.refl (wwrite wopen wjob2).1) (Prod.ext (by decide +kernel) (by decide +kernel)), by decide +kernel⟩
  · exact ⟨bspOpState wseal, _, [], wseal, { wjob1 with count := 0 }, none, _, rfl⟩
  · exact ⟨bspOpState wseal, (State.laneRun [] wseal (wjob1.count - wjob1.done) (bspOpState wseal) wjob1 (some 0)).1, [], wseal, wjob1, some 0,
      (State.laneRun [] wseal (wjob1.count - wjob1.done) (bspOpState wseal) wjob1 (some 0)).2.job, .inl (Prod.ext rfl (by decide +kernel))⟩

theorem witness_EntropyRows :
    (∃ (s : State) (n : Nat) (rct apt : Bool), n < 4 ∧ s.srcState n = 2 ∧ (rct || apt) = true) ∧
    (∃ (s : State) (n : Nat), n < 4 ∧ s.srcState n = 1) ∧
    (∃ (s : State) (n : Nat) (v : Word), n < 4 ∧ BitVec.getLsbD v (4 + n) = true ∧ s.srcState n = 3 ∧ (∀ k < 4, BitVec.getLsbD v k = true ∧
      s.srcEnabled k = true)) ∧
    (∃ (s : State) (v : Word) (i : Nat), i < 4 ∧ BitVec.getLsbD v i = true) ∧
    (∃ (s : State), s.ent.wanted = true ∧ s.entropyOk = true ∧ s.drbgUp 0 = false) ∧
    (∃ (s : State) (c : Instr) (i : Nat), (c = Instr.entRngS ∧ i = 0 ∨ c = Instr.entRngD ∧ i = 2) ∧ s.drbgReady i = true) ∧
    (∃ (s : State) (c : Instr) (i : Nat), (c = Instr.entRngS ∧ i = 0 ∨ c = Instr.entRngD ∧ i = 2) ∧ s.drbgReady i = false) := by
  and_intros
  · exact ⟨withRegs liveState [(Reg.ENT_STAT, 0x200), (Reg.ENT_SRC_CTL, 1)], 0, true, false, by decide +kernel⟩
  · exact ⟨withRegs liveState [(Reg.ENT_STAT, 0x204000), (Reg.ENT_SRC_CTL, 15)], 3, by decide +kernel⟩
  · exact ⟨withRegs liveState [(Reg.ENT_STAT, 0xC000), (Reg.ENT_SRC_CTL, 15)], 3, 0x8F, by decide +kernel⟩
  · exact ⟨liveState, 0xF, 3, by decide +kernel⟩
  · exact ⟨{ withRegs liveState [(Reg.ENT_STAT, 0x200), (Reg.ENT_SRC_CTL, 1)] with ent := { liveState.ent with wanted := true } }, by decide +kernel⟩
  · exact ⟨withRegs liveState drbgRegs, .entRngS, 0, by simp, by decide +kernel⟩
  · exact ⟨liveState, .entRngD, 2, by simp, by decide +kernel⟩

theorem witness_EventDelivery :
    (∃ (s : State) (n : Nat), n < 512) ∧
    (∃ (s : State) (p : Party) (n : Nat) (v : Word), n < 512 ∧ reachesRoutes p = true ∧ s.cycNow.routes = [] ∧ s.bit (Reg.EVT_ROUTE n) 30 = false ∧
      routeTarget v < 5 ∧ mayRoute (s.rd (Reg.EVT_ROUTE n)) p n (routeTarget v) = true) ∧
    (∃ (s : State) (p : Party) (n : Nat) (v : Word), n < 512 ∧ reachesRoutes p = true ∧ s.cycNow.routes = [] ∧
      (s.bit (Reg.EVT_ROUTE n) 30 = true ∨ 5 ≤ routeTarget v ∨ mayRoute (s.rd (Reg.EVT_ROUTE n)) p n (routeTarget v) = false)) ∧
    (∃ (s : State) (p q : Party) (n : Nat) (v w : Word), n < 512 ∧ reachesRoutes p = true ∧ reachesRoutes q = true ∧ routeRank p < routeRank q ∧
      s.cycNow.routes = []) ∧
    (∃ (s : State) (p : Party) (g : Nat) (v : Word), g < 16) ∧
    (∃ (s : State) (f : Nat) (v : Word), f < 64) ∧
    (∃ (s : State) (v : Nat), v < 512 ∧ s.host.msixEnable = true ∧ (s.host.funcMask = false) ∧ s.host.busMaster = true ∧ v ∈ s.host.pba) ∧
    (∃ (s : State) (w : World) (ctx : Nat), ctx < plicContexts w) ∧
    (∃ (s : State) (w : World) (ctx id : Nat), ctx < plicContexts w ∧ 0 < id ∧ id ≤ 512 ∧ s.plicEnabled w ctx id = true ∧
      (s.plicOf w).busy.contains id = true) := by
  and_intros
  · exact ⟨portState, 511, by decide +kernel⟩
  · exact ⟨portState, .scribe, 300, 0xC3050000, by decide +kernel⟩
  · exact ⟨portState, .draft, 255, 0xC3050000, by decide +kernel⟩
  · exact ⟨portState, .scribe, .manager, 300, 0xC3050000, 0xC3050001, by decide +kernel⟩
  · exact ⟨withRegs portState [(Reg.EVT_STATUS 15, 0xFFFFFFFF)], .draft, 15, 0xFFFFFFFF, by decide +kernel⟩
  · exact ⟨withRegs ringState [(Reg.EVT_STATUS 0, 0xFFFFFFFF), (Reg.EVT_STATUS 6, 0xFFFFFFFF)], 1, 0x1FFFF, by decide +kernel⟩
  · exact ⟨{ ringState with host := { ringState.host with msixEnable := true, pba := [3] } }, 3, by decide +kernel⟩
  · exact ⟨{ withRegs portState [(Reg.DPLIC_ENABLE 2 0, 0xFFFFFFFF), (Reg.DPLIC_PRIORITY 5, 3), (Reg.DPLIC_PRIORITY 6, 7)] with plicD := { ip := [5, 6] } }, .draft,
      2, by decide +kernel⟩
  · exact ⟨{ withRegs portState [(Reg.DPLIC_ENABLE 2 0, 0xFFFFFFFF)] with plicD := { busy := [5] } }, .draft, 2, 5, by decide +kernel⟩

theorem witness_FoliosAndResets :
    (∃ (s : State) (f : Nat) (c : Instr) (op res : Nat), f < 64 ∧ (c = Instr.quiesce f ∧ op = 1 ∧ (res = if s.folioState f = 4 then 1 else 2) ∧
      s.folioState f ≠ 1 ∨ c = Instr.resume f ∧ op = 2 ∧ res = 2 ∧ s.folioState f ≠ 2 ∧ s.folioState f ≠ 3 ∨ c = Instr.reset f ∧ op = 3 ∧
      s.folioState f = 4 ∧ res = 1 ∨ c = Instr.reset f ∧ op = 3 ∧ s.folioState f = 0 ∧ res = 2 ∨ c = Instr.destroy f ∧ op = 4 ∧ res = 2 ∧
      (s.folioState f = 4 ∨ s.folioState f = 0))) ∧
    (∃ (s : State) (f : Nat), f < 64 ∧ s.folioState f = 1) ∧
    (∃ (s : State) (f : Nat), f < 64 ∧ s.folioState f = 2 ∧ (∀ o ∈ s.ops, o.folio = f → o.queued = true)) ∧
    (∃ (s : State) (f : Nat), f < 64 ∧ (s.folioState f = 2 ∨ s.folioState f = 3)) ∧
    (∃ (s : State) (f : Nat), f < 64 ∧ s.folioState f ≠ 4 ∧ s.folioState f ≠ 0) ∧
    (∃ (s : State) (f : Nat) (d : Bool), f < 64) ∧
    (∃ (s : State) (f : Nat) (d : Bool) (o : Op), f < 64 ∧ o ∈ (s.folioReset f d).ops) ∧
    (∃ (s : State) (f : Nat) (d : Bool) (q : QuotaSlot), f < 64 ∧ q ∈ (s.folioReset f d).rsv.slots) ∧
    (∃ (s : State) (f : Nat), f < 64 ∧ s.folioState f = 4 ∧ s.host.flr = false) ∧
    (∃ (s : State) (f : Nat), 0 < f ∧ f < 64 ∧ s.mailboxOn f = true ∧ s.bit (Reg.FOL_MBX_CTL f) 0 = false) ∧
    (∃ (s : State) (f : Nat), 0 < f ∧ f < 64 ∧ s.mailboxOn f = true ∧ s.bit (Reg.FOL_MBX_CTL f) 1 = false) ∧
    (∃ (s : State) (f : Nat), s.bit (Reg.FOL_MBX_CTL f) 0 = true) ∧
    (∃ (s : State) (f : Nat), s.bit (Reg.FOL_MBX_CTL f) 1 = true) ∧
    (∃ (s : State), s.host.perst = false ∧ s.host.cfgOpen = true) ∧
    (∃ (s : State), s.host.flr = true) ∧
    (∃ (s : State), s.fld Reg.BOOT_STAT 23 20 ≠ 11) ∧
    (∃ (s : State), s.fld Reg.BOOT_STAT 23 20 = 11) ∧
    (∃ (s : State), s.host.perst = true) := by
  and_intros
  · exact ⟨ringState, 2, .quiesce 2, 1, 2, by decide +kernel, .inl ⟨rfl, rfl, by decide +kernel⟩⟩
  · exact ⟨ringState, 1, by decide +kernel⟩
  · exact ⟨withRegs (withOps ringState [{ opOf 3 .cand with src := .bsp 1 1 0 }]) [(Reg.FOL_CTL 1, 2)], 1, by decide +kernel⟩
  · exact ⟨withRegs ringState [(Reg.FOL_CTL 1, 3)], 1, by decide +kernel⟩
  · exact ⟨withRegs ringState [(Reg.FOL_CTL 1, 3)], 1, by decide +kernel⟩
  · exact ⟨ringState, 1, true, by decide +kernel⟩
  · exact ⟨withOps ringState [opOf 3 (.run 0x30), opOf 4 (.parkTime 0)], 0, true, opOf 3 (.run 0x30), by decide +kernel⟩
  · exact ⟨{ ringState with rsv := { ringState.rsv with slots := [slotOf1] } }, 0, true, slotOf1, by decide +kernel⟩
  · exact ⟨withRegs ringState [(Reg.FOL_CTL 1, 4), (Reg.FOL_CMD 1, 3)], 1, by decide +kernel⟩
  · exact ⟨ringState, 1, by decide +kernel⟩
  · exact ⟨ringState, 1, by decide +kernel⟩
  · exact ⟨withRegs ringState [(Reg.FOL_MBX_CTL 1, 3)], 1, by decide +kernel⟩
  · exact ⟨withRegs ringState [(Reg.FOL_MBX_CTL 1, 3)], 1, by decide +kernel⟩
  · exact ⟨withOps ringState [opOf 3 (.run 0x30)], by decide +kernel⟩
  · exact ⟨{ ringState with host := { liveState.host with flr := true } }, by decide +kernel⟩
  · exact ⟨withRegs ringState [(Reg.BOOT_STAT, 3 * 2 ^ 20)], by decide +kernel⟩
  · exact ⟨withRegs ringState [(Reg.EVT_STATUS 3, 0xFFFFFFFF)], by decide +kernel⟩
  · exact ⟨{ ringState with host := { liveState.host with perst := true } }, by decide +kernel⟩

theorem witness_GateReleases :
    (∃ (s : State) (o : Op) (n no w : Nat), s.strokes.due = [] ∧ s.gateOrder = [o] ∧ o.src = OpSrc.ring n no ∧ s.op o.id = some o ∧ o.res = none ∧
      o.at_ = OpAt.parkTime w ∧ o.desc.notBefore ≤ s.ns ∧ s.predecessor n no o.desc.chain = some true) ∧
    (∃ (s : State) (o : Op) (n no w : Nat), s.strokes.due = [] ∧ s.gateOrder = [o] ∧ o.src = OpSrc.ring n no ∧ s.op o.id = some o ∧ o.res = none ∧
      o.at_ = OpAt.parkTime w ∧ s.ns < o.desc.notBefore) ∧
    (∃ (s : State) (o : Op) (n no w : Nat), s.strokes.due = [] ∧ s.gateOrder = [o] ∧ o.src = OpSrc.ring n no ∧ s.op o.id = some o ∧ o.res = none ∧
      o.at_ = OpAt.parkChain w ∧ s.predecessor n no o.desc.chain = some true) ∧
    (∃ (s : State) (o : Op) (n no w : Nat), s.strokes.due = [] ∧ s.gateOrder = [o] ∧ o.src = OpSrc.ring n no ∧ s.op o.id = some o ∧ o.res = none ∧
      o.at_ = OpAt.parkChain w ∧ s.predecessor n no o.desc.chain = some false) ∧
    (∃ (s : State) (o : Op) (n no w k : Nat) (e : DupEnt) (r : OpRes), s.strokes.due = [] ∧ s.gateOrder = [o] ∧ o.src = OpSrc.ring n no ∧
      s.op o.id = some o ∧ o.res = none ∧ o.at_ = OpAt.parkDup w k ∧ List.find? (fun x => x.fetchNo == k) (s.ringSt n).window = some e ∧
      e.res = some r) ∧
    (∃ (s : State) (o : Op) (n no w : Nat), s.strokes.due = [] ∧ s.gateOrder = [o] ∧ o.src = OpSrc.ring n no ∧ s.op o.id = some o ∧ o.res = none ∧
      o.at_ = OpAt.parkTime w ∧ s.fld (Reg.RING_GATE_TO n) 19 0 ≠ 0 ∧ s.fld (Reg.RING_GATE_TO n) 19 0 * 800000 < s.stime.cycle - w) := by
  and_intros
  · exact ⟨{ withOps ringState [opOf 3 (.parkTime 0)] with stime := { ns := 500 } }, opOf 3 (.parkTime 0), 0, 1, 0, by decide +kernel⟩
  · exact ⟨withOps ringState [{ opOf 3 (.parkTime 0) with desc := { descOf 0x52 with notBefore := 600 } }],
      { opOf 3 (.parkTime 0) with desc := { descOf 0x52 with notBefore := 600 } }, 0, 1, 0, by decide +kernel⟩
  · exact ⟨(withOps ringState [{ opOf 3 (.parkChain 0) with src := .ring 0 2, desc := { descOf 0x52 with chain := 1 } }]).setRing 0 { fetched := 2, hist := [(1, true)] }, { opOf 3 (.parkChain 0) with src := .ring 0 2, desc := { descOf 0x52 with chain := 1 } }, 0, 2, 0, by decide +kernel⟩
  · exact ⟨(withOps ringState [{ opOf 3 (.parkChain 0) with src := .ring 0 2, desc := { descOf 0x52 with chain := 1 } }]).setRing 0 { fetched := 2, hist := [(1, false)] }, { opOf 3 (.parkChain 0) with src := .ring 0 2, desc := { descOf 0x52 with chain := 1 } }, 0, 2, 0, by decide +kernel⟩
  · exact ⟨(withOps ringState [{ opOf 3 (.parkDup 0 1) with src := .ring 0 2 }]).setRing 0 { fetched := 2, window := [⟨7, 1, some { status := 0 }⟩] },
      { opOf 3 (.parkDup 0 1) with src := .ring 0 2 }, 0, 2, 0, 1, ⟨7, 1, some { status := 0 }⟩, { status := 0 }, by decide +kernel⟩
  · exact ⟨{ withRegs (withOps ringState [opOf 3 (.parkTime 0)]) [(Reg.RING_GATE_TO 0, 1)] with stime := { ns := 500, cycle := 800001 } }, opOf 3 (.parkTime 0), 0,
      1, 0, by decide +kernel⟩

theorem witness_HostReads :
    (∃ (s : State) (id : Nat) (o : Op) (poisoned : Bool), s.op id = some o ∧ o.res = none ∧ o.engine ≠ 0 ∧ o.bspPort = none) ∧
    (∃ (s : State) (poisoned : Bool), s.bit Reg.BOOT_RCV_STAT 23 = true) ∧
    (∃ (s : State) (n : Nat), n < 128 ∧ s.ringState n = 1) ∧
    (∃ (s : State) (f i : Nat), f < 64 ∧ i < 32) ∧
    (∃ (s : State) (id a dest size : Nat) (pasid : Option Nat) (rd wr write : Bool) (o : Op),
      s.host.xlReqs.contains { who := HostReader.op id, pasid := pasid, addr := a, write := write } = true ∧
      (if write = true then wr else rd) = false ∧ s.op id = some o ∧ o.res = none) ∧
    (∃ (s : State) (who : HostReader) (pasid : Option Nat) (a dest size : Nat) (rd wr write : Bool),
      s.host.xlReqs.contains { who := who, pasid := pasid, addr := a, write := write } = true ∧
      (if write = true then wr else rd) = true) ∧
    (∃ (s : State) (who : HostReader) (pasid : Option Nat) (a dest size : Nat) (rd wr write : Bool),
      s.host.xlReqs.contains { who := who, pasid := pasid, addr := a, write := write } = false) ∧
    (∃ (s : State) (tag a size : Nat) (pasid : Option Nat) (global : Bool), s.host.invals.length < 32) ∧
    (∃ (s : State) (tag : Nat) (rest : List Nat), s.host.invals = tag :: rest) := by
  and_intros
  · exact ⟨withOps ringState [opOf 3 (.run 0x30)], 3, opOf 3 (.run 0x30), true, by decide +kernel⟩
  · exact ⟨withRegs liveState [(Reg.BOOT_RCV_STAT, 0x800000)], true, by decide +kernel⟩
  · exact ⟨ringState, 0, by decide +kernel⟩
  · exact ⟨ringState, 1, 31, by decide +kernel⟩
  · exact ⟨{ (withOps ringState [opOf 3 (.run 0x30)]) with host := { liveState.host with atsEnable := true, xlReqs := [⟨.op 3, some 1, 0x1000, true⟩] } }, 3,
      0x1000, 0x1000, 0x1000, some 1, true, false, true, opOf 3 (.run 0x30), by decide +kernel⟩
  · exact ⟨{ (withOps ringState [opOf 3 (.run 0x30)]) with host := { liveState.host with atsEnable := true, xlReqs := [⟨.op 3, some 1, 0x1000, false⟩] } }, .op 3,
      some 1, 0x1000, 0x1000, 0x1000, true, false, false, by decide +kernel⟩
  · exact ⟨{ (withOps ringState [opOf 3 (.run 0x30)]) with host := { liveState.host with atsEnable := true, xlReqs := [⟨.op 3, some 1, 0x1000, false⟩] } }, .op 3,
      some 1, 0x2000, 0x1000, 0x1000, true, false, false, by decide +kernel⟩
  · exact ⟨{ liveState with host := { liveState.host with ats := [⟨some 1, 0x1000, 0x1000, true, true, 0x1000⟩] } }, 3, 0x1000, 0x2000, some 1, false, by decide +kernel⟩
  · exact ⟨{ liveState with host := { liveState.host with invals := [3, 4] } }, 3, [4], by decide +kernel⟩

theorem witness_LendingAndSwitch :
    (∃ (s : State) (v : Word) (c : Nat), c < 8 ∧ BitVec.getLsbD v c = true ∧ s.lent c = true ∧ s.coreReleased c = true ∧ s.inScribe c = false ∧
      s.switching c = false ∧ s.claimed c = false ∧ s.cycNow.yields = []) ∧
    (∃ (s : State) (v : Word) (c : Nat), c < 8 ∧ BitVec.getLsbD v c = true ∧ s.lent c = true ∧ s.coreReleased c = true ∧ s.inScribe c = false ∧
      s.switching c = false ∧ s.claimed c = false ∧ s.cycNow.yields.contains c = true ∧ s.wrld.halted.contains (c + 1) = false ∧
      s.proof.slice ≠ some (7 + c)) ∧
    (∃ (s : State) (v : Word), (∀ c < 8, BitVec.getLsbD v c = true → s.lent c = false ∨ s.coreReleased c = false)) ∧
    (∃ (s : State) (v : Word) (c : Nat), c < 8 ∧ (s.lent c = false ∨ s.coreReleased c = false)) ∧
    (∃ (s : State) (c : Nat), s.claimed c = false) ∧
    (∃ (i : Nat → Instr) (s : State) (c : Nat), (i = Instr.wrldYield ∨ i = Instr.claimGraceExpiry) ∧ s.claimed c = true ∧
      s.proof.slice ≠ some (7 + c) ∧ s.switching c = false ∧ s.wrld.halted.contains (c + 1) = false) ∧
    (∃ (i : Nat → Instr) (s : State) (c : Nat), (i = Instr.wrldYield ∨ i = Instr.claimGraceExpiry) ∧ s.claimed c = true ∧
      s.proof.slice = some (7 + c)) ∧
    (∃ (s : State) (c : Nat), s.inScribe c = true ∧ s.switching c = false) ∧
    (∃ (s : State) (c : Nat) (w : SwitchSt), List.find? (fun x => x.core == c) s.wrld.switches = some w ∧ c < 8 ∧ s.wrld.recalls.contains c = false) ∧
    (∃ (s : State) (c : Nat) (w : SwitchSt), List.find? (fun x => x.core == c) s.wrld.switches = some w ∧ c < 8 ∧ w.enter = true ∧
      s.wrld.recalls.contains c = true) := by
  and_intros
  · exact ⟨withRegs liveState [(Reg.WRLD_CFG, 0x300), (Reg.WRLD_CORE_STAT, 0x30000)], 3, 1, by decide +kernel⟩
  · exact ⟨{ withRegs liveState [(Reg.WRLD_CFG, 0x300), (Reg.WRLD_CORE_STAT, 0x30000)] with cyc := { yields := [1] } }, 2, 1, by decide +kernel⟩
  · exact ⟨withRegs liveState [(Reg.WRLD_CFG, 0x300), (Reg.WRLD_CORE_STAT, 0x10000)], 2, by decide +kernel⟩
  · exact ⟨State.reset, 1, 0, by decide +kernel⟩
  · exact ⟨liveState, 3, by decide +kernel⟩
  · exact ⟨.wrldYield, withRegs liveState [(Reg.WRLD_CFG, 0x300), (Reg.WRLD_CORE_STAT, 0x30200)], 1, by simp, by decide +kernel⟩
  · exact ⟨.wrldYield, { withRegs liveState [(Reg.WRLD_CFG, 0x300), (Reg.WRLD_CORE_STAT, 0x30200)] with proof := { slice := some 8 } }, 1, by simp, by decide +kernel⟩
  · exact ⟨withRegs liveState [(Reg.WRLD_CFG, 0x300), (Reg.WRLD_CORE_STAT, 0x30002)], 1, by decide +kernel⟩
  · exact ⟨withRegs { liveState with wrld := { liveState.wrld with switches := [⟨1, true⟩] } } [(Reg.WRLD_CFG, 0x300), (Reg.WRLD_CORE_STAT, 0x30000)], 1, ⟨1, true⟩,
      by decide +kernel⟩
  · exact ⟨{ liveState with wrld := { liveState.wrld with switches := [⟨1, true⟩], recalls := [1] } }, 1, ⟨1, true⟩, by decide +kernel⟩

theorem witness_LifeCycleRequests :
    (∃ (s u : State) (c : Bytes), s.lcyBusy = false ∧ s.cmdCert = (u, c) ∧ needsCeremony c = false) ∧
    (∃ (s u : State) (c : Bytes) (n : Nat), s.lcyBusy = false ∧ s.cmdCert = (u, c) ∧ needsCeremony c = true ∧ u.cerForCert c = some n) ∧
    (∃ (s u : State) (c : Bytes), s.lcyBusy = false ∧ s.cmdCert = (u, c) ∧ needsCeremony c = true ∧ u.cerForCert c = none) ∧
    (∃ (s : State), s.lcyBusy = true) ∧
    (∃ (s : State) (c : Bytes), s.lcy.req = some (LcyGoal.check c) ∧ s.certCode c ≠ 0) ∧
    (∃ (s : State) (w : DWord) (wiped : Bool), s.mem.wipe = none ∧ s.lcy.req = some (LcyGoal.mark w wiped) ∧
      (wiped && s.bit Reg.MEM_WIPE_STAT 30) = false) ∧
    (∃ (s : State) (w : DWord) (wiped : Bool) (b : Nat), s.mem.wipe = none ∧ s.lcy.req = some (LcyGoal.mark w wiped) ∧
      (wiped && s.bit Reg.MEM_WIPE_STAT 30) = false ∧ BitVec.getLsbD (w &&& ~~~s.otp.lcyWord) b = true) ∧
    (∃ (s : State) (r : Word), s.mem.wipe = none ∧ s.lcy.req = some (LcyGoal.session r) ∧ s.bit Reg.MEM_WIPE_STAT 30 = false) ∧
    (∃ (s : State) (r : Word) (b : Nat), s.mem.wipe = none ∧ s.lcy.req = some (LcyGoal.session r) ∧ s.bit Reg.MEM_WIPE_STAT 30 = false ∧
      popCount s.otp.therm < 64) ∧
    (∃ (s : State) (w : DWord) (f : Option Nat), s.mem.wipe = none ∧ s.lcy.req = some (LcyGoal.mark w true) ∧ s.bit Reg.MEM_WIPE_STAT 30 = true) ∧
    (∃ (s : State) (f : Option Nat), s.mem.wipe = none ∧ s.lcy.req = none ∧ s.lcy.nonceHeld = true ∧ s.entropyOk = true) ∧
    (∃ (s : State), s.lcyBusy = false ∧ s.entropyOk = true) ∧
    (∃ (s : State), s.lcyBusy = false ∧ s.entropyOk = false) := by
  and_intros
  · exact ⟨liveState, _, [], by decide +kernel, Prod.ext rfl (by decide +kernel), by decide +kernel⟩
  · exact ⟨certState (2 * 2 ^ 30 + 7 * 256), _, debugCert, 0, by decide +kernel, Prod.ext rfl (by decide +kernel), by decide +kernel⟩
  · have hn : ((certState 0).cmdCert.1.cerForCert debugCert).isNone = true := by decide +kernel
    have he : (certState 0).cmdCert.2 = debugCert := by decide +kernel
    exact ⟨certState 0, (certState 0).cmdCert.1, debugCert, by decide +kernel, pair_snd _ _ he, by decide +kernel, Option.isNone_iff_eq_none.1 hn⟩
  · exact ⟨{ liveState with lcy := { liveState.lcy with resetDue := true } }, by decide +kernel⟩
  · exact ⟨{ liveState with lcy := { liveState.lcy with req := some (.check (zeros 64)) } }, zeros 64, by decide +kernel⟩
  · exact ⟨{ liveState with lcy := { liveState.lcy with req := some (.mark 0xFF false) } }, 0xFF, false, by decide +kernel⟩
  · exact ⟨{ liveState with lcy := { liveState.lcy with req := some (.mark 0xFF true) }, otp := { liveState.otp with lcyWord := 3 } }, 0xFF, true, 5, by decide +kernel⟩
  · exact ⟨{ liveState with lcy := { liveState.lcy with req := some (.session 5) } }, 5, by decide +kernel⟩
  · exact ⟨{ liveState with lcy := { liveState.lcy with req := some (.session 5) } }, 5, 3, by decide +kernel⟩
  · exact ⟨withRegs { liveState with lcy := { liveState.lcy with req := some (.mark 0xFF true) } } [(Reg.MEM_WIPE_STAT, 2 ^ 30)], 0xFF, none, by decide +kernel⟩
  · exact ⟨{ withRegs liveState [(Reg.ENT_STAT, 0x200), (Reg.ENT_SRC_CTL, 1)] with lcy := { liveState.lcy with nonceHeld := true } }, none, by decide +kernel⟩
  · exact ⟨withRegs liveState [(Reg.ENT_STAT, 0x200), (Reg.ENT_SRC_CTL, 1)], by decide +kernel⟩
  · exact ⟨withRegs liveState [(Reg.ENT_STAT, 0x000)], by decide +kernel⟩

theorem witness_LiveStreams :
    (∃ (s : State) (v : Word), ductCmdOk v = true ∧ BitVec.getLsbD v 31 = true ∧ s.bit Reg.DUCT_CMD 31 = false ∧ s.duct.loading = none ∧
      s.fld Reg.DUCT_LIVE_STAT 15 0 = 0) ∧
    (∃ (s : State) (v : Word), ductCmdOk v = true ∧ BitVec.getLsbD v 31 = true ∧ s.bit Reg.DUCT_CMD 31 = false ∧ s.fld Reg.DUCT_LIVE_STAT 15 0 ≠ 0) ∧
    (∃ (s : State) (a n : Nat) (x : Machine.Stream), s.duct.loading = some (a, n) ∧ (s.liveVerdict a n).2 = Except.ok x) ∧
    (∃ (s : State) (a n c : Nat), s.duct.loading = some (a, n) ∧ (s.liveVerdict a n).2 = Except.error c) ∧
    (∃ (s : State) (v : Word), ductCmdOk v = true ∧ BitVec.getLsbD v 30 = true) ∧
    (∃ (s : State) (v : Word), ductCmdOk v = true ∧ BitVec.getLsbD v 29 = true ∧
      (∀ c ∈ liveCodes, (BitVec.toNat v).testBit c = true → s.bit Reg.DUCT_LIVE_STAT c = false)) ∧
    (∃ (s : State) (v : Word) (c : Nat), ductCmdOk v = true ∧ BitVec.getLsbD v 29 = true ∧ c ∈ liveCodes ∧ (BitVec.toNat v).testBit c = true ∧
      s.bit Reg.DUCT_LIVE_STAT c = true) := by
  and_intros
  · exact ⟨withRegs liveState [(Reg.DUCT_LIVE_ADDR, 0x20000000), (Reg.DUCT_LIVE_LEN, 64)], 0x80000000, by decide +kernel⟩
  · exact ⟨withRegs liveState [(Reg.DUCT_LIVE_STAT, 16)], 0x80000000, by decide +kernel⟩
  · have ⟨x, hx⟩ := isOk_ok _ live_ok
    exact ⟨loadState, 0x10000000, 120, x, by decide +kernel, hx⟩
  · exact ⟨{ liveState with duct := { liveState.duct with loading := some (0x20000000, 64) } }, 0x20000000, 64, Rej.magic, rfl, rfl⟩
  · exact ⟨withRegs { liveState with duct := { liveState.duct with shadow := [(4, [1])] } } [(Reg.DUCT_LIVE_STAT, 16)], 0x40000000, by decide +kernel⟩
  · exact ⟨withRegs liveState [(Reg.DUCT_LIVE_STAT, 16)], 0x20000020, by decide +kernel⟩
  · exact ⟨withRegs { liveState with duct := { liveState.duct with shadow := [(4, [1])], liveVersion := 9 } } [(Reg.DUCT_LIVE_STAT, 16)], 0x20000010, 4,
      by decide +kernel⟩

theorem witness_MailboxCeremonies :
    (∃ (s : State) (window required buf : Nat) (members candidates : Word), s.mbxServes 1 = true ∧ 217 ≤ s.mbxLen ∧ leAt s.mbxPayload 216 1 < 4 ∧
      s.mbxRoom (168 + if needsEk (leAt (List.take 216 s.mbxPayload) 0 1) = true then 1568 else 0) = true ∧
      s.cerBarred (List.take 216 s.mbxPayload) = true) ∧
    (∃ (s : State) (window required buf : Nat) (members candidates : Word), s.mbxServes 1 = true ∧ 217 ≤ s.mbxLen ∧ leAt s.mbxPayload 216 1 < 4 ∧
      s.mbxRoom (168 + if needsEk (leAt (List.take 216 s.mbxPayload) 0 1) = true then 1568 else 0) = true ∧
      s.cerBarred (List.take 216 s.mbxPayload) = false) ∧
    (∃ (p : Bytes) (required : Nat) (members : Word), leAt p 0 1 ∈ [1, 4, 5]) ∧
    (∃ (p : Bytes) (required : Nat) (members : Word) (i : Nat), leAt p 0 1 ∈ [1, 5] ∧ i < 32) ∧
    (∃ (s u : State) (m : HostMem) (buf slot pkgAt : Nat) (b : Bytes), s.host.busMaster = true ∧
      s.hostRead m (scribeCtx HostReader.mailbox) s.mbxInAddr s.mbxInLen = (u, b, none) ∧ s.mbxServes 2 = true ∧ 8844 ≤ s.mbxInLen) ∧
    (∃ (s u : State) (m : HostMem) (buf slot pkgAt : Nat) (b : Bytes), s.host.busMaster = true ∧
      s.hostRead m (scribeCtx HostReader.mailbox) s.mbxInAddr s.mbxInLen = (u, b, none) ∧ s.mbxServes 257 = true ∧ 1640 ≤ s.mbxInLen) ∧
    (∃ (s u : State) (a : Nat) (b : Bytes) (k : State → State), inSram a (List.length b) = true ∧
      State.ruleRanges [(a, List.length b, AccKind.write)] s = (u, true)) ∧
    (∃ (s u : State) (a : Nat) (b : Bytes) (k : State → State), inSram a (List.length b) = true ∧
      State.ruleRanges [(a, List.length b, AccKind.write)] s = (u, false)) ∧
    (∃ (s : State) (n : Nat), n = leAt s.mbxPayload 0 1 ∧ n < 4 ∧ 1 ≤ s.mbxLen ∧ s.mbxServes 3 = true) ∧
    (∃ (s : State) (n : Nat), n = leAt s.mbxPayload 0 1 ∧ n < 4 ∧ 1 ≤ s.mbxLen ∧ s.mbxServes 4 = true) ∧
    (∃ (s t : State) (code : Nat) (out : List (Nat × Nat)), code ≠ 0) ∧
    (∃ (s t : State) (out : List (Nat × Nat)), sglTotal out = 0) ∧
    (∃ (s t u v : State) (b : Bytes) (out : List (Nat × Nat)) (n : Nat), sglTotal out ≠ 0 ∧
      t.mbxGet (List.filter (fun r => r.2 != 0) out) = (u, some b) ∧ u.host.busMaster = true ∧
      u.hostWrites (scribeCtx HostReader.mailbox) (splitPages u.writeMax u.mbxOutAddr (List.length b)) b = (v, n, none)) ∧
    (∃ (s : State) (m : HostMem) (buf recAt a n : Nat) (sectors : List Nat) (f : Option Nat), s.mbxServes 258 = true ∧ 2 ≤ s.mbxLen ∧
      a = leAt s.mbxPayload 0 1 ∧ n = leAt s.mbxPayload 1 1 ∧ a ∉ [1, 2, 3, 4, 5, 6, 10, 11, 12]) ∧
    (∃ (s : State) (m : HostMem) (buf recAt a n : Nat) (sectors : List Nat) (f : Option Nat), s.mbxServes 258 = true ∧ 2 ≤ s.mbxLen ∧
      a = leAt s.mbxPayload 0 1 ∧ n = leAt s.mbxPayload 1 1 ∧ a ∈ [1, 2, 3, 4, 5, 6, 10, 11, 12] ∧ 4 ≤ n) ∧
    (∃ (s : State) (m : HostMem) (buf recAt a n : Nat) (sectors : List Nat) (f : Option Nat), s.mbxServes 258 = true ∧ 2 ≤ s.mbxLen ∧
      a = leAt s.mbxPayload 0 1 ∧ n = leAt s.mbxPayload 1 1 ∧ a ∈ [3, 10, 11, 12] ∧ n < 4) ∧
    (∃ (s : State) (m : HostMem) (buf recAt a n : Nat) (sectors : List Nat) (f : Option Nat) (u : State) (b : Bytes), s.mbxServes 258 = true ∧
      2 ≤ s.mbxLen ∧ a = leAt s.mbxPayload 0 1 ∧ n = leAt s.mbxPayload 1 1 ∧ a ∈ [1, 2, 4, 5, 6] ∧ n < 4 ∧
      s.mbxRoom (actionBulk (s.cerSlot n).params a).2 = true ∧ 0 < (actionBulk (s.cerSlot n).params a).1 ∧
      (actionBulk (s.cerSlot n).params a).1 ≤ s.mbxInLen ∧ s.host.busMaster = true ∧
      s.hostRead m (scribeCtx HostReader.mailbox) s.mbxInAddr s.mbxInLen = (u, b, none)) ∧
    (∃ (s : State) (n buf recAt : Nat) (sectors : List Nat) (f : Option Nat), s.cerState n ≠ 2) ∧
    (∃ (s t : State) (n buf recAt : Nat) (sectors : List Nat) (f : Option Nat), s.runCust 32 n [recAt, buf + 65536, buf + 192] 0 = some (t, 0)) := by
  and_intros
  · exact ⟨(let s := mailboxWith (mailboxCust (custCommand 0 0) 0 0 []) 0x0001 ([11, 0x20, 5, 0, 7] ++ zeros 211 ++ [0]) 0 168; { s with cust := { s.cust with packages := [(5, 2, [7, 8])] } }), 60, 2, 0x10000000, 3, 0, by decide +kernel⟩
  · exact ⟨mailboxWith (mailboxCust (custCommand 0 0) 0 0 []) 0x0001 ([3, 0x20, 5, 0] ++ zeros 212 ++ [0]) 0 168, 60, 2, 0x10000000, 3, 0, by decide +kernel⟩
  · exact ⟨[4], 2, 3, by decide +kernel⟩
  · exact ⟨[5], 2, 3, 31, by decide +kernel⟩
  · exact ⟨wm21, _, hostMem4, 0x10000000, 0, 0x10010000, _, by decide +kernel,
      read_all (wm21.hostRead hostMem4 (scribeCtx .mailbox) wm21.mbxInAddr wm21.mbxInLen) (by decide +kernel), by decide +kernel⟩
  · exact ⟨wm22, _, hostMem4, 0x10000000, 0, 0x10010000, _, by decide +kernel,
      read_all (wm22.hostRead hostMem4 (scribeCtx .mailbox) wm22.mbxInAddr wm22.mbxInLen) (by decide +kernel), by decide +kernel⟩
  · exact ⟨rsvState (rsvCommand 1 0), _, 0x10000000, zeros 64, id, by decide +kernel, Prod.ext rfl (by decide +kernel)⟩
  · exact ⟨withRegs liveState [(Reg.RUL_CTL 1, 0)], _, 0x20000000, zeros 64, id, by decide +kernel, Prod.ext rfl (by decide +kernel)⟩
  · exact ⟨mailboxState 0x0003 [0], 0, by decide +kernel⟩
  · exact ⟨mailboxState 0x0004 [0], 0, by decide +kernel⟩
  · exact ⟨liveState, upState, 3, [], by decide +kernel⟩
  · exact ⟨liveState, upState, [(0x10000000, 0)], by decide +kernel⟩
  · exact ⟨liveState, liveState, (liveState.mbxGet [(0x10000000, 4)]).1, _, zeros 4, [(0x10000000, 4)], 4, by decide +kernel, Prod.ext rfl (by decide +kernel),
      by decide +kernel,
      Prod.ext rfl (by decide +kernel)⟩
  · exact ⟨mailboxState 0x0102 [7,0], [], 0x10000000, 0x10100000, 7, 0, [], none, by decide +kernel⟩
  · exact ⟨mailboxState 0x0102 [3,4], [], 0x10000000, 0x10100000, 3, 4, [], none, by decide +kernel⟩
  · exact ⟨mailboxWith (mailboxCust (custCommand 0 0) 3 2 [3,0,5]) 0x0102 [3,0] 0 0, [], 0x10000000, 0x10100000, 3, 0, [], none, by decide +kernel⟩
  · exact ⟨mailboxWith (mailboxCust (custCommand 0 0) 6 2 (paramsOf 6)) 0x0102 [6,0] 192 192, hostMem4, 0x10000000, 0x10100000, 6, 0, [], none,
      afterRead (mailboxWith (mailboxCust (custCommand 0 0) 6 2 (paramsOf 6)) 0x0102 [6,0] 192 192), zeros 192, by decide +kernel⟩
  · exact ⟨liveState, 0, 0x10000000, 0x10100000, [], none, by decide +kernel⟩
  · exact ⟨wb1, _, 0, 0x10000000, 0x10100000, [], none, b_run⟩

theorem witness_MailboxDevice :
    (∃ (s u w : State) (m : HostMem) (buf : Nat) (b : Bytes), s.mbxServes 1025 = true ∧ s.host.busMaster = true ∧
      s.hostRead m (scribeCtx HostReader.mailbox) s.mbxInAddr s.mbxInLen = (u, b, none) ∧ inSram buf (List.length b) = true ∧
      State.ruleRanges [(buf, List.length b, AccKind.write)] u = (w, true) ∧
      (((w.keyWrite buf b).wr64 Reg.DUCT_LIVE_ADDR (BitVec.ofNat 64 buf)).wr Reg.DUCT_LIVE_LEN (BitVec.ofNat 32 (List.length b))).duct.loading = none ∧
      ((((w.keyWrite buf b).wr64 Reg.DUCT_LIVE_ADDR (BitVec.ofNat 64 buf)).wr Reg.DUCT_LIVE_LEN (BitVec.ofNat 32 (List.length b))).liveLoad buf (List.length b)).duct.loading.isSome = true) ∧
    (∃ (s u w : State) (m : HostMem) (buf : Nat) (b : Bytes), s.mbxServes 1025 = true ∧ s.host.busMaster = true ∧
      s.hostRead m (scribeCtx HostReader.mailbox) s.mbxInAddr s.mbxInLen = (u, b, none) ∧ inSram buf (List.length b) = true ∧
      State.ruleRanges [(buf, List.length b, AccKind.write)] u = (w, true) ∧
      ((((w.keyWrite buf b).wr64 Reg.DUCT_LIVE_ADDR (BitVec.ofNat 64 buf)).wr Reg.DUCT_LIVE_LEN (BitVec.ofNat 32 (List.length b))).duct.loading.isSome = true ∨ ((((w.keyWrite buf b).wr64 Reg.DUCT_LIVE_ADDR (BitVec.ofNat 64 buf)).wr Reg.DUCT_LIVE_LEN (BitVec.ofNat 32 (List.length b))).liveLoad buf (List.length b)).duct.loading = none)) ∧
    (∃ (s : State), s.mbxServes 1026 = true ∧ 2 ≤ s.mbxLen ∧ leAt s.mbxPayload 0 2 &&& 27727 = 0) ∧
    (∃ (s : State), s.mbxServes 1027 = true) ∧
    (∃ (s : State) (i : Nat), s.mbxServes 1281 = true ∧ 97 ≤ s.mbxLen ∧ i = leAt s.mbxPayload 0 1 ∧ i < 4 ∧ s.life = 3 ∧
      (s.otp.customers.getD i { }).used = false) ∧
    (∃ (s : State) (o : Option Nat), s.mbxServes 1281 = true ∧ 97 ≤ s.mbxLen ∧ s.life ≠ 3 ∧ s.life ≠ 4) ∧
    (∃ (s : State) (o : Option Nat), s.mbxServes 1281 = true ∧ 97 ≤ s.mbxLen ∧ s.life = 4 ∧
      s.cerFor 8 (leAt s.mbxPayload 0 1) (slice s.mbxPayload 1 48) (slice s.mbxPayload 49 48) = none) ∧
    (∃ (s : State) (i n : Nat) (order : Bytes), s.mbxServes 1282 = true ∧ 1 ≤ s.mbxLen ∧ leAt s.mbxPayload 0 1 = 128 + i ∧ i < 4 ∧ s.life = 3 ∧
      (s.otp.customers.getD i { }).honoured = true ∧ s.cerFor 9 (128 + i) (zeros 48) (zeros 48) = some n) ∧
    (∃ (s : State) (who : Nat) (order : Bytes) (f : Bool), s.mbxServes 1282 = true ∧ 1 ≤ s.mbxLen ∧ who = leAt s.mbxPayload 0 1 ∧
      (who = 0 ∨ 128 ≤ who ∧ who < 132) ∧ (s.life = 3 ∨ s.life = 4) ∧ (∀ n < 4, s.cerState n = 2 → s.cerAction n ≠ 9)) ∧
    (∃ (s : State) (o : Option Nat), s.mbxServes 1283 = true ∧ 4 ≤ s.mbxLen ∧
      fieldOf (BitVec.ofNat 32 (leAt s.mbxPayload 0 4) ||| 2147483648#32) 25 24 ≠ 3) ∧
    (∃ (s : State) (ek : Bytes) (n e : Nat), s.mbxServes 1537 = true ∧ 11 ≤ s.mbxLen ∧ n = leAt s.mbxPayload 10 1 ∧ n < 4 ∧ s.cerState n = 2 ∧
      s.cerAction n = 5 ∧ paramDomain (s.cerSlot n).params = leAt s.mbxPayload 0 2 ∧ paramSerial (s.cerSlot n).params = leAt s.mbxPayload 2 8 ∧
      s.net.client = none ∧ s.peerEntry (leAt s.mbxPayload 2 8) = some e ∧ sha384 ek = s.tenantDigest e ∧ List.isEmpty s.net.svcDk = false ∧
      s.flourishUp = true ∧ s.drbgReady 0 = true) ∧
    (∃ (s : State), s.mbxServes 1793 = true ∧ 8 ≤ s.mbxLen) := by
  and_intros
  · exact ⟨mailboxWith (tenantState liveState) 0x0401 [] 64 0, afterRead (mailboxWith (tenantState liveState) 0x0401 [] 64 0),
      (State.ruleRanges [(0x10000000, 64, .write)] (afterRead (mailboxWith (tenantState liveState) 0x0401 [] 64 0))).1, hostMem4, 0x10000000, zeros 64,
        and4 (by decide +kernel) ⟨pair_true _ (by decide +kernel), by decide +kernel⟩⟩
  · exact ⟨withRegs (mailboxWith (tenantState liveState) 0x0401 [] 64 0) [(Reg.DUCT_LIVE_STAT, 0x10)],
      afterRead (withRegs (mailboxWith (tenantState liveState) 0x0401 [] 64 0) [(Reg.DUCT_LIVE_STAT, 0x10)]),
        (State.ruleRanges [(0x10000000, 64, .write)] (afterRead (withRegs (mailboxWith (tenantState liveState) 0x0401 [] 64 0) [(Reg.DUCT_LIVE_STAT, 0x10)]))).1,
          hostMem4, 0x10000000, zeros 64, and4 (by decide +kernel) ⟨pair_true _ (by decide +kernel), .inr (by decide +kernel)⟩⟩
  · exact ⟨mailboxState 0x0402 [0x10, 0], by decide +kernel⟩
  · exact ⟨withRegs { mailboxState 0x0403 [] with duct := { liveState.duct with shadow := [(4, [1])] } } [(Reg.DUCT_LIVE_STAT, 0x10)], by decide +kernel⟩
  · exact ⟨withRegs (mailboxState 0x0501 ([3] ++ List.replicate 96 7)) [(Reg.LCY_STATE, 3)], 3, by decide +kernel⟩
  · exact ⟨withRegs (mailboxState 0x0501 ([3] ++ List.replicate 96 7)) [(Reg.LCY_STATE, 5)], none, by decide +kernel⟩
  · exact ⟨withRegs (mailboxState 0x0501 ([3] ++ List.replicate 96 7)) [(Reg.LCY_STATE, 4)], none, by decide +kernel⟩
  · exact ⟨(let s := withRegs (withParams (mailboxState 0x0502 [0x82]) ([9, 0, 0, 0, 0x82] ++ zeros 211)) [(Reg.LCY_STATE, 3), (Reg.CUST_CER_STAT 0, 2 * 2 ^ 30 + 9 * 2 ^ 8)]; { s with otp := { s.otp with customers := List.replicate 4 { enrolled := true } } }), 2, 0, [], by decide +kernel⟩
  · exact ⟨withRegs (mailboxState 0x0502 [0]) [(Reg.LCY_STATE, 3)], 0, [], false, by decide +kernel⟩
  · exact ⟨withRegs (mailboxState 0x0503 [5, 0, 0, 0]) [(Reg.BOOT_VER_INFORCE, 9)], none, by decide +kernel⟩
  · exact ⟨wm9, zeros 1568, 0, 3, and10 (by decide +kernel) ⟨by
        rw [sha384_bytes]
        exact (regBytes_words wm9 (Reg.TENANT_EK_DIGEST 3 0) 12 _ (by intro k hk; interval_cases k <;> rfl)).symm,
      by decide +kernel⟩⟩
  · exact ⟨mailboxState 0x0701 (zeros 8), by decide +kernel⟩

theorem witness_MailboxFolios :
    (∃ (s : State), s.fld Reg.FOL_SCRB_CTL 31 29 = 0 ∧ s.serve (s.mbxCmd / 256 % 8) ≠ Serve.refuse) ∧
    (∃ (s : State), s.fld Reg.FOL_SCRB_CTL 31 29 ≠ 0) ∧
    (∃ (s : State), s.bit Reg.FOL_SCRB_CTL 30 = true ∧ s.host.rspReady = true) ∧
    (∃ (s : State) (status detail : Nat), s.mbxPending = true ∧ s.mbxSeen = some (status, detail)) ∧
    (∃ (s : State), s.mbxPending = true ∧ s.mbxSeen = none ∧ s.mbxCmd ∉ mbxCodes) ∧
    (∃ (s : State) (status detail written : Nat) (payload : Bytes), List.length payload ≤ 4064) ∧
    (∃ (c : Instr) (s : State) (code n : Nat), mailboxRow c = some (code, n) ∧ s.mbxServes code = false) ∧
    (∃ (c : Instr) (s : State) (code n : Nat), mailboxRow c = some (code, n) ∧ s.mbxServes code = true ∧ s.mbxLen < n) ∧
    (∃ (s : State) (f : Nat), s.mbxServes 769 = true ∧ 1 ≤ s.mbxLen ∧ f = leAt s.mbxPayload 0 1 ∧ f < 64 ∧ s.folioCheck f = none) ∧
    (∃ (s : State) (f d : Nat), s.mbxServes 769 = true ∧ 1 ≤ s.mbxLen ∧ f = leAt s.mbxPayload 0 1 ∧ f < 64 ∧ s.folioCheck f = some d) ∧
    (∃ (s : State) (f d i : Nat), s.mbxServes 770 = true ∧ 4 ≤ s.mbxLen ∧ f = leAt s.mbxPayload 0 1 ∧ d = leAt s.mbxPayload 2 2 ∧ f < 64 ∧
      (s.folioState f = 1 ∨ s.folioState f = 3) ∧ s.cust.destroyed.contains d = false ∧ s.aclFind f d = none ∧
      List.find? (fun i => !s.bit (Reg.FOL_ACL f i) 31) (List.range 64) = some i) ∧
    (∃ (s : State) (f d : Nat) (holds : Bool), s.mbxServes 770 = true ∧ 4 ≤ s.mbxLen ∧ f = leAt s.mbxPayload 0 1 ∧ d = leAt s.mbxPayload 2 2 ∧
      (holds = false ∨ 64 ≤ f ∨ s.folioState f ≠ 1 ∧ s.folioState f ≠ 3 ∨ s.cust.destroyed.contains d = true)) ∧
    (∃ (s : State) (f d : Nat), s.mbxServes 770 = true ∧ 4 ≤ s.mbxLen ∧ f = leAt s.mbxPayload 0 1 ∧ d = leAt s.mbxPayload 2 2 ∧ f < 64 ∧
      (s.folioState f = 1 ∨ s.folioState f = 3) ∧ s.cust.destroyed.contains d = false ∧ (s.aclFind f d).isSome = true) ∧
    (∃ (s : State) (f d : Nat), s.mbxServes 770 = true ∧ 4 ≤ s.mbxLen ∧ f = leAt s.mbxPayload 0 1 ∧ d = leAt s.mbxPayload 2 2 ∧ f < 64 ∧
      (s.folioState f = 1 ∨ s.folioState f = 3) ∧ s.cust.destroyed.contains d = false ∧ s.aclFind f d = none ∧
      (∀ i < 64, s.bit (Reg.FOL_ACL f i) 31 = true)) ∧
    (∃ (s : State) (f d i : Nat), s.mbxServes 771 = true ∧ 4 ≤ s.mbxLen ∧ f = leAt s.mbxPayload 0 1 ∧ d = leAt s.mbxPayload 2 2 ∧ f < 64 ∧
      s.aclFind f d = some i) ∧
    (∃ (s : State) (f d : Nat), s.mbxServes 771 = true ∧ 4 ≤ s.mbxLen ∧ f = leAt s.mbxPayload 0 1 ∧ d = leAt s.mbxPayload 2 2 ∧ f < 64 ∧
      s.aclFind f d = none) ∧
    (∃ (s : State) (f : Nat) (o : Op) (ask : KeyAsk), o ∈ s.ops ∧ o.folio = f ∧ o.id ∈ s.cycNow.admitted ∧ o.res = none ∧ o.job = none ∧
      o.keyAsk = some ask ∧ o.takesBlob = false) ∧
    (∃ (s : State) (f d : Nat) (q : QuotaSlot), q ∈ (s.eraseFolioDomain f d).rsv.slots ∧ q.folio = f ∧ (blobHdr q.hdr).domain = d) := by
  and_intros
  · exact ⟨withRegs (mailboxState 0x0301 [2]) [(Reg.FOL_SCRB_CTL, 0)], by decide +kernel⟩
  · exact ⟨mailboxState 0x0301 [2], by decide +kernel⟩
  · exact ⟨{ mailboxState 0x0301 [2] with host := { liveState.host with rspReady := true } }, by decide +kernel⟩
  · exact ⟨{ mailboxState 0x0301 [2] with host := { liveState.host with replies := [(77, 0x0301, 3, 4)] } }, 3, 4, by decide +kernel⟩
  · exact ⟨mailboxState 0x0999 [2], by decide +kernel⟩
  · exact ⟨mailboxState 0x0301 [2], 3, 0x12345, 99, zeros 4 ++ [1,2,3], by decide +kernel⟩
  · exact ⟨.folioCreate, mailboxState 0x0302 [2], 0x0301, 1, by decide +kernel⟩
  · exact ⟨.aclRevoke, mailboxState 0x0303 [2], 0x0303, 4, by decide +kernel⟩
  · exact ⟨withRegs (mailboxState 0x0301 [0]) [(Reg.FOL_CTL 0, 0)], 0, by decide +kernel⟩
  · exact ⟨mailboxState 0x0301 [2], 2, 2, by decide +kernel⟩
  · exact ⟨mailboxState 0x0302 [1, 0, 9, 2], 1, 0x209, 0, by decide +kernel⟩
  · exact ⟨mailboxState 0x0302 [1, 0, 9, 2], 1, 0x209, false, by decide +kernel⟩
  · exact ⟨withRegs (mailboxState 0x0302 [1, 0, 9, 2]) [(Reg.FOL_ACL 1 5, 0x80000209)], 1, 0x209, by decide +kernel⟩
  · exact ⟨withRegs (mailboxState 0x0302 [1, 0, 9, 2]) ((List.range 64).map fun i => (Reg.FOL_ACL 1 i, 0x80000300 + i)), 1, 0x209, by decide +kernel⟩
  · exact ⟨withRegs (mailboxState 0x0303 [1, 0, 9, 2]) [(Reg.FOL_ACL 1 5, 0x80000209)], 1, 0x209, 5, by decide +kernel⟩
  · exact ⟨mailboxState 0x0303 [1, 0, 9, 2], 1, 0x209, by decide +kernel⟩
  · exact ⟨{ liveState with ops := [{ opOf 4 .cand with desc := { descOf 0x01 with keyRef := 5, dataLen := 4, param0 := 1 } }], cyc := { admitted := [4] } }, 1,
      { opOf 4 .cand with desc := { descOf 0x01 with keyRef := 5, dataLen := 4, param0 := 1 } },
        { folio := 1, ref := 5, domain := 0, need := 0, dataOk := true, inlineOk := true }, by decide +kernel⟩
  · exact ⟨{ liveState with rsv := { liveState.rsv with slots := [{ slotOf1 with leaving := true }] }, ops := [{ opOf 4 (.run 0x30) with key := .key ⟨0, 6, zeros 64, 5, 1, 0x100, 0, 2, []⟩ }] },
      1, 0, { slotOf1 with leaving := true }, by decide +kernel⟩

theorem witness_MemoryAndFlash :
    (∃ (s : State) (init a : Nat) (b : Bytes), a % 8 = 0 ∧ List.length b % 8 = 0 ∧ inSram a (List.length b) = true) ∧
    (∃ (s : State) (init a : Nat) (b : Bytes) (w : Nat), a % 8 = 0 ∧ List.length b % 8 = 0 ∧ inSram a (List.length b) = true ∧
      w ∈ wordsOf a (List.length b)) ∧
    (∃ (s : State) (init a : Nat) (b : Bytes) (x : Nat), a % 8 = 0 ∧ List.length b % 8 = 0 ∧ inSram a (List.length b) = true ∧
      (x < a ∨ a + List.length b ≤ x)) ∧
    (∃ (s : State) (init a : Nat) (b : Bytes), a % 8 + List.length b < 8 ∧ 0 < List.length b ∧ inSram a (List.length b) = true ∧
      s.isBad (a / 8 * 8) = true) ∧
    (∃ (s : State) (kind init w syn : Nat) (ev : Bool), s.isBad w = false ∧ 0 < eccMem w) ∧
    (∃ (s : State) (kind init w syn : Nat) (ev : Bool) (x : Nat), s.isBad w = false ∧ 0 < eccMem w) ∧
    (∃ (s : State) (c : Instr) (op : Nat) (w : World) (pr : Priv) (core : Nat), (c = Instr.xspiProgram w pr core ∧
      op = 1 ∨ c = Instr.xspiErase w pr core ∧ op = 2) ∧ s.bit Reg.MEM_XSPI_STAT 31 = true) ∧
    (∃ (s : State) (c : Instr) (op : Nat) (w : World) (pr : Priv) (core : Nat), (c = Instr.xspiProgram w pr core ∧
      op = 1 ∨ c = Instr.xspiErase w pr core ∧ op = 2) ∧ s.bit Reg.MEM_XSPI_STAT 31 = false ∧
      flashLenOk op (s.rdn Reg.MEM_XSPI_ADDR) (s.rdn Reg.MEM_XSPI_LEN) = false) ∧
    (∃ (s : State) (c : Instr) (op : Nat) (w : World) (pr : Priv) (core : Nat) (u : State), (c = Instr.xspiProgram w pr core ∧
      op = 1 ∨ c = Instr.xspiErase w pr core ∧ op = 2) ∧ s.bit Reg.MEM_XSPI_STAT 31 = false ∧
      flashLenOk op (s.rdn Reg.MEM_XSPI_ADDR) (s.rdn Reg.MEM_XSPI_LEN) = true ∧
      (s.setf Reg.MEM_XSPI_CMD 1 0 op).flashCheck op (s.rdn Reg.MEM_XSPI_ADDR) (s.rdn Reg.MEM_XSPI_LEN) (BitVec.toNat (s.rd64 Reg.MEM_XSPI_SRC) % 2 ^ 40) w pr core = (u, true)) ∧
    (∃ (s : State) (c : Instr) (op : Nat) (w : World) (pr : Priv) (core : Nat) (u : State), (c = Instr.xspiProgram w pr core ∧
      op = 1 ∨ c = Instr.xspiErase w pr core ∧ op = 2) ∧ s.bit Reg.MEM_XSPI_STAT 31 = false ∧
      flashLenOk op (s.rdn Reg.MEM_XSPI_ADDR) (s.rdn Reg.MEM_XSPI_LEN) = true ∧
      (s.setf Reg.MEM_XSPI_CMD 1 0 op).flashCheck op (s.rdn Reg.MEM_XSPI_ADDR) (s.rdn Reg.MEM_XSPI_LEN) (BitVec.toNat (s.rd64 Reg.MEM_XSPI_SRC) % 2 ^ 40) w pr core = (u, false)) ∧
    (∃ (s : State) (c : FlashCmd), s.mem.cmd = some c ∧ s.mem.wipe = none ∧ c.op = 2 ∧ c.addr % 4096 = 0 ∧ c.len % 4096 = 0) ∧
    (∃ (s : State) (c : FlashCmd), s.mem.cmd = some c ∧ s.mem.wipe = none ∧ c.op = 1 ∧ 1 ≤ c.len ∧ c.addr + c.len ≤ s.flashSize ∧
      inSram c.src c.len = true ∧ s.poisoned c.src c.len = false ∧ (∀ (o : Nat), c.addr ≤ o → o < c.addr + c.len → s.flashByte o = 255)) ∧
    (∃ (s : State) (v : Word), BitVec.getLsbD v 31 = true ∧ s.bit Reg.MEM_XSPI_LOCK 31 = false) ∧
    (∃ (s : State) (user : Bool), s.mem.wipe = some user ∧ s.mem.cmd = none) ∧
    (∃ (s : State) (k : Nat), k < 3 ∧ s.scrubRuns k = true ∧ s.mem.scrub.length = 3 ∧
      (k < 2 → s.isBad ((scrubSpan k).1 + 8 * s.mem.scrub.getD k 0) = false)) := by
  and_intros
  · exact ⟨portState, 20, 0x10000000, List.replicate 16 7, by decide +kernel⟩
  · exact ⟨{ portState with mem := { portState.mem with bad := [(0x10000000, 5)] } }, 20, 0x10000000, List.replicate 16 7, 0x10000008, by decide +kernel⟩
  · exact ⟨{ portState with mem := { portState.mem with bad := [(0x10000000, 5)] } }, 20, 0x10000000, List.replicate 16 7, 0x10000010, by decide +kernel⟩
  · exact ⟨{ portState with mem := { portState.mem with bad := [(0x10000000, 5)] } }, 20, 0x10000002, [7], by decide +kernel⟩
  · exact ⟨portState, 1, 20, 0x10000000, 5, true, by decide +kernel⟩
  · exact ⟨portState, 1, 20, 0x10000000, 5, true, 3, by decide +kernel⟩
  · exact ⟨withRegs flashState [(Reg.MEM_XSPI_STAT, 0x80000000)], .xspiErase .scribe .m 0, 2, .scribe, .m, 0, by simp, by decide +kernel⟩
  · exact ⟨withRegs flashState [(Reg.MEM_XSPI_LEN, 0x800)], .xspiErase .scribe .m 0, 2, .scribe, .m, 0, by simp, by decide +kernel⟩
  · exact ⟨flashState, .xspiErase .scribe .m 0, 2, .scribe, .m, 0, withRegs flashState [(Reg.MEM_XSPI_CMD, 2)], by simp, by decide +kernel⟩
  · exact ⟨withRegs flashState [(Reg.RUL_CTL 3, 0x34)], .xspiErase .draft .m 1, 2, .draft, .m, 1, _, .inr ⟨rfl, rfl⟩, by decide +kernel, by decide +kernel,
      Prod.ext rfl (show _ = false by decide +kernel)⟩
  · exact ⟨{ flashState with mem := { flashState.mem with cmd := some ⟨2, 0x1000, 0x1000, 0⟩, flash := [(0x1005, 3), (0x2000, 7)] } }, ⟨2, 0x1000, 0x1000, 0⟩,
      by decide +kernel⟩
  · exact ⟨{ flashState with mem := { flashState.mem with cmd := some ⟨1, 0x10, 0x30, 0x20000000⟩ } }, ⟨1, 0x10, 0x30, 0x20000000⟩, by decide +kernel⟩
  · exact ⟨flashState, 0x80000000, by decide +kernel⟩
  · exact ⟨{ withRegs flashState [(Reg.MEM_XSPI_LOCK, 0x80000000)] with mem := { flashState.mem with wipe := some true }, cust := { liveState.cust with destroyed := [3] } }, true, by decide +kernel⟩
  · exact ⟨withRegs flashState [(Reg.MEM_SCRUB_CTL, 1)], 1, by decide +kernel⟩

theorem witness_OperationResults :
    (∃ (s : State) (m : HostMem) (o : Op), ctlOk o.desc = true ∧ o.desc.opcode = 16 ∧ hashLen (o.desc.param0 % 256) ≠ 0 ∧ o.desc.param1 = 0 ∧
      o.desc.aadLen = 0 ∧ o.isRing = false ∧ s.op o.id = some o ∧ o.output = [] ∧
      s.stageOk (s.opCtx o (readInit o.engine)) o.desc.dataLen AccKind.read = (s, true) ∧
      (s.laneBytes o.engine o.desc.dataLen).stageOk (s.opCtx o (writeInit o.engine)) (hashLen (o.desc.param0 % 256)) AccKind.write = (s.laneBytes o.engine o.desc.dataLen, true)) ∧
    (∃ (s v t u : State) (m : HostMem) (o : Op) (io : Io) (stream msg : Bytes), ctlOk o.desc = true ∧ msgLenOk o.desc = true ∧
      s.openIo m o true false (some 0) = Except.ok (v, io) ∧ o.wrapsOk true 0 = true ∧ v.readStream m o = Except.ok (t, stream) ∧
      (verifyStream o.desc stream []).isSome = true ∧ t.readData m o io 0 o.desc.dataLen = Except.ok (u, msg)) ∧
    (∃ (s t : State) (m : HostMem) (o : Op) (io : Io) (stream : Bytes) (p : Template) (gk : Nat × Bytes) (k : Key), o.key = KeyRes.key k ∧
      (s.producer m o 1584 fun x => 160) = Except.ok (t, io, stream, p, gk)) ∧
    (∃ (s t : State) (m : HostMem) (o : Op) (io : Io) (stream : Bytes) (p : Template) (gk : Nat × Bytes) (k : Key), o.key = KeyRes.key k ∧
      (s.producer m o 1584 fun x => 1728) = Except.ok (t, io, stream, p, gk) ∧ kemKeyOk (List.drop 16 stream) = true) ∧
    (∃ (s t : State) (m : HostMem) (o : Op) (io : Io) (stream : Bytes) (p : Template) (gk : Nat × Bytes) (k : Key), o.key = KeyRes.key k ∧
      (s.producer m o 1584 fun x => 1728) = Except.ok (t, io, stream, p, gk) ∧ kemKeyOk (List.drop 16 stream) = false) ∧
    (∃ (s t : State) (m : HostMem) (o : Op) (io : Io) (stream : Bytes) (p : Template) (gk : Nat × Bytes) (k : Key) (z : Bytes), o.key = KeyRes.key k ∧
      (s.producer m o 113 fun x => 160) = Except.ok (t, io, stream, p, gk) ∧ (p384Point (List.drop 16 stream)).bind (ecdhSecret k.material) = some z) ∧
    (∃ (s t : State) (m : HostMem) (o : Op) (io : Io) (stream : Bytes) (p : Template) (gk : Nat × Bytes) (k : Key), o.key = KeyRes.key k ∧
      (s.producer m o 113 fun x => 160) = Except.ok (t, io, stream, p, gk) ∧ (p384Point (List.drop 16 stream)).bind (ecdhSecret k.material) = none) ∧
    (∃ (s t : State) (m : HostMem) (o : Op) (io : Io) (stream : Bytes) (p : Template) (gk : Nat × Bytes) (k : Key), o.key = KeyRes.key k ∧
      s.bit Reg.LCY_STATE 10 = true) ∧
    (∃ (s t : State) (m : HostMem) (o : Op) (io : Io) (stream : Bytes) (p : Template) (gk : Nat × Bytes) (k : Key), o.key = KeyRes.key k ∧
      s.bit Reg.LCY_STATE 10 = false ∧ (s.producer m o 16 fun p => 160 + publicKeyLen p.type) = Except.ok (t, io, stream, p, gk) ∧ p.type ≠ Kt.p384) ∧
    (∃ (s t : State) (id : Nat) (m : HostMem) (o : Op) (r : OpRes), s.running id 32 = some o ∧ s.randomRun m o = Except.ok (t, r) ∧ r.status = St.ok) ∧
    (∃ (s t : State) (id : Nat) (m : HostMem) (o : Op) (r : OpRes), s.running id 32 = some o ∧ s.randomRun m o = Except.ok (t, r) ∧
      (o.desc.dataLen = 0 ∨ (s.predResist o.desc = true → s.entropyOk = true) ∧ s.drbgServes 2 ((o.desc.dataLen + 65535) / 65536) = true)) ∧
    (∃ (s t : State) (id : Nat) (m : HostMem) (o : Op) (r : OpRes), s.running id 32 = some o ∧ s.randomRun m o = Except.ok (t, r) ∧
      o.desc.dataLen ≠ 0 ∧ (s.predResist o.desc = true ∧ s.entropyOk = false ∨ s.drbgServes 2 ((o.desc.dataLen + 65535) / 65536) = false)) ∧
    (∃ (s t : State) (id : Nat) (m : HostMem) (o : Op) (st : Nat), s.running id 32 = some o ∧ s.randomRun m o = Except.error (t, st)) ∧
    (∃ (s : State) (id : Nat) (o : Op) (q : QuotaSlot), s.running id 49 = some o ∧ o.waitErase = none ∧ refShape (evictAsk o) = none ∧
      s.slotAt o.folio (o.desc.keyRef % 2 ^ 13) = some q ∧ q.leaving = false) ∧
    (∃ (s : State) (id : Nat) (o : Op) (st : Nat), s.running id 49 = some o ∧ o.waitErase = none ∧ refShape (evictAsk o) = some st) ∧
    (∃ (s : State) (id : Nat) (o : Op), s.running id 49 = some o ∧ o.waitErase = none ∧ refShape (evictAsk o) = none ∧
      s.slotAt o.folio (o.desc.keyRef % 2 ^ 13) = none) ∧
    (∃ (s : State) (id : Nat) (m : HostMem) (o : Op) (t : State) (r : OpRes), s.running id 51 = none ∧ s.running id 52 = some o ∧
      s.keyRewrap m o = Except.ok (t, r) ∧ s.notReady [0] = none) ∧
    (∃ (s : State) (id : Nat) (m : HostMem) (o : Op) (t : State) (st : Nat), s.running id 51 = none ∧ s.running id 52 = some o ∧
      s.keyRewrap m o = Except.error (t, st)) ∧
    (∃ (s : State) (id : Nat) (m : HostMem) (o : Op) (t : State) (r : OpRes) (i : Nat), s.running id 51 = none ∧ s.running id 52 = some o ∧
      s.keyRewrap m o = Except.ok (t, r) ∧ s.notReady [0] = some i) ∧
    (∃ (s : State) (id : Nat) (m : HostMem) (o : Op) (t : State) (r : OpRes), s.running id 51 = some o ∧ s.keyDerive m o = Except.ok (t, r) ∧
      s.notReady [0] = none) ∧
    (∃ (s : State) (id : Nat) (m : HostMem) (o : Op) (t : State) (st : Nat), s.running id 51 = some o ∧ s.keyDerive m o = Except.error (t, st)) ∧
    (∃ (s : State) (id : Nat) (m : HostMem) (o : Op) (t : State) (r : OpRes) (i : Nat), s.running id 51 = some o ∧
      s.keyDerive m o = Except.ok (t, r) ∧ s.notReady [0] = some i) ∧
    (∃ (s t : State) (m : HostMem) (o : Op) (r : OpRes), s.keyRewrap m o = Except.ok (t, r)) := by
  and_intros
  · exact ⟨bspOpState (bspOp 0x10 0x20 (fun d => { d with dataLen := 3, param0 := 6 }) [] [1,2,3] .none), [],
      bspOp 0x10 0x20 (fun d => { d with dataLen := 3, param0 := 6 }) [] [1,2,3] .none, by decide +kernel⟩
  · exact ⟨bspOpState wver, bspOpState wver, bspOpState wver, bspOpState wver, [], wver, ⟨false, [], []⟩, zeros 193, [1,2,3], by decide +kernel⟩
  · exact ⟨bspOpState wdec, (wpro 1584 160 wdec).1, [], wdec, (wpro 1584 160 wdec).2.1, (wpro 1584 160 wdec).2.2.1, (wpro 1584 160 wdec).2.2.2.1,
      (wpro 1584 160 wdec).2.2.2.2, keyOf5, rfl, rfl⟩
  · have ⟨t, y, h, h2⟩ := stop_ok ((bspOpState wenc).producer [] wenc 1584 fun _ => 1728) (fun y => y.2.1 == wtmpl ++ zeros 1568) (by decide +kernel)
    exact ⟨bspOpState wenc, t, [], wenc, y.1, y.2.1, y.2.2.1, y.2.2.2, keyOf5, rfl, h, by
      have e : y.2.1.drop 16 = zeros 1568 := by rw [eq_of_beq h2]; exact List.drop_left' rfl
      rw [e]; exact kemKeyOk_zeros⟩
  · have ⟨t, y, h, h2⟩ := stop_ok ((bspOpState wenc2).producer [] wenc2 1584 fun _ => 1728) (fun y => !kemKeyOk (y.2.1.drop 16)) (by decide +kernel)
    exact ⟨bspOpState wenc2, t, [], wenc2, y.1, y.2.1, y.2.2.1, y.2.2.2, keyOf5, rfl, h, by simpa using h2⟩
  · have ⟨t, y, h,
      h2⟩ := stop_ok ((bspOpState (wecdh wbase)).producer [] (wecdh wbase) 113 fun _ => 160) (fun y => ((p384Point (y.2.1.drop 16)).bind (ecdhSecret (beBytes 48 5))).isSome) (by decide +kernel)
    have ⟨z, hz⟩ := some_of _ h2
    exact ⟨bspOpState (wecdh wbase), t, [], wecdh wbase, y.1, y.2.1, y.2.2.1, y.2.2.2, { keyOf5 with material := beBytes 48 5 }, z, rfl, h, hz⟩
  · have ⟨t, y, h,
      h2⟩ := stop_ok ((bspOpState (wecdh (zeros 97))).producer [] (wecdh (zeros 97)) 113 fun _ => 160) (fun y => ((p384Point (y.2.1.drop 16)).bind (ecdhSecret (beBytes 48 5))).isNone) (by decide +kernel)
    exact ⟨bspOpState (wecdh (zeros 97)), t, [], wecdh (zeros 97), y.1, y.2.1, y.2.2.1, y.2.2.2, { keyOf5 with material := beBytes 48 5 }, rfl, h,
      Option.isNone_iff_eq_none.1 h2⟩
  · exact ⟨withRegs liveState [(Reg.LCY_STATE, 0x403)], liveState, [], { opOf 3 (.run 0x30) with key := .key keyOf5 }, ⟨false, [], []⟩, [], ⟨0,0,0,0,0⟩, (0, []),
      keyOf5, by decide +kernel⟩
  · have ⟨t, y, h,
      h2⟩ := stop_ok ((bspOpState { wgen with key := .key keyOf5 }).producer [] { wgen with key := .key keyOf5 } 16 fun p => 160 + publicKeyLen p.type) (fun y => y.2.2.1.type != Kt.p384) (by decide +kernel)
    exact ⟨bspOpState { wgen with key := .key keyOf5 }, t, [], { wgen with key := .key keyOf5 }, y.1, y.2.1, y.2.2.1, y.2.2.2, keyOf5, rfl, by decide +kernel, h,
      by simpa using h2⟩
  · have ⟨t, r, h, h2⟩ := stop_ok ((bypass (bspOpState (wrandom 16))).randomRun [] (wrandom 16)) (fun r => r.status == St.ok) (by decide +kernel)
    exact ⟨bypass (bspOpState (wrandom 16)), t, 3, [], wrandom 16, r, by decide +kernel, h, by simpa using h2⟩
  · have ⟨t, r, h, h2⟩ := stop_ok ((bspOpState (wrandom 16)).randomRun [] (wrandom 16)) (fun r => true) (by decide +kernel)
    exact ⟨bspOpState (wrandom 16), t, 3, [], wrandom 16, r, by decide +kernel, h, by decide +kernel⟩
  · have ⟨t, r, h, h2⟩ := stop_ok ((unready (bspOpState (wrandom 16))).randomRun [] (wrandom 16)) (fun r => true) (by decide +kernel)
    exact ⟨unready (bspOpState (wrandom 16)), t, 3, [], wrandom 16, r, by decide +kernel, h, by decide +kernel⟩
  · have ⟨t, st, h⟩ := stop_error ((runState 0x20 0x40).randomRun [] { ringOp 0x20 (.run 0x40) with desc := { descOf 0x20 with param0 := 3 } }) (by decide +kernel)
    exact ⟨withOps (runState 0x20 0x40) [{ ringOp 0x20 (.run 0x40) with desc := { descOf 0x20 with param0 := 3 } }], _, 3, [],
      { ringOp 0x20 (.run 0x40) with desc := { descOf 0x20 with param0 := 3 } }, _, by decide +kernel, rfl⟩
  · exact ⟨{ runState 0x31 0x50 with rsv := { liveState.rsv with slots := [{ slotOf1 with handle := 0 }] } }, 3, ringOp 0x31 (.run 0x50),
      { slotOf1 with handle := 0 }, by decide +kernel⟩
  · exact ⟨withOps (runState 0x31 0x50) [{ ringOp 0x31 (.run 0x50) with desc := { descOf 0x31 with keyRef := 0x2000 } }], 3,
      { ringOp 0x31 (.run 0x50) with desc := { descOf 0x31 with keyRef := 0x2000 } }, St.keyAbsent, by decide +kernel⟩
  · exact ⟨runState 0x31 0x50, 3, ringOp 0x31 (.run 0x50), by decide +kernel⟩
  · have ⟨t, r, h, _⟩ := stop_ok ((bypass (bspOpState wrewrap)).keyRewrap [] wrewrap) (fun _ => true) (by decide +kernel)
    exact ⟨bypass (bspOpState wrewrap), 3, [], wrewrap, t, r, by decide +kernel, by decide +kernel, h, by decide +kernel⟩
  · have ⟨t, st, h⟩ := stop_error ((runState 0x34 0x50).keyRewrap [] (ringOp 0x34 (.run 0x50))) (by decide +kernel)
    exact ⟨runState 0x34 0x50, 3, [], ringOp 0x34 (.run 0x50), t, st, by decide +kernel, by decide +kernel, h⟩
  · have ⟨t, r, h, _⟩ := stop_ok ((bypass (unready (bspOpState wrewrap))).keyRewrap [] wrewrap) (fun _ => true) (by decide +kernel)
    exact ⟨bypass (unready (bspOpState wrewrap)), 3, [], wrewrap, t, r, 0, by decide +kernel, by decide +kernel, h, by decide +kernel⟩
  · have ⟨t, r, h, _⟩ := stop_ok ((bypass (bspOpState wderive)).keyDerive [] wderive) (fun _ => true) (by decide +kernel)
    exact ⟨bypass (bspOpState wderive), 3, [], wderive, t, r, by decide +kernel, h, by decide +kernel⟩
  · have ⟨t, st, h⟩ := stop_error ((runState 0x33 0x50).keyDerive [] (ringOp 0x33 (.run 0x50))) (by decide +kernel)
    exact ⟨runState 0x33 0x50, 3, [], ringOp 0x33 (.run 0x50), t, st, by decide +kernel, h⟩
  · have ⟨t, r, h, _⟩ := stop_ok ((bypass (unready (bspOpState wderive))).keyDerive [] wderive) (fun _ => true) (by decide +kernel)
    exact ⟨bypass (unready (bspOpState wderive)), 3, [], wderive, t, r, 0, by decide +kernel, h, by decide +kernel⟩
  · have ⟨t, r, h, _⟩ := stop_ok ((bypass (bspOpState wrewrap)).keyRewrap [] wrewrap) (fun _ => true) (by decide +kernel)
    exact ⟨bypass (bspOpState wrewrap), t, [], wrewrap, r, h⟩

theorem witness_PortFrames :
    (∃ (s : State) (p : Nat) (f : Bytes), p < 2 ∧ s.linkUp p = true ∧ s.macVerdict p f ≠ 0) ∧
    (∃ (s : State) (p : Nat) (f : Bytes), p < 2 ∧ s.linkUp p = false) ∧
    (∃ (s : State) (p : Nat) (f : Bytes), p < 2 ∧ s.linkUp p = true ∧ s.macVerdict p f = 0 ∧ beAt (List.take (List.length f - 4) f) 12 2 = 34824 ∧
      s.bit (Reg.PORT_CTL p) 7 = true ∧ s.bit (Reg.PORT_CTL p) 6 = false ∧ beAt (List.take (List.length f - 4) f) 14 2 = 1 ∧
      beAt (List.take (List.length f - 4) f) 16 2 ≠ 0) ∧
    (∃ (s : State) (p : Nat) (f : Bytes), p < 2 ∧ s.linkUp p = true ∧ s.macVerdict p f = 0 ∧ beAt (List.take (List.length f - 4) f) 12 2 ≠ 34824 ∧
      s.quillRuns = true) ∧
    (∃ (s : State) (p : Nat) (f : Bytes), p < 2 ∧ s.linkUp p = true ∧ s.macVerdict p f = 0 ∧ beAt (List.take (List.length f - 4) f) 12 2 ≠ 34824 ∧
      s.quillRuns = false ∧ s.fld (Reg.PORT_CTL p) 7 6 = 0 ∧ (s.portSt p).rxBytes none + List.length f ≤ 1048576) ∧
    (∃ (s : State) (p prio : Nat) (f : Bytes), List.length f + 4 ≤ s.maxFrame p ∧ s.linkUp p = true ∧ (s.portSt p).paused prio = false ∧
      (∀ e ∈ (s.portSt p).txq, e.prio ≠ prio) ∧ (s.ptpEn p = false ∨ ptpEvent f = none)) ∧
    (∃ (s : State) (p prio : Nat) (f : Bytes) (o ty : Nat), List.length f + 4 ≤ s.maxFrame p ∧ s.linkUp p = true ∧ (s.portSt p).paused prio = false ∧
      (∀ e ∈ (s.portSt p).txq, e.prio ≠ prio) ∧ s.ptpEn p = true ∧ ptpEvent f = some (o, ty) ∧ ty = 0 ∧ s.bit (Reg.PORT_CTL p) 5 = true) ∧
    (∃ (s : State) (p prio : Nat) (f : Bytes) (o ty : Nat), List.length f + 4 ≤ s.maxFrame p ∧ s.linkUp p = true ∧ (s.portSt p).paused prio = false ∧
      (∀ e ∈ (s.portSt p).txq, e.prio ≠ prio) ∧ s.ptpEn p = true ∧ ptpEvent f = some (o, ty) ∧ (ty ≠ 0 ∨ s.bit (Reg.PORT_CTL p) 5 = false)) ∧
    (∃ (s : State) (p prio : Nat) (f : Bytes), List.length f + 4 ≤ s.maxFrame p ∧ s.linkUp p = false) ∧
    (∃ (s : State) (pt : Party) (q : Nat) (v : Word), q < 9 ∧ (pt = Party.scribe ∨ pt = Party.draft ∧ q ≠ 8)) ∧
    (∃ (s u v : State) (q h : Nat) (d f : Bytes), q < 9 ∧ s.bit (Reg.QUIL_TX_CFG q) 31 = true ∧ s.quillRuns = true ∧ s.quilFenced = false ∧
      h = s.fld (Reg.QUIL_TX_HEAD q) 13 0 ∧ h ≠ s.fld (Reg.QUIL_TX_TAIL q) 13 0 ∧
      s.quillRead q (BitVec.toNat (s.rd64 (Reg.QUIL_TX_BASE q)) % 2 ^ 40 + 16 * h) 16 = (u, none)) ∧
    (∃ (s u v : State) (q h : Nat) (d f : Bytes), q < 9 ∧ s.bit (Reg.QUIL_TX_CFG q) 31 = true ∧ s.quillRuns = true ∧ s.quilFenced = false ∧
      h = s.fld (Reg.QUIL_TX_HEAD q) 13 0 ∧ h ≠ s.fld (Reg.QUIL_TX_TAIL q) 13 0 ∧
      s.quillRead q (BitVec.toNat (s.rd64 (Reg.QUIL_TX_BASE q)) % 2 ^ 40 + 16 * h) 16 = (u, some d) ∧ leAt d 5 3 = 0 ∧ leAt d 12 4 = 0 ∧
      leAt d 10 1 < 2 ∧ leAt d 11 1 < 2 ∧ leAt d 8 2 ≤ u.maxFrame (leAt d 10 1) - 4 ∧ u.quillRead q (leAt d 0 5) (leAt d 8 2) = (v, some f)) := by
  and_intros
  · exact ⟨portState, 1, zeros 63, by decide +kernel⟩
  · exact ⟨liveState, 0, zeros 64, by decide +kernel⟩
  · exact ⟨portState, 0, frameOf [0x88, 0x08, 0, 1, 0, 5], by decide +kernel⟩
  · exact ⟨portState, 0, frameOf [0x08, 0x00], by decide +kernel⟩
  · exact ⟨darkState, 0, frameOf [0x08, 0x00], by decide +kernel⟩
  · exact ⟨portState, 1, 0, zeros 60, by decide +kernel⟩
  · exact ⟨withRegs portState [(Reg.PORT_CTL 1, 0xB2)], 1, 0, zeros 12 ++ [0x88, 0xF7] ++ zeros 46, 14, 0, by decide +kernel⟩
  · exact ⟨withRegs portState [(Reg.PORT_CTL 1, 0xB2)], 1, 0, zeros 12 ++ [0x88, 0xF7, 2] ++ zeros 46, 14, 2, by decide +kernel⟩
  · exact ⟨withRegs portState [(Reg.PORT_STAT 0, 0x20)], 0, 7, zeros 60, by decide +kernel⟩
  · exact ⟨portState, .draft, 7, 0x3FFF, by decide +kernel⟩
  · exact ⟨withRegs portState [(Reg.QUIL_TX_CFG 2, 0xC0000004), (Reg.QUIL_TX_TAIL 2, 2)],
      withRegs portState [(Reg.QUIL_TX_CFG 2, 0xC0000004), (Reg.QUIL_TX_TAIL 2, 2)], liveState, 2, 0, [], [], by decide +kernel⟩
  · exact ⟨transmitState wdtx, transmitState wdtx, transmitState wdtx, 2, 0, wdtx, zeros 60, by decide +kernel⟩

theorem witness_PortLinks :
    (∃ (s : State) (p mode : Nat), p < 2 ∧ mode < 16 ∧ s.proof.slice ≠ some (17 + p) ∧ s.portFenced p = false) ∧
    (∃ (s : State) (p mode : Nat), p < 2 ∧ mode < 16 ∧ s.proof.slice ≠ some (17 + p) ∧ s.portFenced p = false ∧ s.portLanes p ≠ modeLanes mode) ∧
    (∃ (s : State) (p mode : Nat), p < 2 ∧ mode < 16 ∧ s.proof.slice ≠ some (17 + p) ∧ s.portFenced p = false ∧ s.linkUp p = true) ∧
    (∃ (s : State) (p : Nat) (v : Word), p < 2 ∧ 5 ≤ fieldOf v 3 0) ∧
    (∃ (s : State) (p : Nat) (v : Word), p < 2 ∧ fieldOf v 3 0 < 5 ∧ s.fld (Reg.PORT_STAT p) 7 4 = fieldOf v 3 0 ∧ BitVec.getLsbD v 16 = false ∧
      s.linkUp p = false) ∧
    (∃ (s : State) (p : Nat) (v : Word), p < 2 ∧ fieldOf v 3 0 < 5 ∧ (s.fld (Reg.PORT_STAT p) 7 4 ≠ fieldOf v 3 0 ∨ BitVec.getLsbD v 16 = true) ∧
      s.proof.slice ≠ some (17 + p) ∧ s.portFenced p = false) ∧
    (∃ (s : State) (p : Nat), p < 2) ∧
    (∃ (s : State) (p : Nat), p < 2 ∧ s.fld (Reg.PORT_STAT p) 7 4 ≠ 0) ∧
    (∃ (s : State) (p : Nat), p < 2 ∧ s.fld (Reg.PORT_STAT p) 7 4 ≠ 0 ∧ (s.portSt p).relock = 0) ∧
    (∃ (s : State) (p : Nat), p < 2 ∧ (s.portSt p).relock = 1) ∧
    (∃ (s : State) (p lanes k : Nat), k < s.portLanes p ∧ lanes.testBit k = false) ∧
    (∃ (s : State) (p lanes : Nat), p < 2 ∧ s.linkUp p = false ∧ s.bit (Reg.PORT_STAT p) 1 = true ∧ s.portFenced p = false ∧
      s.proof.slice ≠ some (17 + p) ∧ (s.portSt p).txq = [] ∧ (∀ k < s.portLanes p, lanes.testBit k = true)) ∧
    (∃ (s : State) (p : Nat), p < 2 ∧ s.linkUp p = true) ∧
    (∃ (s : State) (p : Nat), p < 2 ∧ s.linkUp p = false ∧ (∃ e ∈ (s.portSt p).txq, e.since + 8000000 < s.stime.cycle)) ∧
    (∃ (s : State) (p q seq ty dom : Nat) (r : List (Nat × Nat × Nat × Nat)), p < 2 ∧ (s.portSt p).txts = (q, seq, ty, dom) :: r ∧ r.length < 64 ∧
      seq < 65536 ∧ ty < 16 ∧ dom < 256) ∧
    (∃ (s : State) (p : Nat), p < 2 ∧ (s.portSt p).txts = []) ∧
    (∃ (s : State) (p : Nat) (prio : Option Nat), p < 2 ∧ s.linkUp p = true) := by
  and_intros
  · exact ⟨portState, 1, 0, by decide +kernel⟩
  · exact ⟨portState, 1, 0, by decide +kernel⟩
  · exact ⟨portState, 1, 0, by decide +kernel⟩
  · exact ⟨portState, 1, 5, by decide +kernel⟩
  · exact ⟨withRegs portState [(Reg.PORT_STAT 0, 0x22)], 0, 0xFFFEFFF2, by decide +kernel⟩
  · exact ⟨portState, 0, 0xFFFFFFF4, by decide +kernel⟩
  · exact ⟨{ portState with net := { portState.net with p1 := { relock := 1 } } }, 1, by decide +kernel⟩
  · exact ⟨portState, 1, by decide +kernel⟩
  · exact ⟨portState, 1, by decide +kernel⟩
  · exact ⟨{ portState with net := { portState.net with p0 := { relock := 1 } } }, 0, by decide +kernel⟩
  · exact ⟨portState, 1, 0, 0, by decide +kernel⟩
  · exact ⟨withRegs portState [(Reg.PORT_STAT 1, 34)], 1, 15, by decide +kernel⟩
  · exact ⟨portState, 1, by decide +kernel⟩
  · exact ⟨{ withRegs portState [(Reg.PORT_STAT 1, 0x22)] with net := { portState.net with p1 := { txq := [{ frame := zeros 60, prio := 0, since := 3 }, { frame := zeros 60, prio := 0, since := 9000000 }] } }, stime := { cycle := 9000000 } }, 1, by decide +kernel⟩
  · exact ⟨{ portState with net := { portState.net with p1 := { txts := [(0xFFFFFFFFFFFF, 65535, 15, 255), (3,3,3,3)] } } }, 1, 0xFFFFFFFFFFFF, 65535, 15, 255,
      [(3,3,3,3)], by decide +kernel⟩
  · exact ⟨portState, 0, by decide +kernel⟩
  · exact ⟨{ portState with net := { portState.net with p1 := { pausedAll := true, pausedPrio := [3], txq := [{ frame := zeros 60, prio := 3, since := 0 }, { frame := zeros 60, prio := 4, since := 0 }] } } }, 1, none, by decide +kernel⟩

theorem witness_PowerManagement :
    (∃ (s : State) (wfi p c : Bool), s.pwr.mainUp = true ∧ s.pwr.exiting = false ∧ s.fld Reg.PWR_STAT 2 0 < s.powerChoice (wfi && p && c) ∧
      s.dwelled (s.powerChoice (wfi && p && c)) = true) ∧
    (∃ (s : State), 1 ≤ s.fld Reg.PWR_STAT 2 0 ∧ s.fld Reg.PWR_STAT 2 0 ≤ 3 ∧ s.deadline ≤ s.ns + exitNs (s.fld Reg.PWR_STAT 2 0) + 2000 ∧
      s.strkNext = s.deadline) ∧
    (∃ (s : State), s.pwr.exiting = true ∧ s.pwr.mainUp = true ∧ 1 ≤ s.fld Reg.PWR_STAT 2 0 ∧ s.fld Reg.PWR_STAT 2 0 ≤ 3) ∧
    (∃ (s : State) (v : Word), fieldOf v 2 0 ≤ 4) ∧
    (∃ (s : State) (v : Word), fieldOf v 2 0 ≤ 3) ∧
    (∃ (s : State) (v : Word), 3 < fieldOf v 2 0) ∧
    (∃ (s : State), s.host.linkL0 = true ∧ s.fld Reg.PWR_STAT 2 0 = 2 ∧ BitVec.getLsbD (Tab.get cfgReset s.host.cfg Cfg.linkCtl) 1 = true ∧
      s.bit Reg.PWR_CFG 16 = true) ∧
    (∃ (s : State), s.hostLinkUp = true) ∧
    (∃ (s : State), s.pwr.mainUp = true ∧ s.pwr.exiting = false ∧ s.bit Reg.PWR_STAT 16 = true ∧ s.bit Reg.PWR_CFG 28 = true ∧
      s.deepIdle true = true ∧ s.dwelled 3 = true ∧ s.proofBusy = false ∧ s.host.perst = true ∧ s.colo.snaps = [] ∧ s.closeDue = false) ∧
    (∃ (s : State) (levels i : Nat) (x : BootIn), s.fld Reg.PWR_STAT 2 0 = 4 ∧ s.boot.porst = true ∧ s.blot.aon = true ∧ s.lcy.hold = false ∧
      (bankLevel x.ioA).isSome = true ∧ i < 8 ∧ s.bit Reg.PWR_GPIO_WAKE i = true ∧ levels.testBit i = s.bit Reg.PWR_GPIO_WAKE (8 + i)) := by
  and_intros
  · exact ⟨withRegs { upState with stime := { upState.stime with cycle := 10^12 }} [(Reg.PWR_CFG, 0xffffffff)], true, true, true, by decide +kernel⟩
  · exact ⟨withRegs upState [(Reg.PWR_STAT, 2), (Reg.STRK_W0 3, 0x80000000)], by decide +kernel⟩
  · exact ⟨withRegs { upState with pwr := { upState.pwr with exiting := true } } [(Reg.PWR_STAT, 2)], by decide +kernel⟩
  · exact ⟨upState, 4, by decide +kernel⟩
  · exact ⟨upState, 3, by decide +kernel⟩
  · exact ⟨upState, 4, by decide +kernel⟩
  · exact ⟨withRegs { liveState with host := { liveState.host with cfg := [(Cfg.linkCtl, 2)] } } [(Reg.PWR_STAT, 2), (Reg.PWR_CFG, 0x10000)], by decide +kernel⟩
  · exact ⟨{ liveState with host := { liveState.host with msixHeld := [3, 5] } }, by decide +kernel⟩
  · exact ⟨(let s := withRegs upState [(Reg.PWR_STAT, 0x10000), (Reg.PWR_CFG, 0x10000000)]; { s with stime := { s.stime with cycle := 2 ^ 40 } }), by decide +kernel⟩
  · exact ⟨withRegs { liveState with pwr := { liveState.pwr with mainUp := false } } [(Reg.PWR_STAT, 4), (Reg.PWR_GPIO_WAKE, 0x101)], 1, 0, ⟨5, true, none, 256,
      false, 1800, true⟩, by decide +kernel⟩

theorem witness_ProofSlices :
    (∃ (s : State) (p : Party) (dbg : Bool) (v : Word), (p = Party.scribe ∨ dbg = true ∧ (s.life = 3 ∨ s.right 4 = true)) ∧
      s.bit Reg.PROOF_CMD 31 = false ∧ fieldOf v 4 0 < 20 ∧ BitVec.getLsbD v 31 = false) ∧
    (∃ (s : State) (p : Party) (dbg : Bool) (v : Word), (p = Party.scribe ∨ dbg = true ∧ (s.life = 3 ∨ s.right 4 = true)) ∧
      s.bit Reg.PROOF_CMD 31 = false ∧ fieldOf v 4 0 < 20 ∧ BitVec.getLsbD v 31 = true ∧ s.bit Reg.PROOF_CFG (fieldOf v 4 0) = true ∧
      (s.proof.queue.length < if s.proof.slice.isSome = true then 8 else 9)) ∧
    (∃ (s : State) (p : Party) (dbg : Bool) (v : Word), (p = Party.scribe ∨ dbg = true ∧ (s.life = 3 ∨ s.right 4 = true)) ∧
      s.bit Reg.PROOF_CMD 31 = false ∧ fieldOf v 4 0 < 20 ∧ BitVec.getLsbD v 31 = true ∧ s.bit Reg.PROOF_CFG (fieldOf v 4 0) = true ∧
      (if s.proof.slice.isSome = true then 8 else 9) ≤ s.proof.queue.length) ∧
    (∃ (s : State) (p : Party) (dbg : Bool) (v : Word), (p = Party.scribe ∨ dbg = true ∧ (s.life = 3 ∨ s.right 4 = true)) ∧
      s.bit Reg.PROOF_CMD 31 = false ∧ fieldOf v 4 0 < 20 ∧ BitVec.getLsbD v 31 = true ∧ s.bit Reg.PROOF_CFG (fieldOf v 4 0) = false) ∧
    (∃ (s : State) (p q : Nat) (r : List (Nat × Bool)), s.bit Reg.PROOF_CFG p = true ∧ s.cycNow.proofCmd = some q ∧
      s.proof.queue = r ++ [(q, true)] ∧ (r.length + 2 ≤ if s.proof.slice.isSome = true then 8 else 9)) ∧
    (∃ (s : State) (p : Nat) (c : Bool) (r : List (Nat × Bool)), s.proof.slice = none ∧ s.proof.queue = (p, c) :: r ∧ p < 20 ∧
      s.proofFenced p = true) ∧
    (∃ (s : State) (p : Nat) (c : Bool) (r : List (Nat × Bool)), s.proof.slice = none ∧ s.proof.queue = (p, c) :: r ∧ p < 20 ∧
      s.proofFenced p = false ∧ s.pwr.mainUp = true ∧ s.fld Reg.PWR_STAT 2 0 ≤ 1 ∧ (decide (7 ≤ p ∧
      p < 15) && (s.inScribe (p - 7) || s.switching (p - 7))) = false) ∧
    (∃ (s : State) (p misr : Nat) (clearFail : Bool), s.proof.slice = some p ∧ s.proof.parking = false ∧ clearFail = false ∧
      misr % 2 ^ 128 = ((s.setMisr p (misr % 2 ^ 128)).incSat (Reg.PROOF_RESULT p) 15 0).golden p) ∧
    (∃ (s : State) (p misr : Nat) (clearFail : Bool), s.proof.slice = some p ∧ s.proof.parking = false ∧
      (clearFail = true ∨ misr % 2 ^ 128 ≠ ((s.setMisr p (misr % 2 ^ 128)).incSat (Reg.PROOF_RESULT p) 15 0).golden p)) ∧
    (∃ (s : State) (p code : Nat) (c : Bool), p < 20 ∧ code < 16) ∧
    (∃ (s : State) (p code : Nat) (c : Bool), p < 20 ∧ code < 16 ∧ c = true) ∧
    (∃ (s : State) (p : Nat), 7 ≤ p ∧ p < 20) ∧
    (∃ (s : State) (p : Nat), 7 ≤ p ∧ p < 20 ∧ p < 15) ∧
    (∃ (s : State) (p : Nat), 7 ≤ p ∧ p < 20 ∧ 15 ≤ p ∧ p < 17) ∧
    (∃ (s : State) (p : Nat), 7 ≤ p ∧ p < 20 ∧ 17 ≤ p ∧ p < 19) ∧
    (∃ (s : State) (p : Nat), 7 ≤ p ∧ p < 20 ∧ p = 19) ∧
    (∃ (s : State) (core : Nat), s.proof.slice = some (7 + core)) ∧
    (∃ (s : State) (core : Nat), s.proof.slice = some (7 + core) ∧ s.proof.parkAt + s.parkGrace ≤ s.stime.cycle) ∧
    (∃ (s : State) (core : Nat), s.proof.slice = some (7 + core) ∧ s.stime.cycle < s.proof.parkAt + s.parkGrace) := by
  and_intros
  · exact ⟨portState, .scribe, false, 3, by decide +kernel⟩
  · exact ⟨withRegs portState [(Reg.PROOF_CFG, 0x7F)], .scribe, false, 0x80000003, by decide +kernel⟩
  · exact ⟨withRegs { portState with proof := { queue := List.replicate 9 (3, true) } } [(Reg.PROOF_CFG, 0x7F)], .scribe, false, 0x80000003, by decide +kernel⟩
  · exact ⟨withRegs portState [(Reg.PROOF_CFG, 0)], .scribe, false, 0x80000003, by decide +kernel⟩
  · exact ⟨withRegs { portState with proof := { queue := [(4, false), (3, true)] }, cyc := { proofCmd := some 3 } } [(Reg.PROOF_CFG, 0x7F)], 4, 3, [(4, false)],
      by decide +kernel⟩
  · exact ⟨withRegs { portState with proof := { queue := [(3, true), (4, false)] } } [(Reg.PROOF_STAT, 8)], 3, true, [(4, false)], by decide +kernel⟩
  · exact ⟨{ portState with proof := { queue := [(3, true), (4, false)] } }, 3, true, [(4, false)], by decide +kernel⟩
  · exact ⟨{ portState with proof := { slice := some 3, byCmd := true } }, 3, 0, false, by decide +kernel⟩
  · exact ⟨{ portState with proof := { slice := some 3, byCmd := true } }, 3, 5, false, by decide +kernel⟩
  · exact ⟨portState, 19, 15, true, by decide +kernel⟩
  · exact ⟨portState, 19, 15, true, by decide +kernel⟩
  · exact ⟨portState, 7, by decide +kernel⟩
  · exact ⟨portState, 7, by decide +kernel⟩
  · exact ⟨portState, 16, by decide +kernel⟩
  · exact ⟨portState, 18, by decide +kernel⟩
  · exact ⟨portState, 19, by decide +kernel⟩
  · exact ⟨{ portState with proof := { slice := some 8, parking := true } }, 1, by decide +kernel⟩
  · exact ⟨{ portState with proof := { slice := some 8, parking := true }, stime := { portState.stime with cycle := 2 ^ 40 } }, 1, by decide +kernel⟩
  · exact ⟨{ portState with proof := { slice := some 8, parking := true } }, 1, by decide +kernel⟩

theorem witness_QuillTables :
    (∃ (s : State) (p : Party) (bank table i : Nat), bank = s.fld Reg.QUIL_TBL_SEL 28 28 ∧ table = s.fld Reg.QUIL_TBL_SEL 27 24 ∧
      i = s.fld Reg.QUIL_TBL_SEL 11 0 ∧ table < 4 ∧ i < quilSize table ∧ s.quilActive = bank) ∧
    (∃ (s : State) (p : Party) (bank table i : Nat), bank = s.fld Reg.QUIL_TBL_SEL 28 28 ∧ table = s.fld Reg.QUIL_TBL_SEL 27 24 ∧
      i = s.fld Reg.QUIL_TBL_SEL 11 0 ∧ table < 4 ∧ i < quilSize table ∧ s.quilActive ≠ bank ∧ s.quilPending = true) ∧
    (∃ (s : State) (p : Party) (bank table i : Nat), bank = s.fld Reg.QUIL_TBL_SEL 28 28 ∧ table = s.fld Reg.QUIL_TBL_SEL 27 24 ∧
      i = s.fld Reg.QUIL_TBL_SEL 11 0 ∧ table < 4 ∧ i < quilSize table ∧ s.quilActive ≠ bank ∧ s.quilPending = false ∧
      s.quilDenied p bank table i (List.map (fun w => s.rd (Reg.QUIL_TBL_DATA w)) (List.range 34)) = true) ∧
    (∃ (s : State) (p : Party) (bank table i : Nat), bank = s.fld Reg.QUIL_TBL_SEL 28 28 ∧ table = s.fld Reg.QUIL_TBL_SEL 27 24 ∧
      i = s.fld Reg.QUIL_TBL_SEL 11 0 ∧ table < 4 ∧ i < quilSize table ∧ s.quilActive ≠ bank ∧ s.quilPending = false ∧
      s.quilDenied p bank table i (List.map (fun w => s.rd (Reg.QUIL_TBL_DATA w)) (List.range 34)) = false) ∧
    (∃ (s : State) (p : Party) (bank table i : Nat), bank = s.fld Reg.QUIL_TBL_SEL 28 28 ∧ table = s.fld Reg.QUIL_TBL_SEL 27 24 ∧
      i = s.fld Reg.QUIL_TBL_SEL 11 0 ∧ table < 4 ∧ i < quilSize table) ∧
    (∃ (s : State) (p : Party) (table : Nat), table = s.fld Reg.QUIL_TBL_SEL 27 24 ∧ (4 < table ∨ table < 4 ∧
      quilSize table ≤ s.fld Reg.QUIL_TBL_SEL 11 0 ∨ table = 4 ∧ s.rd (Reg.QUIL_TBL_DATA 0) ≠ 0)) ∧
    (∃ (s : State) (p : Party), s.fld Reg.QUIL_TBL_SEL 27 24 = 4 ∧ s.rd (Reg.QUIL_TBL_DATA 0) = 0) ∧
    (∃ (s : State), s.fld Reg.QUIL_TBL_SEL 27 24 = 4) ∧
    (∃ (s : State), s.quil.validating = none) ∧
    (∃ (s : State), s.quil.validating ≠ none) ∧
    (∃ (s : State) (b : Nat), s.quil.validating = some b ∧ b < 2) ∧
    (∃ (s : State) (b : Nat), b < 2 ∧ s.quilActive = b) ∧
    (∃ (s : State) (b : Nat) (tab : Tab Word), b < 2 ∧ s.quilActive ≠ b ∧ s.cycNow.quilWrote = some (b, tab, true) ∧ s.quil.validating ≠ some b) ∧
    (∃ (s : State) (b : Nat), b < 2 ∧ s.quilActive ≠ b ∧ s.cycNow.quilWrote = none ∧ s.quilValid b = true ∧ s.quil.validating ≠ some b) ∧
    (∃ (s : State) (b : Nat), b < 2 ∧ s.quilActive ≠ b ∧ s.cycNow.quilWrote = none ∧ (s.quilValid b = false ∨ s.quil.validating = some b)) ∧
    (∃ (t : QuilTab) (hits : List Nat) (r : Nat), List.Pairwise (fun x1 x2 => x1 < x2) hits ∧ winnerOf t hits = some r) ∧
    (∃ (t : QuilTab) (hits : List Nat) (r q : Nat), List.Pairwise (fun x1 x2 => x1 < x2) hits ∧ winnerOf t hits = some r ∧ q ∈ hits ∧
      BitVec.getLsbD (t 1 q 0) 23 = false) ∧
    (∃ (s : State), s.quil.level.length = 16) ∧
    (∃ (s : State) (c : Nat) (v : Word), c < 16 ∧ s.quil.level.length = 16) := by
  and_intros
  · exact ⟨tableState 0x01000123, .draft, 0, 1, 0x123, by decide +kernel⟩
  · exact ⟨withRegs (tableState 0x11000FFF) [(Reg.DUCT_LIVE_STAT, 0x80)], .draft, 1, 1, 0xFFF, by decide +kernel⟩
  · exact ⟨withRegs (tableState 0x11000123) [(Reg.QUIL_TBL_DATA 3, 0x20000000)], .draft, 1, 1, 0x123, by decide +kernel⟩
  · exact ⟨tableState 0x11000FFF, .draft, 1, 1, 0xFFF, by decide +kernel⟩
  · exact ⟨(tableState 0x13000123).setQuilEntry 1 3 0x123 ((List.range 34).map fun i => BitVec.ofNat 32 (i + 7)), .draft, 1, 3, 0x123, by decide +kernel⟩
  · exact ⟨tableState 0x15000000, .draft, 5, by decide +kernel⟩
  · exact ⟨{ withRegs (tableState 0x14000123) [(Reg.QUIL_TBL_DATA 0, 0)] with quil := { hits := [(4387, 9)] } }, .draft, by decide +kernel⟩
  · exact ⟨{ tableState 0x14000123 with quil := { hits := [(4387, 0x123456789A)] } }, by decide +kernel⟩
  · exact ⟨portState, by decide +kernel⟩
  · exact ⟨{ portState with quil := { validating := some 1 } }, by decide +kernel⟩
  · exact ⟨{ portState with quil := { validating := some 1 } }, 1, by decide +kernel⟩
  · exact ⟨withRegs portState [(Reg.QUIL_STAT, 6)], 0, by decide +kernel⟩
  · exact ⟨{ withRegs portState [(Reg.QUIL_STAT, 6)] with cyc := { quilWrote := some (1, [], true) } }, 1, [], by decide +kernel⟩
  · exact ⟨withRegs portState [(Reg.QUIL_STAT, 6), (Reg.DUCT_LIVE_STAT, 0x80)], 1, by decide +kernel⟩
  · exact ⟨withRegs portState [(Reg.QUIL_STAT, 2)], 1, by decide +kernel⟩
  · exact ⟨(fun _ r _ => if r = 3 then 0x05000000 else 0x06000000), [1, 3, 4], 3, by decide +kernel⟩
  · exact ⟨(fun _ r _ => if r = 3 then 0x05000000 else 0x06000000), [1, 3, 4], 3, 4, by decide +kernel⟩
  · exact ⟨withRegs { portState with quil := { level := [5,5,5,5,5,5,5,5,5,5,5,5,5,5,5,5] } } [(Reg.QUIL_RATE 3, 0x80070001), (Reg.QUIL_RATE 15, 0xFFFF0001)],
      by decide +kernel⟩
  · exact ⟨portState, 15, 0x80070001, by decide +kernel⟩

theorem witness_RecoveryAndFloors :
    (∃ (s : State) (v : Word), (fieldOf v 3 0 = 1 ∨ fieldOf v 3 0 = 2) ∧ BitVec.getLsbD v 31 = true ∧ s.bit Reg.BOOT_RCV_STAT 23 = false ∧
      s.bit Reg.BOOT_STAT 19 = true) ∧
    (∃ (s v : State) (m : HostMem) (r : RcvItem) (b : Bytes) (c : Nat), rcvRead s m r b v ∧ (r.kind = 1 ∧
      v.verifyStream (wordsOfBytes b) false true = Except.error c ∨ r.kind = 2 ∧ List.find? (fun x => x.id == r.imageId) v.images = none ∧
      c = 33 ∨ r.kind = 2 ∧ ∃ e, List.find? (fun x => x.id == r.imageId) v.images = some e ∧ c = (v.imageVerdict e b true).code ∧
      (c ≠ 0 ∨ e.cls ≠ 0))) ∧
    (∃ (s v w : State) (m : HostMem) (r : RcvItem) (b : Bytes) (x : Machine.Stream), rcvRead s m r b v ∧ r.kind = 1 ∧
      v.verifyStream (wordsOfBytes b) false true = Except.ok x ∧ w = (v.rcvDone 0).bootResume) ∧
    (∃ (s v : State) (m : HostMem) (r : RcvItem) (b : Bytes) (e : Image), rcvRead s m r b v ∧ r.kind = 2 ∧
      List.find? (fun x => x.id == r.imageId) v.images = some e ∧ e.cls = 0 ∧ (v.imageVerdict e b true).code = 0) ∧
    (∃ (s t : State) (m : HostMem) (r : RcvItem) (b : Bytes) (e : Nat), s.boot.rcv = some r ∧ s.host.busMaster = true ∧ r.len ≤ 4194304 ∧
      s.hostRead m (scribeCtx HostReader.recovery) r.addr r.len = (t, b, some e) ∧ e ≠ St.wait) ∧
    (∃ (s : State) (m : HostMem) (r : RcvItem), s.boot.rcv = some r ∧ s.host.busMaster = true ∧ 4194304 < r.len) ∧
    (∃ (s : State) (v : Word), BitVec.getLsbD v 31 = true ∧ 4 ≤ fieldOf v 2 0) ∧
    (∃ (s : State) (v : Word), BitVec.getLsbD v 31 = true ∧ fieldOf v 2 0 < 4) ∧
    (∃ (s : State) (v : Word), BitVec.getLsbD v 31 = true ∧ BitVec.getLsbD v 30 = true ∧ fieldOf v 25 24 < 3 ∧
      fieldOf v 15 0 ≤ s.versionInForce (fieldOf v 25 24) ∧ fieldOf v 15 0 ≤ 128 ∧ s.otpFloor (fieldOf v 25 24) < fieldOf v 15 0) ∧
    (∃ (s : State) (v : Word) (f : Option Nat), BitVec.getLsbD v 31 = true ∧ BitVec.getLsbD v 30 = false ∧ fieldOf v 25 24 < 3 ∧
      fieldOf v 15 0 ≤ s.versionInForce (fieldOf v 25 24) ∧ s.blotFloor (fieldOf v 25 24) < fieldOf v 15 0) ∧
    (∃ (s : State) (v : Word) (f : Option Nat), BitVec.getLsbD v 31 = true ∧ fieldOf v 25 24 < 3 ∧
      s.versionInForce (fieldOf v 25 24) < fieldOf v 15 0) ∧
    (∃ (s : State) (v : Word), BitVec.getLsbD v 31 = true ∧ BitVec.getLsbD v 30 = true ∧ fieldOf v 25 24 < 3 ∧
      fieldOf v 15 0 ≤ s.versionInForce (fieldOf v 25 24) ∧ fieldOf v 15 0 ≤ 128 ∧ fieldOf v 15 0 ≤ s.otpFloor (fieldOf v 25 24)) := by
  and_intros
  · exact ⟨withRegs liveState [(Reg.BOOT_STAT, 2 ^ 19), (Reg.BOOT_RCV_ADDR, 0x1000), (Reg.BOOT_RCV_LEN, 64)], 0x80050002, by decide +kernel⟩
  · have ⟨c,
      hc⟩ := error_of ((rcvIn (rcvState 1 0 64 []) [(0x1000, zeros 64)] 64).verifyStream (wordsOfBytes (rcvGet (rcvState 1 0 64 []) [(0x1000, zeros 64)] 64).2.1) false true) (by decide +kernel)
    exact ⟨rcvState 1 0 64 [], _, [(0x1000, zeros 64)], _, _, c,
      rcvRead_of (rcvState 1 0 64 []) [(0x1000, zeros 64)] 1 0 64 (by decide +kernel) (by decide +kernel) (by decide) (by decide +kernel) (by decide +kernel),
        .inl ⟨by decide +kernel, hc⟩⟩
  · have ⟨x,
      hx⟩ := isOk_ok ((rcvIn wrcv wrcvMem 3088).verifyStream (wordsOfBytes (rcvGet wrcv wrcvMem 3088).2.1) false true) (by rw [wrcv_get.1, wordsOfBytes_bytesOfWords]; decide +kernel)
    exact ⟨wrcv, _, _, wrcvMem, _, _, x, rcvRead_of _ _ 1 0 3088 (by decide +kernel) (by decide +kernel) (by decide) wrcv_get.2 (by decide +kernel),
      by decide +kernel, hx, rfl⟩
  · exact ⟨rcvState 2 0 68 wimgRow, _, [(0x1000, wimg)], _, _, imageAt wimgRow 0,
      rcvRead_of (rcvState 2 0 68 wimgRow) [(0x1000, wimg)] 2 0 68 (by decide +kernel) (by decide +kernel) (by decide) (by decide +kernel) (by decide +kernel),
        by decide +kernel⟩
  · exact ⟨rcvState 1 0 64 [], (rcvGet (rcvState 1 0 64 []) [] 64).1, [], ⟨1, 0, 0x1000, 64⟩, [], 18, and3 (by decide +kernel) ⟨Prod.ext rfl (by decide +kernel),
      by decide +kernel⟩⟩
  · exact ⟨rcvState 1 0 0x400001 [], [], ⟨1, 0, 0x1000, 0x400001⟩, by decide +kernel⟩
  · exact ⟨liveState, 0x80000004, by decide +kernel⟩
  · exact ⟨liveState, 0x80000003, by decide +kernel⟩
  · exact ⟨withRegs liveState [(Reg.BOOT_VER_INFORCE, 5)], 0xC0000003, by decide +kernel⟩
  · exact ⟨withRegs liveState [(Reg.BOOT_VER_INFORCE, 5)], 0x80000003, none, by decide +kernel⟩
  · exact ⟨withRegs liveState [(Reg.BOOT_VER_INFORCE, 5)], 0x80000006, none, by decide +kernel⟩
  · exact ⟨withRegs { liveState with otp := { liveState.otp with floors := [0, 0xF, 0] } } [(Reg.BOOT_VER_INFORCE, 5)], 0xC0000003, by decide +kernel⟩

theorem witness_RegisterWrites :
    (∃ (s : State) (p : Party) (a : Nat) (x : Word) (r : RegRow), Reg.row a = some r ∧ r.own = false ∧ r.reachedBy p = true ∧ a % 4 = 0 ∧
      a ≠ Reg.COLO_PAGE_SEL ∧ s.mailboxWrite p a x = none ∧ s.writeIgnored a x = false ∧ s.writeData a x = x ∧ s.keepSets r a x = x ∧
      (a < Reg.FOL_CTL 0 ∨ Reg.FOL_CTL 0 + 4194304 ≤ a) ∧
      (∀ u < 7, a = Reg.RUL_FAULT_INFO u → List.find? (fun x => x.1 == u) s.cycNow.refused = none) ∧
      (Reg.SCH_FC_CTL 0 0 ≤ a → a < Reg.SCH_FC_CTL 0 0 + 32768 → s.cycNow.refilled = none) ∧
      a ∉ [Reg.NIB_CTR_CLEAR, Reg.FLO_CTR_CLEAR, Reg.CON0_STAT, Reg.CON1_STAT, Reg.EVT_DECODE_INFO] ∧ (∀ n < 16, a ≠ Reg.QUIL_RX_HEAD n)) ∧
    (∃ (s : State) (p : Party) (n : Nat) (x : Word) (r : RegRow), n < 16 ∧ Reg.row (Reg.QUIL_RX_HEAD n) = some r ∧ r.reachedBy p = true ∧
      s.writeIgnored (Reg.QUIL_RX_HEAD n) x = false) ∧
    (∃ (s : State) (p : Party) (a : Nat) (x : Word), (a % 4 ≠ 0 ∨ (match Reg.row a with | none => true | some r => !r.reachedBy p) = true)) ∧
    (∃ (s : State) (p : Party) (a : Nat) (x : DWord), a % 8 = 0) := by
  and_intros
  · exact ⟨liveState, .scribe, Reg.MEM_XSPI_ADDR, 0x1234, (Reg.row Reg.MEM_XSPI_ADDR).get (by decide), by decide +kernel⟩
  · exact ⟨liveState, .scribe, 15, 5, (Reg.row (Reg.QUIL_RX_HEAD 15)).get (by decide), by decide +kernel⟩
  · exact ⟨liveState, .scribe, 0x100000002, 5, by decide +kernel⟩
  · exact ⟨liveState, .scribe, Reg.TIME_SET, 5, by decide +kernel⟩

theorem witness_ReservoirCommands :
    (∃ (x : (Word → Instr) × Nat) (s : State) (v : Word), x ∈ reservoirRows ∧ s.rsv.cmd = none) ∧
    (∃ (x : (Word → Instr) × Nat) (s : State) (v : Word), x ∈ reservoirRows ∧ s.rsv.cmd.isSome = true) ∧
    (∃ (s : State), s.strokes.due ≠ []) ∧
    (∃ (s u : State) (c : RsvCmd), s.rsv.cmd = some c ∧ s.rsvCheck c = none ∧ State.ruleRanges c.ranges s = (u, false) ∧ c.op ≠ 12 ∧
      s.strokes.due = [] ∧ s.wrld.restart ≠ 7) ∧
    (∃ (s : State) (c : RsvCmd) (code : Nat), s.rsv.cmd = some c ∧ s.rsvCheck c = some code ∧ s.strokes.due = [] ∧ s.wrld.restart ≠ 7) := by
  and_intros
  · exact ⟨(.domOpen, 3), liveState, 0x80120303, by simp [reservoirRows], by decide +kernel⟩
  · exact ⟨(.domOpen, 3), rsvState (rsvCommand 1 0), 0x80120303, by simp [reservoirRows], by decide +kernel⟩
  · exact ⟨dueState liveState, by decide +kernel⟩
  · exact ⟨withRegs (rsvState (rsvCommand 3 5)) [(Reg.RUL_CTL 0, 0)], _, rsvCommand 3 5, by decide +kernel, by decide +kernel, Prod.ext rfl (by decide +kernel),
      by decide +kernel⟩
  · exact ⟨rsvState (rsvCommand 1 0), rsvCommand 1 0, 0x0E, by decide +kernel⟩

theorem witness_ReservoirDomains :
    (∃ (s : State) (c : RsvCmd) (r : DomRec) (g : Nat) (k : Bytes) (old : Option (Nat × Bytes)), s.rsv.cmd = some c ∧ s.rsvCheck c = none ∧
      s.strokes.due = [] ∧ (State.ruleRanges c.ranges s).2 = true ∧ c.op = 3 ∧ s.domRecAt (c.at_ 0) = some r ∧ s.genRecAt r (c.at_ 1) = some (g, k) ∧
      (if c.at_ 2 = 0 then some none else Option.map some (s.genRecAt r (c.at_ 2))) = some old ∧ Option.any (fun x => x.1 == g) old = false ∧
      s.cust.destroyed.contains r.domain = false ∧ s.policyOk r.pol0 r.pol1 = true ∧ s.domAt r.domain = none ∧ s.tableRoom r.pol0 r.pol1 = true ∧
      s.strokes.due = [] ∧ s.wrld.restart ≠ 7) ∧
    (∃ (s : State) (c : RsvCmd) (r : DomRec) (g : Nat × Bytes), s.rsv.cmd = some c ∧ s.rsvCheck c = none ∧ s.strokes.due = [] ∧
      (State.ruleRanges c.ranges s).2 = true ∧ c.op = 3 ∧ s.domRecAt (c.at_ 0) = some r ∧ s.genRecAt r (c.at_ 1) = some g ∧ c.at_ 2 = 0 ∧
      s.cust.destroyed.contains r.domain = true ∧ s.strokes.due = [] ∧ s.wrld.restart ≠ 7) ∧
    (∃ (s : State) (c : RsvCmd) (r : DomRec) (g : Nat) (k : Bytes) (e : DomEntry), s.rsv.cmd = some c ∧ s.rsvCheck c = none ∧ s.strokes.due = [] ∧
      (State.ruleRanges c.ranges s).2 = true ∧ c.op = 4 ∧ s.domRecAt (c.at_ 0) = some r ∧ s.genRecAt r (c.at_ 1) = some (g, k) ∧
      s.domAt r.domain = some e ∧ g ≠ 0 ∧ e.gen0 ≠ g ∧ e.gen1 ≠ g ∧ s.genHeld e.domain (e.genOf (1 - e.cur)) = false ∧ s.strokes.due = [] ∧
      s.wrld.restart ≠ 7) ∧
    (∃ (s : State) (c : RsvCmd) (r : DomRec) (g : Nat) (k : Bytes) (e : DomEntry), s.rsv.cmd = some c ∧ s.rsvCheck c = none ∧ s.strokes.due = [] ∧
      (State.ruleRanges c.ranges s).2 = true ∧ c.op = 4 ∧ s.domRecAt (c.at_ 0) = some r ∧ s.genRecAt r (c.at_ 1) = some (g, k) ∧
      s.domAt r.domain = some e ∧ g ≠ 0 ∧ e.gen0 ≠ g ∧ e.gen1 ≠ g ∧ s.genHeld e.domain (e.genOf (1 - e.cur)) = true ∧ e.genOf (1 - e.cur) ≠ 0) ∧
    (∃ (s : State) (c : RsvCmd) (r : DomRec) (e : DomEntry), s.rsv.cmd = some c ∧ s.rsvCheck c = none ∧ s.strokes.due = [] ∧
      (State.ruleRanges c.ranges s).2 = true ∧ c.op = 5 ∧ s.domRecAt (c.at_ 0) = some r ∧ s.domAt r.domain = some e ∧ max e.gen0 e.gen1 < c.argGen ∧
      s.genHeld e.domain (e.genOf (1 - e.cur)) = false ∧ s.drbgReady 0 = true ∧ s.strokes.due = [] ∧ s.wrld.restart ≠ 7) ∧
    (∃ (s : State) (c : RsvCmd) (r : DomRec), s.rsv.cmd = some c ∧ s.rsvCheck c = none ∧ s.strokes.due = [] ∧
      (State.ruleRanges c.ranges s).2 = true ∧ c.op = 8 ∧ s.domRecAt (c.at_ 0) = some r ∧ s.policyOk r.pol0 r.pol1 = true ∧ s.drbgReady 0 = true ∧
      s.strokes.due = [] ∧ s.wrld.restart ≠ 7) ∧
    (∃ (s : State) (c : RsvCmd) (r : DomRec) (b : Bytes), s.rsv.cmd = some c ∧ s.rsvCheck c = none ∧ s.strokes.due = [] ∧
      (State.ruleRanges c.ranges s).2 = true ∧ c.op = 2 ∧ s.keyRead c.keysAt (4160 * (c.quorum % 16)) = some b ∧
      s.membersOk (paramMembers (s.cerSlot (fieldOf c.succ 1 0)).params) (memberKeys b (c.quorum % 16)) = true ∧ s.domAt c.domain = none ∧
      s.tableRoom c.pol0 c.policy1 = true ∧ s.flourishUp = true ∧ s.drbgReady 0 = true ∧ s.strokes.due = [] ∧ s.wrld.restart ≠ 7) ∧
    (∃ (s : State) (c : RsvCmd), s.rsv.cmd = some c ∧ c.held = 1 ∧ s.cust.cmd = none ∧ (∀ o ∈ s.ops, o.held ≠ some 0)) ∧
    (∃ (s : State), s.rsv.cmd = none ∧ s.cust.cmd = none ∧ s.lcy.nonceHeld = true) := by
  and_intros
  · exact ⟨wrs1, wcmd3, recOf5, 7, zeros 32, none, and5 (by decide +kernel) ⟨wrs1_dom, wrs1_gen, by decide +kernel⟩⟩
  · exact ⟨State.sramOf { rsvState wcmd3 with cust := { (rsvState wcmd3).cust with destroyed := [5] } } wrl, wcmd3, recOf5, (7, zeros 32),
      and5 (by decide +kernel) ⟨domRec_read { rsvState wcmd3 with cust := { (rsvState wcmd3).cust with destroyed := [5] } } wrl 0 _ (by decide +kernel) rfl (by decide +kernel) (by decide +kernel) (by simp),
      genRec_read { rsvState wcmd3 with cust := { (rsvState wcmd3).cust with destroyed := [5] } } wrl 1 _ rfl (by decide +kernel) (by decide +kernel) (by decide +kernel), by decide +kernel⟩⟩
  · exact ⟨wrs2 (rsvCommand 4 5), rsvCommand 4 5, recOf5, 7, zeros 32, entryOf5, and5 (by decide +kernel) ⟨wrs2_dom _, wrs2_gen _, by decide +kernel⟩⟩
  · exact ⟨wrs3, rsvCommand 4 5, recOf5, 7, zeros 32, entryOf5,
      and5 (by decide +kernel) ⟨domRec_read { domState (rsvCommand 4 5) [entryOf5] with ops := [{ opOf 4 (.run 0x30) with key := .key ⟨1, 0, zeros 32, 5, 2, 0, 0, 0, []⟩ }] } wrl 0 _ rfl rfl rfl (by decide +kernel) (by simp),
      genRec_read { domState (rsvCommand 4 5) [entryOf5] with ops := [{ opOf 4 (.run 0x30) with key := .key ⟨1, 0, zeros 32, 5, 2, 0, 0, 0, []⟩ }] } wrl 1 _ rfl rfl (by decide +kernel) (by decide +kernel), by decide +kernel⟩⟩
  · exact ⟨wrs2 { rsvCommand 5 5 with argGen := 9 }, { rsvCommand 5 5 with argGen := 9 }, recOf5, entryOf5, and5 (by decide +kernel) ⟨wrs2_dom _, by decide +kernel⟩⟩
  · exact ⟨wrs2 (rsvCommand 8 5), rsvCommand 8 5, recOf5, and5 (by decide +kernel) ⟨wrs2_dom _, by decide +kernel⟩⟩
  · exact ⟨wcrs, wcre, recOf5, zeros 4160, and5 (by decide +kernel) ⟨wcrs_keys, wcrs_members, by decide +kernel⟩⟩
  · exact ⟨rsvState { rsvCommand 5 5 with held := 1 }, { rsvCommand 5 5 with held := 1 }, by decide +kernel⟩
  · exact ⟨{ liveState with lcy := { liveState.lcy with nonceHeld := true } }, by decide +kernel⟩

theorem witness_ReservoirEffects :
    (∃ (s : State) (c : RsvCmd), s.rsv.cmd = some c ∧ s.rsvCheck c = none ∧ c.op = 1 ∧ s.entropyOk = true ∧ s.strokes.due = [] ∧ s.wrld.restart ≠ 7) ∧
    (∃ (s : State) (c : RsvCmd) (e : DomEntry) (h : Nat), s.rsv.cmd = some c ∧ s.rsvCheck c = none ∧ c.op = 6 ∧ s.domAt c.domain = some e ∧
      e.halfOf c.argGen = some h ∧ s.strokes.due = [] ∧ s.wrld.restart ≠ 7) ∧
    (∃ (s : State) (c : RsvCmd), s.rsv.cmd = some c ∧ s.rsvCheck c = none ∧ c.op = 7 ∧ (s.domAt c.domain).isSome = true ∧ s.strokes.due = [] ∧
      s.wrld.restart ≠ 7) ∧
    (∃ (s : State) (c : RsvCmd), s.rsv.cmd = some c ∧ s.rsvCheck c = none ∧ c.op = 10 ∧ s.strokes.due = [] ∧ s.wrld.restart ≠ 7) ∧
    (∃ (s : State) (c : RsvCmd), s.rsv.cmd = some c ∧ s.rsvCheck c = none ∧ c.op = 11 ∧ s.strokes.due = [] ∧ s.wrld.restart ≠ 7) ∧
    (∃ (s : State) (c : RsvCmd) (q : QuotaSlot), s.rsv.cmd = some c ∧ s.rsvCheck c = none ∧ c.op = 9 ∧ c.erasing = none ∧
      s.slotAt (c.arg / 2 ^ 26) (c.arg % 2 ^ 13) = some q ∧ s.slotHeld q = false ∧ s.strokes.due = [] ∧ s.wrld.restart ≠ 7) ∧
    (∃ (s : State) (c : RsvCmd), s.rsv.cmd = some c ∧ s.rsvCheck c = none ∧ c.op = 12 ∧ s.strokes.due = [] ∧ s.wrld.restart ≠ 7) := by
  and_intros
  · exact ⟨withRegs { liveState with rsv := { liveState.rsv with cmd := some (rsvCommand 1 0) } } (drbgRegs ++ [(Reg.BLOT_STAT, 0x86000020)]), rsvCommand 1 0,
      by decide +kernel⟩
  · exact ⟨domState (rsvCommand 6 5) [entryOf5], rsvCommand 6 5, entryOf5, 1, by decide +kernel⟩
  · exact ⟨domState (rsvCommand 7 5) [entryOf5], rsvCommand 7 5, by decide +kernel⟩
  · exact ⟨rsvState (rsvCommand 10 5), rsvCommand 10 5, by decide +kernel⟩
  · exact ⟨rsvState (rsvCommand 11 5), rsvCommand 11 5, by decide +kernel⟩
  · exact ⟨slotState (rsvCommand 9 (2^26+2)) [slotOf1], rsvCommand 9 (2^26+2), slotOf1, by decide +kernel⟩
  · exact ⟨rsvState (rsvCommand 12 5), rsvCommand 12 5, by decide +kernel⟩

theorem witness_ResetAndBoot :
    (∃ (s : State) (x : BootIn), s.boot.porst = false ∧ s.blot.aon = true ∧ s.lcy.hold = false ∧ x.locked = true ∧ x.romFail = none) ∧
    (∃ (s : State), s.blot.aon = false ∧ s.boot.stash = none) ∧
    (∃ (s : State), s.blot.aon = true) ∧
    (∃ (s : State) (x : BootIn), s.lcy.resetDue = true) ∧
    (∃ (s : State) (misrs : List Nat), s.bootAt 3 = true) ∧
    (∃ (s : State) (f : Bool) (misrs : List Nat), s.bootAt 3 = true) ∧
    (∃ (s : State) (x : Machine.Stream), s.bootAt 4 = true ∧ s.boot.tried = [] ∧ s.verifyStream (s.bankWords s.nextBank) false true = Except.ok x) ∧
    (∃ (s : State) (x : Machine.Stream) (b : Nat), (s.bootAt 4 = true ∨ s.bootAt 5 = true) ∧ s.boot.tried = [b] ∧
      s.verifyStream (s.bankWords (1 - b)) false true = Except.ok x) ∧
    (∃ (s : State) (readOk : Bool) (c : Nat), s.bootAt 4 = true ∧ s.boot.tried = [] ∧
      s.verifyStream (s.bankWords s.nextBank) false readOk = Except.error c) ∧
    (∃ (s : State) (readOk : Bool) (b c : Nat), (s.bootAt 4 = true ∨ s.bootAt 5 = true) ∧ s.boot.tried = [b] ∧
      s.verifyStream (s.bankWords (1 - b)) false readOk = Except.error c) ∧
    (∃ (s : State) (readOk : Bool) (n : Nat), (s.bootAt 4 = true ∨ s.bootAt 5 = true) ∧ s.boot.tried.length < 2 ∧ n < 6) ∧
    (∃ (s : State) (e : Image) (readOk : Bool), s.bootAt 7 = true ∧ s.scribeImage = some e) ∧
    (∃ (s : State) (reads : List Bool), s.bootAt 9 = true ∧ s.wrldState = 0) := by
  and_intros
  · exact ⟨State.reset, ⟨5, true, none, 256, false, 1800, true⟩, by decide +kernel⟩
  · exact ⟨{ State.reset with blot := { State.reset.blot with aon := false } }, by decide +kernel⟩
  · exact ⟨liveState, by decide +kernel⟩
  · exact ⟨{ liveState with lcy := { liveState.lcy with resetDue := true } }, ⟨5, true, none, 256, false, 1800, true⟩, by decide +kernel⟩
  · exact ⟨withRegs liveState [(Reg.BOOT_STAT, 3 * 2 ^ 20)], [], by decide +kernel⟩
  · exact ⟨withRegs liveState [(Reg.BOOT_STAT, 3 * 2 ^ 20)], true, [], by decide +kernel⟩
  · have h0 : (bootFlash 4 []).nextBank = 0 := by decide +kernel
    have h : (bootFlash 4 []).bankWords (bootFlash 4 []).nextBank = bootWords := by rw [h0]; exact boot_bank _ _ (by decide +kernel)
    have ⟨x, hx⟩ := isOk_ok _ (show ((bootFlash 4 []).verifyStream bootWords false true).isOk = true by decide +kernel)
    exact ⟨bootFlash 4 [], x, by decide +kernel, by decide +kernel, by rw [h]; exact hx⟩
  · have h : (bootFlash 5 [1]).bankWords (1 - 1) = bootWords := boot_bank _ _ (by decide +kernel)
    have ⟨x, hx⟩ := isOk_ok _ (show ((bootFlash 5 [1]).verifyStream bootWords false true).isOk = true by decide +kernel)
    exact ⟨bootFlash 5 [1], x, 1, by decide +kernel, by decide +kernel, by rw [h]; exact hx⟩
  · exact ⟨withRegs liveState [(Reg.BOOT_STAT, 4 * 2 ^ 20)], true, Rej.magic, by decide +kernel, rfl, rfl⟩
  · exact ⟨(let s := withRegs liveState [(Reg.BOOT_STAT, 4 * 2 ^ 20)]; { s with boot := { s.boot with tried := [0] } }), false, 0, Rej.source, by decide +kernel,
      rfl, rfl⟩
  · exact ⟨withRegs liveState [(Reg.BOOT_STAT, 4 * 2 ^ 20)], true, 5, by decide +kernel⟩
  · exact ⟨(let s := withRegs liveState [(Reg.BOOT_STAT, 7 * 2 ^ 20)]; { s with duct := { s.duct with inForce := [(0x11, List.replicate 17 0)] } }), _, true,
      by decide +kernel, by rfl⟩
  · exact ⟨withRegs liveState [(Reg.BOOT_STAT, 9 * 2 ^ 20), (Reg.WRLD_STAT, 0)], [], by decide +kernel⟩

theorem witness_ResetLeaves :
    (∃ (u : Nat), u < 7) ∧
    (∃ (u set n : Nat), u < 7 ∧ set < 2 ∧ n < 64) ∧
    (∃ (n : Nat), n < 512) := by
  and_intros
  · exact ⟨3, by decide +kernel⟩
  · exact ⟨6, 1, 63, by decide +kernel⟩
  · exact ⟨100, by decide +kernel⟩

theorem witness_RingsAndDoorbells :
    (∃ (s : State) (f k n : Nat) (v : Word), s.shadowing = false ∧ s.ringOf f k = some n ∧ s.doorbellsOn f = true ∧ BitVec.toNat v < 65536 ∧
      BitVec.toNat v < s.sqSize n) ∧
    (∃ (s : State) (f k n : Nat) (v : Word), s.shadowing = false ∧ s.ringOf f k = some n ∧ s.doorbellsOn f = true ∧
      (65536 ≤ BitVec.toNat v ∨ s.sqSize n ≤ BitVec.toNat v)) ∧
    (∃ (s : State) (f k n : Nat) (v : Word), s.shadowing = false ∧ s.ringOf f k = some n ∧ s.doorbellsOn f = true ∧ BitVec.toNat v < 65536 ∧
      BitVec.toNat v < s.cqSize n ∧ (BitVec.toNat v + s.cqSize n - s.cqHead n) % s.cqSize n ≤ (s.cqTail n + s.cqSize n - s.cqHead n) % s.cqSize n) ∧
    (∃ (s : State) (f k n : Nat) (v : Word), s.shadowing = false ∧ s.ringOf f k = some n ∧ s.doorbellsOn f = true ∧ 65536 ≤ BitVec.toNat v) ∧
    (∃ (s : State) (f k n : Nat) (v : Word), s.shadowing = false ∧ s.ringOf f k = some n ∧ s.doorbellsOn f = true ∧ BitVec.toNat v < 65536 ∧
      (s.cqSize n ≤ BitVec.toNat v ∨ (s.cqTail n + s.cqSize n - s.cqHead n) % s.cqSize n < (BitVec.toNat v + s.cqSize n - s.cqHead n) % s.cqSize n)) ∧
    (∃ (s : State) (f k : Nat) (v : Word), s.shadowing = true) ∧
    (∃ (s : State) (n : Nat), n < 128 ∧ s.enableCode n = 0) ∧
    (∃ (s : State) (n : Nat), n < 128 ∧ s.enableCode n ≠ 0) ∧
    (∃ (s : State) (n : Nat), n < 128 ∧ (s.ringState n = 1 ∨ s.ringState n = 3)) ∧
    (∃ (s : State) (f k n : Nat) (v : Word), s.shadowing = false ∧ s.ringOf f k = none ∧ s.ringClosed f k = some n ∧ s.doorbellsOn f = true ∧
      BitVec.toNat v < 65536 ∧ BitVec.toNat v < s.sqSize n) ∧
    (∃ (s : State) (n : Nat), n < 128 ∧ s.ringState n = 2 ∧ (s.ringOps n).isEmpty = true) ∧
    (∃ (s : State) (n : Nat), n < 128 ∧ (s.ringSt n).pendingIrq ≠ 0 ∧ s.fld (Reg.RING_COAL n) 15 0 ≠ 0 ∧
      (s.ringSt n).pendSince + 800 * s.fld (Reg.RING_COAL n) 15 0 ≤ s.stime.cycle) := by
  and_intros
  · exact ⟨ringState, 1, 0, 0, 15, by decide +kernel⟩
  · exact ⟨ringState, 1, 0, 0, 16, by decide +kernel⟩
  · exact ⟨withRegs ringState [(Reg.RING_CQ_TAIL 0, 5)], 1, 0, 0, 5, by decide +kernel⟩
  · exact ⟨ringState, 1, 0, 0, 0x10000, by decide +kernel⟩
  · exact ⟨withRegs ringState [(Reg.RING_CQ_TAIL 0, 5)], 1, 0, 0, 6, by decide +kernel⟩
  · exact ⟨withRegs ringState [(Reg.PWR_STAT, 3)], 1, 0, 6, by decide +kernel⟩
  · exact ⟨withRegs ringState [(Reg.RING_STAT 0, 0), (Reg.RING_SQ_TAIL 0, 3)], 0, by decide +kernel⟩
  · exact ⟨withRegs ringState [(Reg.RING_STAT 0, 0), (Reg.RING_CFG 0, 0)], 0, by decide +kernel⟩
  · exact ⟨withOps ringState [opOf 3 (.parkTime 0), opOf 4 (.run 0x30)], 0, by decide +kernel⟩
  · exact ⟨{ withRegs ringState [(Reg.RING_STAT 0, 0x100)] with cyc := { closed := [0] } }, 1, 0, 0, 15, by decide +kernel⟩
  · exact ⟨withRegs ringState [(Reg.RING_STAT 0, 0x80000000)], 0, by decide +kernel⟩
  · exact ⟨{ (withRegs ringState [(Reg.RING_COAL 0, 0x00020001)]).setRing 0 { pendingIrq := 1 } with stime := { liveState.stime with cycle := 800 } }, 0,
      by decide +kernel⟩

theorem witness_RulingDecision :
    (∃ (s : State) (u : Nat) (acc : Access), u < 7 ∧ s.bit (Reg.RUL_CTL u) 2 = false ∧ alwaysGranted u acc = false ∧ 0 < acc.len ∧
      acc.addr / granule u = (acc.addr + acc.len - 1) / granule u ∧ s.matching u acc.addr = []) ∧
    (∃ (s : State) (u : Nat) (acc : Access) (r q : Nat) (l : List Nat), u < 7 ∧ s.bit (Reg.RUL_CTL u) 2 = false ∧ alwaysGranted u acc = false ∧
      0 < acc.len ∧ acc.addr / granule u = (acc.addr + acc.len - 1) / granule u ∧ s.matching u acc.addr = r :: q :: l ∧
      s.bit (Reg.RUL_CTL u) 1 = false) ∧
    (∃ (s : State) (u : Nat) (acc : Access) (r : Nat), u < 7 ∧ s.bit (Reg.RUL_CTL u) 2 = false ∧ alwaysGranted u acc = false ∧ 0 < acc.len ∧
      acc.addr / granule u = (acc.addr + acc.len - 1) / granule u ∧ s.matching u acc.addr = [r] ∧
      BitVec.getLsbD (s.entryWord u (s.ruleActive u) r 5) acc.init = false) ∧
    (∃ (s : State) (u : Nat) (acc : Access) (r b : Nat), u < 7 ∧ s.bit (Reg.RUL_CTL u) 2 = false ∧ alwaysGranted u acc = false ∧ 0 < acc.len ∧
      acc.addr / granule u = (acc.addr + acc.len - 1) / granule u ∧ s.matching u acc.addr = [r] ∧
      BitVec.getLsbD (s.entryWord u (s.ruleActive u) r 5) acc.init = true ∧ acc.init ≤ 8 ∧ coreBit acc = some b) ∧
    (∃ (s : State) (u : Nat) (acc : Access) (r : Nat), u < 7 ∧ s.bit (Reg.RUL_CTL u) 2 = false ∧ alwaysGranted u acc = false ∧ 0 < acc.len ∧
      acc.addr / granule u = (acc.addr + acc.len - 1) / granule u ∧ s.matching u acc.addr = [r] ∧
      BitVec.getLsbD (s.entryWord u (s.ruleActive u) r 5) acc.init = true ∧ acc.init ≤ 8 ∧ coreBit acc = none) ∧
    (∃ (s : State) (u : Nat) (acc : Access) (r f : Nat), u < 7 ∧ s.bit (Reg.RUL_CTL u) 2 = false ∧ alwaysGranted u acc = false ∧ 0 < acc.len ∧
      acc.addr / granule u = (acc.addr + acc.len - 1) / granule u ∧ s.matching u acc.addr = [r] ∧
      BitVec.getLsbD (s.entryWord u (s.ruleActive u) r 5) acc.init = true ∧ 8 < acc.init ∧ acc.folio = some f ∧ f < 32 ∧
      BitVec.getLsbD (s.entryWord u (s.ruleActive u) r 6) f = false) ∧
    (∃ (s : State) (u : Nat) (acc : Access) (r f : Nat), u < 7 ∧ s.bit (Reg.RUL_CTL u) 2 = false ∧ alwaysGranted u acc = false ∧ 0 < acc.len ∧
      acc.addr / granule u = (acc.addr + acc.len - 1) / granule u ∧ s.matching u acc.addr = [r] ∧
      BitVec.getLsbD (s.entryWord u (s.ruleActive u) r 5) acc.init = true ∧ 8 < acc.init ∧ acc.folio = some f ∧ f < 32 ∧
      BitVec.getLsbD (s.entryWord u (s.ruleActive u) r 6) f = true ∧ acc.kind = AccKind.write) ∧
    (∃ (s : State) (u : Nat) (acc : Access) (r f : Nat), u < 7 ∧ s.bit (Reg.RUL_CTL u) 2 = false ∧ alwaysGranted u acc = false ∧ 0 < acc.len ∧
      acc.addr / granule u = (acc.addr + acc.len - 1) / granule u ∧ s.matching u acc.addr = [r] ∧
      BitVec.getLsbD (s.entryWord u (s.ruleActive u) r 5) acc.init = true ∧ 8 < acc.init ∧ acc.folio = some f ∧ f < 32 ∧
      BitVec.getLsbD (s.entryWord u (s.ruleActive u) r 6) f = true ∧ acc.kind = AccKind.read) ∧
    (∃ (s : State) (u : Nat) (acc : Access) (why region : Nat), u < 7 ∧ s.bit (Reg.RUL_CTL u) 2 = false ∧ alwaysGranted u acc = false ∧ 0 < acc.len ∧
      acc.addr / granule u = (acc.addr + acc.len - 1) / granule u ∧ why < 8 ∧ region < 128 ∧ s.ruleRefuses u acc = some (why, region) ∧
      s.bit (Reg.RUL_FAULT_INFO u) 31 = false ∧ acc.addr < 2 ^ 64) := by
  and_intros
  · exact ⟨withRegs liveState [(Reg.RUL_CTL 0, 0)], 0, accessOf 0x10000000 8 .read 0 .scribe, by decide +kernel⟩
  · exact ⟨withRegs liveState [(Reg.RUL_CTL 1, 0), (entryAddr 1 0 3 + 4 * 4, 0x80000003), (entryAddr 1 0 3 + 4 * 2, 0xffffffff), (entryAddr 1 0 5 + 4 * 4, 0x80000003), (entryAddr 1 0 5 + 4 * 2, 0xffffffff)], 1, accessOf 0x20000000 8 .read 0 .scribe, 3, 5, [], by decide +kernel⟩
  · exact ⟨withRegs liveState [(Reg.RUL_CTL 1, 0), (entryAddr 1 0 5 + 4 * 4, 0x80010003), (entryAddr 1 0 5 + 4 * 2, 0xffffffff), (entryAddr 1 0 5 + 4 * 3, 0xff), (entryAddr 1 0 5 + 4 * 5, 0), (entryAddr 1 0 5 + 4 * 6, 0x10)], 1, { accessOf 0x20000000 8 .write 11 .scribe with folio := some 4 }, 5, by decide +kernel⟩
  · exact ⟨withRegs liveState [(Reg.RUL_CTL 1, 0), (entryAddr 1 0 5 + 4 * 4, 0x80010003), (entryAddr 1 0 5 + 4 * 2, 0xffffffff), (entryAddr 1 0 5 + 4 * 3, 0xff), (entryAddr 1 0 5 + 4 * 5, 0xffffffff), (entryAddr 1 0 5 + 4 * 6, 0x10)], 1, accessOf 0x20000000 8 .write 3 .scribe, 5, 1, by decide +kernel⟩
  · exact ⟨withRegs liveState [(Reg.RUL_CTL 1, 0), (entryAddr 1 0 5 + 4 * 4, 0x80010003), (entryAddr 1 0 5 + 4 * 2, 0xffffffff), (entryAddr 1 0 5 + 4 * 3, 0xff), (entryAddr 1 0 5 + 4 * 5, 0xffffffff), (entryAddr 1 0 5 + 4 * 6, 0x10)], 1, { accessOf 0x20000000 8 .write 3 .scribe with priv := .s }, 5, by decide +kernel⟩
  · exact ⟨withRegs liveState [(Reg.RUL_CTL 1, 0), (entryAddr 1 0 5 + 4 * 4, 0x80010003), (entryAddr 1 0 5 + 4 * 2, 0xffffffff), (entryAddr 1 0 5 + 4 * 3, 0xff), (entryAddr 1 0 5 + 4 * 5, 0xffffffff), (entryAddr 1 0 5 + 4 * 6, 0x10)], 1, { accessOf 0x20000000 8 .write 11 .scribe with folio := some 5 }, 5, 5, by decide +kernel⟩
  · exact ⟨withRegs liveState [(Reg.RUL_CTL 1, 0), (entryAddr 1 0 5 + 4 * 4, 0x80010003), (entryAddr 1 0 5 + 4 * 2, 0xffffffff), (entryAddr 1 0 5 + 4 * 3, 0xff), (entryAddr 1 0 5 + 4 * 5, 0xffffffff), (entryAddr 1 0 5 + 4 * 6, 0x10)], 1, { accessOf 0x20000000 8 .write 11 .scribe with folio := some 4 }, 5, 4, by decide +kernel⟩
  · exact ⟨withRegs liveState [(Reg.RUL_CTL 1, 0), (entryAddr 1 0 5 + 4 * 4, 0x80010003), (entryAddr 1 0 5 + 4 * 2, 0xffffffff), (entryAddr 1 0 5 + 4 * 3, 0xff), (entryAddr 1 0 5 + 4 * 5, 0xffffffff), (entryAddr 1 0 5 + 4 * 6, 0x10)], 1, { accessOf 0x20000000 8 .read 11 .scribe with folio := some 4 }, 5, 4, by decide +kernel⟩
  · exact ⟨withRegs { liveState with stime := { liveState.stime with ns := 77 } } [(Reg.RUL_CTL 0, 0)], 0, accessOf 0x10000000 8 .read 0 .scribe, rNoMatch, 0x7F,
      by decide +kernel⟩

theorem witness_RulingTables :
    (∃ (s : State) (u : Nat) (v : Word) (j : RulCyc), u < 7 ∧ BitVec.getLsbD v 31 = true ∧ List.find? (fun x => x.unit == u) s.cycNow.rul = some j ∧
      j.counted = true ∧ j.set0 = fieldOf v 0 0 ∧ (∀ x ∈ j.trig, x.rank ≤ 1028)) ∧
    (∃ (s : State) (u : Nat) (v : Word), u < 7 ∧ BitVec.getLsbD v 31 = true ∧ rulFresh s u) ∧
    (∃ (s : State) (u : Nat) (v : Word), u < 7 ∧ BitVec.getLsbD v 31 = true ∧ rulFresh s u ∧ s.isLocked u (fieldOf v 5 0) = true) ∧
    (∃ (s : State) (u : Nat) (v : Word), u < 7 ∧ BitVec.getLsbD v 31 = true ∧ rulFresh s u ∧ s.isLocked u (fieldOf v 5 0) = false ∧
      entryReservedOk u (List.map (fun w => s.rd (Reg.RUL_STAGE u w)) (List.range 9)) = false) ∧
    (∃ (s : State) (u : Nat) (v : Word), u < 7 ∧ BitVec.getLsbD v 31 = true ∧ rulFresh s u ∧ s.isLocked u (fieldOf v 5 0) = false ∧
      entryReservedOk u (List.map (fun w => s.rd (Reg.RUL_STAGE u w)) (List.range 9)) = true) ∧
    (∃ (s : State) (u n : Nat) (w : HalfWrite), u < 7 ∧ n < 64 ∧ rulFresh s u) := by
  and_intros
  · exact ⟨{ liveState with cyc := { rul := [{ unit := 2, set0 := 0, regs0 := [], count0 := 0, evt0 := false, counted := true }] } }, 2, 0x80000000,
      { unit := 2, set0 := 0, regs0 := [], count0 := 0, evt0 := false, counted := true }, by decide +kernel⟩
  · exact ⟨liveState, 6, 0x80000001, by decide +kernel⟩
  · exact ⟨withRegs liveState [(Reg.RUL_LOCK 2, 16)], 2, 0x80000004, by decide +kernel⟩
  · exact ⟨withRegs liveState [(Reg.RUL_STAGE 2 8, 0xffffffff)], 2, 0x80000104, by decide +kernel⟩
  · exact ⟨withRegs liveState [(Reg.RUL_STAGE 2 0, 0x10000000), (Reg.RUL_STAGE 2 4, 0x80000003)], 2, 0x80000104, by decide +kernel⟩
  · exact ⟨withRegs liveState [(entryAddr 2 0 33, 77)], 2, 33, .upper 2, by decide +kernel⟩

theorem witness_ScribeFailures :
    (∃ (s : State) (v : Word), fieldOf v 15 0 = 23579) ∧
    (∃ (s : State) (v : Word), fieldOf v 15 0 ≠ 23579) ∧
    (∃ (s : State) (c : Instr) (cause : Nat), s.boot.released = true ∧ (c = Instr.lockstepDivergence ∧
      cause = 1 ∨ c = Instr.wrldSelfFail 1545337361 ∧ cause = 3 ∨ c = Instr.watchdogExpiry ∧ s.wrld.wdRuns = true ∧ s.wdFrozen = false ∧
      s.wrldState ≠ 3 ∧ cause = if s.wrld.restart = 0 then 2 else 4)) ∧
    (∃ (s : State) (c : Instr) (cause : Nat) (f : FailCyc), s.boot.released = false ∧ s.cycNow.fail = some f ∧ (c = Instr.lockstepDivergence ∧
      cause = 1 ∨ c = Instr.wrldSelfFail 1545337361 ∧ cause = 3)) ∧
    (∃ (s : State), s.wrld.wdRuns = true ∧ s.wdFrozen = false ∧ s.wrldState = 3) ∧
    (∃ (s : State), s.boot.released = true ∧ s.wrldState = 3) ∧
    (∃ (s : State), s.boot.released = true ∧ s.wrldState = 1 ∧ s.wrld.restart ≠ 7 ∧ s.bit Reg.RSV_STAT 29 = false) ∧
    (∃ (s : State) (readOk : Bool), s.wrld.restart = 1 ∧ s.noneInScribe = true ∧ s.wrld.switches = []) ∧
    (∃ (s : State), s.wrldState = 1) := by
  and_intros
  · exact ⟨{ liveState with wrld := { liveState.wrld with wdRuns := true } }, 0x5C1B, by decide +kernel⟩
  · exact ⟨liveState, 0x5C1C, by decide +kernel⟩
  · exact ⟨withRegs liveState [(Reg.WRLD_STAT, 0)], .lockstepDivergence, 1, by decide +kernel, by simp⟩
  · exact ⟨{ liveState with boot := { liveState.boot with released := false }, cyc := { fail := some ⟨true, false, false⟩ } }, .lockstepDivergence, 1, ⟨true, false,
      false⟩, by decide +kernel, by decide +kernel, by simp⟩
  · exact ⟨withRegs { liveState with wrld := { liveState.wrld with wdRuns := true } } [(Reg.WRLD_STAT, 3)], by decide +kernel⟩
  · exact ⟨liveState, by decide +kernel⟩
  · exact ⟨withRegs liveState [(Reg.WRLD_STAT, 1)], by decide +kernel⟩
  · exact ⟨{ liveState with wrld := { liveState.wrld with restart := 1 } }, true, by decide +kernel⟩
  · exact ⟨withRegs liveState [(Reg.WRLD_STAT, 1)], by decide +kernel⟩

theorem witness_SealOpenRoundTrip :
    (∃ (e : Env) (key : Bytes), e.alg < 256 ∧ e.shift < 256 ∧ e.domain < 65536 ∧ e.gen < 2 ^ 32 ∧ List.length e.keyId = 16 ∧
      List.length e.seed = 32 ∧ e.obj < 2 ^ 64 ∧ e.sealedAt < 2 ^ 64) ∧
    (∃ (e : Env) (k h : Bytes) (i : Nat) (pt : Bytes), List.length pt = chunkLen e.obj e.shift i) ∧
    (∃ (e : Env) (k h : Bytes) (i : Nat) (c : Bytes), List.length c = chunkLen e.obj e.shift i + 16 ∧ openChunk e k h i c = none) ∧
    (∃ (se de : Env) (sk sh dk dh : Bytes) (i : Nat) (pt : Bytes), List.length pt = chunkLen se.obj se.shift i) := by
  and_intros
  · exact ⟨⟨255, 255, 65535, 2 ^ 32 - 1, zeros 16, zeros 32, 2 ^ 64 - 1, 2 ^ 64 - 1⟩, zeros 32, by decide +kernel⟩
  · exact ⟨⟨1, 12, 5, 1, zeros 16, zeros 32, 16, 0⟩, zeros 32, zeros 128, 0, zeros 16, by decide +kernel⟩
  · exact ⟨⟨1, 12, 5, 1, zeros 16, zeros 32, 16, 0⟩, zeros 32, zeros 128, 0, zeros 32, by decide +kernel⟩
  · exact ⟨⟨1, 12, 5, 1, zeros 16, zeros 32, 16, 0⟩, ⟨2, 12, 5, 1, zeros 16, zeros 32, 16, 0⟩, zeros 32, zeros 128, zeros 32, zeros 128, 0, zeros 16, by decide +kernel⟩

theorem witness_SmbusReads :
    (∃ (c : Instr) (t : SmbTx) (code : Nat) (late : Bool) (v : State → Bytes) (s : State), smbReadRow c = some (t, code, late, v) ∧
      s.smbOpen t.addr = none) ∧
    (∃ (c : Instr) (t : SmbTx) (code : Nat) (late : Bool) (v : State → Bytes) (s u : State) (m : Nat), smbReadRow c = some (t, code, late, v) ∧
      s.smbOpen t.addr = some (u, m) ∧ (u.smbBars code m late = true ∨ t.data ≠ [])) ∧
    (∃ (c : Instr) (t : SmbTx) (code : Nat) (late : Bool) (v : State → Bytes) (s u : State) (m : Nat), smbReadRow c = some (t, code, late, v) ∧
      s.smbOpen t.addr = some (u, m) ∧ u.smbBars code m late = false ∧ t.data = [] ∧ t.read = true) ∧
    (∃ (c : Instr) (t : SmbTx) (code n : Nat) (v : Nat → State → Bytes) (s u : State) (m : Nat), smbCallRow c = some (t, code, n, v) ∧
      s.smbOpen t.addr = some (u, m) ∧ u.smbBars code m true = false ∧ t.read = true ∧ 0 < BitVec.toNat (List.headD t.data 0) ∧
      BitVec.toNat (List.headD t.data 0) ≤ n ∧ (List.drop 1 t.data).length ≤ BitVec.toNat (List.headD t.data 0)) ∧
    (∃ (s u : State) (t : SmbTx) (m a : Nat) (e : EccFind), s.smbOpen t.addr = some (u, m) ∧ u.smbBars 84 m true = false ∧ t.read = true ∧ a < 4096 ∧
      t.data = 2 :: beBytes 2 a) ∧
    (∃ (s u : State) (t : SmbTx) (m : Nat), s.smbOpen t.addr = some (u, m) ∧ u.smbBars 85 m true = false ∧ t.read = true ∧ t.data = [1, 0]) ∧
    (∃ (s u : State) (t : SmbTx) (m c : Nat), s.smbOpen t.addr = some (u, m) ∧ u.smbBars 85 m true = false ∧ t.read = true ∧ 0 < c ∧ c ≤ 7 ∧
      t.data = [1, BitVec.ofNat 8 c]) ∧
    (∃ (s : State) (t : SmbTx) (code m : Nat) (b : Bytes), m < 256) := by
  and_intros
  · exact ⟨.ident (smbTx [] true true), _, _, _, _, liveState, rfl, by decide +kernel⟩
  · exact ⟨.ident (smbTx [3] true true), _, _, _, _, smbusState, smbusState, 1, rfl, by decide +kernel, .inr (by decide +kernel)⟩
  · exact ⟨.ident (smbTx [] true true), _, _, _, _, smbusState, smbusState, 1, rfl, by decide +kernel, by decide +kernel, rfl, rfl⟩
  · exact ⟨.evtStatus (smbTx [1, 3] true true), _, _, _, _, smbusState, smbusState, 1, rfl, by decide +kernel⟩
  · exact ⟨smbusState, smbusState, smbTx [2, 1, 0] true true, 1, 256, .clean, by decide +kernel⟩
  · exact ⟨smbusState, smbusState, smbTx [1, 0] true true, 1, by decide +kernel⟩
  · exact ⟨smbusState, smbusState, smbTx [1, 3] true true, 1, 3, by decide +kernel⟩
  · exact ⟨smbusState, smbTx [1, 3] true true, 0x60, 4, [1,2,3], by decide +kernel⟩

theorem witness_SmbusRows :
    (∃ (s u : State) (t : SmbTx) (m : Nat) (v : Byte) (p : Bytes), s.smbOpen t.addr = some (u, m) ∧ t.data = v :: p ∧ t.read = false ∧
      BitVec.toNat v < 16 ∧ (p = [pec [addrByte t.addr false, 4, v]] ∨ p = [] ∧ (m < 4 → u.bit Reg.SMB_CFG (24 + m) = false))) ∧
    (∃ (s u : State) (t : SmbTx) (m : Nat) (v : Byte) (p : Bytes) (x : Byte), s.smbOpen t.addr = some (u, m) ∧ t.data = v :: p ∧ t.read = false ∧
      BitVec.toNat v < 16 ∧ p = [x] ∧ x ≠ pec [addrByte t.addr false, 4, v]) ∧
    (∃ (s u : State) (t : SmbTx) (m : Nat) (g : Byte) (b : Bytes), s.smbOpen t.addr = some (u, m) ∧ u.smbBars 97 m true = false ∧ t.read = false ∧
      BitVec.toNat g < 16 ∧ List.length b = 4 ∧ (m < 4 → u.bit Reg.SMB_CFG (24 + m) = false) ∧ t.data = 5 :: g :: b) ∧
    (∃ (s u : State) (addr m : Nat) (rw : Bool), s.smbOpen addr = some (u, m)) ∧
    (∃ (s u : State) (t : SmbTx) (code m : Nat), s.smbOpen t.addr = some (u, m) ∧ (∀ e ∈ smbCodes, e.1 ≠ code)) ∧
    (∃ (s : State) (i : Nat) (ack : Bool), s.smbOn = true ∧ BitVec.getLsbD (s.hwSets Reg.SMB_ALERT) i = false ∧ i < 4 ∧
      s.bit Reg.SMB_ALERT i = true ∧ s.bit Reg.SMB_ALERT (4 + i) = false ∧
      (∀ j < i, s.bit Reg.SMB_ALERT j = false ∨ s.bit Reg.SMB_ALERT (4 + j) = true) ∧ s.fld Reg.PWR_STAT 2 0 ≠ 3) ∧
    (∃ (s : State) (ack : Bool), s.smbOn = true ∧ s.fld Reg.PWR_STAT 2 0 ≠ 3 ∧ s.alertAsserted = true) ∧
    (∃ (s : State) (ack lost : Bool), s.smbOn = true ∧ s.fld Reg.PWR_STAT 2 0 ≠ 3 ∧ s.alertAsserted = false) ∧
    (∃ (s : State) (i : Nat) (c : Instr) (addr cmd : Nat), s.smbOn = true ∧ (c = Instr.smbClockTimeout addr cmd ∧
      i = 24 ∨ c = Instr.smbProtocolBreach addr cmd ∧ i = 8)) ∧
    (∃ (s : State) (addr : Nat) (x : BootIn), (s.smbMatch addr).isSome = true ∧ s.boot.ioB = true ∧ s.fld Reg.PWR_STAT 2 0 = 3) ∧
    (∃ (s : State) (addr : Nat) (x : BootIn), (s.smbMatch addr).isSome = true ∧ s.fld Reg.PWR_STAT 2 0 = 4 ∧ s.mayStart = true ∧ x.ioB = true) ∧
    (∃ (s : State) (addr m : Nat), s.bit Reg.SMB_STAT 29 = true ∧ s.smbMatch addr = some m ∧ m < 8) := by
  and_intros
  · exact ⟨smbusState, smbusState, smbTx [5, pec [addrByte 0x21 false, 0x04, 5]] false false, 1, 5, [pec [addrByte 0x21 false, 0x04, 5]], by decide +kernel⟩
  · exact ⟨smbusState, smbusState, smbTx [5, 0] false false, 1, 5, [0], 0, by decide +kernel⟩
  · exact ⟨withRegs smbusState [(Reg.EVT_STATUS 3, 0xFF), (Reg.EVT_ROUTE 97, 0x84000000)],
      withRegs smbusState [(Reg.EVT_STATUS 3, 0xFF), (Reg.EVT_ROUTE 97, 0x84000000)], smbTx [5, 3, 0, 0, 0, 0xFF] false false, 1, 3, [0, 0, 0, 0xFF], by decide +kernel⟩
  · exact ⟨smbusState, smbusState, 0x21, 1, true, by decide +kernel⟩
  · exact ⟨smbusState, smbusState, smbTx [] true true, 0x77, 1, by decide +kernel⟩
  · exact ⟨withRegs smbusState [(Reg.SMB_ALERT, 0x16)], 1, true, by decide +kernel⟩
  · exact ⟨withRegs smbusState [(Reg.SMB_ALERT, 0x16)], true, by decide +kernel⟩
  · exact ⟨smbusState, true, by decide +kernel⟩
  · exact ⟨smbusState, 24, .smbClockTimeout 0x21 3, 0x21, 3, by decide +kernel, by simp⟩
  · exact ⟨withRegs smbusState [(Reg.PWR_STAT, 3)], 0x21, ⟨5, true, none, 256, false, 1800, true⟩, by decide +kernel⟩
  · exact ⟨withRegs smbusState [(Reg.PWR_STAT, 4)], 0x21, ⟨5, true, none, 256, false, 1800, true⟩, by decide +kernel⟩
  · exact ⟨withRegs smbusState [(Reg.SMB_STAT, 0x20000000), (Reg.SMB_ERRCNT, 0xFF)], 0x22, 2, by decide +kernel⟩

theorem witness_StepKeepsCanonical :
    ∃ (s t : State), s.canonical ∧ step s = Host.Outcome.next t := by
  exact ⟨{ State.reset with pending := [.stimeTick] }, _, by unfold State.canonical; decide +kernel, rfl⟩

theorem witness_StepTakesFront :
    (∃ (s : State) (c : Instr) (rest : List Instr), s.pending = c :: rest) ∧
    (∃ (s : State), s.pending = []) := by
  and_intros
  · exact ⟨{ State.reset with pending := [.stimeTick] }, .stimeTick, [], by decide +kernel⟩
  · exact ⟨State.reset, by decide +kernel⟩

theorem witness_StrokeTable :
    (∃ (s : State) (n word : Nat) (v : Word), n < 1024 ∧ word < 8 ∧ s.bit (Reg.STRK_W0 n) 30 = false) ∧
    (∃ (s : State) (p : Party) (n word : Nat) (v : Word), n < 1024 ∧ 1 ≤ word ∧ word ≤ 5 ∧ (p = Party.scribe ∨ p = Party.draft ∧
      s.bit (Reg.STRK_W0 n) 30 = true)) ∧
    (∃ (s : State) (p : Party) (n : Nat) (v : Word), n < 1024 ∧ (p = Party.scribe ∨ p = Party.draft ∧ s.bit (Reg.STRK_W0 n) 30 = true)) ∧
    (∃ (s : State) (d : DueStroke) (r : List DueStroke), s.strokes.due = d :: r ∧ d.idx < 1024 ∧ s.strokes.applied < 16 ∧
      s.fld Reg.PWR_STAT 2 0 ≠ 3 ∧ fieldOf (s.rd (Reg.STRK_W0 d.idx)) 23 16 = 6 ∧ fieldOf (s.rd (Reg.STRK_W0 d.idx)) 15 0 < 24) := by
  and_intros
  · exact ⟨upState, 3, 2, 9, by decide +kernel⟩
  · exact ⟨upState, .scribe, 1023, 1, 9, by decide +kernel⟩
  · exact ⟨withRegs upState [(Reg.STRK_W0 4, 0xC0000000), (Reg.STRK_STATUS 4, 0xffffffff)], .draft, 4, 0xffffffff, by decide +kernel⟩
  · exact ⟨withRegs (dueState upState) [(Reg.STRK_W0 5, 0x80060003)], ⟨5, true, true, 0⟩, [], by decide +kernel⟩

theorem witness_Succession :
    (∃ (s : State) (c : CustCmd) (r : DomRec) (old kb : Bytes), s.cust.cmd = some c ∧ s.custCheck c = none ∧ c.slot < 4 ∧ s.flourishUp = true ∧
      s.drbgReady 0 = true ∧ c.op = 32 ∧
      (s.custRanges [(c.at_ 0, 192, AccKind.read), (c.at_ 1, packageLen (paramQuorum (s.cerSlot c.slot).params % 16), AccKind.write), (c.at_ 2, 4160 * (paramQuorum (s.cerSlot c.slot).params % 16), AccKind.read)]).2 = true ∧
      s.domRecAt (c.at_ 0) = some r ∧ s.keyRead (c.at_ 1) 192 = some old ∧
      s.keyRead (c.at_ 2) (4160 * (paramQuorum (s.cerSlot c.slot).params % 16)) = some kb ∧
      packageDigest old = paramDigestA (s.cerSlot c.slot).params ∧ r.domain = paramDomain (s.cerSlot c.slot).params ∧
      s.membersOk (paramMembers (s.cerSlot c.slot).params) (memberKeys kb (paramQuorum (s.cerSlot c.slot).params % 16)) = true) ∧
    (∃ (s : State) (c : CustCmd) (b pkg y : Bytes), s.cust.cmd = some c ∧ s.custCheck c = none ∧ c.slot < 4 ∧ s.flourishUp = true ∧
      s.drbgReady 0 = true ∧ c.op = 34 ∧ s.cust.slots.length = 4 ∧ (s.cerState c.slot = 1 ∨ s.cerState c.slot = 2) ∧ s.cerAction c.slot = 6 ∧
      s.cerPast c.slot = false ∧ (s.custRanges [(c.at_ 0, 1640, AccKind.read), (c.at_ 1, 192, AccKind.read)]).2 = true ∧
      s.keyRead (c.at_ 0) 1640 = some b ∧ s.keyRead (c.at_ 1) 192 = some pkg ∧ leAt b 0 4 = 1146243155 ∧ leAt b 6 2 = 0 ∧ leAt b 1636 4 = 0 ∧
      leAt b 4 1 < 32 ∧ BitVec.getLsbD (s.cerCounted c.slot) (leAt b 4 1) = true ∧ 0 < leAt b 5 1 ∧ leAt b 5 1 ≤ 8 ∧
      leAt pkg (31 + leAt b 5 1) 1 = leAt b 4 1 ∧ ((s.cerSlot c.slot).shares.any fun x => x.1 == leAt b 5 1) = false ∧
      openShare (s.cerSlot c.slot) b = some y) ∧
    (∃ (s : State) (c : CustCmd) (pkg dwk : Bytes), s.cust.cmd = some c ∧ s.custCheck c = none ∧ c.slot < 4 ∧ s.flourishUp = true ∧
      s.drbgReady 0 = true ∧ c.op = 35 ∧ (s.custRanges [(c.at_ 0, 192, AccKind.read), (c.at_ 1, 192, AccKind.write)]).2 = true ∧
      s.keyRead (c.at_ 0) 192 = some pkg ∧ packageDigest pkg = paramDigestA (s.cerSlot c.slot).params ∧ s.domAt (leAt pkg 8 2) = none ∧
      leAt pkg 6 1 / 16 ≤ (s.cerSlot c.slot).shares.length ∧
      unwrapRecord (shamirJoin (List.take (leAt pkg 6 1 / 16) (s.cerSlot c.slot).shares)) pkg 128 32 = some dwk) ∧
    (∃ (s : State) (c : CustCmd) (r : DomRec) (ek : Bytes), s.cust.cmd = some c ∧ s.custCheck c = none ∧ c.slot < 4 ∧ s.flourishUp = true ∧
      s.drbgReady 0 = true ∧ c.op = 36 ∧
      (s.custRanges [(c.at_ 0, 192, AccKind.read), (c.at_ 1, 1568, AccKind.read), (c.at_ 2, 1712, AccKind.write)]).2 = true ∧
      s.domRecAt (c.at_ 0) = some r ∧ s.keyRead (c.at_ 1) 1568 = some ek ∧ r.domain = paramDomain (s.cerSlot c.slot).params ∧
      sha384 ek = paramDigestA (s.cerSlot c.slot).params) ∧
    (∃ (s : State) (c : CustCmd) (b dwk : Bytes), s.cust.cmd = some c ∧ s.custCheck c = none ∧ c.slot < 4 ∧ s.flourishUp = true ∧
      s.drbgReady 0 = true ∧ c.op = 37 ∧ (s.custRanges [(c.at_ 0, 1712, AccKind.read), (c.at_ 1, 192, AccKind.write)]).2 = true ∧
      s.keyRead (c.at_ 0) 1712 = some b ∧ leAt b 0 4 = 1447317064 ∧ leAt b 4 2 = 1 ∧ leAt b 7 1 = 0 ∧ slice b 10 6 = zeros 6 ∧ leAt b 1708 4 = 0 ∧
      leAt b 24 8 = s.otp.serial ∧ leAt b 16 8 = paramSerial (s.cerSlot c.slot).params ∧ leAt b 8 2 = paramDomain (s.cerSlot c.slot).params ∧
      leAt b 6 1 = paramQuorum (s.cerSlot c.slot).params ∧ slice b 32 48 = sha384 (s.cerSlot c.slot).ek ∧ s.domAt (leAt b 8 2) = none ∧
      aeadOpen 2 (handoverKey (kemDecaps (s.cerSlot c.slot).seeds (slice b 80 1568)) (leAt b 8 2) (leAt b 16 8) (leAt b 24 8)) (slice b 1680 12) (slice b 0 80) (slice b 1648 32) (slice b 1692 16) = some dwk) := by
  and_intros
  · exact ⟨wsu1, custCommand 0x20 0, recOf5, zeros 192, zeros 4160,
      and7 (by decide +kernel) ⟨domRec_read (wsuc 0x20 2 2 wsl1 []) wm1 0 _ (by decide +kernel) rfl (by decide +kernel) (by decide +kernel) (by simp),
      sram_read (wsuc 0x20 2 2 wsl1 []) wm1 1 _ _ _ rfl (zeros_length _) (by decide +kernel) (by decide +kernel) (by decide +kernel),
      sram_read (wsuc 0x20 2 2 wsl1 []) wm1 2 0x10008000 4160 _ rfl (zeros_length _) (by decide +kernel) (by decide +kernel) (by decide +kernel),
      wsu1_digest, by decide +kernel, wsu1_members⟩⟩
  · exact ⟨wsu2b.sramOf wm2, custCommand 0x22 0, wshr, wpk2, zeros 32,
      and11 (by decide +kernel) ⟨sram_read wsu2b wm2 0 0x10000000 1640 _ rfl wshr_len (by decide +kernel) (by decide +kernel) (by simp),
      sram_read wsu2b wm2 1 0x10002000 192 _ rfl (by decide +kernel) (by decide +kernel) (by decide +kernel) (by intro e he; simp [wm2] at he; subst he; simp [wshr_len]),
      (by rw [wshr_low _ _ (by decide)]; decide +kernel), (by rw [wshr_low _ _ (by decide)]; decide +kernel), wshr_pad,
      (by rw [wshr_low _ _ (by decide)]; decide +kernel), by rw [wshr_low _ _ (by decide)]; decide +kernel, by rw [wshr_low _ _ (by decide)]; decide +kernel,
        by rw [wshr_low _ _ (by decide)]; decide +kernel, by rw [wshr_low _ _ (by decide), wshr_low _ _ (by decide)]; decide +kernel,
      by rw [wshr_low _ _ (by decide)]; decide +kernel, wshr_opens⟩⟩
  · exact ⟨wsu3, custCommand 0x23 0, wpkr, zeros 32,
      and7 (by decide +kernel) ⟨sram_read (wsuc 0x23 6 2 wsl3 []) [(0x10000000, wpkr)] 0 0x10000000 192 _ rfl (by decide +kernel) (by decide +kernel) (by decide +kernel) (by simp),
      wsu3_digest, by decide +kernel, by decide +kernel, wpkr_opens⟩⟩
  · exact ⟨wsu4, custCommand 0x24 0, recOf5, zeros 1568,
      and7 (by decide +kernel) ⟨domRec_read (wsuc 0x24 4 2 wsl4 []) wm4 0 _ (by decide +kernel) rfl (by decide +kernel) (by decide +kernel) (by simp),
      sram_read (wsuc 0x24 4 2 wsl4 []) wm4 1 0x10002000 1568 _ rfl (zeros_length _) (by decide +kernel) (by decide +kernel) (by decide +kernel), by decide +kernel,
        wsu4_digest⟩⟩
  · have h80 : slice wimr 80 1568 = slice wimp2 80 1568 := slice_left _ _ _ _ (by simp [wimp2_len])
    have hh : slice wimr 0 80 = wimh := by
      have e : wimr = wimh ++ (zeros 1568 ++ (wimx.1 ++ zeros 12 ++ wimx.2 ++ zeros 4)) := by simp [wimr, wimp2, List.append_assoc]
      rw [e, slice_left _ _ _ _ (by simp [wimh])]
      have := slice_all wimh
      rwa [show wimh.length = 80 by simp [wimh]] at this
    have e : wimr = wimp2 ++ (wimx.1 ++ (zeros 12 ++ (wimx.2 ++ zeros 4))) := by simp [wimr, List.append_assoc]
    have l1 : wimx.1.length = 32 := by simp [wimx, aeadSeal]
    have l2 : wimx.2.length = 16 := by simp [wimx, aeadSeal]
    have h1 : slice wimr 1680 12 = zeros 12 := by rw [e, ← List.append_assoc]; exact slice_mid _ _ _ _ _ (by simp [wimp2_len, l1]) (by simp)
    have h2 : slice wimr 1648 32 = wimx.1 := by rw [e]; exact slice_mid _ _ _ _ _ wimp2_len.symm l1.symm
    have h3 : slice wimr 1692 16 = wimx.2 := by rw [e, ← List.append_assoc, ← List.append_assoc]; exact slice_mid _ _ _ _ _ (by simp [wimp2_len, l1]) l2.symm
    have h32 : slice wimr 32 48 = sha384 wsl5.ek := by
      have e : wimr = ([0x48, 0x4E, 0x44, 0x56, 1, 0, 0x11, 0, 5] ++ zeros 23 : Bytes) ++ (sha384 wsl5.ek ++ (zeros 1568 ++ (wimx.1 ++ zeros 12 ++ wimx.2 ++ zeros 4))) := by
        simp [wimr, wimp2, wimh, List.append_assoc]
      rw [e]; exact slice_mid _ _ _ _ _ (by simp) (by simp)
    have h4 : leAt wimr 8 2 = 5 := by rw [wimr_low _ _ (by decide)]; decide +kernel
    have h5 : leAt wimr 16 8 = 0 := by rw [wimr_low _ _ (by decide)]; decide +kernel
    have h6 : leAt wimr 24 8 = 0 := by rw [wimr_low _ _ (by decide)]; decide +kernel
    have h10 : slice wimr 10 6 = zeros 6 := by rw [wimr, slice_left _ _ _ _ (by rw [wimp2_len]; decide)]; decide +kernel
    exact ⟨wsu5, custCommand 0x25 0, wimr, zeros 32,
      and7 (by decide +kernel) ⟨sram_read (wsuc 0x25 5 2 wsl5 []) [(0x10000000, wimr)] 0 0x10000000 1712 _ rfl wimr_len (by decide +kernel) (by decide +kernel) (by simp),
      by rw [wimr_low _ _ (by decide)]; decide +kernel, by rw [wimr_low _ _ (by decide)]; decide +kernel, by rw [wimr_low _ _ (by decide)]; decide +kernel, h10, wimr_pad,
      by rw [h6]; decide +kernel, by rw [h5]; decide +kernel, by rw [h4]; decide +kernel, by rw [wimr_low _ _ (by decide)]; decide +kernel, h32,
        by rw [h4]; decide +kernel, by
        rw [h80, h1, h2, h3, h4, h5, h6, hh]; exact open_of _ _ _ _ _ _ rfl rfl⟩⟩

theorem witness_TapAndTransitions :
    (∃ (s : State) (x v : Nat), s.tapOffers 2 = true) ∧
    (∃ (s : State) (c : Instr) (n : Nat), ((∃ v, c = Instr.extest v ∧ n = 0) ∨ c = Instr.clamp ∧ n = 3 ∨ c = Instr.highz ∧ n = 4) ∧
      s.tapOffers n = true) ∧
    (∃ (s : State) (c : Instr) (n : Nat), ((∃ v, c = Instr.extest v ∧ n = 0) ∨ c = Instr.clamp ∧ n = 3 ∨ c = Instr.highz ∧ n = 4) ∧
      s.tapOffers n = false) ∧
    (∃ (s : State) (x : BootIn), s.lcy.hold = false) ∧
    (∃ (s : State) (x : BootIn), s.lcy.hold = true) ∧
    (∃ (s : State), s.tapOffers 14 = true) ∧
    (∃ (s : State) (code : Nat) (x : LcyTrans), s.tapOffers 8 = true ∧ s.lcyBusy = false ∧
      List.find? (fun t => t.auth == LcyAuth.none && t.dest == code) s.lcyOpen = some x) ∧
    (∃ (s : State) (code : Nat), s.tapOffers 8 = true ∧ s.lcyBusy = false ∧
      List.find? (fun t => t.auth == LcyAuth.none && t.dest == code) s.lcyOpen = none) ∧
    (∃ (s : State) (token slot : Nat) (x : LcyTrans), s.tapOffers 9 = true ∧ s.lcyBusy = false ∧ s.bit Reg.LCY_STATE 9 = false ∧
      s.lcyOpen.head? = some x ∧ x.auth = LcyAuth.token slot ∧ sha384 (leBytes 1 slot ++ leBytes 16 token) = s.otp.tokens.getD (slot - 1) []) ∧
    (∃ (s : State) (token slot : Nat) (x : LcyTrans), s.tapOffers 9 = true ∧ s.lcyBusy = false ∧ s.bit Reg.LCY_STATE 9 = false ∧
      s.lcyOpen.head? = some x ∧ x.auth = LcyAuth.token slot ∧ sha384 (leBytes 1 slot ++ leBytes 16 token) ≠ s.otp.tokens.getD (slot - 1) []) ∧
    (∃ (s : State) (r : OtpRow), s.tapOffers 13 = true) ∧
    (∃ (s : State) (r : OtpRow) (b : Bytes), s.tapOffers 13 = true) ∧
    (∃ (s : State) (r : OtpRow), s.tapOffers 13 = false ∧ s.right 5 = true ∧ isTokenRow r = false) := by
  and_intros
  · exact ⟨liveState, 3, 4, by decide +kernel⟩
  · exact ⟨withRegs liveState [(Reg.LCY_STATE, 3)], .clamp, 3, by simp, by decide +kernel⟩
  · exact ⟨withRegs liveState [(Reg.LCY_STATE, 6)], .highz, 4, by simp, by decide +kernel⟩
  · exact ⟨liveState, ⟨5, true, none, 256, false, 1800, true⟩, by decide +kernel⟩
  · exact ⟨{ liveState with lcy := { liveState.lcy with hold := true } }, ⟨5, true, none, 256, false, 1800, true⟩, by decide +kernel⟩
  · exact ⟨withRegs liveState [(Reg.LCY_STATE, 1)], by decide +kernel⟩
  · exact ⟨withRegs liveState [(Reg.LCY_STATE, 0)], 6,
      ((withRegs liveState [(Reg.LCY_STATE, 0)]).lcyOpen.find? (fun t => t.auth == .none && t.dest == 6)).get (by decide +kernel), by decide +kernel⟩
  · exact ⟨liveState, 5, by decide +kernel⟩
  · exact ⟨(let s := withRegs liveState [(Reg.LCY_STATE, 0)]; { s with otp := { s.otp with tokens := [sha384 (leBytes 1 1 ++ leBytes 16 77)] } }), 77, 1, _,
      and3 (by decide +kernel) ⟨by rfl, by rfl, by rfl⟩⟩
  · exact ⟨withRegs liveState [(Reg.LCY_STATE, 0)], 77, 1, ((withRegs liveState [(Reg.LCY_STATE, 0)]).lcyOpen.head?).get (by decide +kernel), by decide +kernel⟩
  · exact ⟨withRegs liveState [(Reg.LCY_STATE, 1)], .custodian 31 0, by decide +kernel⟩
  · exact ⟨withRegs liveState [(Reg.LCY_STATE, 1)], .lcyWord, [0xff, 1], by decide +kernel⟩
  · exact ⟨withRegs liveState [(Reg.LCY_STATE, 0x404), (Reg.LCY_RIGHTS, 0x20)], .custodian 31 0, by decide +kernel⟩

theorem witness_TickAddsIncrement :
    ∃ (s : State), s.pwr.mainUp = true ∧ s.duct.replace = [] ∧
      0 ≤ ↑s.ns * 2 ^ 32 + ↑(BitVec.toNat s.stime.frac) + ↑(if s.bit Reg.TIME_STAT 3 = true then 8 else 1) * s.stimeInc ∧
      ↑s.ns * 2 ^ 32 + ↑(BitVec.toNat s.stime.frac) + ↑(if s.bit Reg.TIME_STAT 3 = true then 8 else 1) * s.stimeInc < 2 ^ 96 := by
  exact ⟨liveState, by decide +kernel⟩

theorem witness_TimeReadsAndLumro :
    (∃ (s : State) (b : Bool), (b = true ∨ s.pllOff = false)) ∧
    (∃ (s : State), s.pllOff = true) ∧
    (∃ (s : State), s.lumro.ppsOut = true ∧ s.lumro.ppsEnd ≤ s.stime.cycle) ∧
    (∃ (s : State) (e c : Nat) (r : List (Nat × Nat)), s.lumro.txEdges = (e, c) :: r ∧ c + 399200000 ≤ s.stime.cycle ∧
      s.bit Reg.TIME_LUMRO_CTL 0 = true) ∧
    (∃ (s : State) (f : Bytes), s.bit Reg.TIME_LUMRO_CTL 1 = true ∧ List.length f = 24 ∧ beAt f 0 2 = 19533 ∧ beAt f 2 1 = 1 ∧
      beAt f 20 4 = crc32c (slice f 0 20)) ∧
    (∃ (s : State) (f : Bytes), s.bit Reg.TIME_LUMRO_CTL 1 = true ∧ List.length f = 24 ∧ beAt f 20 4 ≠ crc32c (slice f 0 20)) ∧
    (∃ (s : State), s.bit Reg.TIME_LUMRO_CTL 1 = true) := by
  and_intros
  · exact ⟨{ upState with lumro := { upState.lumro with ppsOut := true } }, by decide +kernel⟩
  · exact ⟨withRegs upState [(Reg.PWR_STAT, 3)], by decide +kernel⟩
  · exact ⟨{ upState with lumro := { upState.lumro with ppsOut := true } }, by decide +kernel⟩
  · exact ⟨withRegs { upState with lumro := { upState.lumro with txEdges := [(5000000000, 0)] }, stime := { upState.stime with cycle := 400000000 } } [(Reg.TIME_LUMRO_CTL, 1)], 5000000000, 0, [], by decide +kernel⟩
  · exact ⟨withRegs upState [(Reg.TIME_LUMRO_CTL, 2)], (let b : Bytes := [0x4c,0x4d,1] ++ zeros 16 ++ [7]; b ++ beBytes 4 (crc32c b)), by decide +kernel⟩
  · exact ⟨withRegs upState [(Reg.TIME_LUMRO_CTL, 2)], ([0x4c,0x4d,1] ++ zeros 21), by decide +kernel⟩
  · exact ⟨withRegs upState [(Reg.TIME_LUMRO_CTL, 2)], by decide +kernel⟩

theorem witness_TimeWrites :
    (∃ (s : State) (v : DWord), s.stime.draftUndo = none ∧ 0 ≤ ↑s.ns + BitVec.toInt v ∧ ↑s.ns + BitVec.toInt v < 2 ^ 64) ∧
    (∃ (s : State) (v ns : DWord) (last : Option Nat), s.stime.draftUndo = some (s.stime.cycle, ns, last) ∧ 0 ≤ ↑(BitVec.toNat ns) + BitVec.toInt v ∧
      ↑(BitVec.toNat ns) + BitVec.toInt v < 2 ^ 64) ∧
    (∃ (s : State) (v : Word), -2684354 ≤ BitVec.toInt v ∧ BitVec.toInt v ≤ 2684354) ∧
    (∃ (s : State) (v : Word), (BitVec.toInt v < -2684354 ∨ 2684354 < BitVec.toInt v)) ∧
    (∃ (s : State) (v : Word), s.draftStepOk v = true ∧ 0 ≤ ↑s.ns + BitVec.toInt v ∧ ↑s.ns + BitVec.toInt v < 2 ^ 64) ∧
    (∃ (s : State) (v : Word), s.draftStepOk v = false) := by
  and_intros
  · exact ⟨upState, 1000, by decide +kernel⟩
  · exact ⟨{ upState with stime := { upState.stime with draftUndo := some (0, 5, none) } }, 1000, 5, none, by decide +kernel⟩
  · exact ⟨upState, 2684354, by decide +kernel⟩
  · exact ⟨upState, 2684355, by decide +kernel⟩
  · exact ⟨upState, 1000, by decide +kernel⟩
  · exact ⟨upState, 1001, by decide +kernel⟩

theorem witness_TimerAndDebug :
    (∃ (s : State) (h : Nat), h ≤ 8 ∧ (if h = 0 then s.boot.released else s.coreReleased (h - 1) && !s.switching (h - 1)) = true ∧
      BitVec.toNat (s.rd64 (s.hartCmp h)) ≤ s.ns) ∧
    (∃ (s : State) (h : Nat), s.mayDebug h = true ∧ (1 ≤ h → s.switching (h - 1) = false)) ∧
    (∃ (s : State) (h : Nat), 1 ≤ h ∧ h ≤ 8 ∧ (s.switching (h - 1) = true ∧ (s.debugDraft || s.debugScribe) = true ∨ s.inScribe (h - 1) = true ∧
      s.debugDraft = true ∧ s.debugScribe = false)) ∧
    (∃ (s : State) (h r : Nat) (v : DWord), (s.debugDraft || s.debugScribe) = true ∧ s.mayDebug h = true ∧ s.wrld.halted.contains h = true ∧
      s.cmdBlocked = false ∧ r < 4160 ∧ r ≠ 4096 ∧ r ≠ 3073 ∧ r ≠ 3860 ∧ r ≠ 1953 ∧ r ≠ 1956 ∧ (r = 1952 → BitVec.toNat v < 4)) ∧
    (∃ (s : State) (h r : Nat), (s.debugDraft || s.debugScribe) = true ∧ s.mayDebug h = true ∧ s.wrld.halted.contains h = true ∧
      s.cmdBlocked = false ∧ r < 4160) ∧
    (∃ (s : State) (h r : Nat) (w : Option DWord), (s.debugDraft || s.debugScribe) = true ∧ s.cmdBlocked = false ∧
      (s.mayDebug h = false ∨ s.wrld.halted.contains h = false)) ∧
    (∃ (s : State), s.tapOffers 16 = true) ∧
    (∃ (s : State) (a : Nat), s.tapOffers 17 = true ∧ a < 128) ∧
    (∃ (s : State) (v : Word), s.tapOffers 17 = true) := by
  and_intros
  · exact ⟨withRegs { liveState with stime := { liveState.stime with ns := 100 } } [(timeCmp 0, 50), (timeCmp 0 + 4, 0)], 0, by decide +kernel⟩
  · exact ⟨withRegs liveState [(Reg.LCY_STATE, 3)], 0, by decide +kernel⟩
  · exact ⟨{ withRegs liveState [(Reg.LCY_STATE, 3)] with wrld := { liveState.wrld with switches := [⟨1, true⟩] } }, 2, by decide +kernel⟩
  · exact ⟨withRegs { liveState with wrld := { liveState.wrld with halted := [0] } } [(Reg.LCY_STATE, 3)], 0, 0x1005, 77, by decide +kernel⟩
  · exact ⟨withRegs { liveState with wrld := { liveState.wrld with halted := [0] } } [(Reg.LCY_STATE, 3)], 0, 0x1005, by decide +kernel⟩
  · exact ⟨withRegs { liveState with wrld := { liveState.wrld with halted := [0] } } [(Reg.LCY_STATE, 3)], 1, 0x305, some 77, by decide +kernel⟩
  · exact ⟨withRegs liveState [(Reg.LCY_STATE, 3)], by decide +kernel⟩
  · exact ⟨withRegs liveState [(Reg.LCY_STATE, 3)], 17, by decide +kernel⟩
  · exact ⟨withRegs liveState [(Reg.LCY_STATE, 3)], 17, by decide +kernel⟩

end Sys2Proof.Machine
end

section
/-! PROOFS. Chapter 02: the writes of the time. -/

namespace Sys2Proof.Machine

/-! ## What a command of the chapter leaves alone -/

/-- From `s` to `t` nothing changes but the queue of strokes, the registers that `w` names and what the delivery of events
changes. -/
def QueueOnly (w : Nat → Bool) (s t : State) : Prop := EventOnly w { s with strokes := t.strokes } t

/-- What relates a state to the one after each command of a list relates it to the one after them all. -/
theorem foldl_related {α : Type} {R : State → State → Prop} (hrefl : ∀ s, R s s)
    (htrans : ∀ {s t u : State}, R s t → R t u → R s u) {f : State → α → State} (hf : ∀ s x, R s (f s x)) (l : List α)
    (s : State) : R s (l.foldl f s) := by
  induction l generalizing s with
  | nil => exact hrefl s
  | cons x l ih => exact htrans (hf s x) (ih (f s x))

theorem EventOnly.stime {w : Nat → Bool} {s t : State} (h : EventOnly w s t) : t.stime = s.stime := (congrArg State.stime h.1 :)

theorem EventOnly.strokes {w : Nat → Bool} {s t : State} (h : EventOnly w s t) : t.strokes = s.strokes :=
  (congrArg State.strokes h.1 :)

theorem EventOnly.mem {w : Nat → Bool} {s t : State} (h : EventOnly w s t) : t.mem = s.mem := (congrArg State.mem h.1 :)

theorem EventOnly.foldl {α : Type} {w : Nat → Bool} {f : State → α → State} (hf : ∀ s x, EventOnly w s (f s x)) (l : List α)
    (s : State) : EventOnly w s (l.foldl f s) := foldl_related (R := EventOnly w) (EventOnly.refl w) EventOnly.trans hf l s

theorem EventOnly.queueOnly {w : Nat → Bool} {s t : State} (h : EventOnly w s t) : QueueOnly w s t := by
  unfold QueueOnly
  rw [h.strokes]
  exact h

theorem QueueOnly.refl (w : Nat → Bool) (s : State) : QueueOnly w s s := EventOnly.refl w s

theorem QueueOnly.trans {w : Nat → Bool} {s t u : State} (h : QueueOnly w s t) (k : QueueOnly w t u) : QueueOnly w s u := by
  refine ⟨?_, fun a ha he => (k.2 a ha he).trans (h.2 a ha he)⟩
  have h1 := h.1
  rw [k.1]
  rw [h1]

theorem QueueOnly.foldl {α : Type} {w : Nat → Bool} {f : State → α → State} (hf : ∀ s x, QueueOnly w s (f s x)) (l : List α)
    (s : State) : QueueOnly w s (l.foldl f s) := foldl_related (R := QueueOnly w) (QueueOnly.refl w) QueueOnly.trans hf l s

theorem QueueOnly.stime {w : Nat → Bool} {s t : State} (h : QueueOnly w s t) : t.stime = s.stime :=
  (congrArg State.stime h.1 :)

/-- Neither the queue of strokes nor the delivery of events touches memory, OTP, rings or operations. -/
theorem QueueOnly.stores {w : Nat → Bool} {s t : State} (h : QueueOnly w s t) :
    t.mem = s.mem ∧ t.otp = s.otp ∧ t.rings = s.rings ∧ t.ops = s.ops :=
  ⟨(congrArg State.mem h.1 :), (congrArg State.otp h.1 :), (congrArg State.rings h.1 :), (congrArg State.ops h.1 :)⟩

/-- What the queue changes, after STIME and registers alone have changed. -/
theorem QueueOnly.after_stime {w w' : Nat → Bool} {s x t : State} (h : QueueOnly w { x with stime := t.stime } t)
    (hx : x = { s with stime := x.stime, regs := x.regs }) :
    EventOnly w' { s with stime := t.stime, strokes := t.strokes, regs := t.regs } t := by
  have h1 := h.1
  refine ⟨?_, fun _ _ _ => rfl⟩
  rw [hx] at h1
  exact h1

/-! ## Strokes that fall due, are late, or are passed by a step -/

/-- A register of the stroke table, or STRK_ERR. -/
def strokeReg (a : Nat) : Bool := decide (Reg.STRK_W0 0 ≤ a ∧ a ≤ Reg.STRK_ERR)

theorem strokeReg_w0 (n : Nat) : strokeReg (Reg.STRK_W0 n) = true := by
  simp only [strokeReg, decide_eq_true_eq, Reg.STRK_W0, Reg.STRK_ERR]
  omega

theorem strokeReg_status (n : Nat) : strokeReg (Reg.STRK_STATUS n) = true := by
  simp only [strokeReg, decide_eq_true_eq, Reg.STRK_W0, Reg.STRK_STATUS, Reg.STRK_ERR]
  omega

theorem raise_queueOnly (w : Nat → Bool) (s : State) (n : Nat) : QueueOnly w s (s.raise n) :=
  (raise_eventOnly w s n).queueOnly

theorem setb_queueOnly {w : Nat → Bool} (s : State) {a : Nat} (i : Nat) (b : Bool) (h : w a = true) :
    QueueOnly w s (s.setb a i b) := (RegsOnly.setb s i b h).eventOnly.queueOnly

theorem enqueueStroke_queueOnly (w : Nat → Bool) (s : State) (n : Nat) (late stepped : Bool) :
    QueueOnly w s (s.enqueueStroke n late stepped) := ⟨rfl, fun _ _ _ => rfl⟩

theorem discardStroke_queueOnly (s : State) (n : Nat) : QueueOnly strokeReg s (s.discardStroke n) :=
  (((setb_queueOnly s 31 false (strokeReg_w0 n)).trans (setb_queueOnly _ 30 true (strokeReg_status n))).trans
    (setb_queueOnly _ 29 false (strokeReg_status n))).trans
    ((setb_queueOnly _ 28 true (strokeReg_status n)).trans (raise_queueOnly _ _ 440))

theorem lateStroke_queueOnly (s : State) (n : Nat) : QueueOnly strokeReg s (s.lateStroke n) := by
  unfold State.lateStroke
  split
  · exact discardStroke_queueOnly s n
  · exact enqueueStroke_queueOnly _ s n _ _

theorem strokeRefuse_queueOnly (s : State) (n reason : Nat) : QueueOnly strokeReg s (s.strokeRefuse n reason) :=
  ((setb_queueOnly s 27 true (strokeReg_status n)).trans
    (RegsOnly.wr _ _ (show strokeReg Reg.STRK_ERR = true by decide)).eventOnly.queueOnly).trans (raise_queueOnly _ _ 442)

theorem enqueueStrokes_regs (l : List Nat) (late stepped : Bool) (s : State) :
    (l.foldl (fun s n => s.enqueueStroke n late stepped) s).regs = s.regs := by
  induction l generalizing s with
  | nil => rfl
  | cons n l ih => exact ih (s.enqueueStroke n late stepped)

/-- The strokes that a step passes clear no status bit. -/
theorem strokesStepped_status (s : State) (old m : Nat) (h : s.evtStatus m = true) :
    (s.strokesStepped old).evtStatus m = true := by
  unfold State.strokesStepped
  simp only
  generalize List.filter _ s.armed = l
  have hfold : (l.foldl (fun s n => s.enqueueStroke n false true) s).evtStatus m = true := by
    unfold State.evtStatus State.bit State.rd at h ⊢
    rw [enqueueStrokes_regs]
    exact h
  split
  · exact hfold
  · exact raise_status _ 441 m (Or.inr hfold)

/-- A step of STIME writes no register and passes strokes to the queue (R69). -/
theorem strokesStepped_queueOnly (w : Nat → Bool) (s : State) (old : Nat) : QueueOnly w s (s.strokesStepped old) := by
  have hq := fun l : List Nat =>
    QueueOnly.foldl (w := w) (f := fun s n => s.enqueueStroke n false true) (fun s n => enqueueStroke_queueOnly w s n _ _) l s
  unfold State.strokesStepped
  simp only
  split
  · exact hq _
  · exact (hq _).trans (raise_queueOnly w _ 441)

theorem strokesAtValid_queueOnly (s : State) : QueueOnly strokeReg s s.strokesAtValid := by
  refine QueueOnly.foldl (fun s n => ?_) _ s
  split
  · exact QueueOnly.refl _ s
  · split
    · exact lateStroke_queueOnly s n
    · split
      · exact enqueueStroke_queueOnly _ s n _ _
      · exact QueueOnly.refl _ s

/-- Arming the deferred entries empties their list and writes the stroke table (R96). -/
theorem armDeferred_queueOnly (s : State) :
    QueueOnly strokeReg { s with duct := { s.duct with deferred := [] } } s.armDeferred := by
  refine QueueOnly.foldl (fun s n => ?_) _ _
  split
  · exact strokeRefuse_queueOnly s n _
  · exact (setb_queueOnly s 31 true (strokeReg_w0 n)).trans
      (RegsOnly.setf _ 31 28 0 (strokeReg_status n)).eventOnly.queueOnly

theorem coloFirstStime_frame (s : State) : s.coloFirstStime = { s with colo := s.coloFirstStime.colo } := by
  unfold State.coloFirstStime
  split <;> rfl

/-! ## Guards and Draft steps taken back (R42, R44) -/

theorem eventReg_timeStat : eventReg Reg.TIME_STAT = false := by decide

/-- A raise leaves every bit of TIME_STAT. -/
theorem raise_timeStat (s : State) (n i : Nat) : (s.raise n).bit Reg.TIME_STAT i = s.bit Reg.TIME_STAT i := by
  simp only [State.bit, raise_rd s eventReg_timeStat]

theorem guardRefuse_bit (s : State) (flag : Nat) (h : flag < 32) : (s.guardRefuse flag).bit Reg.TIME_STAT flag = true := by
  unfold State.guardRefuse
  rw [raise_timeStat, State.bit_setb_same _ _ _ _ h]

theorem guardRefuse_status (s : State) (flag : Nat) : (s.guardRefuse flag).evtStatus 445 = true := raise_status_same _ _

/-- A refused write of the Draft world sets its guard and raises source 445, and STIME stays (R42). -/
theorem guardRefuse_eventOnly (s : State) (flag : Nat) : EventOnly (among [Reg.TIME_STAT]) s (s.guardRefuse flag) :=
  (RegsOnly.setb s flag true (by decide)).eventOnly.trans (raise_eventOnly _ _ 445)

theorem takeBackDraft_none (s : State) (h : s.stime.draftUndo = none) : s.takeBackDraft = s := by
  unfold State.takeBackDraft
  rw [h]

theorem takeBackDraft_queueOnly (s : State) :
    QueueOnly (among [Reg.TIME_STAT]) { s with stime := s.takeBackDraft.stime } s.takeBackDraft := by
  unfold State.takeBackDraft
  split
  · split
    · have h := fun u : State => guardRefuse_eventOnly u 2
      unfold QueueOnly
      rw [(h _).stime, (h _).strokes]
      exact h _
    · exact QueueOnly.refl _ s
  · exact QueueOnly.refl _ s

/-- A Draft step of this cycle gives way: STIME and the time of the step before it return, and the step is refused (R44). -/
theorem takeBackDraft_some (s : State) (ns : DWord) (last : Option Nat) (h : s.stime.draftUndo = some (s.stime.cycle, ns, last)) :
    s.takeBackDraft.stime = { s.stime with ns := ns, lastDraftStep := last, draftUndo := none } ∧
      s.takeBackDraft.bit Reg.TIME_STAT 2 = true ∧ s.takeBackDraft.evtStatus 445 = true := by
  unfold State.takeBackDraft
  rw [h]
  simp only [if_true]
  exact ⟨(guardRefuse_eventOnly _ 2).stime, guardRefuse_bit _ 2 (by decide), guardRefuse_status _ 2⟩

/-! ## Loads and steps of STIME (R43) -/

theorem setNs_of_range (s : State) {v : Int} (h0 : 0 ≤ v) (h1 : v < 2 ^ 64) :
    s.setNs v = { s with stime := { s.stime with ns := BitVec.ofInt 64 v } } := by
  unfold State.setNs
  rw [if_pos ⟨h0, h1⟩]

theorem setNs_regs (s : State) (v : Int) : (s.setNs v).regs = s.regs := by
  unfold State.setNs
  split <;> rfl

/-- A step of STIME clears no status bit. -/
theorem stepTime_status (s : State) (d : Int) (m : Nat) (h : s.evtStatus m = true) : (s.stepTime d).evtStatus m = true := by
  refine strokesStepped_status _ _ _ ?_
  unfold State.evtStatus State.bit State.rd at h ⊢
  rw [setNs_regs]
  exact h

theorem toNat_ofInt_of_range {v : Int} (h0 : 0 ≤ v) (h1 : v < 2 ^ 64) : ((BitVec.ofInt 64 v).toNat : Int) = v := by
  rw [BitVec.toNat_ofInt]
  omega

/-- A step within the scale replaces NS by the sum and leaves the rest of STIME. -/
theorem stepTime_stime (s : State) (d : Int) (h0 : 0 ≤ (s.ns : Int) + d) (h1 : (s.ns : Int) + d < 2 ^ 64) :
    (s.stepTime d).stime = { s.stime with ns := BitVec.ofInt 64 (s.ns + d) } := by
  simp only [State.stepTime, setNs_of_range s h0 h1]
  exact (strokesStepped_queueOnly (fun _ => false) _ _).stime

/-- A step within the scale changes STIME and queues the strokes that it passes. -/
theorem stepTime_queueOnly (w : Nat → Bool) (s : State) (d : Int) (h0 : 0 ≤ (s.ns : Int) + d) (h1 : (s.ns : Int) + d < 2 ^ 64) :
    QueueOnly w { s with stime := (s.stepTime d).stime } (s.stepTime d) := by
  rw [stepTime_stime s d h0 h1]
  simp only [State.stepTime, setNs_of_range s h0 h1]
  exact strokesStepped_queueOnly w _ _

theorem stepTime_ns (s : State) (d : Int) (h0 : 0 ≤ (s.ns : Int) + d) (h1 : (s.ns : Int) + d < 2 ^ 64) :
    ((s.stepTime d).ns : Int) = s.ns + d := by
  unfold State.ns
  rw [stepTime_stime s d h0 h1]
  exact toNat_ofInt_of_range h0 h1

theorem markScribeChange_none (s : State) (h : s.stime.draftUndo = none) :
    s.markScribeChange = { s with stime := { s.stime with scribeChangeAt := some s.stime.cycle } } := by
  simp only [State.markScribeChange, takeBackDraft_none s h]

theorem markScribeChange_queueOnly (s : State) :
    QueueOnly (among [Reg.TIME_STAT]) { s with stime := s.markScribeChange.stime } s.markScribeChange := by
  have h := takeBackDraft_queueOnly s
  refine ⟨?_, h.2⟩
  have h1 := h.1
  unfold State.markScribeChange
  simp only
  rw [h1]

/-- `t` stands where a load of STIME with `v` has left `s`: NS is `v`, FRAC is clear, VALID is set, and memory, OTP, rings and
operations are those of `s` (R43). -/
def Loaded (s : State) (v : DWord) (t : State) : Prop :=
  t.stime.ns = v ∧ t.stime.frac = 0 ∧ t.timeValid = true ∧
    t.mem = s.mem ∧ t.otp = s.otp ∧ t.rings = s.rings ∧ t.ops = s.ops

/-- What only the stroke table and its queue change leaves a loaded STIME. -/
theorem Loaded.queueOnly {s t u : State} {v : DWord} (h : Loaded s v t) (k : QueueOnly strokeReg t u) : Loaded s v u := by
  obtain ⟨hns, hfrac, hvalid, hstores⟩ := h
  obtain ⟨hmem, hotp, hrings, hops⟩ := k.stores
  have hstat : u.rd Reg.TIME_STAT = t.rd Reg.TIME_STAT := k.2 _ (by decide) eventReg_timeStat
  unfold Loaded State.timeValid State.bit
  rw [k.stime, hstat, hmem, hotp, hrings, hops]
  exact ⟨hns, hfrac, hvalid, hstores⟩

theorem Loaded.coloFirstStime {s t : State} {v : DWord} (h : Loaded s v t) : Loaded s v t.coloFirstStime := by
  rw [coloFirstStime_frame]
  exact h

theorem Loaded.armDeferred {s t : State} {v : DWord} (h : Loaded s v t) : Loaded s v t.armDeferred :=
  Loaded.queueOnly (t := { t with duct := { t.duct with deferred := [] } }) h (armDeferred_queueOnly t)

/-- A Scribe load of STIME: an earlier Draft step of the cycle gives way, and the strokes it passes or makes late follow. -/
theorem setTime_loaded (s : State) (v : DWord) : Loaded s v (s.setTime v) := by
  have hstores := (markScribeChange_queueOnly s).stores
  unfold State.setTime
  simp only
  generalize s.markScribeChange = u at hstores
  split
  · next hvalid =>
    have hload : Loaded s v { u with stime := { u.stime with ns := v, frac := 0 } } := ⟨rfl, rfl, hvalid, hstores⟩
    exact hload.queueOnly (strokesStepped_queueOnly _ _ _)
  · have hload : Loaded s v (State.setb { u with stime := { u.stime with ns := v, frac := 0 } } Reg.TIME_STAT 0 true) :=
      ⟨rfl, rfl, State.bit_setb_same _ _ _ _ (by decide), hstores⟩
    exact hload.coloFirstStime.armDeferred.queueOnly (strokesAtValid_queueOnly _)

/-! ## Writes of TIME_SET, TIME_STEP_S, TIME_STEP_D and TIME_RATE_D -/

/-- A lower half alone is stored, and nothing else changes (R924). -/
theorem timeSet_lower_stores (s : State) (v : Word) : Yields (.timeSet (.lower v)) s fun t =>
    t.rd Reg.TIME_SET = v ∧ RegsOnly (among [Reg.TIME_SET]) s t :=
  ⟨_, rfl, State.rd_wr_same s _ v, RegsOnly.wr s v (by decide)⟩

theorem timeStepS_lower_stores (s : State) (v : Word) : Yields (.timeStepS (.lower v)) s fun t =>
    t.rd Reg.TIME_STEP_S = v ∧ RegsOnly (among [Reg.TIME_STEP_S]) s t :=
  ⟨_, rfl, State.rd_wr_same s _ v, RegsOnly.wr s v (by decide)⟩

/-- A 64-bit register after its upper half is written: the lower half last written stands below it. -/
theorem rd64_wr_upper (s : State) (a : Nat) (v : Word) : ((s.wr (a + 4) v).rd64 a).toNat = v.toNat * 2 ^ 32 + s.rdn a := by
  have ha : a ≠ a + 4 := by omega
  simp only [State.rd64, State.rd_wr_same, State.rd_wr_ne s v ha, State.rdn, BitVec.toNat_append]
  rw [← Nat.shiftLeft_add_eq_or_of_lt (s.rd a).isLt, Nat.shiftLeft_eq]

theorem timeSet_upper_loads (s : State) (v : Word) : Yields (.timeSet (.upper v)) s fun t =>
    t.ns = v.toNat * 2 ^ 32 + s.rdn Reg.TIME_SET ∧ t.stime.frac = 0 ∧ t.timeValid = true ∧
      t.mem = s.mem ∧ t.otp = s.otp ∧ t.rings = s.rings ∧ t.ops = s.ops := by
  obtain ⟨hns, hrest⟩ := setTime_loaded (s.wr (Reg.TIME_SET + 4) v) ((s.wr (Reg.TIME_SET + 4) v).rd64 Reg.TIME_SET)
  refine ⟨_, rfl, ?_, hrest⟩
  rw [State.ns, hns, rd64_wr_upper]

theorem timeSet_both_loads (s : State) (v : DWord) : Yields (.timeSet (.both v)) s fun t => Loaded s v t :=
  ⟨_, rfl, setTime_loaded (s.wr64 Reg.TIME_SET v) v⟩

/-- A Scribe step where no Draft step stands: NS moves by the operand, and the strokes passed are queued (R43). -/
theorem timeStepS_steps (s : State) (v : DWord) (hd : s.stime.draftUndo = none) (h0 : 0 ≤ (s.ns : Int) + v.toInt)
    (h1 : (s.ns : Int) + v.toInt < 2 ^ 64) :
    Yields (.timeStepS (.both v)) s fun t => (t.ns : Int) = s.ns + v.toInt ∧ t.stime.frac = s.stime.frac ∧
      EventOnly (among []) { s with stime := t.stime, strokes := t.strokes, regs := t.regs } t := by
  let u := (s.wr64 Reg.TIME_STEP_S v).markScribeChange
  have hu : u = { s.wr64 Reg.TIME_STEP_S v with stime := { s.stime with scribeChangeAt := some s.stime.cycle } } :=
    markScribeChange_none _ hd
  have hns : u.ns = s.ns := (congrArg State.ns hu :)
  have hfrac : u.stime.frac = s.stime.frac := (congrArg (fun x : State => x.stime.frac) hu :)
  have hframe : u = { s with stime := u.stime, regs := u.regs } := by rw [hu]; rfl
  rw [← hns] at h0 h1 ⊢
  refine ⟨u.stepTime v.toInt, rfl, stepTime_ns u _ h0 h1, ?_, ?_⟩
  · rw [stepTime_stime u _ h0 h1, ← hfrac]
  · exact (stepTime_queueOnly (fun _ => false) u v.toInt h0 h1).after_stime hframe

/-- A Scribe step after a Draft step of the same cycle starts from STIME as it was before that, and the Draft step is refused
(R44). -/
theorem timeStepS_replaces_draft (s : State) (v ns : DWord) (last : Option Nat)
    (hd : s.stime.draftUndo = some (s.stime.cycle, ns, last)) (h0 : 0 ≤ (ns.toNat : Int) + v.toInt)
    (h1 : (ns.toNat : Int) + v.toInt < 2 ^ 64) :
    Yields (.timeStepS (.both v)) s fun t => (t.ns : Int) = ns.toNat + v.toInt ∧ t.stime.lastDraftStep = last ∧
      t.bit Reg.TIME_STAT 2 = true ∧ t.evtStatus 445 = true := by
  let u := (s.wr64 Reg.TIME_STEP_S v).markScribeChange
  obtain ⟨hst, hbit, hevt⟩ := takeBackDraft_some (s.wr64 Reg.TIME_STEP_S v) ns last hd
  have hns : u.ns = ns.toNat := congrArg (fun x => x.ns.toNat) hst
  have hlast : u.stime.lastDraftStep = last := congrArg StimeSt.lastDraftStep hst
  rw [← hns] at h0 h1 ⊢
  refine ⟨u.stepTime v.toInt, rfl, stepTime_ns u _ h0 h1, ?_, ?_, ?_⟩
  · rw [stepTime_stime u _ h0 h1, ← hlast]
  · have hrd : (u.stepTime v.toInt).rd Reg.TIME_STAT = u.rd Reg.TIME_STAT :=
      (stepTime_queueOnly (fun _ => false) u v.toInt h0 h1).2 _ rfl eventReg_timeStat
    unfold State.bit
    rw [hrd]
    exact hbit
  · exact stepTime_status u _ 445 hevt

/-- A Draft step within R41 moves NS and is noted as the last one (R41, R43). -/
theorem timeStepD_steps (s : State) (v : Word) (hok : s.draftStepOk v = true) (h0 : 0 ≤ (s.ns : Int) + v.toInt)
    (h1 : (s.ns : Int) + v.toInt < 2 ^ 64) :
    Yields (.timeStepD v) s fun t => (t.ns : Int) = s.ns + v.toInt ∧ t.stime.frac = s.stime.frac ∧
      t.stime.lastDraftStep = some s.stime.cycle := by
  let u : State := { s with stime := { s.stime with
    lastDraftStep := some s.stime.cycle
    draftUndo := some (s.stime.cycle, s.stime.ns, s.stime.lastDraftStep) } }
  refine ⟨u.stepTime v.toInt, if_pos hok, stepTime_ns u _ h0 h1, ?_, ?_⟩
  · rw [stepTime_stime u _ h0 h1]
  · rw [stepTime_stime u _ h0 h1]

/-- A Draft step that R41 or R44 refuses leaves STIME, sets GUARD_STEP and raises source 445 (R42). -/
theorem timeStepD_refused (s : State) (v : Word) (hno : s.draftStepOk v = false) :
    Yields (.timeStepD v) s fun t =>
      t.bit Reg.TIME_STAT 2 = true ∧ t.evtStatus 445 = true ∧ EventOnly (among [Reg.TIME_STAT]) s t :=
  ⟨s.guardRefuse 2, if_neg (by simp [hno]), guardRefuse_bit s 2 (by decide), guardRefuse_status s 2,
    guardRefuse_eventOnly s 2⟩

/-- The rate trim as it is written, and nothing else (R40). -/
theorem rateD_written (s : State) (v : Word) :
    (s.wr Reg.TIME_RATE_D v).rd Reg.TIME_RATE_D = v ∧ RegsOnly (among [Reg.TIME_RATE_D]) s (s.wr Reg.TIME_RATE_D v) :=
  ⟨State.rd_wr_same s _ v, RegsOnly.wr s v (by decide)⟩

/-- A Draft rate within 500 ppm takes effect (R40). -/
theorem timeRateD_draft_applies (s : State) (v : Word) (h0 : -2684354 ≤ v.toInt) (h1 : v.toInt ≤ 2684354) :
    exec (.timeRateD .draft v) s = .next (s.wr Reg.TIME_RATE_D v) := if_pos ⟨h0, h1⟩

/-- A Draft rate beyond 500 ppm is refused (R40, R42). -/
theorem timeRateD_draft_refused (s : State) (v : Word) (h : v.toInt < -2684354 ∨ 2684354 < v.toInt) :
    exec (.timeRateD .draft v) s = .next (s.guardRefuse 1) := if_neg (by omega)

/-- Settles O10: every form of the four writes, by what a load and a step do to STIME and what a refusal changes. -/
theorem timeWrites : Obligations.TimeWrites := by
  unfold Obligations.TimeWrites
  refine ⟨⟨timeSet_lower_stores, timeStepS_lower_stores, timeSet_upper_loads, timeSet_both_loads, timeStepS_steps,
    timeStepS_replaces_draft⟩, fun s v => ⟨_, rfl, rateD_written s v⟩, fun s v h0 h1 => ?_, fun s v h => ?_,
    timeStepD_steps, timeStepD_refused⟩
  · exact ⟨_, timeRateD_draft_applies s v h0 h1, rateD_written s v⟩
  · exact ⟨_, timeRateD_draft_refused s v h, guardRefuse_bit s 1 (by decide), guardRefuse_status s 1,
      guardRefuse_eventOnly s 1⟩

end Sys2Proof.Machine
end

section
/-! PROOFS. Chapter 02: reads of the time, the keeper, the pulse and the Lumro link. -/

namespace Sys2Proof.Machine

/-! ## Reads, the keeper and the pulse (R46, R47, R56) -/

/-- A read of TIME_NOW_LO latches the rest of the sample it returns (R46). -/
theorem timeNowLo_latches (s : State) (wide : Bool) : Yields (.timeNowLo wide) s fun t =>
    t.out = s.out ++ [.value (if wide then s.ns else s.ns % 2 ^ 32)] ∧
    (t.rd Reg.TIME_NOW_HI).toNat = s.ns / 2 ^ 32 ∧ t.rd Reg.TIME_NOW_FRAC = s.stime.frac ∧
    RegsOnly (among [Reg.TIME_NOW_HI, Reg.TIME_NOW_FRAC]) { s with out := t.out } t := by
  let hi : Word := (s.stime.ns >>> 32).truncate 32
  have hfrac : ((s.wr Reg.TIME_NOW_HI hi).wr Reg.TIME_NOW_FRAC s.stime.frac).rd Reg.TIME_NOW_FRAC = s.stime.frac :=
    State.rd_wr_same _ _ _
  have hhi : ((s.wr Reg.TIME_NOW_HI hi).wr Reg.TIME_NOW_FRAC s.stime.frac).rd Reg.TIME_NOW_HI = hi := by
    rw [State.rd_wr_ne _ _ (by decide), State.rd_wr_same]
  have hval : hi.toNat = s.ns / 2 ^ 32 := by
    have hlt : s.stime.ns.toNat < 2 ^ 64 := s.stime.ns.isLt
    simp only [hi, State.ns, BitVec.truncate_eq_setWidth, BitVec.toNat_setWidth, BitVec.toNat_ushiftRight, Nat.shiftRight_eq_div_pow]
    omega
  have hregs : RegsOnly (among [Reg.TIME_NOW_HI, Reg.TIME_NOW_FRAC]) s
      ((s.wr Reg.TIME_NOW_HI hi).wr Reg.TIME_NOW_FRAC s.stime.frac) :=
    (RegsOnly.wr s hi (by decide)).trans (RegsOnly.wr _ _ (by decide))
  exact ⟨_, rfl, rfl, (congrArg BitVec.toNat hhi).trans hval, hfrac, rfl, hregs.2⟩

/-- The keeper takes STIME over, or gives it back, with no step (R47). -/
theorem keeperHandover_passes (s : State) (b : Bool) (h : b = true ∨ s.pllOff = false) :
    Yields (.keeperHandover b) s fun t =>
      t.bit Reg.TIME_STAT 3 = b ∧ t.stime = s.stime ∧ RegsOnly (among [Reg.TIME_STAT]) s t := by
  have hgo : ¬ (!b && s.pllOff) = true := by
    rcases h with h | h <;> simp [h]
  exact ⟨_, if_neg hgo, State.bit_setb_same _ _ _ _ (by decide), rfl, RegsOnly.setb s 3 b (by decide)⟩

/-- While the PLL is off STIME does not pass back (R47). -/
theorem keeperHandover_pllOff (s : State) (h : s.pllOff = true) : exec (.keeperHandover false) s = .next s := if_pos h

/-- PPS_OUT falls at the end of its pulse (R56). -/
theorem ppsPulseEnd_falls (s : State) (hout : s.lumro.ppsOut = true) (hend : s.lumro.ppsEnd ≤ s.stime.cycle) :
    Yields .ppsPulseEnd s fun t =>
      t.lumro.ppsOut = false ∧ t.out = s.out ++ [.pin .ppsOut false] ∧ t = { s with lumro := t.lumro, out := t.out } := by
  have hgo : (s.lumro.ppsOut && decide (s.lumro.ppsEnd ≤ s.stime.cycle)) = true := by simp [hout, hend]
  exact ⟨_, if_pos hgo, rfl, rfl, rfl⟩

/-! ## Frames of the Lumro link (R54, R58) -/

theorem RegsOnly.withLumro {w : Nat → Bool} {s t : State} (h : RegsOnly w s t) (l : LumroSt) :
    RegsOnly w { s with lumro := l } { t with lumro := l } := ⟨by rw [h.1], h.2⟩

theorem RegsOnly.withColo {w : Nat → Bool} {s t : State} (h : RegsOnly w s t) (c : ColoSt) :
    RegsOnly w { s with colo := c } { t with colo := c } := ⟨by rw [h.1], h.2⟩

/-- Counting a link event changes the Colophon alone. -/
theorem countLink_frame (s : State) (k : Nat) : s.countLink k = { s with colo := (s.countLink k).colo } := by
  unfold State.countLink State.accAdd
  split <;> rfl

theorem ofLe_lt (b : Bytes) : ofLe b < 256 ^ b.length := by
  induction b with
  | nil => simp [ofLe]
  | cons x b ih =>
    have hx : x.toNat < 256 := x.isLt
    rw [ofLe, List.length_cons, Nat.pow_succ]
    omega

/-- Eight bytes make a number of 64 bits. -/
theorem beAt_eight_lt (b : Bytes) (o : Nat) : beAt b o 8 < 2 ^ 64 := by
  have h := ofLe_lt (slice b o 8).reverse
  rw [List.length_reverse, slice_length] at h
  rw [beAt, ofBe, show 2 ^ 64 = 256 ^ 8 by norm_num]
  exact h

theorem rd64_setb_ne (s : State) {a b : Nat} (i : Nat) (v : Bool) (h : b ≠ a) (h4 : b + 4 ≠ a) :
    (s.setb a i v).rd64 b = s.rd64 b := by
  rw [State.rd64, State.rd64, State.rd_setb_ne s i v h, State.rd_setb_ne s i v h4]

/-- The bytes in the middle of a string. -/
theorem slice_middle (a b c : Bytes) : slice (a ++ b ++ c) a.length b.length = b := by
  refine List.ext_getElem (by simp) fun i hi hb => ?_
  simp [slice, List.getD_eq_getElem?_getD, List.getElem?_append, hb]

/-- SECOND of a frame: eight bytes behind MAGIC, VERSION and FLAGS (Table TIM-3). -/
theorem lumroFrame_second (s : State) (edge : Nat) : beAt (s.lumroFrame edge) 4 8 = (edge / 1000000000 + 1) % 2 ^ 64 := by
  let head := beBytes 2 0x4C4D ++ beBytes 1 1 ++
    beBytes 1 ((if s.timeValid then 1 else 0) + (if s.bit Reg.TIME_LUMRO_CTL 3 then 2 else 0))
  obtain ⟨rest, hf⟩ : ∃ rest, s.lumroFrame edge = head ++ beBytes 8 (edge / 1000000000 + 1) ++ rest := by
    simp only [State.lumroFrame, head, List.append_assoc]
    exact ⟨_, rfl⟩
  have hlen : head.length = 4 := by simp [head]
  have hs := slice_middle head (beBytes 8 (edge / 1000000000 + 1)) rest
  rw [hlen, beBytes_length] at hs
  rw [beAt, hf, hs, ofBe_beBytes, show 256 ^ 8 = 2 ^ 64 by norm_num]

/-- 499 ms after its edge at the earliest a frame is sent, with the next sequence number (R54). -/
theorem lumroFrameTx_sends (s : State) (e c : Nat) (r : List (Nat × Nat)) (hedge : s.lumro.txEdges = (e, c) :: r)
    (hdue : c + 399200000 ≤ s.stime.cycle) (hen : s.bit Reg.TIME_LUMRO_CTL 0 = true) : Yields .lumroFrameTx s fun t =>
      t.out = s.out ++ [.tod (s.lumroFrame e)] ∧ beAt (s.lumroFrame e) 4 8 = (e / 1000000000 + 1) % 2 ^ 64 ∧
      t.lumro.seq = s.lumro.seq + 1 ∧ t.lumro.txEdges = r ∧ t = { s with lumro := t.lumro, out := t.out } := by
  have hgo : execLumroFrameTx s =
      .next (State.emit { s with lumro := { s.lumro with txEdges := r, seq := s.lumro.seq + 1 } } (.tod (s.lumroFrame e))) := by
    unfold execLumroFrameTx
    rw [hedge]
    simp only
    rw [if_neg (by omega), if_pos hen]
  exact ⟨_, hgo, rfl, lumroFrame_second s e, rfl, rfl, rfl⟩

/-- A frame with a right CRC sets TIME_LUMRO_RXSEC and waits for its edge (R58). -/
theorem lumroFrameRx_accepts (s : State) (f : Bytes) (hen : s.bit Reg.TIME_LUMRO_CTL 1 = true) (hlen : f.length = 24)
    (hmagic : beAt f 0 2 = 0x4C4D) (hver : beAt f 2 1 = 1) (hcrc : beAt f 20 4 = crc32c (slice f 0 20)) :
    Yields (.lumroFrameRx f) s fun t =>
      (t.rd64 Reg.TIME_LUMRO_RXSEC).toNat = beAt f 4 8 ∧ t.bit Reg.TIME_LUMRO_STAT 0 = false ∧
      RegsOnly (among [Reg.TIME_LUMRO_RXSEC, Reg.TIME_LUMRO_RXSEC + 4, Reg.TIME_LUMRO_STAT])
        { s with lumro := t.lumro } t := by
  let u := (s.wr64 Reg.TIME_LUMRO_RXSEC (BitVec.ofNat 64 (beAt f 4 8))).setb Reg.TIME_LUMRO_STAT 0 false
  obtain ⟨l, hgo⟩ : ∃ l, execLumroFrameRx f s = .next { u with lumro := l } := by
    unfold execLumroFrameRx
    rw [if_pos (by simp [hen, hlen]), if_neg (not_not_intro hcrc), if_pos ⟨hmagic, hver⟩]
    exact ⟨_, rfl⟩
  have hrd : u.rd64 Reg.TIME_LUMRO_RXSEC = BitVec.ofNat 64 (beAt f 4 8) :=
    (rd64_setb_ne _ 0 false (by decide) (by decide)).trans (State.rd64_wr64_same s _ _)
  have hregs : RegsOnly (among [Reg.TIME_LUMRO_RXSEC, Reg.TIME_LUMRO_RXSEC + 4, Reg.TIME_LUMRO_STAT]) s u :=
    (RegsOnly.wr64 s _ (by decide) (by decide)).trans (RegsOnly.setb _ 0 false (by decide))
  have hbit : u.bit Reg.TIME_LUMRO_STAT 0 = false := State.bit_setb_same _ _ _ _ (by decide)
  clear_value u
  refine ⟨_, hgo, ?_, hbit, hregs.withLumro _⟩
  calc (u.rd64 Reg.TIME_LUMRO_RXSEC).toNat = (BitVec.ofNat 64 (beAt f 4 8)).toNat := by rw [hrd]
    _ = beAt f 4 8 % 2 ^ 64 := BitVec.toNat_ofNat _ _
    _ = beAt f 4 8 := Nat.mod_eq_of_lt (beAt_eight_lt f 4)

/-- A frame with a bad CRC counts in CRC_ERR (R59). -/
theorem lumroFrameRx_badCrc (s : State) (f : Bytes) (hen : s.bit Reg.TIME_LUMRO_CTL 1 = true) (hlen : f.length = 24)
    (hcrc : beAt f 20 4 ≠ crc32c (slice f 0 20)) : Yields (.lumroFrameRx f) s fun t =>
      t.fld Reg.TIME_LUMRO_STAT 31 16 = min (s.fld Reg.TIME_LUMRO_STAT 31 16 + 1) 0xFFFF ∧
      RegsOnly (among [Reg.TIME_LUMRO_STAT]) { s with colo := t.colo } t := by
  have hgo : execLumroFrameRx f s = .next ((s.incSat Reg.TIME_LUMRO_STAT 31 16).countLink 7) := by
    unfold execLumroFrameRx
    rw [if_pos (by simp [hen, hlen]), if_pos hcrc]
  refine ⟨_, hgo, ?_, ?_⟩
  · rw [countLink_frame]
    exact State.fld_incSat s _ 31 16 (by decide) (by decide)
  · rw [countLink_frame]
    exact (RegsOnly.incSat s 31 16 (by decide)).withColo _

/-! ## Edges and windows (R57 to R59) -/

/-- The registers that pairing an edge with its frames writes: TIME_LUMRO_OFFSET and TIME_LUMRO_STAT. -/
def lumroPairReg : Nat → Bool := among [Reg.TIME_LUMRO_OFFSET, Reg.TIME_LUMRO_OFFSET + 4, Reg.TIME_LUMRO_STAT]

/-- An edge sets an offset for each frame it is paired with, raises source 446 for it, and sets VALID (R58). -/
theorem pairFrames_eventOnly (offset : State → Nat × Nat → DWord) (m : List (Nat × Nat)) (s : State) :
    EventOnly lumroPairReg s
      ((m.foldl (fun s r => (s.wr64 Reg.TIME_LUMRO_OFFSET (offset s r)).raise 446) s).setb Reg.TIME_LUMRO_STAT 0 true) :=
  (EventOnly.foldl (fun s r => (RegsOnly.wr64 s (offset s r) (by decide) (by decide)).eventOnly.trans
    (raise_eventOnly _ _ 446)) m s).trans (RegsOnly.setb _ 0 true (by decide)).eventOnly

/-- A rising edge of PPS_IN captures STIME (R57). -/
theorem ppsInEdge_captures (s : State) (hen : s.bit Reg.TIME_LUMRO_CTL 1 = true) : Yields .ppsInEdge s fun t =>
    t.rd64 Reg.TIME_LUMRO_CAP = s.stime.ns ∧ t.stime = s.stime ∧ t.mem = s.mem := by
  let u : State := { s.wr64 Reg.TIME_LUMRO_CAP s.stime.ns with freeCtr := s.freeCtr + 1 }
  obtain ⟨l, t, hgo, ht⟩ : ∃ l t, execPpsInEdge s = .next { t with lumro := l } ∧ EventOnly lumroPairReg u t := by
    unfold execPpsInEdge
    rw [if_pos hen]
    simp only
    split
    · exact ⟨_, _, rfl, EventOnly.refl _ u⟩
    · exact ⟨_, _, rfl, pairFrames_eventOnly _ _ u⟩
  have hlo : t.rd Reg.TIME_LUMRO_CAP = u.rd Reg.TIME_LUMRO_CAP := ht.2 _ (by decide) (by decide)
  have hhi : t.rd (Reg.TIME_LUMRO_CAP + 4) = u.rd (Reg.TIME_LUMRO_CAP + 4) := ht.2 _ (by decide) (by decide)
  have hcap : t.rd64 Reg.TIME_LUMRO_CAP = s.stime.ns := by
    rw [State.rd64, hlo, hhi]
    exact State.rd64_wr64_same s _ _
  exact ⟨_, hgo, hcap, ht.stime, (congrArg State.mem ht.1 :)⟩

/-- A saturating count after `n` additions of 1. -/
theorem fld_incSat_times (a hi lo : Nat) (h : lo ≤ hi) (h32 : hi < 32) (n : Nat) (s : State) :
    ((List.range n).foldl (fun s _ => s.incSat a hi lo) s).fld a hi lo = min (s.fld a hi lo + n) (2 ^ (hi + 1 - lo) - 1) := by
  induction n with
  | zero =>
    have hlt : s.fld a hi lo < 2 ^ (hi + 1 - lo) := Nat.mod_lt _ (Nat.two_pow_pos _)
    simp only [List.range_zero, List.foldl_nil]
    omega
  | succ n ih =>
    rw [List.range_succ, List.foldl_append, List.foldl_cons, List.foldl_nil, State.fld_incSat _ _ _ _ h h32, ih]
    omega

/-- Each frame whose window has ended counts in WINDOW_ERR, and no other register changes (R59). -/
theorem lumroWindowExpiry_counts (s : State) : Yields .lumroWindowExpiry s fun t =>
    let ended := s.lumro.rx.filter fun r => decide (r.2 + 720000000 < s.stime.cycle)
    t.fld Reg.TIME_LUMRO_STAT 15 1 = min (s.fld Reg.TIME_LUMRO_STAT 15 1 + ended.length) 0x7FFF ∧
    RegsOnly (among [Reg.TIME_LUMRO_STAT]) { s with lumro := t.lumro } t := by
  let ended := fun r : Nat × Nat => decide (r.2 + 720000000 < s.stime.cycle)
  let s' : State := { s with lumro := { s.lumro with rx := s.lumro.rx.filter fun r => !ended r } }
  have hregs : RegsOnly (among [Reg.TIME_LUMRO_STAT]) s'
      ((List.range (s.lumro.rx.filter ended).length).foldl (fun s _ => s.incSat Reg.TIME_LUMRO_STAT 15 1) s') :=
    foldl_related (RegsOnly.refl _) RegsOnly.trans (fun s _ => RegsOnly.incSat s 15 1 (by decide)) _ s'
  refine ⟨_, rfl, fld_incSat_times _ 15 1 (by decide) (by decide) _ s', ?_⟩
  generalize List.foldl _ s' _ = t at hregs ⊢
  rw [show t.lumro = s'.lumro from (congrArg State.lumro hregs.1 :)]
  exact hregs

/-- Settles O11: the read that latches a sample, the keeper, the pulse, and the frames, edges and windows of the Lumro link. -/
theorem timeReadsAndLumro : Obligations.TimeReadsAndLumro := by
  unfold Obligations.TimeReadsAndLumro
  exact ⟨⟨timeNowLo_latches, keeperHandover_passes, keeperHandover_pllOff, ppsPulseEnd_falls⟩, lumroFrameTx_sends,
    lumroFrameRx_accepts, lumroFrameRx_badCrc, ppsInEdge_captures, lumroWindowExpiry_counts⟩

end Sys2Proof.Machine
end

section
/-! PROOFS. Chapter 03: live loads, discards and swaps. -/

namespace Sys2Proof.Machine

/-! ## Bits and fields of other registers -/

theorem bit_of_rd {s t : State} {a : Nat} (h : t.rd a = s.rd a) (i : Nat) : t.bit a i = s.bit a i := by
  rw [State.bit, State.bit, h]

theorem fld_of_rd {s t : State} {a : Nat} (h : t.rd a = s.rd a) (hi lo : Nat) : t.fld a hi lo = s.fld a hi lo := by
  rw [State.fld, State.fld, h]

theorem rd64_setf_ne (s : State) {a b : Nat} (hi lo n : Nat) (h : b ≠ a) (h4 : b + 4 ≠ a) :
    (s.setf a hi lo n).rd64 b = s.rd64 b := by
  rw [State.rd64, State.rd64, State.rd_setf_ne s hi lo n h, State.rd_setf_ne s hi lo n h4]

/-- A bit outside the field written. -/
theorem bit_setf_same_ne (s : State) (a hi lo n : Nat) {i : Nat} (h : i < lo ∨ hi < i) :
    (s.setf a hi lo n).bit a i = s.bit a i := by
  rw [State.bit, State.rd_setf_same, getLsbD_setFieldOf_ne _ _ _ _ _ h]
  rfl

theorem RegsOnly.withDuct {w : Nat → Bool} {s t : State} (h : RegsOnly w s t) (d : DuctSt) :
    RegsOnly w { s with duct := d } { t with duct := d } := ⟨by rw [h.1], h.2⟩

theorem EventOnly.duct {w : Nat → Bool} {s t : State} (h : EventOnly w s t) : t.duct = s.duct :=
  (congrArg State.duct h.1 :)

/-! ## What a read by the Scribe world changes (R276, R307, R308)

A refused range is recorded in registers and raises an event; a granted one leaves the state. -/

/-- One more field written, where the registers written are not told apart. -/
theorem RegsOnly.setfAny {s t : State} (h : RegsOnly (fun _ => true) s t) (a hi lo n : Nat) :
    RegsOnly (fun _ => true) s (t.setf a hi lo n) := h.trans (RegsOnly.setf t hi lo n rfl)

theorem ruleCapture_eventOnly (s : State) (u : Nat) (acc : Access) (why region : Nat) :
    EventOnly (fun _ => true) s (s.ruleCapture u acc why region) := by
  have hwhere : RegsOnly (fun _ => true) s
      ((s.wr64 (Reg.RUL_FAULT_ADDR u) (BitVec.ofNat 64 acc.addr)).wr64 (Reg.RUL_FAULT_TIME u) s.stime.ns) :=
    (RegsOnly.wr64 s _ rfl rfl).trans (RegsOnly.wr64 _ _ rfl rfl)
  exact hwhere |>.setfAny _ 29 27 _ |>.setfAny _ 26 25 _ |>.setfAny _ 24 24 _ |>.setfAny _ 23 22 _ |>.setfAny _ 21 17 _
    |>.setfAny _ 16 16 _ |>.setfAny _ 15 10 _ |>.setfAny _ 9 9 _ |>.setfAny _ 6 0 _ |>.setfAny _ 7 0 _
    |>.trans (RegsOnly.setb _ 31 true rfl) |>.eventOnly |>.trans (raise_eventOnly _ _ (384 + u))

theorem ruleFault_eventOnly (s : State) (u : Nat) (acc : Access) (why region : Nat) :
    EventOnly (fun _ => true) s (s.ruleFault u acc why region) := by
  have hcount := (RegsOnly.wr (w := fun _ => true) s (a := Reg.RUL_FAULT_COUNT u)
    (BitVec.ofNat 32 (min (s.rdn (Reg.RUL_FAULT_COUNT u) + 1) (2 ^ 32 - 1))) rfl).eventOnly
  unfold State.ruleFault
  extract_lets t i c t'
  refine hcount.trans ?_
  have hnote : EventOnly (fun _ => true) t t' := by
    change EventOnly _ _ (if _ then _ else _)
    split
    · exact EventOnly.refl _ _
    · exact EventOnly.cyc _ _ _
  split
  · split
    · exact hnote
    · exact (hnote.trans (RegsOnly.setb _ 30 true rfl).eventOnly).trans (raise_eventOnly _ _ _)
  · exact ruleCapture_eventOnly t u acc why region

theorem rule_eventOnly (s : State) (u : Nat) (acc : Access) : EventOnly (fun _ => true) s (s.rule u acc).1 := by
  unfold State.rule
  split
  · exact EventOnly.refl _ s
  · exact ruleFault_eventOnly s u acc _ _

theorem ruleRanges_eventOnly (l : List (Nat × Nat × AccKind)) (s : State) :
    EventOnly (fun _ => true) s (s.ruleRanges l).1 := by
  induction l generalizing s with
  | nil => exact EventOnly.refl _ s
  | cons r l ih =>
    obtain ⟨a, n, k⟩ := r
    have hrule := fun u acc => rule_eventOnly s u acc
    unfold State.ruleRanges
    simp only
    split
    · exact (hrule _ _).trans (ih _)
    · exact hrule _ _

theorem scribeRead_eventOnly (s : State) (a n : Nat) : EventOnly (fun _ => true) s (s.scribeRead a n).1 := by
  unfold State.scribeRead
  split
  · exact EventOnly.refl _ s
  · exact ruleRanges_eventOnly _ s

/-- Reading and judging a live stream leaves the Ductus. -/
theorem liveVerdict_duct (s : State) (a n : Nat) : (s.liveVerdict a n).1.duct = s.duct := (scribeRead_eventOnly s a n).duct

/-! ## Start, end and rejection of a live load (R114 to R116) -/

/-- The registers that the commands of DUCT_CMD write beside the events. -/
abbrev ductCmdReg : Nat → Bool := among [Reg.DUCT_CMD, Reg.DUCT_LIVE_STAT]

theorem eventReg_liveStat : eventReg Reg.DUCT_LIVE_STAT = false := by decide

theorem eventReg_ductCmd : eventReg Reg.DUCT_CMD = false := by decide

/-- The mask that a write of DUCT_CMD stores. -/
theorem swapMask_regsOnly (s : State) (n : Nat) : RegsOnly ductCmdReg s (s.setf Reg.DUCT_CMD 15 0 n) :=
  RegsOnly.setf s 15 0 n (by decide)

theorem swapMask_liveStat (s : State) (n : Nat) :
    (s.setf Reg.DUCT_CMD 15 0 n).rd Reg.DUCT_LIVE_STAT = s.rd Reg.DUCT_LIVE_STAT :=
  State.rd_setf_ne s 15 0 n (by decide)

theorem liveReject_code (s : State) (c : Nat) : (s.liveReject c).fld Reg.DUCT_LIVE_STAT 31 24 = c % 256 :=
  (fld_of_rd (raise_rd _ eventReg_liveStat) 31 24).trans (State.fld_setf_same s _ 31 24 c (by decide) (by decide))

/-- A rejection leaves the rest of DUCT_LIVE_STAT, PENDING and BUSY among it. -/
theorem liveReject_liveStat (s : State) (c : Nat) {i : Nat} (h : i < 24) :
    (s.liveReject c).bit Reg.DUCT_LIVE_STAT i = s.bit Reg.DUCT_LIVE_STAT i :=
  (bit_of_rd (raise_rd _ eventReg_liveStat) i).trans (bit_setf_same_ne s _ 31 24 c (Or.inl h))

theorem liveReject_ductCmd (s : State) (c : Nat) : (s.liveReject c).rd Reg.DUCT_CMD = s.rd Reg.DUCT_CMD :=
  (raise_rd _ eventReg_ductCmd).trans (State.rd_setf_ne s 31 24 c (by decide))

theorem liveReject_status (s : State) (c : Nat) : (s.liveReject c).evtStatus 506 = true := raise_status_same _ _

theorem liveReject_eventOnly (s : State) (c : Nat) : EventOnly ductCmdReg s (s.liveReject c) :=
  (RegsOnly.setf s 31 24 c (by decide)).eventOnly.trans (raise_eventOnly _ _ 506)

/-- A write of DUCT_CMD with LOAD, while no load runs, stores the mask and asks for the load of the stream that the registers
name. -/
theorem exec_ductCmdLoad (s : State) (v : Word) (hok : ductCmdOk v = true) (hload : v.getLsbD 31 = true)
    (hidle : s.bit Reg.DUCT_CMD 31 = false) :
    exec (.ductCmdLoad v) s = .next ((s.setf Reg.DUCT_CMD 15 0 (fieldOf v 15 0)).liveLoad
      ((s.rd64 Reg.DUCT_LIVE_ADDR).toNat % 2 ^ 40) (s.rdn Reg.DUCT_LIVE_LEN)) := by
  have hgo : (ductCmdOk v && v.getLsbD 31 && !s.bit Reg.DUCT_CMD 31) = true := by simp [hok, hload, hidle]
  have haddr := rd64_setf_ne s (a := Reg.DUCT_CMD) (b := Reg.DUCT_LIVE_ADDR) 15 0 (fieldOf v 15 0) (by decide) (by decide)
  have hlen := State.rd_setf_ne s (a := Reg.DUCT_CMD) (b := Reg.DUCT_LIVE_LEN) 15 0 (fieldOf v 15 0) (by decide)
  rw [← haddr, State.rdn, ← hlen]
  exact if_pos hgo

theorem liveLoad_starts (s : State) (a n : Nat) (hnone : s.duct.loading = none) (hpend : s.fld Reg.DUCT_LIVE_STAT 15 0 = 0) :
    s.liveLoad a n = (State.setb { s with duct := { s.duct with loading := some (a, n) } } Reg.DUCT_LIVE_STAT 23 true).setb
      Reg.DUCT_CMD 31 true :=
  if_neg (by simp [hnone, hpend])

theorem liveLoad_busy (s : State) (a n : Nat) (hpend : s.fld Reg.DUCT_LIVE_STAT 15 0 ≠ 0) :
    s.liveLoad a n = s.liveReject Rej.shadowBusy := if_pos (Or.inr hpend)

/-- LOAD with nothing loading and nothing pending starts a live load of the named stream (R114, R115). -/
theorem ductCmdLoad_starts (s : State) (v : Word) (hok : ductCmdOk v = true) (hload : v.getLsbD 31 = true)
    (hidle : s.bit Reg.DUCT_CMD 31 = false) (hnone : s.duct.loading = none) (hpend : s.fld Reg.DUCT_LIVE_STAT 15 0 = 0) :
    Yields (.ductCmdLoad v) s fun t =>
      t.duct.loading = some ((s.rd64 Reg.DUCT_LIVE_ADDR).toNat % 2 ^ 40, s.rdn Reg.DUCT_LIVE_LEN) ∧
      t.bit Reg.DUCT_LIVE_STAT 23 = true ∧ t.bit Reg.DUCT_CMD 31 = true ∧
      RegsOnly (among [Reg.DUCT_CMD, Reg.DUCT_LIVE_STAT]) { s with duct := t.duct } t := by
  have hexec := exec_ductCmdLoad s v hok hload hidle
  rw [liveLoad_starts (s.setf Reg.DUCT_CMD 15 0 (fieldOf v 15 0)) _ _ hnone
    ((fld_of_rd (swapMask_liveStat s _) 15 0).trans hpend)] at hexec
  refine ⟨_, hexec, rfl, ?_, State.bit_setb_same _ _ _ _ (by decide), ?_⟩
  · exact (bit_of_rd (State.rd_setb_ne _ 31 true (by decide)) 23).trans (State.bit_setb_same _ _ _ _ (by decide))
  · exact ((swapMask_regsOnly s _).withDuct _).trans
      ((RegsOnly.setb _ 23 true (by decide)).trans (RegsOnly.setb _ 31 true (by decide)))

/-- LOAD while sections are pending is rejected with SHADOW_BUSY (Table DUC-8, step 0). -/
theorem ductCmdLoad_busy (s : State) (v : Word) (hok : ductCmdOk v = true) (hload : v.getLsbD 31 = true)
    (hidle : s.bit Reg.DUCT_CMD 31 = false) (hpend : s.fld Reg.DUCT_LIVE_STAT 15 0 ≠ 0) :
    Yields (.ductCmdLoad v) s fun t =>
      t.fld Reg.DUCT_LIVE_STAT 31 24 = Rej.shadowBusy ∧ t.evtStatus 506 = true ∧ t.duct = s.duct ∧
      EventOnly (among [Reg.DUCT_CMD, Reg.DUCT_LIVE_STAT]) s t := by
  have hexec := exec_ductCmdLoad s v hok hload hidle
  rw [liveLoad_busy (s.setf Reg.DUCT_CMD 15 0 (fieldOf v 15 0)) _ _
    (by rwa [fld_of_rd (swapMask_liveStat s _)])] at hexec
  have honly := (swapMask_regsOnly s (fieldOf v 15 0)).eventOnly.trans (liveReject_eventOnly _ Rej.shadowBusy)
  exact ⟨_, hexec, liveReject_code _ _, liveReject_status _ _, honly.duct, honly⟩

/-- The end of a load clears BUSY and LOAD and, beside registers, the note of the load alone. -/
theorem loadOver_regsOnly (s : State) :
    RegsOnly ductCmdReg { s with duct := { s.duct with loading := none } } s.loadOver :=
  (RegsOnly.setb _ 23 false (by decide)).trans (RegsOnly.setb _ 31 false (by decide))

theorem loadOver_busy (s : State) : s.loadOver.bit Reg.DUCT_LIVE_STAT 23 = false :=
  (bit_of_rd (State.rd_setb_ne _ 31 false (by decide)) 23).trans (State.bit_setb_same _ _ _ _ (by decide))

theorem loadOver_load (s : State) : s.loadOver.bit Reg.DUCT_CMD 31 = false := State.bit_setb_same _ _ _ _ (by decide)

/-! ## The verdict takes effect (R115, R116, R118) -/

theorem exec_liveLoadComplete_ok (s : State) {a n : Nat} {x : Stream} (hload : s.duct.loading = some (a, n))
    (hok : (s.liveVerdict a n).2 = .ok x) :
    exec .liveLoadComplete s = .next ((s.liveVerdict a n).1.loadOver.liveAccept x) := by
  change execLiveLoadComplete s = _
  unfold execLiveLoadComplete
  rw [hload]
  simp only
  rw [show s.liveVerdict a n = ((s.liveVerdict a n).1, .ok x) from Prod.ext rfl hok]

theorem exec_liveLoadComplete_error (s : State) {a n c : Nat} (hload : s.duct.loading = some (a, n))
    (herr : (s.liveVerdict a n).2 = .error c) :
    exec .liveLoadComplete s = .next ((s.liveVerdict a n).1.loadOver.liveReject c) := by
  change execLiveLoadComplete s = _
  unfold execLiveLoadComplete
  rw [hload]
  simp only
  rw [show s.liveVerdict a n = ((s.liveVerdict a n).1, .error c) from Prod.ext rfl herr]

theorem loadQuil_duct (s : State) (b : Nat) (body : List Word) : (s.loadQuil b body).duct = s.duct := rfl

/-- Setting PENDING bits leaves the Ductus. -/
theorem setPending_duct (l : List (Nat × List Word)) (s : State) :
    (l.foldl (fun s e => s.setb Reg.DUCT_LIVE_STAT e.1 true) s).duct = s.duct := by
  induction l generalizing s with
  | nil => rfl
  | cons e l ih => exact ih (s.setb Reg.DUCT_LIVE_STAT e.1 true)

/-- The live sections of an accepted stream are the shadow images, and its VERSION waits for the swap (R115, R118). -/
theorem liveAccept_duct (s : State) (x : Stream) :
    (s.liveAccept x).duct = { s.duct with
      shadow := (x.secs.filter fun e => liveCodes.contains e.1).map fun e => (e.1, e.2.2), liveVersion := x.version } := by
  unfold State.liveAccept
  simp only
  rw [(raise_eventOnly (fun _ => false) _ 506).duct, setPending_duct]
  split <;> rfl

theorem liveAccept_status (s : State) (x : Stream) : (s.liveAccept x).evtStatus 506 = true := raise_status_same _ _

/-- An accepted stream fills the shadow images and raises source 506. The stream is judged as memory stands at this step, the
model's choice (log entry 39). -/
theorem liveLoadComplete_accepts (s : State) (a n : Nat) (x : Stream) (hload : s.duct.loading = some (a, n))
    (hok : (s.liveVerdict a n).2 = .ok x) :
    Yields .liveLoadComplete s fun t =>
      t.duct.loading = none ∧ t.evtStatus 506 = true ∧
      t.duct.shadow = (x.secs.filter fun e => liveCodes.contains e.1).map fun e => (e.1, e.2.2) := by
  refine ⟨_, exec_liveLoadComplete_ok s hload hok, ?_, liveAccept_status _ x, ?_⟩
  · rw [liveAccept_duct]
    rfl
  · rw [liveAccept_duct]

/-- A rejected stream leaves the shadow images, records its reason and raises source 506 (R116). -/
theorem liveLoadComplete_rejects (s : State) (a n c : Nat) (hload : s.duct.loading = some (a, n))
    (herr : (s.liveVerdict a n).2 = .error c) :
    Yields .liveLoadComplete s fun t =>
      t.duct.loading = none ∧ t.duct.shadow = s.duct.shadow ∧ t.fld Reg.DUCT_LIVE_STAT 31 24 = c % 256 ∧
      t.bit Reg.DUCT_LIVE_STAT 23 = false ∧ t.bit Reg.DUCT_CMD 31 = false ∧ t.evtStatus 506 = true ∧
      EventOnly (among [Reg.DUCT_CMD, Reg.DUCT_LIVE_STAT]) { (s.liveVerdict a n).1 with duct := t.duct } t := by
  have hexec := exec_liveLoadComplete_error s hload herr
  have hshadow := congrArg DuctSt.shadow (liveVerdict_duct s a n)
  generalize (s.liveVerdict a n).1 = u at hexec hshadow ⊢
  have honly : EventOnly ductCmdReg { u with duct := { u.duct with loading := none } } (u.loadOver.liveReject c) :=
    (loadOver_regsOnly u).eventOnly.trans (liveReject_eventOnly _ c)
  have hduct : (u.loadOver.liveReject c).duct = { u.duct with loading := none } := honly.duct
  refine ⟨_, hexec, by rw [hduct], by rw [hduct]; exact hshadow, liveReject_code _ c, ?_, ?_, liveReject_status _ c, ?_⟩
  · exact (liveReject_liveStat _ c (by decide)).trans (loadOver_busy u)
  · exact (bit_of_rd (liveReject_ductCmd _ c) 31).trans (loadOver_load u)
  · rw [hduct]
    exact honly

/-! ## Discard and swap (R119 to R122, R126) -/

/-- DISCARD drops the shadow images and clears PENDING (R126). -/
theorem ductCmdDiscard_drops (s : State) (v : Word) (hok : ductCmdOk v = true) (hdisc : v.getLsbD 30 = true) :
    Yields (.ductCmdDiscard v) s fun t =>
      t.duct.shadow = [] ∧ t.fld Reg.DUCT_LIVE_STAT 15 0 = 0 ∧
      RegsOnly (among [Reg.DUCT_CMD, Reg.DUCT_LIVE_STAT]) { s with duct := t.duct } t := by
  have hgo : (ductCmdOk v && v.getLsbD 30) = true := by simp [hok, hdisc]
  exact ⟨_, if_pos hgo, rfl, State.fld_setf_same _ _ 15 0 0 (by decide) (by decide),
    ((swapMask_regsOnly s _).withDuct _).trans (RegsOnly.setf _ 15 0 0 (by decide))⟩

theorem exec_ductCmdSwap (s : State) (v : Word) (hok : ductCmdOk v = true) (hswap : v.getLsbD 29 = true) :
    exec (.ductCmdSwap v) s = .next ((s.setf Reg.DUCT_CMD 15 0 (fieldOf v 15 0)).ductSwap (fieldOf v 15 0)) :=
  if_pos (by simp [hok, hswap])

/-- The sections a swap brings into force: those both named by the mask and pending (R119). -/
def swapSelection (s : State) (mask : Nat) : List Nat :=
  liveCodes.filter fun c => mask.testBit c && s.bit Reg.DUCT_LIVE_STAT c

theorem mem_swapSelection {s : State} {mask c : Nat} :
    c ∈ swapSelection s mask ↔ c ∈ liveCodes ∧ mask.testBit c = true ∧ s.bit Reg.DUCT_LIVE_STAT c = true := by
  simp [swapSelection]

theorem ductSwap_empty (s : State) {mask : Nat} (h : swapSelection s mask = []) :
    s.ductSwap mask = s.setb Reg.DUCT_LIVE_STAT 22 true :=
  if_pos (by rw [show liveCodes.filter _ = [] from h]; rfl)

/-- A swap that selects a section brings the live version into force and raises source 507, whatever its sections do (R122). -/
theorem ductSwap_selects (s : State) {mask c : Nat} (h : c ∈ swapSelection s mask) :
    (s.ductSwap mask).rdn Reg.DUCT_LIVE_VERSION = s.duct.liveVersion % 2 ^ 32 ∧ (s.ductSwap mask).evtStatus 507 = true := by
  have hsel : ¬ (swapSelection s mask).isEmpty = true := by
    rw [List.isEmpty_iff]
    exact List.ne_nil_of_mem h
  obtain ⟨u, hswap⟩ : ∃ u : State, s.ductSwap mask =
      (u.wr Reg.DUCT_LIVE_VERSION (BitVec.ofNat 32 s.duct.liveVersion)).raise 507 := ⟨_, if_neg hsel⟩
  rw [hswap]
  refine ⟨?_, raise_status_same _ _⟩
  rw [State.rdn, raise_rd _ (by decide), State.rd_wr_same, BitVec.toNat_ofNat]

/-- A live section is named by the mask stored as it is by the word written. -/
theorem swapMask_testBit (v : Word) {c : Nat} (h : c ∈ liveCodes) : (fieldOf v 15 0).testBit c = v.toNat.testBit c := by
  have hlt : c < 16 := (show ∀ c ∈ liveCodes, c < 16 by decide) c h
  rw [fieldOf_testBit, Nat.zero_add, decide_eq_true hlt, Bool.true_and]
  rfl

/-- SWAP with no pending section named sets the error bit and changes nothing else. -/
theorem ductCmdSwap_empty (s : State) (v : Word) (hok : ductCmdOk v = true) (hswap : v.getLsbD 29 = true)
    (hnone : ∀ c ∈ liveCodes, v.toNat.testBit c = true → s.bit Reg.DUCT_LIVE_STAT c = false) :
    Yields (.ductCmdSwap v) s fun t =>
      t.bit Reg.DUCT_LIVE_STAT 22 = true ∧ RegsOnly (among [Reg.DUCT_CMD, Reg.DUCT_LIVE_STAT]) s t := by
  have hsel : swapSelection (s.setf Reg.DUCT_CMD 15 0 (fieldOf v 15 0)) (fieldOf v 15 0) = [] := by
    refine List.eq_nil_iff_forall_not_mem.mpr fun c hc => ?_
    obtain ⟨hlive, hmask, hpend⟩ := mem_swapSelection.mp hc
    rw [swapMask_testBit v hlive] at hmask
    rw [bit_of_rd (swapMask_liveStat s _), hnone c hlive hmask] at hpend
    exact absurd hpend (by decide)
  have hexec := exec_ductCmdSwap s v hok hswap
  rw [ductSwap_empty _ hsel] at hexec
  exact ⟨_, hexec, State.bit_setb_same _ _ _ _ (by decide),
    (swapMask_regsOnly s _).trans (RegsOnly.setb _ 22 true (by decide))⟩

/-- SWAP that names a pending section brings the live version into force and raises source 507. -/
theorem ductCmdSwap_swaps (s : State) (v : Word) (c : Nat) (hok : ductCmdOk v = true) (hswap : v.getLsbD 29 = true)
    (hlive : c ∈ liveCodes) (hmask : v.toNat.testBit c = true) (hpend : s.bit Reg.DUCT_LIVE_STAT c = true) :
    Yields (.ductCmdSwap v) s fun t =>
      t.rdn Reg.DUCT_LIVE_VERSION = s.duct.liveVersion % 2 ^ 32 ∧ t.evtStatus 507 = true := by
  refine ⟨_, exec_ductCmdSwap s v hok hswap, ductSwap_selects _ (c := c) (mem_swapSelection.mpr ⟨hlive, ?_, ?_⟩)⟩
  · rw [swapMask_testBit v hlive, hmask]
  · rw [bit_of_rd (swapMask_liveStat s _), hpend]

/-- Settles O13: a live load from its start to its verdict, then the two commands on what it has left pending. -/
theorem liveStreams : Obligations.LiveStreams := by
  unfold Obligations.LiveStreams
  exact ⟨⟨ductCmdLoad_starts, ductCmdLoad_busy, liveLoadComplete_accepts, liveLoadComplete_rejects, ductCmdDiscard_drops⟩,
    ductCmdSwap_empty, ductCmdSwap_swaps⟩

end Sys2Proof.Machine
end

section
/-! PROOFS. Chapter 06: the end of a world switch beside a trigger of a ruling unit. -/

namespace Sys2Proof.Machine

/-! ## A cycle's record that names a register of another block

Where a toggle of RUL_SWAP falls in the cycle of a trigger that comes behind it in the order of R312, `State.rulTrigger` first puts
the unit back as the cycle's record found it, and `State.rulBefore` writes back every register that the record names. The records
that `State.rulCyc` makes name registers of the unit alone (`ruleState`), but no hypothesis of the statement asks that of the
state's record. -/

/-- The record of a cycle in which RUL_SET_CMD has acted on unit 0. It names WRLD_CORE_STAT, which is not of the unit, with
core 1 released and in the Draft world. -/
def misrecordedUnit : RulCyc where
  unit := 0
  set0 := 0
  regs0 := [(Reg.WRLD_CORE_STAT, 0x20000)]
  count0 := 0
  evt0 := false
  trig := [.cmd 0]

/-- Core 1, lent and released, is at the end of its switch into the Scribe world, which toggles unit 0 (RUL_SWAP); that unit's record
of the cycle is `misrecordedUnit`. -/
def misrecordedSwitch : State :=
  let s := ((State.reset.wr Reg.WRLD_CFG 0x200).wr Reg.WRLD_CORE_STAT 0x20000).wr Reg.WRLD_LEND_CTL 0x800000
  { s with cyc := { rul := [misrecordedUnit] }, wrld := { s.wrld with switches := [⟨1, true⟩] } }

/-- The switch completes, and the toggle that follows it has written the record's WRLD_CORE_STAT over the core's new world. -/
theorem misrecordedSwitch_ends_in_draft :
    Yields (.worldSwitchComplete 1) misrecordedSwitch fun t => t.inScribe 1 = false :=
  ⟨_, rfl, by decide +kernel⟩

/-- A command has one outcome, so what two statements say of it holds of the same state. -/
theorem Yields.and {c : Instr} {s : State} {P Q : State → Prop} (h : Yields c s P) (k : Yields c s Q) :
    Yields c s fun t => P t ∧ Q t := by
  obtain ⟨t, ht, hP⟩ := h
  obtain ⟨u, hu, hQ⟩ := k
  obtain rfl : t = u := Host.Outcome.next.inj (ht.symm.trans hu)
  exact ⟨t, ht, hP, hQ⟩

/-- Refutes O20: in `misrecordedSwitch` the completed switch of core 1 should leave it in the Scribe world, and leaves it in the
Draft world. The conjunct that fails is the one for a completed switch with no recall. -/
theorem not_lendingAndSwitch : ¬ Obligations.LendingAndSwitch := by
  unfold Obligations.LendingAndSwitch
  rintro ⟨-, hcomplete, -⟩
  have hfind : misrecordedSwitch.wrld.switches.find? (·.core == 1) = some ⟨1, true⟩ := rfl
  have hrecall : misrecordedSwitch.wrld.recalls.contains 1 = false := rfl
  obtain ⟨t, -, ⟨hscribe, -⟩, hdraft⟩ :=
    (hcomplete misrecordedSwitch 1 ⟨1, true⟩ hfind (by decide) hrecall).and misrecordedSwitch_ends_in_draft
  exact absurd (hscribe.symm.trans hdraft) (by decide)

end Sys2Proof.Machine
end

section
/-! PROOFS. Chapter 13: doorbells, enabling and draining of ring pairs, and the coalescing timer. -/

namespace Sys2Proof.Machine

/-! ## Registers of ring pairs -/

/-- The delivery of events writes no register of the block of ring pairs (Table EVT-5). -/
theorem eventReg_ringBlock {a : Nat} (h : 0x1400B0000 ≤ a ∧ a < 0x1400C0000) : eventReg a = false := by
  have hstatus : (List.range 16).any (fun g => a == Reg.EVT_STATUS g) = false := by
    simp only [List.any_eq_false, List.mem_range, beq_iff_eq, Reg.EVT_STATUS]
    omega
  have hfolio : (List.range 64).any (fun f => a == Reg.FOL_ERR f) = false := by
    simp only [List.any_eq_false, List.mem_range, beq_iff_eq, Reg.FOL_ERR]
    omega
  simp only [eventReg, hstatus, hfolio, Bool.false_or, Bool.or_eq_false_iff, beq_eq_false_iff_ne]
  simp only [Reg.SMB_ALERT, Reg.PWR_WAKE_CAUSE, Reg.PWR_WAKE_LAST]
  omega

theorem eventReg_ringStat (n : Nat) : eventReg (Reg.RING_STAT n) = false :=
  eventReg_ringBlock (by simp only [Reg.RING_STAT]; omega)

theorem eventReg_ringCtl (n : Nat) : eventReg (Reg.RING_CTL n) = false :=
  eventReg_ringBlock (by simp only [Reg.RING_CTL]; omega)

theorem eventReg_sqTail (n : Nat) : eventReg (Reg.RING_SQ_TAIL n) = false :=
  eventReg_ringBlock (by simp only [Reg.RING_SQ_TAIL]; omega)

theorem eventReg_cqHead (n : Nat) : eventReg (Reg.RING_CQ_HEAD n) = false :=
  eventReg_ringBlock (by simp only [Reg.RING_CQ_HEAD]; omega)

theorem among_self (a : Nat) : among [a] a = true := by simp [among]

/-- A register that is neither named nor written by events reads the same. -/
theorem EventOnly.rd_among {a b : Nat} {s t : State} (h : EventOnly (among [a]) s t) (hne : b ≠ a) (hb : eventReg b = false) :
    t.rd b = s.rd b := h.2 b (by simp [among, hne]) hb

/-! ## Doorbells (R549, R550, R552, R553) -/

/-- A wake writes the registers of wake causes alone. -/
theorem wakeBy_rd (s : State) (b : Nat) {a : Nat} (hc : a ≠ Reg.PWR_WAKE_CAUSE) (hl : a ≠ Reg.PWR_WAKE_LAST) :
    (s.wakeBy b).rd a = s.rd a := by
  have hlink : ∀ v : State, v.linkWake.rd a = v.rd a := by
    intro v
    unfold State.linkWake State.driveClkreq
    split <;> split
    · rfl
    · rfl
    · rfl
    · split <;> rfl
  have hclear : (if s.pwr.exiting = true then s else s.wr Reg.PWR_WAKE_LAST 0).rd a = s.rd a := by
    split
    · rfl
    · exact State.rd_wr_ne _ _ hl
  have hcause : ∀ v : State, ((v.setb Reg.PWR_WAKE_CAUSE b true).setb Reg.PWR_WAKE_LAST b true).rd a = v.rd a := fun v => by
    rw [State.rd_setb_ne _ _ _ hl, State.rd_setb_ne _ _ _ hc]
  unfold State.wakeBy
  split
  · simp only
    generalize (if s.pwr.exiting = true then s else s.wr Reg.PWR_WAKE_LAST 0) = u at hclear
    have hwake := (hcause u).trans hclear
    split
    · exact (hlink _).trans hwake
    · exact hwake
  · rfl

theorem wakeBy_status (s : State) (b n : Nat) : (s.wakeBy b).evtStatus n = s.evtStatus n :=
  bit_of_rd (wakeBy_rd s b (by simp only [Reg.EVT_STATUS, Reg.PWR_WAKE_CAUSE]; omega)
    (by simp only [Reg.EVT_STATUS, Reg.PWR_WAKE_LAST]; omega)) _

theorem noteDoor_regsOnly (w : Nat → Bool) (s : State) (n : Nat) : RegsOnly w s (s.noteDoor n) := by
  unfold State.noteDoor
  simp only
  split
  · exact RegsOnly.refl w s
  · exact RegsOnly.cyc w s _

theorem noteDoor_rd (s : State) (n a : Nat) : (s.noteDoor n).rd a = s.rd a := (noteDoor_regsOnly (fun _ => false) s n).2 a rfl

theorem noteDoor_fld (s : State) (n a hi lo : Nat) : (s.noteDoor n).fld a hi lo = s.fld a hi lo := fld_of_rd (noteDoor_rd s n a) hi lo

/-- The state after a doorbell that is in order: the index it writes stands in the register `a`. -/
def State.indexDoor (s : State) (n a i : Nat) : State := ((s.noteDoor n).setf a 15 0 i).wakeBy 1

theorem indexDoor_eventOnly (s : State) (n a i : Nat) : EventOnly (among [a]) s (s.indexDoor n a i) :=
  ((noteDoor_regsOnly _ s n).trans (RegsOnly.setf _ 15 0 i (among_self a))).eventOnly.trans (wakeBy_eventOnly _ _ 1)

theorem indexDoor_index (s : State) (n : Nat) {a i : Nat} (ha : eventReg a = false) (hi : i < 65536) :
    (s.indexDoor n a i).fld a 15 0 = i := by
  have hwake := (wakeBy_eventOnly (fun _ => false) ((s.noteDoor n).setf a 15 0 i) 1).2 a rfl ha
  rw [State.indexDoor, fld_of_rd hwake, State.fld_setf_same _ _ _ _ _ (by decide) (by decide)]
  exact Nat.mod_eq_of_lt hi

/-- The state after a doorbell that is refused: error bit `i` of RING_STAT is set and the folio's error source raised. -/
def State.errorDoor (s : State) (f n i : Nat) : State := (((s.noteDoor n).setb (Reg.RING_STAT n) i true).raise (192 + f)).wakeBy 1

theorem errorDoor_eventOnly (s : State) (f n i : Nat) : EventOnly (among [Reg.RING_STAT n]) s (s.errorDoor f n i) :=
  (((noteDoor_regsOnly _ s n).trans (RegsOnly.setb _ i true (among_self _))).eventOnly.trans (raise_eventOnly _ _ _)).trans
    (wakeBy_eventOnly _ _ 1)

theorem errorDoor_bit (s : State) (f n : Nat) {i : Nat} (hi : i < 32) : (s.errorDoor f n i).bit (Reg.RING_STAT n) i = true := by
  have hevents := (raise_eventOnly (fun _ => false) ((s.noteDoor n).setb (Reg.RING_STAT n) i true) (192 + f)).trans
    (wakeBy_eventOnly _ _ 1)
  rw [State.errorDoor, bit_of_rd (hevents.2 _ rfl (eventReg_ringStat n)), State.bit_setb_same _ _ _ _ hi]

theorem errorDoor_status (s : State) (f n i : Nat) : (s.errorDoor f n i).evtStatus (192 + f) = true := by
  rw [State.errorDoor, wakeBy_status, raise_status_same]

theorem errorDoor_sqTail (s : State) (f n i : Nat) : (s.errorDoor f n i).sqTail n = s.sqTail n :=
  fld_of_rd ((errorDoor_eventOnly s f n i).rd_among (by simp only [Reg.RING_SQ_TAIL, Reg.RING_STAT]; omega) (eventReg_sqTail n)) _ _

theorem errorDoor_cqHead (s : State) (f n i : Nat) : (s.errorDoor f n i).cqHead n = s.cqHead n :=
  fld_of_rd ((errorDoor_eventOnly s f n i).rd_among (by simp only [Reg.RING_CQ_HEAD, Reg.RING_STAT]; omega) (eventReg_cqHead n)) _ _

/-- An SQ doorbell of an enabled ring pair, or of one disabled in the same cycle, by whether its index is in range. -/
theorem exec_ringDbSq (s : State) {f k n : Nat} (v : Word) (hsh : s.shadowing = false)
    (hring : (s.ringOf f k).or (s.ringClosed f k) = some n) (hon : s.doorbellsOn f = true) :
    exec (.ringDbSq f k v) s = .next (if 65536 ≤ v.toNat ∨ s.sqSize n ≤ v.toNat then s.errorDoor f n 1
      else s.indexDoor n (Reg.RING_SQ_TAIL n) v.toNat) := by
  have hsize : (s.noteDoor n).sqSize n = s.sqSize n := congrArg (2 ^ ·) (noteDoor_fld s n _ _ _)
  simp only [exec, execRingDbSq, hsh, Bool.false_eq_true, if_false, State.dbSq, hring, hon, Bool.not_true, hsize, State.errorDoor,
    State.indexDoor]
  split <;> rfl

/-- How far `i` lies past the CQ head of ring `n`. -/
abbrev State.cqPast (s : State) (n i : Nat) : Nat := (i + s.cqSize n - s.cqHead n) % s.cqSize n

/-- A CQ doorbell of an enabled ring pair, by whether its index is an index of the ring that has been written. -/
theorem exec_ringDbCq (s : State) {f k n : Nat} (v : Word) (hsh : s.shadowing = false) (hring : s.ringOf f k = some n)
    (hon : s.doorbellsOn f = true) :
    exec (.ringDbCq f k v) s = .next (if 65536 ≤ v.toNat then s.errorDoor f n 1
      else if s.cqSize n ≤ v.toNat ∨ s.cqPast n (s.cqTail n) < s.cqPast n v.toNat then s.errorDoor f n 2
      else s.indexDoor n (Reg.RING_CQ_HEAD n) v.toNat) := by
  have hhead : (s.noteDoor n).cqHead n = s.cqHead n := noteDoor_fld s n _ _ _
  have htail : (s.noteDoor n).cqTail n = s.cqTail n := noteDoor_fld s n _ _ _
  simp only [exec, execRingDbCq, hsh, Bool.false_eq_true, if_false, State.dbCq, hring, hon, Bool.not_true, hhead, htail,
    State.errorDoor, State.indexDoor]
  split
  · rfl
  · split <;> rfl

theorem ringDbSq_moves (s : State) {f k n : Nat} (v : Word) (hsh : s.shadowing = false)
    (hring : (s.ringOf f k).or (s.ringClosed f k) = some n) (hon : s.doorbellsOn f = true) (h16 : v.toNat < 65536)
    (hsize : v.toNat < s.sqSize n) : Yields (.ringDbSq f k v) s fun t =>
      t.sqTail n = v.toNat ∧ EventOnly (among [Reg.RING_SQ_TAIL n]) s t := by
  have hexec := exec_ringDbSq s v hsh hring hon
  rw [if_neg (by omega)] at hexec
  exact ⟨_, hexec, indexDoor_index s n (eventReg_sqTail n) h16, indexDoor_eventOnly s n _ _⟩

theorem ringDbSq_refused (s : State) {f k n : Nat} (v : Word) (hsh : s.shadowing = false) (hring : s.ringOf f k = some n)
    (hon : s.doorbellsOn f = true) (hout : 65536 ≤ v.toNat ∨ s.sqSize n ≤ v.toNat) : Yields (.ringDbSq f k v) s fun t =>
      t.sqTail n = s.sqTail n ∧ t.bit (Reg.RING_STAT n) 1 = true ∧ t.evtStatus (192 + f) = true ∧
      EventOnly (among [Reg.RING_STAT n]) s t := by
  have hexec := exec_ringDbSq s v hsh (show _ = some n by rw [hring]; rfl) hon
  rw [if_pos hout] at hexec
  exact ⟨_, hexec, errorDoor_sqTail s f n 1, errorDoor_bit s f n (by decide), errorDoor_status s f n 1, errorDoor_eventOnly s f n 1⟩

theorem ringDbCq_moves (s : State) {f k n : Nat} (v : Word) (hsh : s.shadowing = false) (hring : s.ringOf f k = some n)
    (hon : s.doorbellsOn f = true) (h16 : v.toNat < 65536) (hsize : v.toNat < s.cqSize n)
    (hpast : s.cqPast n v.toNat ≤ s.cqPast n (s.cqTail n)) : Yields (.ringDbCq f k v) s fun t =>
      t.cqHead n = v.toNat ∧ EventOnly (among [Reg.RING_CQ_HEAD n]) s t := by
  have hexec := exec_ringDbCq s v hsh hring hon
  rw [if_neg (by omega), if_neg (not_or.mpr ⟨Nat.not_le.mpr hsize, Nat.not_lt.mpr hpast⟩)] at hexec
  exact ⟨_, hexec, indexDoor_index s n (eventReg_cqHead n) h16, indexDoor_eventOnly s n _ _⟩

/-- A refused CQ doorbell leaves the CQ head and reports error bit `i`. -/
theorem ringDbCq_refused (s : State) {f k n i : Nat} {v : Word} (hi : i < 32)
    (hexec : exec (.ringDbCq f k v) s = .next (s.errorDoor f n i)) : Yields (.ringDbCq f k v) s fun t =>
      t.cqHead n = s.cqHead n ∧ t.bit (Reg.RING_STAT n) i = true ∧ t.evtStatus (192 + f) = true ∧
      EventOnly (among [Reg.RING_STAT n]) s t :=
  ⟨_, hexec, errorDoor_cqHead s f n i, errorDoor_bit s f n hi, errorDoor_status s f n i, errorDoor_eventOnly s f n i⟩

theorem ringDbCq_tooLarge (s : State) {f k n : Nat} (v : Word) (hsh : s.shadowing = false) (hring : s.ringOf f k = some n)
    (hon : s.doorbellsOn f = true) (hout : 65536 ≤ v.toNat) : Yields (.ringDbCq f k v) s fun t =>
      t.cqHead n = s.cqHead n ∧ t.bit (Reg.RING_STAT n) 1 = true ∧ t.evtStatus (192 + f) = true ∧
      EventOnly (among [Reg.RING_STAT n]) s t := by
  refine ringDbCq_refused s (by decide) ?_
  rw [exec_ringDbCq s v hsh hring hon, if_pos hout]

theorem ringDbCq_pastTail (s : State) {f k n : Nat} (v : Word) (hsh : s.shadowing = false) (hring : s.ringOf f k = some n)
    (hon : s.doorbellsOn f = true) (h16 : v.toNat < 65536)
    (hout : s.cqSize n ≤ v.toNat ∨ s.cqPast n (s.cqTail n) < s.cqPast n v.toNat) : Yields (.ringDbCq f k v) s fun t =>
      t.cqHead n = s.cqHead n ∧ t.bit (Reg.RING_STAT n) 2 = true ∧ t.evtStatus (192 + f) = true ∧
      EventOnly (among [Reg.RING_STAT n]) s t := by
  refine ringDbCq_refused s (by decide) ?_
  rw [exec_ringDbCq s v hsh hring hon, if_neg (by omega), if_pos hout]

/-- A TAIL in the cycle in which ENABLE was cleared is recorded, and the ring pair keeps its state (Table RNG-12). -/
theorem ringDbSq_closed (s : State) (f k n : Nat) (v : Word) (hsh : s.shadowing = false) (hnone : s.ringOf f k = none)
    (hclosed : s.ringClosed f k = some n) (hon : s.doorbellsOn f = true) (h16 : v.toNat < 65536) (hsize : v.toNat < s.sqSize n) :
    Yields (.ringDbSq f k v) s fun t =>
      t.sqTail n = v.toNat ∧ t.ringState n = s.ringState n ∧ EventOnly (among [Reg.RING_SQ_TAIL n]) s t := by
  obtain ⟨t, hexec, htail, hkeep⟩ := ringDbSq_moves s v hsh (show _ = some n by rw [hnone]; exact hclosed) hon h16 hsize
  exact ⟨t, hexec, htail, fld_of_rd (hkeep.rd_among (by simp only [Reg.RING_SQ_TAIL, Reg.RING_STAT]; omega) (eventReg_ringStat n)) _ _,
    hkeep⟩

/-! ## The doorbell shadow (R900) -/

/-- A doorbell put in the shadow stands there after the wake, and nothing else has changed. -/
theorem shadowPut_records (s : State) (f k : Nat) (cq : Bool) (v : Word) :
    (f, k, cq, v) ∈ ((s.shadowPut f k cq v).wakeBy 1).pwr.shadow ∧
      EventOnly (among []) { s with pwr := { s.pwr with shadow := ((s.shadowPut f k cq v).wakeBy 1).pwr.shadow } }
        ((s.shadowPut f k cq v).wakeBy 1) := by
  have hwake := wakeBy_eventOnly (among []) (s.shadowPut f k cq v) 1
  have hshadow : ((s.shadowPut f k cq v).wakeBy 1).pwr.shadow = (s.shadowPut f k cq v).pwr.shadow :=
    (congrArg (fun t : State => t.pwr.shadow) hwake.1 :)
  rw [hshadow]
  exact ⟨List.mem_append_right _ (List.mem_singleton_self _), hwake⟩

theorem ringDbSq_shadowed (s : State) (f k : Nat) (v : Word) (hsh : s.shadowing = true) : Yields (.ringDbSq f k v) s fun t =>
    (f, k, false, v) ∈ t.pwr.shadow ∧ EventOnly (among []) { s with pwr := { s.pwr with shadow := t.pwr.shadow } } t :=
  ⟨_, by simp only [exec, execRingDbSq, hsh, if_true], shadowPut_records s f k false v⟩

theorem ringDbCq_shadowed (s : State) (f k : Nat) (v : Word) (hsh : s.shadowing = true) : Yields (.ringDbCq f k v) s fun t =>
    (f, k, true, v) ∈ t.pwr.shadow ∧ EventOnly (among []) { s with pwr := { s.pwr with shadow := t.pwr.shadow } } t :=
  ⟨_, by simp only [exec, execRingDbCq, hsh, if_true], shadowPut_records s f k true v⟩

/-! ## Enabling a ring pair (R545, R546) -/

@[simp] theorem ringSt_setRing (s : State) (n : Nat) (x : RingSt) : (s.setRing n x).ringSt n = x := Tab.get_set_same _ _ _ _

/-- The index registers of ring pair `n`. -/
def indexRegs (n : Nat) : List Nat := [Reg.RING_SQ_HEAD n, Reg.RING_SQ_TAIL n, Reg.RING_CQ_TAIL n, Reg.RING_CQ_HEAD n]

/-- The registers of ring pair `n` that ENABLE writes. -/
def enableRegs (n : Nat) : List Nat := Reg.RING_CTL n :: Reg.RING_STAT n :: indexRegs n

/-- The four indices of ring pair `n` at 0. -/
def State.clearIndices (s : State) (n : Nat) : State :=
  (((s.wr (Reg.RING_SQ_HEAD n) 0).wr (Reg.RING_SQ_TAIL n) 0).wr (Reg.RING_CQ_TAIL n) 0).wr (Reg.RING_CQ_HEAD n) 0

/-- Phase 1, state ENABLED and ENABLE set. -/
def State.markEnabled (s : State) (n : Nat) : State :=
  ((s.setb (Reg.RING_STAT n) 8 true).setRingState n 1).setb (Reg.RING_CTL n) 31 true

theorem exec_ringEnable (s : State) {n : Nat} (hn : n < 128) : exec (.ringEnable n) s = .next
    (if s.enableCode n ≠ 0 then s.setf (Reg.RING_CTL n) 30 28 (s.enableCode n)
      else (((s.setf (Reg.RING_CTL n) 30 28 (s.enableCode n)).clearIndices n).markEnabled n).setRing n {}) := by
  simp only [exec, execRingEnable, if_neg (Nat.not_le.mpr hn)]
  split <;> rfl

theorem clearIndices_rd (s : State) {n a : Nat} (h : a ∈ indexRegs n) : (s.clearIndices n).rd a = 0 := by
  simp only [State.clearIndices, State.rd_wr]
  split_ifs with hcqHead hcqTail hsqTail hsqHead
  · rfl
  · rfl
  · rfl
  · rfl
  · simp [indexRegs, hcqHead, hcqTail, hsqTail, hsqHead] at h

theorem clearIndices_regsOnly (s : State) (n : Nat) : RegsOnly (among (enableRegs n)) s (s.clearIndices n) := by
  have hwr : ∀ (t : State) {a : Nat}, a ∈ indexRegs n → RegsOnly (among (enableRegs n)) t (t.wr a 0) := fun t a ha =>
    RegsOnly.wr t 0 (List.contains_iff_mem.mpr (List.mem_cons_of_mem _ (List.mem_cons_of_mem _ ha)))
  exact (((hwr s (by simp [indexRegs])).trans (hwr _ (by simp [indexRegs]))).trans (hwr _ (by simp [indexRegs]))).trans
    (hwr _ (by simp [indexRegs]))

theorem ctl_ne_stat (m n : Nat) : Reg.RING_CTL m ≠ Reg.RING_STAT n := by
  simp only [Reg.RING_CTL, Reg.RING_STAT]
  omega

theorem markEnabled_regsOnly (s : State) (n : Nat) : RegsOnly (among (enableRegs n)) s (s.markEnabled n) := by
  have hctl : among (enableRegs n) (Reg.RING_CTL n) = true := List.contains_iff_mem.mpr (by simp [enableRegs])
  have hstat : among (enableRegs n) (Reg.RING_STAT n) = true := List.contains_iff_mem.mpr (by simp [enableRegs])
  exact ((RegsOnly.setb s 8 true hstat).trans (RegsOnly.setf _ 31 30 1 hstat)).trans (RegsOnly.setb _ 31 true hctl)

theorem markEnabled_index (s : State) {n a : Nat} (h : a ∈ indexRegs n) : (s.markEnabled n).rd a = s.rd a := by
  have hne : a ≠ Reg.RING_CTL n ∧ a ≠ Reg.RING_STAT n := by
    simp only [indexRegs, List.mem_cons, List.not_mem_nil, or_false] at h
    simp only [Reg.RING_SQ_HEAD, Reg.RING_SQ_TAIL, Reg.RING_CQ_TAIL, Reg.RING_CQ_HEAD] at h
    simp only [Reg.RING_CTL, Reg.RING_STAT]
    omega
  rw [State.markEnabled, State.rd_setb_ne _ _ _ hne.1, State.setRingState, State.rd_setf_ne _ _ _ _ hne.2,
    State.rd_setb_ne _ _ _ hne.2]

theorem markEnabled_state (s : State) (n : Nat) : (s.markEnabled n).ringState n = 1 :=
  (fld_of_rd (State.rd_setb_ne _ _ _ (ctl_ne_stat n n).symm) _ _).trans
    (State.fld_setf_same _ _ _ _ _ (by decide) (by decide))

theorem markEnabled_phase (s : State) (n : Nat) : (s.markEnabled n).bit (Reg.RING_STAT n) 8 = true := by
  rw [State.markEnabled, bit_of_rd (State.rd_setb_ne _ _ _ (ctl_ne_stat n n).symm), State.setRingState,
    bit_setf_same_ne _ _ _ _ _ (by decide), State.bit_setb_same _ _ _ _ (by decide)]

theorem markEnabled_enable (s : State) (n : Nat) : (s.markEnabled n).bit (Reg.RING_CTL n) 31 = true :=
  State.bit_setb_same _ _ _ _ (by decide)

theorem enableCode_lt (s : State) (n : Nat) : s.enableCode n < 8 := by
  unfold State.enableCode
  extract_lets
  split_ifs <;> decide

/-- The same records of the ring pairs, put in both states. -/
theorem RegsOnly.withRings {w : Nat → Bool} {s t : State} (h : RegsOnly w s t) (r : Tab RingSt) :
    RegsOnly w { s with rings := r } { t with rings := r } := ⟨by rw [h.1], h.2⟩

theorem ringEnable_enables (s : State) (n : Nat) (hn : n < 128) (hcode : s.enableCode n = 0) : Yields (.ringEnable n) s fun t =>
    t.ringState n = 1 ∧ t.sqHead n = 0 ∧ t.sqTail n = 0 ∧ t.cqHead n = 0 ∧ t.cqTail n = 0 ∧ t.bit (Reg.RING_STAT n) 8 = true ∧
    t.bit (Reg.RING_CTL n) 31 = true ∧ t.ringSt n = {} ∧ RegsOnly (among (enableRegs n)) { s with rings := t.rings } t := by
  have hexec := exec_ringEnable s hn
  rw [if_neg (not_not.mpr hcode)] at hexec
  generalize hu : s.setf (Reg.RING_CTL n) 30 28 (s.enableCode n) = u at hexec
  have hregs : RegsOnly (among (enableRegs n)) s ((u.clearIndices n).markEnabled n) := by
    rw [← hu]
    exact ((RegsOnly.setf s 30 28 _ (List.contains_iff_mem.mpr (by simp [enableRegs]))).trans (clearIndices_regsOnly _ n)).trans
      (markEnabled_regsOnly _ n)
  have hindex : ∀ a ∈ indexRegs n, ((u.clearIndices n).markEnabled n).fld a 15 0 = 0 := fun a ha =>
    congrArg (fieldOf · 15 0) ((markEnabled_index (u.clearIndices n) ha).trans (clearIndices_rd u ha))
  have hstate := markEnabled_state (u.clearIndices n) n
  have hphase := markEnabled_phase (u.clearIndices n) n
  have henable := markEnabled_enable (u.clearIndices n) n
  generalize (u.clearIndices n).markEnabled n = x at hexec hregs hindex hstate hphase henable
  exact ⟨x.setRing n {}, hexec, hstate, hindex _ (by simp [indexRegs]), hindex _ (by simp [indexRegs]),
    hindex _ (by simp [indexRegs]), hindex _ (by simp [indexRegs]), hphase, henable, ringSt_setRing x n {}, hregs.withRings _⟩

theorem ringEnable_refused (s : State) (n : Nat) (hn : n < 128) (hcode : s.enableCode n ≠ 0) : Yields (.ringEnable n) s fun t =>
    t.fld (Reg.RING_CTL n) 30 28 = s.enableCode n ∧ t.ringState n = s.ringState n ∧ RegsOnly (among [Reg.RING_CTL n]) s t := by
  have hexec := exec_ringEnable s hn
  rw [if_pos hcode] at hexec
  refine ⟨_, hexec, ?_, fld_of_rd (State.rd_setf_ne s _ _ _ (ctl_ne_stat n n).symm) _ _, RegsOnly.setf s 30 28 _ (among_self _)⟩
  rw [State.fld_setf_same _ _ _ _ _ (by decide) (by decide)]
  exact Nat.mod_eq_of_lt (enableCode_lt s n)

/-! ## The end of draining, and the coalescing timer (R573, R586) -/

theorem ringDrained_disables (s : State) (n : Nat) (hn : n < 128) (hstate : s.ringState n = 2)
    (hempty : (s.ringOps n).isEmpty = true) : Yields (.ringDrained n) s fun t =>
      t.ringState n = 0 ∧ RegsOnly (among [Reg.RING_STAT n]) s t :=
  ⟨s.setRingState n 0, if_pos ⟨hn, hstate, hempty⟩, State.fld_setf_same _ _ _ _ _ (by decide) (by decide),
    RegsOnly.setf s 31 30 0 (among_self _)⟩

theorem EventOnly.rings {w : Nat → Bool} {s t : State} (h : EventOnly w s t) : t.rings = s.rings := (congrArg State.rings h.1 :)

theorem coalesceTimerExpiry_signals (s : State) (n : Nat) (hn : n < 128) (hpend : (s.ringSt n).pendingIrq ≠ 0)
    (htime : s.fld (Reg.RING_COAL n) 15 0 ≠ 0)
    (hpast : (s.ringSt n).pendSince + 800 * s.fld (Reg.RING_COAL n) 15 0 ≤ s.stime.cycle) :
    Yields (.coalesceTimerExpiry n) s fun t =>
      t.evtStatus n = true ∧ (t.ringSt n).pendingIrq = 0 ∧ EventOnly (among []) { s with rings := t.rings } t := by
  have hraise := raise_eventOnly (among []) (s.setRing n { s.ringSt n with pendingIrq := 0 }) n
  have hring : (s.ringSignal n).ringSt n = { s.ringSt n with pendingIrq := 0 } :=
    (congrArg (fun r => Tab.get (fun _ => ({} : RingSt)) r n) hraise.rings).trans (ringSt_setRing s n _)
  refine ⟨s.ringSignal n, if_pos ⟨hn, hpend, htime, hpast⟩, raise_status_same _ n, ?_, ?_⟩
  · rw [hring]
  · rw [State.ringSignal, hraise.rings]
    exact hraise

end Sys2Proof.Machine
end

section
/-! PROOFS. Chapter 13: what ends a ring pair's operations leaves the pair DRAINING, and memory and OTP as they were. -/

namespace Sys2Proof.Machine

/-! ## What a draining ring pair keeps

An operation that is ended writes its completion entry or its response, or records why it could not. Whatever it does, the relation
`DrainKept` holds from the state before it to the state after it, and it carries over to the operations that follow. -/

/-- From `s` to `t` memory and OTP stay, ring pair `n` keeps RING_CTL, and a DRAINING pair stays DRAINING. -/
structure DrainKept (n : Nat) (s t : State) : Prop where
  mem : t.mem = s.mem
  otp : t.otp = s.otp
  ctl : t.rd (Reg.RING_CTL n) = s.rd (Reg.RING_CTL n)
  draining : s.ringState n = 2 → t.ringState n = 2

theorem DrainKept.refl (n : Nat) (s : State) : DrainKept n s s := ⟨rfl, rfl, rfl, id⟩

theorem DrainKept.trans {n : Nat} {s t u : State} (h : DrainKept n s t) (k : DrainKept n t u) : DrainKept n s u :=
  ⟨k.mem.trans h.mem, k.otp.trans h.otp, k.ctl.trans h.ctl, k.draining ∘ h.draining⟩

theorem DrainKept.foldl {α : Type} {n : Nat} {f : State → α → State} (hf : ∀ s x, DrainKept n s (f s x)) (l : List α) (s : State) :
    DrainKept n s (l.foldl f s) := foldl_related (R := DrainKept n) (DrainKept.refl n) DrainKept.trans hf l s

/-- The same for a list of steps that carry a value beside the state. -/
theorem DrainKept.foldl_fst {α β : Type} {n : Nat} {f : State × β → α → State × β} (hf : ∀ x a, DrainKept n x.1 (f x a).1)
    (l : List α) (x : State × β) : DrainKept n x.1 (l.foldl f x).1 := by
  induction l generalizing x with
  | nil => exact DrainKept.refl n x.1
  | cons a l ih => exact (hf x a).trans (ih (f x a))

/-- What changes neither registers, memory nor OTP. -/
theorem DrainKept.of_regs {n : Nat} {s t : State} (hregs : t.regs = s.regs) (hmem : t.mem = s.mem) (hotp : t.otp = s.otp) :
    DrainKept n s t := by
  have hrd : ∀ a, t.rd a = s.rd a := fun a => congrArg (Tab.get Reg.reset · a) hregs
  exact ⟨hmem, hotp, hrd _, fun h => (fld_of_rd (hrd _) _ _).trans h⟩

/-- A change of neither registers, memory nor OTP, before what keeps the pair. -/
theorem DrainKept.after {n : Nat} {s t u : State} (h : DrainKept n t u) (hregs : t.regs = s.regs) (hmem : t.mem = s.mem)
    (hotp : t.otp = s.otp) : DrainKept n s u := (DrainKept.of_regs hregs hmem hotp).trans h

/-- Any register but RING_CTL and RING_STAT of ring pair `n`. -/
def offDrain (n a : Nat) : Bool := a != Reg.RING_CTL n && a != Reg.RING_STAT n

theorem offDrain_eq_true {n a : Nat} : offDrain n a = true ↔ a ≠ Reg.RING_CTL n ∧ a ≠ Reg.RING_STAT n := by
  simp [offDrain]

/-- A register of another block (Table EVT-5). -/
theorem offDrain_outside (n : Nat) {a : Nat} (h : a < 0x1400B0000 ∨ 0x1400C0000 ≤ a) : offDrain n a = true := by
  rw [offDrain_eq_true, Reg.RING_CTL, Reg.RING_STAT]
  omega

/-- A register at another offset of a ring pair (Table RNG-13). -/
theorem offDrain_offset (n : Nat) {a : Nat} (h : a % 0x200 ≠ 0x14 ∧ a % 0x200 ≠ 0x20) : offDrain n a = true := by
  rw [offDrain_eq_true, Reg.RING_CTL, Reg.RING_STAT]
  omega

theorem EventOnly.drainKept {n : Nat} {s t : State} (h : EventOnly (offDrain n) s t) : DrainKept n s t := by
  have hctl : t.rd (Reg.RING_CTL n) = s.rd (Reg.RING_CTL n) := h.2 _ (by simp [offDrain]) (eventReg_ringCtl n)
  have hstat : t.rd (Reg.RING_STAT n) = s.rd (Reg.RING_STAT n) := h.2 _ (by simp [offDrain]) (eventReg_ringStat n)
  exact ⟨h.mem, (congrArg State.otp h.1 :), hctl, fun hs => (fld_of_rd hstat _ _).trans hs⟩

theorem RegsOnly.drainKept {n : Nat} {s t : State} (h : RegsOnly (offDrain n) s t) : DrainKept n s t := h.eventOnly.drainKept

theorem raise_drainKept (n : Nat) (s : State) (m : Nat) : DrainKept n s (s.raise m) := (raise_eventOnly _ s m).drainKept

theorem folErr_drainKept (n : Nat) (s : State) (f i : Nat) : DrainKept n s (s.folErr f i) := (folErr_eventOnly _ s f i).drainKept

theorem raiseLimited_drainKept (n : Nat) (s : State) (m : Nat) : DrainKept n s (s.raiseLimited m) := by
  unfold State.raiseLimited
  simp only
  split
  · exact (raise_drainKept n _ m).after rfl rfl rfl
  · exact DrainKept.refl n s

/-! ## Ruling and host writes (R276, R289, R509) -/

theorem RegsOnly.andSetf {w : Nat → Bool} {s t : State} (h : RegsOnly w s t) {a : Nat} (ha : w a = true) (hi lo k : Nat) :
    RegsOnly w s (t.setf a hi lo k) := h.trans (RegsOnly.setf t hi lo k ha)

theorem ruleCapture_drainKept (n : Nat) (s : State) (u : Nat) (acc : Access) (why region : Nat) :
    DrainKept n s (s.ruleCapture u acc why region) := by
  have haddr := offDrain_outside n (a := Reg.RUL_FAULT_ADDR u) (by simp only [Reg.RUL_FAULT_ADDR]; omega)
  have haddr4 := offDrain_outside n (a := Reg.RUL_FAULT_ADDR u + 4) (by simp only [Reg.RUL_FAULT_ADDR]; omega)
  have htime := offDrain_outside n (a := Reg.RUL_FAULT_TIME u) (by simp only [Reg.RUL_FAULT_TIME]; omega)
  have htime4 := offDrain_outside n (a := Reg.RUL_FAULT_TIME u + 4) (by simp only [Reg.RUL_FAULT_TIME]; omega)
  have hinfo := offDrain_outside n (a := Reg.RUL_FAULT_INFO u) (by simp only [Reg.RUL_FAULT_INFO]; omega)
  have hinfo2 := offDrain_outside n (a := Reg.RUL_FAULT_INFO2 u) (by simp only [Reg.RUL_FAULT_INFO2]; omega)
  have hwhere := (RegsOnly.wr64 s (BitVec.ofNat 64 acc.addr) haddr haddr4).trans (RegsOnly.wr64 _ s.stime.ns htime htime4)
  exact hwhere |>.andSetf hinfo 29 27 _ |>.andSetf hinfo 26 25 _ |>.andSetf hinfo 24 24 _ |>.andSetf hinfo 23 22 _
    |>.andSetf hinfo 21 17 _ |>.andSetf hinfo 16 16 _ |>.andSetf hinfo 15 10 _ |>.andSetf hinfo 9 9 _ |>.andSetf hinfo 6 0 _
    |>.andSetf hinfo2 7 0 _ |>.trans (RegsOnly.setb _ 31 true hinfo) |>.drainKept |>.trans (raise_drainKept n _ (384 + u))

theorem ruleFault_drainKept (n : Nat) (s : State) (u : Nat) (acc : Access) (why region : Nat) :
    DrainKept n s (s.ruleFault u acc why region) := by
  have hinfo := offDrain_outside n (a := Reg.RUL_FAULT_INFO u) (by simp only [Reg.RUL_FAULT_INFO]; omega)
  have hcount := (RegsOnly.wr s (BitVec.ofNat 32 (min (s.rdn (Reg.RUL_FAULT_COUNT u) + 1) (2 ^ 32 - 1)))
    (offDrain_outside n (a := Reg.RUL_FAULT_COUNT u) (by simp only [Reg.RUL_FAULT_COUNT]; omega))).drainKept
  unfold State.ruleFault
  extract_lets t i c t'
  refine hcount.trans ?_
  have hnote : DrainKept n t t' := by
    change DrainKept n t (if _ then _ else _)
    split
    · exact DrainKept.refl n t
    · exact DrainKept.of_regs rfl rfl rfl
  split
  · split
    · exact hnote
    · exact (hnote.trans (RegsOnly.setb _ 30 true hinfo).drainKept).trans (raise_drainKept n _ _)
  · exact ruleCapture_drainKept n t u acc why region

theorem ruleFolio_drainKept (n : Nat) (s : State) (c : HostCtx) (u a len : Nat) (k : AccKind) :
    DrainKept n s (s.ruleFolio c u a len k).1 := by
  unfold State.ruleFolio
  simp only
  split
  · exact DrainKept.refl n s
  · exact (ruleFault_drainKept n s u _ _ _).trans (folErr_drainKept n _ _ 4)

theorem xlFind_drainKept (n : Nat) (s : State) (c : HostCtx) (a : Nat) (write : Bool) : DrainKept n s (s.xlFind c a write).1 := by
  unfold State.xlFind
  split
  · exact DrainKept.refl n s
  · split
    · exact DrainKept.of_regs rfl rfl rfl
    · exact DrainKept.refl n s

theorem xlAsk_drainKept (n : Nat) (s : State) (c : HostCtx) (a : Nat) (write : Bool) : DrainKept n s (s.xlAsk c a write) := by
  unfold State.xlAsk
  simp only
  split
  · exact DrainKept.refl n s
  · exact DrainKept.of_regs rfl rfl rfl

theorem hostReq_drainKept (n : Nat) (s : State) (c : HostCtx) (a : Nat) (write : Bool) : DrainKept n s (s.hostReq c a write).1 := by
  have hfind := xlFind_drainKept n s c a write
  unfold State.hostReq
  simp only
  split
  · exact DrainKept.refl n s
  · split
    · next h => rw [h] at hfind; exact hfind
    · next h => rw [h] at hfind; exact hfind.trans (xlAsk_drainKept n _ c a write)

theorem hostWrite1_drainKept (n : Nat) (s : State) (c : HostCtx) (a : Nat) (b : Bytes) : DrainKept n s (s.hostWrite1 c a b).1 := by
  have hrule := ruleFolio_drainKept n s c 4 a b.length .write
  have hreq := hrule.trans (hostReq_drainKept n (s.ruleFolio c 4 a b.length .write).1 c a true)
  unfold State.hostWrite1
  simp only
  split
  · exact hrule
  · split
    · next h => rw [h] at hreq; exact hreq
    · next h => rw [h] at hreq; exact hreq.trans (DrainKept.of_regs rfl rfl rfl)

theorem hostWrites_drainKept (n : Nat) (s : State) (c : HostCtx) (ps : List (Nat × Nat)) (b : Bytes) :
    DrainKept n s (s.hostWrites c ps b).1 := by
  refine DrainKept.foldl_fst (fun x p => ?_) ps (s, 0, none)
  simp only
  split
  · exact DrainKept.refl n x.1
  · have hwrite := hostWrite1_drainKept n x.1 c p.1 (slice b x.2.1 (min p.2 (b.length - x.2.1)))
    split
    · next h => rw [h] at hwrite; exact hwrite
    · next h => rw [h] at hwrite; exact hwrite

theorem writeAt_drainKept (n : Nat) (s : State) (o : Op) (io : Io) (off : Nat) (b : Bytes) :
    DrainKept n s (s.writeAt o io off b).1 := by
  have hstage := ruleFolio_drainKept n s (s.opCtx o (writeInit o.engine)) 1
    ((s.rd64 (Reg.PORT_STAGE_BASE 0)).toNat % 2 ^ 40) (max b.length 1) .write
  rw [← State.stageOk] at hstage
  unfold State.writeAt
  split
  · exact hostWrites_drainKept n s _ _ b
  · split
    · next h =>
      rw [h] at hstage
      refine hstage.trans ?_
      simp only
      split
      · exact DrainKept.of_regs rfl rfl rfl
      · exact DrainKept.refl n _
    · next h => rw [h] at hstage; exact hstage

theorem zeroFill_drainKept (n : Nat) (s : State) (o : Op) : DrainKept n s (s.zeroFill o).1 := by
  unfold State.zeroFill
  split
  · exact writeAt_drainKept n s o _ _ _
  · exact DrainKept.refl n s

/-! ## Completion entries (R565 to R574, R588) -/

/-- A bit of RING_STAT below STATE. -/
theorem setbStat_drainKept (n : Nat) (s : State) (m : Nat) {i : Nat} (hi : i < 30) (b : Bool) :
    DrainKept n s (s.setb (Reg.RING_STAT m) i b) := by
  refine ⟨rfl, rfl, State.rd_setb_ne s i b (ctl_ne_stat n m), fun h => ?_⟩
  by_cases heq : Reg.RING_STAT n = Reg.RING_STAT m
  · rw [State.ringState, State.fld, heq] at h ⊢
    rw [State.rd_setb_same, fieldOf_setFieldOf_ne _ _ _ _ _ _ (Or.inl hi), h]
  · exact (fld_of_rd (State.rd_setb_ne s i b heq) _ _).trans h

/-- An ENABLED ring pair stops; a DRAINING one is another pair. -/
theorem stopEnabled_drainKept (n : Nat) (s : State) {m : Nat} (hm : s.ringState m = 1) : DrainKept n s (s.setRingState m 3) := by
  refine ⟨rfl, rfl, State.rd_setf_ne s 31 30 3 (ctl_ne_stat n m), fun h => ?_⟩
  have hne : Reg.RING_STAT n ≠ Reg.RING_STAT m := fun heq => by
    rw [State.ringState, heq] at h
    exact absurd (hm.symm.trans h) (by decide)
  exact (fld_of_rd (State.rd_setf_ne s 31 30 3 hne) _ _).trans h

theorem ringSignal_drainKept (n : Nat) (s : State) (m : Nat) : DrainKept n s (s.ringSignal m) :=
  (raise_drainKept n _ m).after rfl rfl rfl

theorem lostEntry_drainKept (n : Nat) (s : State) (m : Nat) : DrainKept n s (s.lostEntry m) := by
  have hcount := (RegsOnly.incSat s 31 0
    (offDrain_offset n (a := Reg.RING_LOST m) (by simp only [Reg.RING_LOST]; omega))).drainKept
  unfold State.lostEntry
  simp only
  split
  · exact hcount.trans (ringSignal_drainKept n _ m)
  · exact hcount

theorem cplRefused_drainKept (n : Nat) (s : State) (m : Nat) : DrainKept n s (s.cplRefused m) := by
  unfold State.cplRefused
  extract_lets x t u
  have hlost : DrainKept n s t := DrainKept.of_regs rfl rfl rfl
  have hstop : DrainKept n t u := by
    change DrainKept n t (if _ then _ else _)
    split
    · next h => exact stopEnabled_drainKept n t h
    · exact DrainKept.refl n t
  exact (((hlost.trans hstop).trans (setbStat_drainKept n u m (i := 4) (by decide) true)).trans
    (lostEntry_drainKept n _ m)).trans (raise_drainKept n _ _)

theorem coalesce_drainKept (n : Nat) (s : State) (m : Nat) (noIrq : Bool) : DrainKept n s (s.coalesce m noIrq) := by
  unfold State.coalesce
  extract_lets x since t p
  have hcount : DrainKept n s t := by
    change DrainKept n s (if _ then _ else _)
    split
    · exact DrainKept.refl n s
    · exact DrainKept.of_regs rfl rfl rfl
  split
  · exact hcount
  · split
    · exact hcount.trans (ringSignal_drainKept n t m)
    · exact hcount

theorem xlWait_drainKept (n : Nat) (s t : State) : DrainKept n s (s.xlWait t) := DrainKept.of_regs rfl rfl rfl

theorem dropOp_drainKept (n : Nat) (s : State) (id : Nat) : DrainKept n s (s.dropOp id) := DrainKept.of_regs rfl rfl rfl

theorem ringRecord_drainKept (n : Nat) (s : State) (m no : Nat) (r : OpRes) : DrainKept n s (s.ringRecord m no r) :=
  DrainKept.of_regs rfl rfl rfl

theorem commitRing_drainKept (n : Nat) (s : State) (o : Op) (m no : Nat) (r : OpRes) : DrainKept n s (s.commitRing o m no r) := by
  have htail := offDrain_offset n (a := Reg.RING_CQ_TAIL m) (by simp only [Reg.RING_CQ_TAIL]; omega)
  have hops := offDrain_offset n (a := Reg.RING_OPS m) (by simp only [Reg.RING_OPS]; omega)
  have hops4 := offDrain_offset n (a := Reg.RING_OPS m + 4) (by simp only [Reg.RING_OPS]; omega)
  have hdups := offDrain_offset n (a := Reg.RING_DUPS m) (by simp only [Reg.RING_DUPS]; omega)
  unfold State.commitRing
  extract_lets r' s0 t a phase
  have hrecord : DrainKept n s t := (dropOp_drainKept n s o.id).trans (ringRecord_drainKept n _ m no r')
  split
  · exact hrecord.trans (lostEntry_drainKept n t m)
  · have hwrite := hrecord.trans (hostWrite1_drainKept n t { t.opCtx o ringInit with ro := false } a
      (completionEntry o.desc.reqId phase t.ns r'))
    split
    · next h =>
      split
      · exact xlWait_drainKept n s _
      · rw [h] at hwrite
        exact hwrite.trans (cplRefused_drainKept n _ m)
    · next v h =>
      rw [h] at hwrite
      extract_lets i v1 v2 v3 v4
      have h1 : DrainKept n v v1 := (RegsOnly.setf v 15 0 i htail).drainKept
      have h2 : DrainKept n v1 v2 := by
        change DrainKept n v1 (if _ then _ else _)
        split
        · exact setbStat_drainKept n v1 m (by decide) _
        · exact DrainKept.refl n v1
      have h3 : DrainKept n v2 v3 := (RegsOnly.addSat64 v2 1 hops hops4).drainKept
      have h4 : DrainKept n v3 v4 := by
        change DrainKept n v3 (if _ then _ else _)
        split
        · exact (RegsOnly.incSat v3 31 0 hdups).drainKept
        · exact DrainKept.refl n v3
      exact ((((hwrite.trans h1).trans h2).trans h3).trans h4).trans (coalesce_drainKept n v4 m _)

/-! ## Responses over BSP (R612, R638, R656 to R659) -/

theorem setPort_drainKept (n : Nat) (s : State) (p : Nat) (x : PortSt) : DrainKept n s (s.setPort p x) := by
  unfold State.setPort
  split
  · exact DrainKept.of_regs rfl rfl rfl
  · exact DrainKept.of_regs rfl rfl rfl

theorem portCount_drainKept (n : Nat) (s : State) (p i : Nat) : DrainKept n s (s.portCount p i) :=
  (RegsOnly.addSat64 s 1 (offDrain_outside n (by simp only [Reg.PORT_CTR]; omega))
    (offDrain_outside n (by simp only [Reg.PORT_CTR]; omega))).drainKept

theorem pushTxts_drainKept (n : Nat) (s : State) (p qns : Nat) (f : Bytes) (o ty : Nat) :
    DrainKept n s (s.pushTxts p qns f o ty) := by
  unfold State.pushTxts
  simp only
  split
  · exact (portCount_drainKept n s p 7).trans (raise_drainKept n _ _)
  · exact (setPort_drainKept n s p _).trans (raise_drainKept n _ _)

theorem wireTx_drainKept (n : Nat) (s : State) (p : Nat) (f : Bytes) : DrainKept n s (s.wireTx p f) := by
  have hsend : ∀ (t : State) (g : Bytes), DrainKept n t ((t.portCount p 5).emit (.frame p (g ++ fcs g))) := fun t g =>
    (portCount_drainKept n t p 5).trans (DrainKept.of_regs rfl rfl rfl)
  unfold State.wireTx
  simp only
  split
  · split
    · exact hsend s _
    · exact (pushTxts_drainKept n s p _ f _ _).trans (hsend _ _)
  · exact hsend s _

theorem portSend_drainKept (n : Nat) (s : State) (p : Nat) (f : Bytes) (prio : Nat) : DrainKept n s (s.portSend p f prio) := by
  unfold State.portSend
  simp only
  split
  · exact DrainKept.refl n s
  · split
    · exact wireTx_drainKept n s p f
    · exact setPort_drainKept n s p _

theorem bspSend_drainKept (n : Nat) (s : State) (a : BspAddr) (pay : Bytes) : DrainKept n s (s.bspSend a pay) := by
  unfold State.bspSend
  exact (portSend_drainKept n _ _ _ _).after rfl rfl rfl

theorem sendProtected_drainKept (n : Nat) (s : State) (id type opcode status reqId frag : Nat) (body : Bytes) :
    DrainKept n s (s.sendProtected id type opcode status reqId frag body) := by
  unfold State.sendProtected
  split
  · exact DrainKept.refl n s
  · exact (bspSend_drainKept n _ _ _).after rfl rfl rfl

theorem sendFragments_drainKept (n id type opcode status reqId len k i : Nat) (s : State) (b : Bytes) :
    DrainKept n s (State.sendFragments id type opcode status reqId len k i s b) := by
  induction k generalizing i s b with
  | zero => exact DrainKept.refl n s
  | succ k ih =>
    unfold State.sendFragments
    split
    · exact sendProtected_drainKept n s _ _ _ _ _ _ b
    · exact (sendProtected_drainKept n s _ _ _ _ _ _ _).trans (ih _ _ _)

theorem bspRespond_drainKept (n : Nat) (s : State) (id opcode reqId status bytesOut r0 r1 : Nat) (output : Bytes) :
    DrainKept n s (s.bspRespond id opcode reqId status bytesOut r0 r1 output) := by
  unfold State.bspRespond
  split
  · exact DrainKept.refl n s
  · exact sendFragments_drainKept n _ _ _ _ _ _ _ _ s _

theorem keepResult_drainKept (n : Nat) (s : State) (id seq : Nat) (r : OpRes) : DrainKept n s (s.keepResult id seq r) := by
  unfold State.keepResult
  split
  · exact DrainKept.refl n s
  · exact DrainKept.of_regs rfl rfl rfl

theorem answerDups_drainKept (n : Nat) (s : State) (id seq : Nat) : DrainKept n s (s.answerDups id seq) := by
  unfold State.answerDups
  split
  · exact DrainKept.refl n s
  · split
    · exact DrainKept.refl n s
    · exact (DrainKept.foldl (fun t _ => bspRespond_drainKept n t _ _ _ _ _ _ _ _) _ _).after rfl rfl rfl

theorem endSession_drainKept (n : Nat) (s : State) (id : Nat) : DrainKept n s (s.endSession id) := by
  unfold State.endSession
  split
  · exact DrainKept.refl n s
  · simp only
    split
    · exact (raise_drainKept n _ 267).after rfl rfl rfl
    · exact DrainKept.of_regs rfl rfl rfl

theorem closeIfIdle_drainKept (n : Nat) (s : State) (id : Nat) : DrainKept n s (s.closeIfIdle id) := by
  unfold State.closeIfIdle
  split
  · split
    · exact (sendProtected_drainKept n s _ _ _ _ _ _ _).trans (endSession_drainKept n _ id)
    · exact DrainKept.refl n s
  · exact DrainKept.refl n s

theorem holdTx_drainKept (n : Nat) (s t : State) (o : Op) : DrainKept n s (s.holdTx t o) := by
  unfold State.holdTx
  split
  · exact DrainKept.refl n s
  · simp only
    split
    · split
      · exact setPort_drainKept n s _ _
      · exact DrainKept.refl n s
    · exact DrainKept.refl n s

theorem commitBsp_drainKept (n : Nat) (s : State) (o : Op) (id seq : Nat) (r : OpRes) : DrainKept n s (s.commitBsp o id seq r) := by
  unfold State.commitBsp
  extract_lets t u v w
  have hkeep : DrainKept n s t := keepResult_drainKept n s id seq r
  have hrespond : DrainKept n t u := (bspRespond_drainKept n t _ _ _ _ _ _ _ _).trans (holdTx_drainKept n _ t o)
  have hdups : DrainKept n u v := answerDups_drainKept n u id seq
  have hdrop : DrainKept n v w := DrainKept.of_regs rfl rfl rfl
  exact (((hkeep.trans hrespond).trans hdups).trans hdrop).trans (closeIfIdle_drainKept n w id)

/-! ## Ending operations (R442, R586) -/

theorem authCount_drainKept (n : Nat) (s : State) (r : OpRes) : DrainKept n s (s.authCount r) := by
  have hcount : ∀ {a : Nat}, a < 0x1400B0000 → ∀ m, DrainKept n s ((s.incSat a 31 0).raiseLimited m) := fun ha m =>
    (RegsOnly.incSat s 31 0 (offDrain_outside n (.inl ha))).drainKept.trans (raiseLimited_drainKept n _ m)
  unfold State.authCount
  split
  · exact DrainKept.refl n s
  · split
    · exact hcount (by decide) 326
    · split
      · exact hcount (by decide) 329
      · exact DrainKept.refl n s

theorem floCount_drainKept (n : Nat) (s : State) (opcode : Nat) : DrainKept n s (s.floCount opcode) :=
  (RegsOnly.addSat64 s 1 (offDrain_outside n (by simp only [Reg.FLO_OPS]; omega))
    (offDrain_outside n (by simp only [Reg.FLO_OPS]; omega))).drainKept

/-- The two counts that go before an operation's result. -/
theorem counts_drainKept (n : Nat) (s : State) (o : Op) (r : OpRes) :
    DrainKept n s ((if r.engine = 0x30 then s.floCount o.desc.opcode else s).authCount r) := by
  refine DrainKept.trans ?_ (authCount_drainKept n _ r)
  split
  · exact floCount_drainKept n s _
  · exact DrainKept.refl n s

theorem commit_drainKept (n : Nat) (s : State) (id : Nat) : DrainKept n s (s.commit id) := by
  unfold State.commit
  split
  · exact DrainKept.refl n s
  · next o _ =>
    split
    · exact DrainKept.refl n s
    · next r _ =>
      split
      · next m no _ =>
        split
        · exact DrainKept.refl n s
        · have hfill := zeroFill_drainKept n s o
          split
          · exact xlWait_drainKept n s _
          · next t h =>
            rw [h] at hfill
            extract_lets u
            split
            · exact xlWait_drainKept n s u
            · exact (hfill.trans (counts_drainKept n t o r)).trans (commitRing_drainKept n _ o m no r)
      · next i seq _ _ =>
        extract_lets t
        have hfill : DrainKept n s t := by
          refine DrainKept.trans ?_ (zeroFill_drainKept n _ o)
          split
          · exact floCount_drainKept n s _
          · exact DrainKept.refl n s
        exact (hfill.trans (authCount_drainKept n t r)).trans (commitBsp_drainKept n _ _ i seq r)

theorem setRes_drainKept (n : Nat) (s : State) (id : Nat) (r : OpRes) : DrainKept n s (s.setRes id r) := by
  unfold State.setRes
  split
  · exact DrainKept.of_regs rfl rfl rfl
  · exact DrainKept.refl n s

theorem finish_drainKept (n : Nat) (s : State) (id status : Nat) : DrainKept n s (s.finish id status) := by
  unfold State.finish
  split
  · split
    · exact DrainKept.refl n s
    · exact ((setRes_drainKept n _ id _).trans (commit_drainKept n _ id)).after rfl rfl rfl
  · exact DrainKept.refl n s

theorem abortWaiting_drainKept (n : Nat) (s : State) (m : Nat) : DrainKept n s (s.abortWaiting m) := by
  refine DrainKept.foldl (fun t o => ?_) _ s
  split
  · exact DrainKept.refl n t
  · exact finish_drainKept n t o.id _

/-! ## Disabling a ring pair (R586, R589) -/

/-- The state in which ring pair `n` has begun to drain: ENABLE is clear, the cycle's record names the pair, and it is DRAINING. -/
def State.beginDrain (s : State) (n : Nat) : State :=
  let t := s.setb (Reg.RING_CTL n) 31 false
  State.setRingState { t with cyc := { t.cycNow with closed := n :: t.cycNow.closed } } n 2

theorem beginDrain_state (s : State) (n : Nat) : (s.beginDrain n).ringState n = 2 :=
  State.fld_setf_same _ _ _ _ _ (by decide) (by decide)

theorem beginDrain_enable (s : State) (n : Nat) : (s.beginDrain n).bit (Reg.RING_CTL n) 31 = false :=
  (bit_of_rd (State.rd_setf_ne _ 31 30 2 (ctl_ne_stat n n)) 31).trans (State.bit_setb_same s _ 31 false (by decide))

theorem CycleSt.of_at (c : CycleSt) (now : Nat) : (c.of now).at_ = now := by
  unfold CycleSt.of
  split
  · next h => exact h
  · rfl

theorem beginDrain_closed (s : State) (n : Nat) : n ∈ (s.beginDrain n).cycNow.closed := by
  have hnow : (s.beginDrain n).cycNow = (s.beginDrain n).cyc := if_pos (CycleSt.of_at _ _)
  rw [hnow]
  exact List.mem_cons_self

theorem beginDrain_regsOnly (s : State) (n : Nat) : RegsOnly (among [Reg.RING_CTL n, Reg.RING_STAT n]) s (s.beginDrain n) :=
  ((RegsOnly.setb s 31 false (by simp [among])).trans (RegsOnly.cyc _ _ _)).trans (RegsOnly.setf _ 31 30 2 (by simp [among]))

theorem exec_ringDisable (s : State) {n : Nat} (hn : n < 128) (hstate : s.ringState n = 1 ∨ s.ringState n = 3) :
    exec (.ringDisable n) s = .next ((s.beginDrain n).abortWaiting n) := by
  have hkept : (s.setb (Reg.RING_CTL n) 31 false).ringState n = s.ringState n :=
    fld_of_rd (State.rd_setb_ne s 31 false (ctl_ne_stat n n).symm) _ _
  rw [← hkept] at hstate
  simp only [exec, execRingDisable, if_neg (Nat.not_le.mpr hn), if_pos hstate]
  rfl

theorem ringDisable_drains (s : State) (n : Nat) (hn : n < 128) (hstate : s.ringState n = 1 ∨ s.ringState n = 3) :
    Yields (.ringDisable n) s fun t =>
      t.ringState n = 2 ∧ t.bit (Reg.RING_CTL n) 31 = false ∧ t.mem = s.mem ∧ t.otp = s.otp ∧
      ∃ u : State, t = u.abortWaiting n ∧ u.ringState n = 2 ∧ u.bit (Reg.RING_CTL n) 31 = false ∧ n ∈ u.cycNow.closed ∧
        RegsOnly (among [Reg.RING_CTL n, Reg.RING_STAT n]) s u := by
  have habort := abortWaiting_drainKept n (s.beginDrain n) n
  exact ⟨_, exec_ringDisable s hn hstate, habort.draining (beginDrain_state s n), (bit_of_rd habort.ctl 31).trans (beginDrain_enable s n),
    habort.mem, habort.otp, s.beginDrain n, rfl, beginDrain_state s n, beginDrain_enable s n, beginDrain_closed s n,
    beginDrain_regsOnly s n⟩

/-- Settles O35: the doorbells by what they write, ENABLE by its code, and draining by the relation `DrainKept` over every
operation that it ends. -/
theorem ringsAndDoorbells : Obligations.RingsAndDoorbells := by
  unfold Obligations.RingsAndDoorbells
  refine ⟨⟨fun s f k n v hsh hring hon => ⟨?_, ringDbSq_refused s v hsh hring hon, ringDbCq_moves s v hsh hring hon,
      ringDbCq_tooLarge s v hsh hring hon, ringDbCq_pastTail s v hsh hring hon⟩, ringDbSq_shadowed, ringDbCq_shadowed⟩,
    ringEnable_enables, ringEnable_refused, ringDisable_drains, ringDbSq_closed, ringDrained_disables, coalesceTimerExpiry_signals⟩
  exact ringDbSq_moves s v hsh (show _ = some n by rw [hring]; rfl) hon

end Sys2Proof.Machine
end

section
/-! PROOFS. Chapter 16: Quill's table commands, validation, swap, the winning rule and the rate classes. -/

namespace Sys2Proof.Machine

/-! ## Registers and the state of the classifier -/

theorem eventReg_quilCtl : eventReg Reg.QUIL_CTL = false := by decide

theorem eventReg_quilStat : eventReg Reg.QUIL_STAT = false := by decide

theorem RegsOnly.withQuil {w : Nat → Bool} {s t : State} (h : RegsOnly w s t) (q : QuilSt) :
    RegsOnly w { s with quil := q } { t with quil := q } := ⟨by rw [h.1], h.2⟩

theorem RegsOnly.quil {w : Nat → Bool} {s t : State} (h : RegsOnly w s t) : t.quil = s.quil := (congrArg State.quil h.1 :)

theorem EventOnly.quil {w : Nat → Bool} {s t : State} (h : EventOnly w s t) : t.quil = s.quil := (congrArg State.quil h.1 :)

/-- The words staged for a table entry do not share a register with QUIL_TBL_CMD. -/
theorem tblData_ne_cmd (w : Nat) : Reg.QUIL_TBL_DATA w ≠ Reg.QUIL_TBL_CMD := by
  simp only [Reg.QUIL_TBL_DATA, Reg.QUIL_TBL_CMD]
  omega

theorem tblData_inj {v w : Nat} (hv : v < 34) (hw : w < 34) (h : v ≠ w) : Reg.QUIL_TBL_DATA v ≠ Reg.QUIL_TBL_DATA w := by
  simp only [Reg.QUIL_TBL_DATA]
  omega

theorem quilWords_le (table : Nat) : quilWords table ≤ 34 := by
  unfold quilWords
  split <;> omega

theorem quilSize_le (table : Nat) : quilSize table ≤ 4096 := by
  unfold quilSize
  split <;> omega

/-- Two table words share a key only where they are the same word of the same entry. -/
theorem quilKey_ne {b tb k w b' tb' k' w' : Nat} (htb : tb < 4) (hk : k < 4096) (hw : w < 64) (htb' : tb' < 4) (hk' : k' < 4096)
    (hw' : w' < 64) (h : b ≠ b' ∨ tb ≠ tb' ∨ k ≠ k' ∨ w ≠ w') : quilKey b tb k w ≠ quilKey b' tb' k' w' := by
  simp only [quilKey]
  omega

/-! ## Several writes of a table, one key after the other -/

section Writes

variable {α : Type} [DecidableEq α] (d : Nat → α) (key : Nat → Nat) (val : Nat → α)

/-- A table after the keys `key 0` to `key (n - 1)` have been written. -/
def Tab.setMany (n : Nat) (t : Tab α) : Tab α := (List.range n).foldl (fun t w => Tab.set d t (key w) (val w)) t

theorem Tab.setMany_succ (n : Nat) (t : Tab α) :
    Tab.setMany d key val (n + 1) t = Tab.set d (Tab.setMany d key val n t) (key n) (val n) := by
  simp only [Tab.setMany, List.range_succ, List.foldl_append, List.foldl_cons, List.foldl_nil]

theorem Tab.get_setMany_ne (n : Nat) (t : Tab α) {a : Nat} (h : ∀ w < n, a ≠ key w) :
    Tab.get d (Tab.setMany d key val n t) a = Tab.get d t a := by
  induction n with
  | zero => rfl
  | succ n ih =>
    rw [Tab.setMany_succ, Tab.get_set_ne d _ _ (h n (Nat.lt_succ_self n))]
    exact ih fun w hw => h w (Nat.lt_succ_of_lt hw)

theorem Tab.get_setMany_same {n : Nat} (t : Tab α) (hinj : ∀ v < n, ∀ w < n, v ≠ w → key v ≠ key w) {w : Nat} (hw : w < n) :
    Tab.get d (Tab.setMany d key val n t) (key w) = val w := by
  induction n with
  | zero => exact absurd hw (Nat.not_lt_zero w)
  | succ n ih =>
    rw [Tab.setMany_succ]
    obtain rfl | hlt := Nat.eq_or_lt_of_le (Nat.le_of_lt_succ hw)
    · exact Tab.get_set_same d _ _ _
    · rw [Tab.get_set_ne d _ _ (hinj w hw n (Nat.lt_succ_self n) (Nat.ne_of_lt hlt))]
      exact ih (fun v hv w hw => hinj v (Nat.lt_succ_of_lt hv) w (Nat.lt_succ_of_lt hw)) hlt

end Writes

/-- Registers written one after the other. -/
theorem foldl_wr (key : Nat → Nat) (val : Nat → Word) (n : Nat) (s : State) :
    (List.range n).foldl (fun x w => x.wr (key w) (val w)) s =
      { s with regs := Tab.setMany Reg.reset key val n s.regs } := by
  induction n with
  | zero => rfl
  | succ n ih =>
    rw [Tab.setMany_succ, List.range_succ, List.foldl_append, ih]
    rfl

/-! ## Writes of table entries (R695, R696) -/

/-- The bank that QUIL_TBL_SEL names. -/
abbrev State.selBank (s : State) : Nat := s.fld Reg.QUIL_TBL_SEL 28 28

/-- The table that QUIL_TBL_SEL names. -/
abbrev State.selTable (s : State) : Nat := s.fld Reg.QUIL_TBL_SEL 27 24

/-- The index that QUIL_TBL_SEL names. -/
abbrev State.selIndex (s : State) : Nat := s.fld Reg.QUIL_TBL_SEL 11 0

/-- The words staged for an entry. -/
abbrev State.staged (s : State) : List Word := (List.range 34).map fun w => s.rd (Reg.QUIL_TBL_DATA w)

theorem fld_lt (s : State) (a hi lo : Nat) : s.fld a hi lo < 2 ^ (hi + 1 - lo) := Nat.mod_lt _ (Nat.two_pow_pos _)

theorem selBank_lt (s : State) : s.selBank < 2 := fld_lt s _ 28 28

theorem staged_getD (s : State) {w : Nat} (hw : w < 34) : s.staged.getD w 0 = s.rd (Reg.QUIL_TBL_DATA w) := by
  simp [State.staged, List.getD, hw]

/-- A table command that records its RESULT and does nothing else. -/
theorem Yields.tblResult {c : Instr} {s : State} {v : Nat} (hv : v < 4)
    (hexec : exec c s = .next (s.setf Reg.QUIL_TBL_CMD 29 28 v)) :
    Yields c s fun t => t.fld Reg.QUIL_TBL_CMD 29 28 = v ∧ RegsOnly (among [Reg.QUIL_TBL_CMD]) s t :=
  ⟨_, hexec, (State.fld_setf_same s _ 29 28 v (by decide) (by decide)).trans (Nat.mod_eq_of_lt hv),
    RegsOnly.setf s 29 28 v (among_self _)⟩

/-- The selected entry takes the staged words, its bank loses VALID, and RESULT is 0. -/
def State.enterStaged (s : State) : State :=
  (((s.noteBank s.selBank).setQuilEntry s.selBank s.selTable s.selIndex s.staged).setb Reg.QUIL_STAT (1 + s.selBank) false).setf
    Reg.QUIL_TBL_CMD 29 28 0

/-- A write of an entry that lies in its table: refused for its bank, a pending section or its writer, in this order, or entered. -/
theorem exec_quilTblWrite_entry (s : State) (p : Party) (htable : s.selTable < 4) (hi : s.selIndex < quilSize s.selTable) :
    exec (.quilTblWrite p) s = .next
      (if s.quilActive = s.selBank then s.setf Reg.QUIL_TBL_CMD 29 28 1
      else if s.quilPending = true then s.setf Reg.QUIL_TBL_CMD 29 28 2
      else if s.quilDenied p s.selBank s.selTable s.selIndex s.staged = true then s.setf Reg.QUIL_TBL_CMD 29 28 3
      else s.enterStaged) := by
  change execQuilTblWrite p s = _
  have hin : ¬ (quilSize s.selTable ≤ s.selIndex ∨ 4 < s.selTable) := by omega
  simp only [execQuilTblWrite, if_neg (Nat.ne_of_lt htable), if_neg hin]
  split
  · rfl
  · split
    · rfl
    · split <;> rfl

/-- A write that names no entry, the model's choice (log entry 64), or table 4 with a word other than zero, writes no table. -/
theorem exec_quilTblWrite_outside (s : State) (p : Party) (hout : 4 < s.selTable ∨
      s.selTable < 4 ∧ quilSize s.selTable ≤ s.selIndex ∨ s.selTable = 4 ∧ s.rd (Reg.QUIL_TBL_DATA 0) ≠ 0) :
    exec (.quilTblWrite p) s = .next (s.setf Reg.QUIL_TBL_CMD 29 28 0) := by
  change execQuilTblWrite p s = _
  by_cases h4 : s.selTable = 4
  · have hdata : s.staged.getD 0 0 ≠ 0 := by
      rw [staged_getD s (by decide)]
      simpa [h4] using hout
    simp only [execQuilTblWrite, if_pos h4, if_neg hdata]
  · have hin : quilSize s.selTable ≤ s.selIndex ∨ 4 < s.selTable := by omega
    simp only [execQuilTblWrite, if_neg h4, if_pos hin]

theorem noteBank_regsOnly (w : Nat → Bool) (s : State) (bank : Nat) : RegsOnly w s (s.noteBank bank) := by
  unfold State.noteBank
  simp only
  split
  · exact RegsOnly.refl w s
  · exact RegsOnly.cyc w s _

theorem setQuilEntry_tab (s : State) (bank table i : Nat) (d : List Word) :
    (s.setQuilEntry bank table i d).quil.tab =
      Tab.setMany zeroWord (quilKey bank table i) (d.getD · 0) (quilWords table) s.quil.tab := rfl

/-- The entry written holds the words given. -/
theorem quilBank_setQuilEntry_same (s : State) (bank i : Nat) {table w : Nat} (d : List Word) (htable : table < 4) (hi : i < 4096)
    (hw : w < quilWords table) : (s.setQuilEntry bank table i d).quilBank bank table i w = d.getD w 0 := by
  have h34 := quilWords_le table
  rw [State.quilBank, setQuilEntry_tab]
  exact Tab.get_setMany_same _ (quilKey bank table i) (d.getD · 0) _
    (fun v hv w hw hne => quilKey_ne htable hi (by omega) htable hi (by omega) (.inr (.inr (.inr hne)))) hw

/-- Every other entry keeps its words. -/
theorem quilBank_setQuilEntry_ne (s : State) {bank table i b tb k w : Nat} (d : List Word) (htable : table < 4) (hi : i < 4096)
    (htb : tb < 4) (hk : k < 4096) (hw : w < 64) (hne : b ≠ bank ∨ tb ≠ table ∨ k ≠ i) :
    (s.setQuilEntry bank table i d).quilBank b tb k w = s.quilBank b tb k w := by
  have h34 := quilWords_le table
  rw [State.quilBank, setQuilEntry_tab]
  exact Tab.get_setMany_ne _ (quilKey bank table i) (d.getD · 0) _ _
    fun v hv => quilKey_ne htb hk hw htable hi (by omega) (by omega)

theorem enterStaged_regsOnly (s : State) :
    RegsOnly (among [Reg.QUIL_TBL_CMD, Reg.QUIL_STAT]) { s with quil := { s.quil with tab := s.enterStaged.quil.tab } }
      s.enterStaged := by
  have hnote := noteBank_regsOnly (among [Reg.QUIL_TBL_CMD, Reg.QUIL_STAT]) s s.selBank
  have hquil : ((s.noteBank s.selBank).setQuilEntry s.selBank s.selTable s.selIndex s.staged).quil =
      { s.quil with tab := s.enterStaged.quil.tab } := by
    simp only [State.enterStaged, State.setQuilEntry, hnote.quil, State.setf_quil, State.setb_quil]
  refine RegsOnly.trans ?_ ((RegsOnly.setb ((s.noteBank s.selBank).setQuilEntry s.selBank s.selTable s.selIndex s.staged)
    (1 + s.selBank) false (by decide)).trans (RegsOnly.setf _ 29 28 0 (by decide)))
  rw [← hquil]
  exact hnote.withQuil _

/-- An entry write that nothing refuses (R695, R696). -/
theorem quilTblWrite_enters (s : State) (p : Party) (htable : s.selTable < 4) (hi : s.selIndex < quilSize s.selTable)
    (hact : s.quilActive ≠ s.selBank) (hpend : s.quilPending = false)
    (hden : s.quilDenied p s.selBank s.selTable s.selIndex s.staged = false) : Yields (.quilTblWrite p) s fun t =>
      (∀ w : Nat, w < quilWords s.selTable → t.quilBank s.selBank s.selTable s.selIndex w = s.rd (Reg.QUIL_TBL_DATA w)) ∧
      (∀ b tb k w : Nat, tb < 4 → k < 4096 → w < 64 → (b ≠ s.selBank ∨ tb ≠ s.selTable ∨ k ≠ s.selIndex) →
        t.quilBank b tb k w = s.quilBank b tb k w) ∧
      t.quilValid s.selBank = false ∧ t.fld Reg.QUIL_TBL_CMD 29 28 = 0 ∧
      RegsOnly (among [Reg.QUIL_TBL_CMD, Reg.QUIL_STAT]) { s with quil := { s.quil with tab := t.quil.tab } } t := by
  have hexec := exec_quilTblWrite_entry s p htable hi
  rw [if_neg hact, if_neg (by simp [hpend]), if_neg (by simp [hden])] at hexec
  have hbank := selBank_lt s
  have hi' := Nat.lt_of_lt_of_le hi (quilSize_le _)
  refine ⟨_, hexec, fun w hw => ?_, fun b tb k w htb hk hw hne => ?_, ?_, State.fld_setf_same _ _ 29 28 0 (by decide) (by decide),
    enterStaged_regsOnly s⟩
  · rw [← staged_getD s (Nat.lt_of_lt_of_le hw (quilWords_le _))]
    exact quilBank_setQuilEntry_same _ _ _ _ htable hi' hw
  · refine (quilBank_setQuilEntry_ne (s.noteBank s.selBank) s.staged htable hi' htb hk hw hne).trans ?_
    rw [State.quilBank, (noteBank_regsOnly (fun _ => false) s s.selBank).quil]
    rfl
  · exact (bit_of_rd (State.rd_setf_ne _ 29 28 0 (by decide)) _).trans (State.bit_setb_same _ _ _ _ (by omega))

/-- The counter of the rule that QUIL_TBL_SEL names is cleared, as the record of the cycle notes. -/
def State.clearHits (s : State) : State :=
  State.noteClear { s with quil := { s.quil with hits := Tab.set (fun _ => 0) s.quil.hits (s.selBank * 4096 + s.selIndex) 0 } }
    (hitKey (s.selBank * 4096 + s.selIndex))

/-- A write of table 4 with a zero word clears the counter of the rule that QUIL_TBL_SEL names (R697). -/
theorem quilTblWrite_clears (s : State) (p : Party) (htable : s.selTable = 4) (hdata : s.rd (Reg.QUIL_TBL_DATA 0) = 0) :
    Yields (.quilTblWrite p) s fun t =>
      Tab.get (fun _ => 0) t.quil.hits (s.selBank * 4096 + s.selIndex) = 0 ∧
      RegsOnly (among [Reg.QUIL_TBL_CMD]) { s with quil := { s.quil with hits := t.quil.hits } } t := by
  have hzero : s.staged.getD 0 0 = 0 := (staged_getD s (by decide)).trans hdata
  have hexec : exec (.quilTblWrite p) s = .next (s.clearHits.setf Reg.QUIL_TBL_CMD 29 28 0) := by
    change execQuilTblWrite p s = _
    simp only [execQuilTblWrite, if_pos htable, if_pos hzero]
    rfl
  exact ⟨_, hexec, Tab.get_set_same (fun _ => 0) s.quil.hits _ 0,
    (RegsOnly.cyc _ _ _).trans (RegsOnly.setf s.clearHits 29 28 0 (among_self _))⟩

/-! ## Reads of table entries (R697) -/

/-- The registers that a read of an entry writes. -/
def tblReadReg (a : Nat) : Bool := a == Reg.QUIL_TBL_CMD || (List.range 34).any fun w => a == Reg.QUIL_TBL_DATA w

theorem tblReadReg_data (w : Nat) : tblReadReg (Reg.QUIL_TBL_DATA w) = true := by
  rw [tblReadReg, Bool.or_eq_true]
  exact .inr (List.any_eq_true.mpr ⟨w % 34, List.mem_range.mpr (Nat.mod_lt _ (by decide)), by simp⟩)

/-- The selected entry's words in the data words. -/
def State.readStaged (s : State) : State :=
  (List.range (quilWords s.selTable)).foldl
    (fun x w => x.wr (Reg.QUIL_TBL_DATA w) (s.quilBank s.selBank s.selTable s.selIndex w)) s

theorem readStaged_rd (s : State) {w : Nat} (hw : w < quilWords s.selTable) :
    s.readStaged.rd (Reg.QUIL_TBL_DATA w) = s.quilBank s.selBank s.selTable s.selIndex w := by
  have h34 := quilWords_le s.selTable
  rw [State.readStaged, foldl_wr]
  exact Tab.get_setMany_same Reg.reset (fun w => Reg.QUIL_TBL_DATA w) _ s.regs
    (fun v hv w hw hne => tblData_inj (by omega) (by omega) hne) hw

theorem readStaged_regsOnly (s : State) : RegsOnly tblReadReg s s.readStaged :=
  foldl_related (RegsOnly.refl _) RegsOnly.trans (fun s w => RegsOnly.wr s _ (tblReadReg_data w)) _ s

theorem exec_quilTblRead_entry (s : State) (htable : s.selTable < 4) (hi : s.selIndex < quilSize s.selTable) :
    exec .quilTblRead s = .next (s.readStaged.setf Reg.QUIL_TBL_CMD 29 28 0) := by
  change execQuilTblRead s = _
  have hin : s.selTable ≤ 3 ∧ s.selIndex < quilSize s.selTable := ⟨Nat.le_of_lt_succ htable, hi⟩
  simp only [execQuilTblRead, if_neg (Nat.ne_of_lt htable), if_pos hin]
  rfl

theorem quilTblRead_reads (s : State) (htable : s.selTable < 4) (hi : s.selIndex < quilSize s.selTable) :
    Yields .quilTblRead s fun t =>
      (∀ w : Nat, w < quilWords s.selTable → t.rd (Reg.QUIL_TBL_DATA w) = s.quilBank s.selBank s.selTable s.selIndex w) ∧
      t.fld Reg.QUIL_TBL_CMD 29 28 = 0 ∧ RegsOnly tblReadReg s t :=
  ⟨_, exec_quilTblRead_entry s htable hi, fun w hw => (State.rd_setf_ne _ 29 28 0 (tblData_ne_cmd w)).trans (readStaged_rd s hw),
    State.fld_setf_same _ _ 29 28 0 (by decide) (by decide), (readStaged_regsOnly s).trans (RegsOnly.setf _ 29 28 0 (by decide))⟩

theorem quilTblRead_counts (s : State) (htable : s.selTable = 4) : Yields .quilTblRead s fun t =>
    t.rd64 (Reg.QUIL_TBL_DATA 0) = BitVec.ofNat 64 (Tab.get (fun _ => 0) s.quil.hits (s.selBank * 4096 + s.selIndex)) ∧
    RegsOnly (among (Reg.QUIL_TBL_CMD :: wide (Reg.QUIL_TBL_DATA 0))) s t := by
  have hexec : exec .quilTblRead s = .next ((s.wr64 (Reg.QUIL_TBL_DATA 0)
      (BitVec.ofNat 64 (Tab.get (fun _ => 0) s.quil.hits (s.selBank * 4096 + s.selIndex)))).setf Reg.QUIL_TBL_CMD 29 28 0) := by
    change execQuilTblRead s = _
    simp only [execQuilTblRead, if_pos htable]
  exact ⟨_, hexec, (rd64_setf_ne _ 29 28 0 (by decide) (by decide)).trans (State.rd64_wr64_same s _ _),
    (RegsOnly.wr64 s _ (by decide) (by decide)).trans (RegsOnly.setf _ 29 28 0 (by decide))⟩

/-! ## Validation (R698) -/

theorem quilValidate_starts (s : State) (hidle : s.quil.validating = none) : Yields .quilValidate s fun t =>
    t.bit Reg.QUIL_CTL 30 = true ∧
    RegsOnly (among [Reg.QUIL_CTL]) { s with quil := { s.quil with validating := some (1 - s.quilActive) } } t := by
  have hexec : exec .quilValidate s = .next
      (State.setb { s with quil := { s.quil with validating := some (1 - s.quilActive) } } Reg.QUIL_CTL 30 true) := by
    change execQuilValidate s = _
    rw [execQuilValidate, hidle]
  exact ⟨_, hexec, State.bit_setb_same _ _ 30 true (by decide), RegsOnly.setb _ 30 true (among_self _)⟩

/-- A second VALIDATE is ignored while one runs, the model's choice (log entry 45). -/
theorem quilValidate_ignored (s : State) (hbusy : s.quil.validating ≠ none) : exec .quilValidate s = .next s := by
  obtain ⟨b, hb⟩ := Option.ne_none_iff_exists'.mp hbusy
  change execQuilValidate s = _
  rw [execQuilValidate, hb]

theorem find?_range_lt {n i : Nat} {f : Nat → Bool} (h : (List.range n).find? f = some i) : i < n :=
  List.mem_range.mp (List.mem_of_find?_eq_some h)

theorem graphFault_lt {t : QuilTab} {i : Nat} (h : graphFault t = some i) : i < 64 := by
  unfold graphFault at h
  split at h
  · obtain rfl := Option.some.inj h
    decide
  · split at h
    · next j hj =>
      obtain rfl := Option.some.inj h
      exact find?_range_lt hj
    · exact find?_range_lt h

theorem entryFault_lt {t : QuilTab} {r : Nat} (h : entryFault t = some r) : r < 4096 := by
  unfold entryFault at h
  exact find?_range_lt h

/-- A verdict and its index fit RESULT and DETAIL of QUIL_CTL. -/
theorem quilVerdict_lt (t : QuilTab) : (quilVerdict t).1 < 16 ∧ (quilVerdict t).2 < 4096 := by
  unfold quilVerdict
  split
  · next i hi => exact ⟨show 2 < 16 by decide, Nat.lt_trans (graphFault_lt hi) (by decide)⟩
  · split
    · next r hr => exact ⟨show 3 < 16 by decide, entryFault_lt hr⟩
    · decide

/-- The verdict `v` on bank `b` in QUIL_CTL and QUIL_STAT, its validation over. -/
def State.recordVerdict (s : State) (b : Nat) (v : Nat × Nat) : State :=
  (((State.setb { s with quil := { s.quil with validating := none } } Reg.QUIL_CTL 30 false).setf Reg.QUIL_CTL 15 12 v.1).setf
    Reg.QUIL_CTL 11 0 v.2).setb Reg.QUIL_STAT (1 + b) (v.1 == 0)

theorem exec_quilValidateDone (s : State) {b : Nat} (hb : s.quil.validating = some b) :
    exec .quilValidateDone s = .next ((s.recordVerdict b (quilVerdict (s.quilBank b))).raise 295) := by
  change execQuilValidateDone s = _
  rw [execQuilValidateDone, hb]
  rfl

theorem recordVerdict_regsOnly (s : State) (b : Nat) (v : Nat × Nat) :
    RegsOnly (among [Reg.QUIL_CTL, Reg.QUIL_STAT]) { s with quil := { s.quil with validating := none } } (s.recordVerdict b v) :=
  (RegsOnly.setb _ 30 false (by decide)).trans ((RegsOnly.setf _ 15 12 _ (by decide)).trans
    ((RegsOnly.setf _ 11 0 _ (by decide)).trans (RegsOnly.setb _ (1 + b) _ (by decide))))

/-- VALIDATE, RESULT and DETAIL as the verdict leaves them. -/
theorem recordVerdict_ctl (s : State) (b : Nat) {v : Nat × Nat} (h1 : v.1 < 16) (h2 : v.2 < 4096) :
    (s.recordVerdict b v).bit Reg.QUIL_CTL 30 = false ∧ (s.recordVerdict b v).fld Reg.QUIL_CTL 15 12 = v.1 ∧
    (s.recordVerdict b v).fld Reg.QUIL_CTL 11 0 = v.2 := by
  have hstat : (s.recordVerdict b v).rd Reg.QUIL_CTL = _ := State.rd_setb_ne _ (1 + b) (v.1 == 0) (by decide)
  rw [bit_of_rd hstat, fld_of_rd hstat, fld_of_rd hstat]
  refine ⟨?_, ?_, ?_⟩
  · rw [bit_setf_same_ne _ _ 11 0 v.2 (by decide), bit_setf_same_ne _ _ 15 12 v.1 (by decide)]
    exact State.bit_setb_same _ _ 30 false (by decide)
  · rw [State.fld, State.rd_setf_same, fieldOf_setFieldOf_ne _ _ _ _ _ _ (by decide)]
    exact (State.fld_setf_same _ _ 15 12 v.1 (by decide) (by decide)).trans (Nat.mod_eq_of_lt h1)
  · exact (State.fld_setf_same _ _ 11 0 v.2 (by decide) (by decide)).trans (Nat.mod_eq_of_lt h2)

theorem quilValidateDone_records (s : State) (b : Nat) (hb : s.quil.validating = some b) (hb2 : b < 2) :
    Yields .quilValidateDone s fun t =>
      t.quil = { s.quil with validating := none } ∧ t.bit Reg.QUIL_CTL 30 = false ∧
      t.fld Reg.QUIL_CTL 15 12 = (quilVerdict (s.quilBank b)).1 ∧ t.fld Reg.QUIL_CTL 11 0 = (quilVerdict (s.quilBank b)).2 ∧
      t.quilValid b = ((quilVerdict (s.quilBank b)).1 == 0) ∧ t.evtStatus 295 = true ∧
      EventOnly (among [Reg.QUIL_CTL, Reg.QUIL_STAT]) { s with quil := t.quil } t := by
  have hexec := exec_quilValidateDone s hb
  obtain ⟨hresult, hdetail⟩ := quilVerdict_lt (s.quilBank b)
  generalize quilVerdict (s.quilBank b) = v at hexec hresult hdetail ⊢
  have honly := (recordVerdict_regsOnly s b v).eventOnly.trans (raise_eventOnly _ _ 295)
  obtain ⟨hdone, hres, hdet⟩ := recordVerdict_ctl s b hresult hdetail
  have hctl : ((s.recordVerdict b v).raise 295).rd Reg.QUIL_CTL = _ := raise_rd _ eventReg_quilCtl
  refine ⟨_, hexec, honly.quil, (bit_of_rd hctl 30).trans hdone, (fld_of_rd hctl 15 12).trans hres,
    (fld_of_rd hctl 11 0).trans hdet, ?_, raise_status_same _ _, ?_⟩
  · exact (bit_of_rd (raise_rd _ eventReg_quilStat) _).trans (State.bit_setb_same _ _ _ _ (by omega))
  · rw [honly.quil]
    exact honly

/-! ## Swaps (R699, Table QUI-10) -/

/-- SWAP runs the swap after TARGET has been stored, and then records its RESULT; what it notes of the cycle is left open. -/
theorem exec_quilCtlSwap (s u : State) {b code : Nat} (hb : b < 2) (hswap : (s.setf Reg.QUIL_CTL 16 16 b).quilSwap b = (u, code)) :
    ∃ c : CycleSt, exec (.quilCtlSwap b) s = .next (State.setf { u with cyc := c } Reg.QUIL_CTL 15 12 code) := by
  refine ⟨{ u.cycNow with quilReg := some (b, (s.setf Reg.QUIL_CTL 16 16 b).quilActive != u.quilActive) }, ?_⟩
  change execQuilCtlSwap b s = _
  simp only [execQuilCtlSwap, Nat.mod_eq_of_lt hb, hswap]
  rfl

theorem target_quilStat (s : State) (b : Nat) : (s.setf Reg.QUIL_CTL 16 16 b).rd Reg.QUIL_STAT = s.rd Reg.QUIL_STAT :=
  State.rd_setf_ne s 16 16 b (by decide)

theorem target_quilActive (s : State) (b : Nat) : (s.setf Reg.QUIL_CTL 16 16 b).quilActive = s.quilActive :=
  fld_of_rd (target_quilStat s b) 0 0

theorem target_quilValid (s : State) (b c : Nat) : (s.setf Reg.QUIL_CTL 16 16 b).quilValid c = s.quilValid c :=
  bit_of_rd (target_quilStat s b) _

/-- What RESULT's write after a swap leaves of the other registers and of the swap's state. -/
theorem swapResult_regsOnly (u : State) (c : CycleSt) (code : Nat) :
    RegsOnly (among [Reg.QUIL_CTL]) u (State.setf { u with cyc := c } Reg.QUIL_CTL 15 12 code) :=
  (RegsOnly.cyc _ u c).trans (RegsOnly.setf _ 15 12 code (among_self _))

theorem swapResult_code (u : State) (c : CycleSt) {code : Nat} (h : code < 16) :
    (State.setf { u with cyc := c } Reg.QUIL_CTL 15 12 code).fld Reg.QUIL_CTL 15 12 = code :=
  (State.fld_setf_same _ _ 15 12 code (by decide) (by decide)).trans (Nat.mod_eq_of_lt h)

theorem swapResult_rd (u : State) (c : CycleSt) (code : Nat) {a : Nat} (h : a ≠ Reg.QUIL_CTL) :
    (State.setf { u with cyc := c } Reg.QUIL_CTL 15 12 code).rd a = u.rd a :=
  State.rd_setf_ne { u with cyc := c } 15 12 code h

theorem quilCtlSwap_active (s : State) (b : Nat) (hb : b < 2) (hact : s.quilActive = b) : Yields (.quilCtlSwap b) s fun t =>
    t.fld Reg.QUIL_CTL 15 12 = 0 ∧ t.fld Reg.QUIL_CTL 16 16 = b ∧ RegsOnly (among [Reg.QUIL_CTL]) s t := by
  obtain ⟨c, hexec⟩ := exec_quilCtlSwap s (s.setf Reg.QUIL_CTL 16 16 b) hb (if_pos ((target_quilActive s b).trans hact))
  refine ⟨_, hexec, swapResult_code _ c (by decide), ?_,
    (RegsOnly.setf s 16 16 b (among_self _)).trans (swapResult_regsOnly _ c 0)⟩
  rw [State.fld, State.rd_setf_same, fieldOf_setFieldOf_ne _ _ _ _ _ _ (by decide)]
  exact (State.fld_setf_same s _ 16 16 b (by decide) (by decide)).trans (Nat.mod_eq_of_lt hb)

/-- A swap that takes effect: bank `b` is active, its section is no longer pending, and source 294 is raised. -/
def State.takeBank (s : State) (b : Nat) : State := ((s.setf Reg.QUIL_STAT 0 0 b).shadowTake 7).raise 294

/-- A swap towards the other bank, once a write of this cycle has been taken back. -/
theorem quilSwap_inactive (s : State) (b : Nat) (hact : s.quilActive ≠ b) :
    s.quilSwap b = if (!(s.unwriteBank b).quilValid b || (s.unwriteBank b).quil.validating == some b) = true
      then (s.unwriteBank b, 1) else ((s.unwriteBank b).takeBank b, 0) := if_neg hact

theorem shadowTake_regsOnly (s : State) (code : Nat) :
    RegsOnly (among [Reg.DUCT_LIVE_STAT]) { s with duct := (s.shadowTake code).duct } (s.shadowTake code) := by
  unfold State.shadowTake
  split
  · exact RegsOnly.setb { s with duct := _ } code false (among_self _)
  · exact RegsOnly.setb s code false (among_self _)

theorem shadowTake_pending (s : State) {code : Nat} (h : code < 32) :
    (s.shadowTake code).bit Reg.DUCT_LIVE_STAT code = false := by
  unfold State.shadowTake
  split
  · exact State.bit_setb_same _ _ code false h
  · exact State.bit_setb_same _ _ code false h

theorem takeBank_eventOnly (s : State) (b : Nat) :
    EventOnly (among [Reg.QUIL_STAT, Reg.DUCT_LIVE_STAT]) { s with duct := (s.takeBank b).duct } (s.takeBank b) := by
  have hduct : (s.takeBank b).duct = ((s.setf Reg.QUIL_STAT 0 0 b).shadowTake 7).duct :=
    (raise_eventOnly (fun _ => false) _ 294).duct
  have hstat : RegsOnly (among [Reg.QUIL_STAT, Reg.DUCT_LIVE_STAT]) s (s.setf Reg.QUIL_STAT 0 0 b) :=
    RegsOnly.setf s 0 0 b (by decide)
  have htake := (shadowTake_regsOnly (s.setf Reg.QUIL_STAT 0 0 b) 7).eventOnly.mono
    (w' := among [Reg.QUIL_STAT, Reg.DUCT_LIVE_STAT]) (fun a ha => by simp_all [among])
  rw [hduct]
  exact ((hstat.withDuct _).eventOnly.trans htake).trans (raise_eventOnly _ _ 294)

/-- After its new ACTIVE, nothing of a swap writes QUIL_STAT. -/
theorem takeBank_quilStat (s : State) (b : Nat) :
    (s.takeBank b).rd Reg.QUIL_STAT = (s.setf Reg.QUIL_STAT 0 0 b).rd Reg.QUIL_STAT :=
  (raise_rd _ eventReg_quilStat).trans ((shadowTake_regsOnly _ 7).2 _ (by decide))

theorem takeBank_active (s : State) {b : Nat} (hb : b < 2) : (s.takeBank b).quilActive = b :=
  (fld_of_rd (takeBank_quilStat s b) 0 0).trans
    ((State.fld_setf_same s _ 0 0 b (by decide) (by decide)).trans (Nat.mod_eq_of_lt hb))

theorem takeBank_valid (s : State) (b c : Nat) : (s.takeBank b).quilValid c = s.quilValid c :=
  (bit_of_rd (takeBank_quilStat s b) _).trans (bit_setf_same_ne s _ 0 0 b (.inr (by omega)))

theorem takeBank_pending (s : State) (b : Nat) : (s.takeBank b).quilPending = false :=
  (bit_of_rd (raise_rd _ eventReg_liveStat) 7).trans (shadowTake_pending _ (by decide))

theorem takeBank_status (s : State) (b : Nat) : (s.takeBank b).evtStatus 294 = true := raise_status_same _ _

theorem eventStatus_ne_quilCtl (n : Nat) : Reg.EVT_STATUS n ≠ Reg.QUIL_CTL := by
  simp only [Reg.EVT_STATUS, Reg.QUIL_CTL]
  omega

/-- SWAP to a bank that may become active, `u` being the state with TARGET stored and a write of the cycle taken back. -/
theorem quilCtlSwap_takes (s u : State) {b : Nat} (hb : b < 2) (hact : s.quilActive ≠ b)
    (hu : (s.setf Reg.QUIL_CTL 16 16 b).unwriteBank b = u) (hvalid : u.quilValid b = true) (hidle : u.quil.validating ≠ some b) :
    Yields (.quilCtlSwap b) s fun t =>
      RegsOnly (among [Reg.QUIL_CTL]) (u.takeBank b) t ∧ t.fld Reg.QUIL_CTL 15 12 = 0 ∧ t.quilActive = b ∧
      t.quilValid b = true ∧ t.quilPending = false ∧ t.evtStatus 294 = true := by
  have hswap := quilSwap_inactive (s.setf Reg.QUIL_CTL 16 16 b) b (by rwa [target_quilActive])
  rw [hu, if_neg (by simp [hvalid, hidle])] at hswap
  obtain ⟨c, hexec⟩ := exec_quilCtlSwap s _ hb hswap
  have hrd := fun {a : Nat} (h : a ≠ Reg.QUIL_CTL) => swapResult_rd (u.takeBank b) c 0 h
  exact ⟨_, hexec, swapResult_regsOnly _ c 0, swapResult_code _ c (by decide),
    (fld_of_rd (hrd (by decide)) 0 0).trans (takeBank_active u hb),
    (bit_of_rd (hrd (by decide)) _).trans ((takeBank_valid u b b).trans hvalid),
    (bit_of_rd (hrd (by decide)) 7).trans (takeBank_pending u b),
    (bit_of_rd (hrd (eventStatus_ne_quilCtl _)) _).trans (takeBank_status u b)⟩

/-- A write of bank `b` in this cycle is taken back, VALID with it, and refused. -/
theorem unwriteBank_written (s : State) {b : Nat} {tab : Tab Word} (hb : b < 2) (h : s.cycNow.quilWrote = some (b, tab, true)) :
    (s.unwriteBank b).quil = { s.quil with tab := tab } ∧ (s.unwriteBank b).quilValid b = true ∧
    (s.unwriteBank b).fld Reg.QUIL_TBL_CMD 29 28 = 1 := by
  have hback : s.unwriteBank b = (State.setb { s with quil := { s.quil with tab := tab }, cyc := { s.cycNow with quilWrote := none } }
      Reg.QUIL_STAT (1 + b) true).setf Reg.QUIL_TBL_CMD 29 28 1 := by
    unfold State.unwriteBank
    simp only [show (s.cyc.of s.stime.cycle).quilWrote = _ from h, and_self, if_true]
    rfl
  rw [hback]
  exact ⟨rfl, (bit_of_rd (State.rd_setf_ne _ 29 28 1 (by decide)) _).trans (State.bit_setb_same _ _ _ _ (by omega)),
    State.fld_setf_same _ _ 29 28 1 (by decide) (by decide)⟩

theorem unwriteBank_none (s : State) (b : Nat) (h : s.cycNow.quilWrote = none) : s.unwriteBank b = s := by
  unfold State.unwriteBank
  simp only [show (s.cyc.of s.stime.cycle).quilWrote = _ from h]

theorem quilCtlSwap_overWrite (s : State) (b : Nat) (tab : Tab Word) (hb : b < 2) (hact : s.quilActive ≠ b)
    (hwrote : s.cycNow.quilWrote = some (b, tab, true)) (hidle : s.quil.validating ≠ some b) : Yields (.quilCtlSwap b) s fun t =>
      t.quilActive = b ∧ t.quil = { s.quil with tab := tab } ∧ t.quilValid b = true ∧ t.fld Reg.QUIL_TBL_CMD 29 28 = 1 ∧
      t.fld Reg.QUIL_CTL 15 12 = 0 ∧ t.evtStatus 294 = true := by
  obtain ⟨hquil, hvalid, hcmd⟩ := unwriteBank_written (s.setf Reg.QUIL_CTL 16 16 b) hb hwrote
  generalize hu : (s.setf Reg.QUIL_CTL 16 16 b).unwriteBank b = u at hquil hvalid hcmd
  obtain ⟨t, hexec, honly, hcode, hactive, htvalid, -, hstatus⟩ := quilCtlSwap_takes s u hb hact hu hvalid (by rwa [hquil])
  have htake := takeBank_eventOnly u b
  exact ⟨t, hexec, hactive, (honly.quil.trans htake.quil).trans hquil, htvalid,
    (fld_of_rd ((honly.2 _ (by decide)).trans (htake.2 _ (by decide) (by decide))) 29 28).trans hcmd, hcode, hstatus⟩

theorem quilCtlSwap_takesValid (s : State) (b : Nat) (hb : b < 2) (hact : s.quilActive ≠ b) (hwrote : s.cycNow.quilWrote = none)
    (hvalid : s.quilValid b = true) (hidle : s.quil.validating ≠ some b) : Yields (.quilCtlSwap b) s fun t =>
      t.quilActive = b ∧ t.fld Reg.QUIL_CTL 15 12 = 0 ∧ t.evtStatus 294 = true ∧ t.quilPending = false ∧
      EventOnly (among [Reg.QUIL_CTL, Reg.QUIL_STAT, Reg.DUCT_LIVE_STAT]) { s with duct := t.duct } t := by
  obtain ⟨t, hexec, honly, hcode, hactive, -, hpend, hstatus⟩ := quilCtlSwap_takes s _ hb hact
    (unwriteBank_none (s.setf Reg.QUIL_CTL 16 16 b) b hwrote) ((target_quilValid s b b).trans hvalid) hidle
  refine ⟨t, hexec, hactive, hcode, hstatus, hpend, ?_⟩
  rw [show t.duct = _ from honly.eventOnly.duct]
  have htarget : RegsOnly (among [Reg.QUIL_CTL, Reg.QUIL_STAT, Reg.DUCT_LIVE_STAT]) s (s.setf Reg.QUIL_CTL 16 16 b) :=
    RegsOnly.setf s 16 16 b (by decide)
  exact ((htarget.withDuct _).eventOnly.trans ((takeBank_eventOnly _ b).mono fun a ha => by simp_all [among])).trans
    (honly.eventOnly.mono fun a ha => by simp_all [among])

theorem quilCtlSwap_refused (s : State) (b : Nat) (hb : b < 2) (hact : s.quilActive ≠ b) (hwrote : s.cycNow.quilWrote = none)
    (hno : s.quilValid b = false ∨ s.quil.validating = some b) : Yields (.quilCtlSwap b) s fun t =>
      t.quilActive = s.quilActive ∧ t.fld Reg.QUIL_CTL 15 12 = 1 ∧ RegsOnly (among [Reg.QUIL_CTL]) s t := by
  have hswap := quilSwap_inactive (s.setf Reg.QUIL_CTL 16 16 b) b (by rwa [target_quilActive])
  rw [unwriteBank_none (s.setf Reg.QUIL_CTL 16 16 b) b hwrote, target_quilValid, if_pos (by simpa using hno)] at hswap
  obtain ⟨c, hexec⟩ := exec_quilCtlSwap s _ hb hswap
  have honly := (RegsOnly.setf s 16 16 b (among_self _)).trans (swapResult_regsOnly (s.setf Reg.QUIL_CTL 16 16 b) c 1)
  exact ⟨_, hexec, fld_of_rd (honly.2 _ (by decide)) 0 0, swapResult_code _ c (by decide), honly⟩

/-! ## The winning rule (R681) -/

/-- Rule `r` goes before rule `q`: a lower PRIORITY, or the same and an index no higher. -/
def goesBefore (t : QuilTab) (r q : Nat) : Prop :=
  fieldOf (t 1 r 0) 27 24 < fieldOf (t 1 q 0) 27 24 ∨ (fieldOf (t 1 r 0) 27 24 = fieldOf (t 1 q 0) 27 24 ∧ r ≤ q)

theorem goesBefore.refl (t : QuilTab) (r : Nat) : goesBefore t r r := .inr ⟨rfl, Nat.le_refl r⟩

theorem goesBefore.trans {t : QuilTab} {r p q : Nat} (h : goesBefore t r p) (k : goesBefore t p q) : goesBefore t r q := by
  unfold goesBefore at *
  omega

/-- Of the best rule so far and a later one, the better is one of the two and goes before both. -/
theorem betterRule_some (t : QuilTab) {b x : Nat} (h : b < x) :
    ∃ r, betterRule t (some b) x = some r ∧ (r = b ∨ r = x) ∧ goesBefore t r b ∧ goesBefore t r x := by
  unfold betterRule goesBefore
  simp only
  split
  · exact ⟨x, rfl, .inr rfl, by omega, by omega⟩
  · exact ⟨b, rfl, .inl rfl, by omega, by omega⟩

/-- The rule left at the end of rules in rising order is one of them and goes before them all. -/
theorem foldl_betterRule (t : QuilTab) (l : List Nat) (b : Nat) (hl : (b :: l).Pairwise (· < ·)) :
    ∃ r, l.foldl (betterRule t) (some b) = some r ∧ r ∈ b :: l ∧ ∀ q ∈ b :: l, goesBefore t r q := by
  induction l generalizing b with
  | nil => exact ⟨b, rfl, List.mem_cons_self, fun q hq => by rw [List.mem_singleton.mp hq]; exact goesBefore.refl t b⟩
  | cons x l ih =>
    obtain ⟨hb, hx⟩ := List.pairwise_cons.mp hl
    obtain ⟨m, hm, hmem, hmb, hmx⟩ := betterRule_some t (hb x List.mem_cons_self)
    have hrise : (m :: l).Pairwise (· < ·) := by
      rcases hmem with rfl | rfl
      · exact List.pairwise_cons.mpr ⟨fun q hq => hb q (List.mem_cons_of_mem x hq), hx.of_cons⟩
      · exact hx
    obtain ⟨r, hr, hrmem, hfirst⟩ := ih m hrise
    refine ⟨r, by rw [List.foldl_cons, hm, hr], ?_, fun q hq => ?_⟩
    · rcases List.mem_cons.mp hrmem with rfl | hrl
      · rcases hmem with rfl | rfl <;> simp
      · exact List.mem_cons_of_mem b (List.mem_cons_of_mem x hrl)
    · rcases List.mem_cons.mp hq with rfl | hq
      · exact (hfirst m List.mem_cons_self).trans hmb
      · rcases List.mem_cons.mp hq with rfl | hq
        · exact (hfirst m List.mem_cons_self).trans hmx
        · exact hfirst q (List.mem_cons_of_mem m hq)

theorem winnerOf_first (t : QuilTab) (hits : List Nat) (r : Nat) (hrise : hits.Pairwise (· < ·)) (hwin : winnerOf t hits = some r) :
    r ∈ hits ∧ (t 1 r 0).getLsbD 23 = false ∧ ∀ q ∈ hits, (t 1 q 0).getLsbD 23 = false → goesBefore t r q := by
  have hmem : ∀ q, q ∈ hits.filter (fun r => !(t 1 r 0).getLsbD 23) ↔ q ∈ hits ∧ (t 1 q 0).getLsbD 23 = false := by simp
  have hfilter := hrise.filter fun r => !(t 1 r 0).getLsbD 23
  unfold winnerOf at hwin
  generalize hits.filter (fun r => !(t 1 r 0).getLsbD 23) = l at hmem hfilter hwin
  cases l with
  | nil => exact absurd hwin (by simp)
  | cons b l =>
    obtain ⟨x, hx, hxmem, hfirst⟩ := foldl_betterRule t l b hfilter
    obtain rfl : x = r := Option.some.inj (hx.symm.trans hwin)
    obtain ⟨hxhits, hxcount⟩ := (hmem x).mp hxmem
    exact ⟨hxhits, hxcount, fun q hq hcount => hfirst q ((hmem q).mpr ⟨hq, hcount⟩)⟩

/-! ## Rate classes (R684) -/

/-- The state with other levels of the rate classes. -/
def State.withLevels (s : State) (l : List Int) : State := { s with quil := { s.quil with level := l } }

/-- The level that a refill gives an enabled class: its gain up to its depth, and then the debits of the same cycle. -/
def State.refillOf (s : State) (c : Nat) : Int :=
  match s.cycNow.quilDebits.find? (·.1 == c) with
  | some d => d.2.2.foldl debited (min (d.2.1 + (s.fld (Reg.QUIL_RATE c) 30 16 : Nat)) (s.rateDepth c))
  | none => min (s.quil.level.getD c 0 + (s.fld (Reg.QUIL_RATE c) 30 16 : Nat)) (s.rateDepth c)

/-- A refill of one class. -/
def State.refillClass (s : State) (c : Nat) : State := if s.bit (Reg.QUIL_RATE c) 31 then s.setLevel c (s.refillOf c) else s

/-- The level of class `c` after a refill. -/
def State.refilledLevel (s : State) (c : Nat) : Int :=
  if s.bit (Reg.QUIL_RATE c) 31 then s.refillOf c else s.quil.level.getD c 0

theorem exec_quilRateRefill (s : State) : exec .quilRateRefill s = .next ((List.range 16).foldl State.refillClass s) := by
  change execQuilRateRefill s = _
  have hstep : ∀ (t : State) (c : Nat), t.refillClass c = if t.bit (Reg.QUIL_RATE c) 31 then
      (let d := ((t.cyc.of t.stime.cycle).quilDebits.find? (·.1 == c)).map (·.2)
      let was := (d.map (·.1)).getD (t.quil.level.getD c 0)
      let full := min (was + (t.fld (Reg.QUIL_RATE c) 30 16 : Nat)) (t.rateDepth c)
      t.setLevel c (((d.map (·.2)).getD []).foldl debited full))
    else t := fun t c => by
    unfold State.refillClass State.refillOf State.cycNow
    cases (t.cyc.of t.stime.cycle).quilDebits.find? (·.1 == c) <;> rfl
  rw [execQuilRateRefill, show State.refillClass = _ from funext fun t => funext fun c => hstep t c]

theorem getD_set_ne (l : List Int) {c k : Nat} (v : Int) (h : k ≠ c) : (l.set c v).getD k 0 = l.getD k 0 := by
  simp [List.getD, List.getElem?_set_ne (Ne.symm h)]

theorem getD_set_same (l : List Int) {c : Nat} (v : Int) (h : c < l.length) : (l.set c v).getD c 0 = v := by
  simp [List.getD, h]

/-- A class's refill is the same whatever the levels of the other classes are. -/
theorem refillClass_withLevels (s : State) {l : List Int} {c : Nat} (h : l.getD c 0 = s.quil.level.getD c 0) :
    (s.withLevels l).refillClass c = s.withLevels (if s.bit (Reg.QUIL_RATE c) 31 then l.set c (s.refilledLevel c) else l) := by
  have hrefill : (s.withLevels l).refillOf c = s.refillOf c := by
    unfold State.refillOf
    rw [show (s.withLevels l).quil.level = l from rfl, h]
    rfl
  unfold State.refillClass State.refilledLevel
  rw [hrefill]
  by_cases hen : s.bit (Reg.QUIL_RATE c) 31 = true
  · rw [if_pos hen, if_pos hen]
    exact if_pos hen
  · rw [if_neg hen]
    exact if_neg hen

/-- The first `n` classes refilled, one after the other. -/
theorem foldl_refillClass (s : State) {n : Nat} (hn : n ≤ s.quil.level.length) :
    ∃ l : List Int, (List.range n).foldl State.refillClass s = s.withLevels l ∧ l.length = s.quil.level.length ∧
      (∀ c < n, l.getD c 0 = s.refilledLevel c) ∧ ∀ c, n ≤ c → l.getD c 0 = s.quil.level.getD c 0 := by
  induction n with
  | zero => exact ⟨s.quil.level, rfl, rfl, fun c hc => absurd hc (Nat.not_lt_zero c), fun c _ => rfl⟩
  | succ n ih =>
    obtain ⟨l, hfold, hlen, hdone, hrest⟩ := ih (Nat.le_of_succ_le hn)
    rw [List.range_succ, List.foldl_append, hfold, List.foldl_cons, List.foldl_nil,
      refillClass_withLevels s (hrest n (Nat.le_refl n))]
    refine ⟨_, rfl, ?_, fun c hc => ?_, fun c hc => ?_⟩
    · split
      · rw [List.length_set, hlen]
      · exact hlen
    · by_cases hcn : c = n
      · subst hcn
        split
        · exact getD_set_same l _ (by omega)
        · next hoff => rw [hrest c (Nat.le_refl c), State.refilledLevel, if_neg hoff]
      · have hlt : c < n := by omega
        split
        · rw [getD_set_ne l _ hcn, hdone c hlt]
        · exact hdone c hlt
    · split
      · rw [getD_set_ne l _ (by omega), hrest c (by omega)]
      · exact hrest c (by omega)

theorem quilRateRefill_refills (s : State) (hlen : s.quil.level.length = 16) : Yields .quilRateRefill s fun t =>
    (∀ c : Nat, c < 16 → t.quil.level.getD c 0 = s.refilledLevel c) ∧
    t = { s with quil := { s.quil with level := t.quil.level } } := by
  obtain ⟨l, hfold, -, hdone, -⟩ := foldl_refillClass s (n := 16) (Nat.le_of_eq hlen.symm)
  exact ⟨_, (exec_quilRateRefill s).trans (congrArg _ hfold), hdone, rfl⟩

theorem exec_quilRateWrite (s : State) {c : Nat} (v : Word) (hc : c < 16) : exec (.quilRateWrite c v) s = .next
    (if v.getLsbD 31 = true ∧ s.bit (Reg.QUIL_RATE c) 31 = false then
      (s.wr (Reg.QUIL_RATE c) v).setLevel c ((s.wr (Reg.QUIL_RATE c) v).rateDepth c) else s.wr (Reg.QUIL_RATE c) v) := by
  change execQuilRateWrite c v s = _
  simp only [execQuilRateWrite, if_neg (Nat.not_le.mpr hc), Bool.and_eq_true, Bool.not_eq_true']

theorem quilRateWrite_fills (s : State) (c : Nat) (v : Word) (hc : c < 16) (hlen : s.quil.level.length = 16) :
    Yields (.quilRateWrite c v) s fun t =>
      t.rd (Reg.QUIL_RATE c) = v ∧
      (v.getLsbD 31 = true → s.bit (Reg.QUIL_RATE c) 31 = false → t.quil.level.getD c 0 = 4096 * (fieldOf v 15 0 : Nat)) ∧
      (∀ k : Nat, k ≠ c → t.quil.level.getD k 0 = s.quil.level.getD k 0) ∧
      RegsOnly (among [Reg.QUIL_RATE c]) { s with quil := { s.quil with level := t.quil.level } } t := by
  have hwr : RegsOnly (among [Reg.QUIL_RATE c]) s (s.wr (Reg.QUIL_RATE c) v) := RegsOnly.wr s v (among_self _)
  have hrd := State.rd_wr_same s (Reg.QUIL_RATE c) v
  refine ⟨_, exec_quilRateWrite s v hc, ?_⟩
  split
  · have hdepth : (s.wr (Reg.QUIL_RATE c) v).rateDepth c = 4096 * (fieldOf v 15 0 : Nat) := by rw [State.rateDepth, State.fld, hrd]
    exact ⟨hrd, fun _ _ => (getD_set_same _ _ (by simpa [hlen] using hc)).trans hdepth, fun k hk => getD_set_ne _ _ hk,
      hwr.withQuil _⟩
  · next hkeep => exact ⟨hrd, fun hon hwas => absurd ⟨hon, hwas⟩ hkeep, fun k _ => rfl, hwr⟩

/-- Settles O48: the table commands by their RESULT, validation and swap by what they record, the winner by induction over the
matching rules, and the refill by induction over the classes. -/
theorem quillTables : Obligations.QuillTables := by
  unfold Obligations.QuillTables
  refine ⟨⟨?_, ?_, quilTblWrite_clears, quilTblRead_counts, quilValidate_starts, quilValidate_ignored, quilValidateDone_records,
    quilCtlSwap_active, quilCtlSwap_overWrite, fun s b hb hact hwrote => ⟨quilCtlSwap_takesValid s b hb hact hwrote,
      quilCtlSwap_refused s b hb hact hwrote⟩⟩, winnerOf_first, quilRateRefill_refills, quilRateWrite_fills⟩
  · rintro s p _ _ _ rfl rfl rfl htable hi d
    have hexec := exec_quilTblWrite_entry s p htable hi
    refine ⟨fun hact => ?_, fun hact hpend => ?_, fun hact hpend hden => ?_, quilTblWrite_enters s p htable hi,
      quilTblRead_reads s htable hi⟩
    · exact Yields.tblResult (by decide) (by rwa [if_pos hact] at hexec)
    · exact Yields.tblResult (by decide) (by rwa [if_neg hact, if_pos hpend] at hexec)
    · exact Yields.tblResult (by decide) (by rwa [if_neg hact, if_neg (by simp [hpend]), if_pos hden] at hexec)
  · rintro s p _ rfl hout
    exact Yields.tblResult (by decide) (exec_quilTblWrite_outside s p hout)

end Sys2Proof.Machine
end

section
/-! PROOFS. Chapter 17: the end of BLOT's erase, the crystal, the battery, the acknowledgement and the loss of power. -/

namespace Sys2Proof.Machine

/-! ## Registers and the parts of the state that the Blotter domain writes -/

theorem eventReg_blotStat : eventReg Reg.BLOT_STAT = false := by decide

theorem eventReg_blotSense : eventReg Reg.BLOT_SENSE = false := by decide

theorem EventOnly.blot {w : Nat → Bool} {s t : State} (h : EventOnly w s t) : t.blot = s.blot := (congrArg State.blot h.1 :)

theorem EventOnly.colo {w : Nat → Bool} {s t : State} (h : EventOnly w s t) : t.colo = s.colo := (congrArg State.colo h.1 :)

theorem rd64_of_rd {s t : State} {a : Nat} (h : t.rd a = s.rd a) (h4 : t.rd (a + 4) = s.rd (a + 4)) : t.rd64 a = s.rd64 a := by
  rw [State.rd64, State.rd64, h, h4]

/-- A bit beside the one that the hardware sets or clears. -/
theorem bit_setb_same_ne (s : State) (a : Nat) {i j : Nat} (b : Bool) (h : j ≠ i) : (s.setb a i b).bit a j = s.bit a j :=
  bit_setf_same_ne s a i i b.toNat (Nat.lt_or_gt_of_ne h)

/-- A register in the range that returns to its reset values. -/
theorem rd_resetRegs_within (s : State) {lo hi a : Nat} (hlo : lo ≤ a) (hhi : a < hi) : (s.resetRegs lo hi).rd a = Reg.reset a := by
  rw [State.resetRegs, State.rd, Tab.get_clear, if_pos (by simp [hlo, hhi])]

/-- An addition to a count of the Colophon changes the Colophon alone. -/
theorem accAdd_colo (s : State) (off w n : Nat) : ∃ c : ColoSt, s.accAdd off w n = { s with colo := c } := by
  unfold State.accAdd
  split
  · exact ⟨_, rfl⟩
  · exact ⟨s.colo, rfl⟩

/-- A reading folded into the extremes changes the Colophon alone. -/
theorem accExt_colo (s : State) (i : Nat) (v : Int) : ∃ c : ColoSt, s.accExt i v = { s with colo := c } := by
  unfold State.accExt
  split
  · exact ⟨_, rfl⟩
  · exact ⟨s.colo, rfl⟩

/-! ## The end of the erase (R727) and of the pulse on BLOT_OUT_N (R730) -/

/-- Counting tamper causes changes the Colophon alone. -/
theorem countTampers_colo (l : List Nat) (s : State) : ∃ c : ColoSt, l.foldl State.countTamper s = { s with colo := c } :=
  foldl_related (R := fun s t => ∃ c : ColoSt, t = { s with colo := c }) (fun s => ⟨s.colo, rfl⟩)
    (fun ⟨_, h⟩ ⟨d, k⟩ => ⟨d, by rw [k, h]⟩) (fun s _ => accAdd_colo s _ 2 1) l s

theorem eraseDone_time (s : State) : s.eraseDone.rd64 Reg.RSV_ERASE_TIME = s.stime.ns := by
  rw [State.eraseDone, rd64_of_rd (raise_rd _ (by decide)) (raise_rd _ (by decide)), State.rd64_wr64_same, State.ns,
    BitVec.ofNat_toNat, BitVec.setWidth_eq]

theorem eraseDone_eventOnly (s : State) : EventOnly (among (wide Reg.RSV_ERASE_TIME)) s s.eraseDone :=
  (RegsOnly.wr64 s _ (by decide) (by decide)).eventOnly.trans (raise_eventOnly _ _ 355)

theorem exec_blotEraseDone (s : State) {l : List Nat} (herase : s.blot.erasing = some l) (hup : s.pwr.mainUp = true) :
    ∃ c : ColoSt, exec .blotEraseDone s =
      .next ((State.eraseDone { s with blot := { s.blot with erasing := none }, colo := c }).raise 448) := by
  obtain ⟨c, hcount⟩ := countTampers_colo l { s with blot := { s.blot with erasing := none } }
  refine ⟨c, ?_⟩
  change execBlotEraseDone s = _
  rw [execBlotEraseDone, herase]
  simp only [hcount]
  rw [if_pos hup]

theorem blotEraseDone_ends (s : State) (l : List Nat) (herase : s.blot.erasing = some l) (hup : s.pwr.mainUp = true) :
    Yields .blotEraseDone s fun t =>
      t.blot = { s.blot with erasing := none } ∧ t.evtStatus 448 = true ∧ t.rd64 Reg.RSV_ERASE_TIME = s.stime.ns ∧
      EventOnly (among (wide Reg.RSV_ERASE_TIME)) { s with blot := t.blot, colo := t.colo } t := by
  obtain ⟨c, hexec⟩ := exec_blotEraseDone s herase hup
  have honly := (eraseDone_eventOnly { s with blot := { s.blot with erasing := none }, colo := c }).trans
    (raise_eventOnly _ _ 448)
  refine ⟨_, hexec, honly.blot, raise_status_same _ _, ?_, ?_⟩
  · rw [rd64_of_rd (raise_rd _ (by decide)) (raise_rd _ (by decide)), eraseDone_time]
  · rw [honly.blot, honly.colo]
    exact honly

theorem blotOutRelease_rises (s : State) (hover : s.blot.outLeft = some 0) : Yields .blotOutRelease s fun t =>
    t.blot.outLeft = none ∧ t.out = s.out ++ [.pin .blotOutN true] ∧
    t = { s with blot := { s.blot with outLeft := none }, out := t.out } := ⟨_, if_pos hover, rfl, rfl, rfl⟩

/-! ## The crystal (R709, R710) -/

/-- The crystal in use again ends the cause CLOCK, the model's choice (log entry 36). -/
theorem crystalStable_clears (s : State) (halive : s.blot.alive = true) : Yields .crystalStable s fun t =>
    t.bit Reg.BLOT_STAT 25 = false ∧ t.tamperActive 14 = false ∧
    RegsOnly (among [Reg.BLOT_STAT, Reg.BLOT_ACTIVE]) s t := by
  refine ⟨_, if_pos halive, ?_, State.bit_setb_same _ _ 14 false (by decide), ?_⟩
  · exact (bit_of_rd (State.rd_setb_ne _ 14 false (by decide)) 25).trans (State.bit_setb_same s _ 25 false (by decide))
  · exact (RegsOnly.setb s 25 false (by decide)).trans (RegsOnly.setb _ 14 false (by decide))

theorem raiseUp_status (s : State) (n : Nat) (hup : s.pwr.mainUp = true) : (s.raiseUp n).evtStatus n = true := by
  rw [State.raiseUp, if_pos hup, raise_status_same]

theorem raiseUp_eventOnly (w : Nat → Bool) (s : State) (n : Nat) : EventOnly w s (s.raiseUp n) := by
  unfold State.raiseUp
  split
  · exact raise_eventOnly w s n
  · exact EventOnly.refl w s

/-- The stop of a crystal in use moves the clock, and is the cause CLOCK if XTAL_FITTED is set. -/
theorem exec_crystalStop (s : State) (halive : s.blot.alive = true) (huse : s.bit Reg.BLOT_STAT 25 = false) :
    exec .crystalStop s = .next
      (if ((s.setb Reg.BLOT_STAT 25 true).raiseUp 455).bit Reg.BLOT_CFG 31 = true then
        ((s.setb Reg.BLOT_STAT 25 true).raiseUp 455).blotDecide [14] []
      else (s.setb Reg.BLOT_STAT 25 true).raiseUp 455) := if_pos (by simp [halive, huse])

/-- Neither CLK_RC nor the event touches XTAL_FITTED. -/
theorem crystalStop_fitted (s : State) :
    ((s.setb Reg.BLOT_STAT 25 true).raiseUp 455).bit Reg.BLOT_CFG 31 = s.bit Reg.BLOT_CFG 31 :=
  (bit_of_rd ((raiseUp_eventOnly (fun _ => false) _ 455).2 _ rfl (by decide)) 31).trans
    (bit_of_rd (State.rd_setb_ne s 25 true (by decide)) 31)

theorem crystalStop_unfitted (s : State) (halive : s.blot.alive = true) (huse : s.bit Reg.BLOT_STAT 25 = false)
    (hfit : s.bit Reg.BLOT_CFG 31 = false) : Yields .crystalStop s fun t =>
      t.bit Reg.BLOT_STAT 25 = true ∧ (s.pwr.mainUp = true → t.evtStatus 455 = true) ∧
      EventOnly (among [Reg.BLOT_STAT]) s t := by
  have hexec := exec_crystalStop s halive huse
  rw [crystalStop_fitted, if_neg (by simp [hfit])] at hexec
  refine ⟨_, hexec, ?_, raiseUp_status (s.setb Reg.BLOT_STAT 25 true) 455, ?_⟩
  · exact (bit_of_rd ((raiseUp_eventOnly (fun _ => false) _ 455).2 _ rfl eventReg_blotStat) 25).trans
      (State.bit_setb_same s _ 25 true (by decide))
  · exact (RegsOnly.setb s 25 true (among_self _)).eventOnly.trans (raiseUp_eventOnly _ _ 455)

theorem crystalStop_decides (s : State) (halive : s.blot.alive = true) (huse : s.bit Reg.BLOT_STAT 25 = false)
    (hfit : s.bit Reg.BLOT_CFG 31 = true) :
    exec .crystalStop s = .next (((s.setb Reg.BLOT_STAT 25 true).raiseUp 455).blotDecide [14] []) := by
  rw [exec_crystalStop s halive huse, crystalStop_fitted, if_pos hfit]

/-! ## The battery (R708) -/

/-- The reading and the two flags of a battery at `mv` mV. -/
def State.showVbat (s : State) (mv : Nat) : State :=
  ((s.setf Reg.BLOT_SENSE 11 0 (min mv 4095)).setb Reg.BLOT_STAT 24 (decide (mv < 1000))).setb Reg.BLOT_STAT 23
    (decide (mv < 500))

theorem showVbat_regsOnly (s : State) (mv : Nat) : RegsOnly (among [Reg.BLOT_SENSE, Reg.BLOT_STAT]) s (s.showVbat mv) :=
  (RegsOnly.setf s 11 0 _ (by decide)).trans ((RegsOnly.setb _ 24 _ (by decide)).trans (RegsOnly.setb _ 23 _ (by decide)))

theorem showVbat_reading (s : State) (mv : Nat) : (s.showVbat mv).fld Reg.BLOT_SENSE 11 0 = min mv 4095 := by
  rw [State.showVbat, fld_of_rd (State.rd_setb_ne _ 23 _ (by decide)), fld_of_rd (State.rd_setb_ne _ 24 _ (by decide)),
    State.fld_setf_same _ _ _ _ _ (by decide) (by decide)]
  exact Nat.mod_eq_of_lt (by omega)

theorem showVbat_low (s : State) (mv : Nat) : (s.showVbat mv).bit Reg.BLOT_STAT 24 = decide (mv < 1000) :=
  (bit_setb_same_ne _ _ _ (by decide)).trans (State.bit_setb_same _ _ 24 _ (by decide))

theorem showVbat_absent (s : State) (mv : Nat) : (s.showVbat mv).bit Reg.BLOT_STAT 23 = decide (mv < 500) :=
  State.bit_setb_same _ _ 23 _ (by decide)

/-- A measurement shows the battery, counts it in the Colophon, and raises source 453 where VBAT_LOW becomes set. -/
theorem exec_vbatMeasure (s : State) (mv : Nat) (halive : s.blot.alive = true) : ∃ c : ColoSt,
    exec (.vbatMeasure mv) s = .next (if mv < 1000 ∧ s.bit Reg.BLOT_STAT 24 = false then
      State.raiseUp { s.showVbat mv with colo := c } 453 else { s.showVbat mv with colo := c }) := by
  obtain ⟨b, hadd⟩ := accAdd_colo (s.showVbat mv) (0xB0 + 4 * vbatBin mv) 4 1
  obtain ⟨c, hext⟩ := accExt_colo ((s.showVbat mv).accAdd (0xB0 + 4 * vbatBin mv) 4 1) 6 mv
  rw [hadd] at hext
  refine ⟨c, ?_⟩
  change execVbatMeasure mv s = _
  unfold State.showVbat at hadd hext ⊢
  rw [execVbatMeasure, if_neg (by simp [halive])]
  simp only [hadd, hext, Bool.not_eq_true']

theorem vbatMeasure_measures (s : State) (mv : Nat) (halive : s.blot.alive = true) : Yields (.vbatMeasure mv) s fun t =>
    t.fld Reg.BLOT_SENSE 11 0 = min mv 4095 ∧ t.bit Reg.BLOT_STAT 24 = decide (mv < 1000) ∧
    t.bit Reg.BLOT_STAT 23 = decide (mv < 500) ∧
    (mv < 1000 → s.bit Reg.BLOT_STAT 24 = false → s.pwr.mainUp = true → t.evtStatus 453 = true) ∧
    EventOnly (among [Reg.BLOT_SENSE, Reg.BLOT_STAT]) { s with colo := t.colo } t := by
  obtain ⟨c, hexec⟩ := exec_vbatMeasure s mv halive
  have hregs := ((showVbat_regsOnly s mv).withColo c).eventOnly
  refine ⟨_, hexec, ?_⟩
  split
  · next hset =>
    have hraise := fun w => raiseUp_eventOnly w { s.showVbat mv with colo := c } 453
    have hstat := (hraise fun _ => false).2 Reg.BLOT_STAT rfl eventReg_blotStat
    have hsense := (hraise fun _ => false).2 Reg.BLOT_SENSE rfl eventReg_blotSense
    refine ⟨(fld_of_rd hsense 11 0).trans (showVbat_reading s mv), (bit_of_rd hstat 24).trans (showVbat_low s mv),
      (bit_of_rd hstat 23).trans (showVbat_absent s mv), fun _ _ hup => raiseUp_status _ 453 ?_, ?_⟩
    · rw [show State.pwr { s.showVbat mv with colo := c } = s.pwr from rfl, hup]
    · rw [(hraise fun _ => false).colo]
      exact hregs.trans (hraise _)
  · next hkeep =>
    exact ⟨showVbat_reading s mv, showVbat_low s mv, showVbat_absent s mv, fun hlow hwas => absurd ⟨hlow, hwas⟩ hkeep, hregs⟩

/-! ## BLOT_ACK (R732) -/

/-- The registers that an acknowledgement clears. -/
abbrev blotAckReg : Nat → Bool :=
  among (Reg.BLOT_CAUSE :: Reg.BLOT_STAT :: Reg.BLOT_PCC :: wide Reg.BLOT_TIME ++ wide Reg.BLOT_OPSEC)

/-- BLOT_CAUSE is cleared, and LATCHED, POWER_LOST and FIRST_CAUSE in BLOT_STAT. -/
def State.clearCauses (s : State) : State :=
  (((s.wr Reg.BLOT_CAUSE 0).setb Reg.BLOT_STAT 31 false).setb Reg.BLOT_STAT 30 false).setf Reg.BLOT_STAT 5 0 63

/-- What the first cause captured is cleared. -/
def State.clearCapture (s : State) : State :=
  ((s.wr64 Reg.BLOT_TIME 0).wr64 Reg.BLOT_OPSEC 0).wr Reg.BLOT_PCC 0

theorem exec_blotAck_clears (s : State) (hquiet : s.rd Reg.BLOT_ACTIVE = 0) :
    exec (.blotAck .scribe 0xB107ACC0) s = .next s.clearCauses.clearCapture := by
  change execBlotAck _ _ s = _
  rw [execBlotAck, if_neg (by decide), if_neg (not_not_intro hquiet)]
  rfl

theorem clearCauses_regsOnly (s : State) : RegsOnly blotAckReg s s.clearCauses :=
  (RegsOnly.wr s 0 (by decide)).trans ((RegsOnly.setb _ 31 false (by decide)).trans
    ((RegsOnly.setb _ 30 false (by decide)).trans (RegsOnly.setf _ 5 0 63 (by decide))))

theorem clearCauses_cause (s : State) : s.clearCauses.rd Reg.BLOT_CAUSE = 0 := by
  rw [State.clearCauses, State.rd_setf_ne _ _ _ _ (by decide), State.rd_setb_ne _ _ _ (by decide),
    State.rd_setb_ne _ _ _ (by decide), State.rd_wr_same]

/-- LATCHED, POWER_LOST and FIRST_CAUSE after the acknowledgement; TIME_VALID stays (R732). -/
theorem clearCauses_stat (s : State) :
    s.clearCauses.bit Reg.BLOT_STAT 31 = false ∧ s.clearCauses.bit Reg.BLOT_STAT 30 = false ∧
    s.clearCauses.bit Reg.BLOT_STAT 27 = s.bit Reg.BLOT_STAT 27 ∧ s.clearCauses.fld Reg.BLOT_STAT 5 0 = 63 := by
  have hbit : ∀ i, 5 < i → s.clearCauses.bit Reg.BLOT_STAT i =
      (((s.wr Reg.BLOT_CAUSE 0).setb Reg.BLOT_STAT 31 false).setb Reg.BLOT_STAT 30 false).bit Reg.BLOT_STAT i :=
    fun i hi => bit_setf_same_ne _ _ 5 0 63 (Or.inr hi)
  refine ⟨?_, ?_, ?_, State.fld_setf_same _ _ 5 0 63 (by decide) (by decide)⟩
  · rw [hbit 31 (by decide), bit_setb_same_ne _ _ _ (by decide), State.bit_setb_same _ _ _ _ (by decide)]
  · rw [hbit 30 (by decide), State.bit_setb_same _ _ _ _ (by decide)]
  · rw [hbit 27 (by decide), bit_setb_same_ne _ _ _ (by decide), bit_setb_same_ne _ _ _ (by decide)]
    exact bit_of_rd (State.rd_wr_ne s 0 (by decide)) 27

theorem clearCapture_regsOnly {w : Nat → Bool} (s : State)
    (hw : ∀ a ∈ Reg.BLOT_PCC :: wide Reg.BLOT_TIME ++ wide Reg.BLOT_OPSEC, w a = true) : RegsOnly w s s.clearCapture :=
  (RegsOnly.wr64 s 0 (hw _ (by decide)) (hw _ (by decide))).trans
    ((RegsOnly.wr64 _ 0 (hw _ (by decide)) (hw _ (by decide))).trans (RegsOnly.wr _ 0 (hw _ (by decide))))

/-- A register that captures nothing of a first cause. -/
theorem clearCapture_rd (s : State) {a : Nat}
    (ha : among (Reg.BLOT_PCC :: wide Reg.BLOT_TIME ++ wide Reg.BLOT_OPSEC) a = false) : s.clearCapture.rd a = s.rd a :=
  (clearCapture_regsOnly s fun _ h => List.contains_iff_mem.mpr h).2 a ha

theorem clearCapture_clears (s : State) :
    s.clearCapture.rd64 Reg.BLOT_TIME = 0 ∧ s.clearCapture.rd64 Reg.BLOT_OPSEC = 0 ∧ s.clearCapture.rd Reg.BLOT_PCC = 0 := by
  have hpcc : ∀ (u : State) {a : Nat}, a ≠ Reg.BLOT_PCC → (u.wr Reg.BLOT_PCC 0).rd a = u.rd a :=
    fun u _ h => State.rd_wr_ne u 0 h
  have hopsec : ∀ u : State, (u.wr64 Reg.BLOT_OPSEC 0).rd64 Reg.BLOT_TIME = u.rd64 Reg.BLOT_TIME := fun u =>
    rd64_of_rd ((RegsOnly.wr64 (w := among (wide Reg.BLOT_OPSEC)) u 0 (by decide) (by decide)).2 _ (by decide))
      ((RegsOnly.wr64 (w := among (wide Reg.BLOT_OPSEC)) u 0 (by decide) (by decide)).2 _ (by decide))
  refine ⟨?_, ?_, State.rd_wr_same _ _ _⟩
  · rw [State.clearCapture, rd64_of_rd (hpcc _ (by decide)) (hpcc _ (by decide)), hopsec, State.rd64_wr64_same]
  · rw [State.clearCapture, rd64_of_rd (hpcc _ (by decide)) (hpcc _ (by decide)), State.rd64_wr64_same]

theorem blotAck_refused (s : State) (hactive : s.rd Reg.BLOT_ACTIVE ≠ 0) : Yields (.blotAck .scribe 0xB107ACC0) s fun t =>
    t.bit Reg.BLOT_STAT 28 = true ∧ RegsOnly (among [Reg.BLOT_STAT]) s t := by
  have hexec : exec (.blotAck .scribe 0xB107ACC0) s = .next (s.setb Reg.BLOT_STAT 28 true) := by
    change execBlotAck _ _ s = _
    rw [execBlotAck, if_neg (by decide), if_pos hactive]
  exact ⟨_, hexec, State.bit_setb_same s _ 28 true (by decide), RegsOnly.setb s 28 true (among_self _)⟩

theorem blotAck_clears (s : State) (hquiet : s.rd Reg.BLOT_ACTIVE = 0) : Yields (.blotAck .scribe 0xB107ACC0) s fun t =>
    t.rd Reg.BLOT_CAUSE = 0 ∧ t.bit Reg.BLOT_STAT 31 = false ∧ t.bit Reg.BLOT_STAT 30 = false ∧
    t.bit Reg.BLOT_STAT 27 = s.bit Reg.BLOT_STAT 27 ∧ t.fld Reg.BLOT_STAT 5 0 = 63 ∧ t.rd64 Reg.BLOT_TIME = 0 ∧
    t.rd64 Reg.BLOT_OPSEC = 0 ∧ t.rd Reg.BLOT_PCC = 0 ∧
    RegsOnly (among (Reg.BLOT_CAUSE :: Reg.BLOT_STAT :: Reg.BLOT_PCC :: wide Reg.BLOT_TIME ++ wide Reg.BLOT_OPSEC)) s t := by
  have hcause := clearCapture_rd s.clearCauses (a := Reg.BLOT_CAUSE) (by decide)
  have hstat := clearCapture_rd s.clearCauses (a := Reg.BLOT_STAT) (by decide)
  obtain ⟨hlatched, hlost, hvalid, hfirst⟩ := clearCauses_stat s
  obtain ⟨htime, hopsec, hpcc⟩ := clearCapture_clears s.clearCauses
  exact ⟨_, exec_blotAck_clears s hquiet, hcause.trans (clearCauses_cause s), (bit_of_rd hstat 31).trans hlatched,
    (bit_of_rd hstat 30).trans hlost, (bit_of_rd hstat 27).trans hvalid, (fld_of_rd hstat 5 0).trans hfirst, htime, hopsec, hpcc,
    (clearCauses_regsOnly s).trans (clearCapture_regsOnly _ (by decide))⟩

/-- A write by another party, or of another value, is ignored. -/
theorem blotAck_ignored (s : State) (p : Party) (v : Word) (h : p ≠ .scribe ∨ v ≠ 0xB107ACC0) :
    exec (.blotAck p v) s = .next s := if_pos h

/-! ## Loss of both supplies (R707) -/

/-- The Blotter registers at their reset values, with SUPPLY at VBAT and the thresholds of the part's grade. -/
def State.resetBlotRegs (s : State) : State :=
  ((s.resetRegs Reg.BLOT_STAT (Reg.BLOT_ALARM_ACTIVE + 4)).setb Reg.BLOT_STAT 26 false).blotThreshDefault

/-- The floors and BOOT_POLICY, which the Blotter domain holds, are lost (R192, R221). -/
def State.loseFloors (s : State) : State :=
  ((s.wr Reg.BOOT_BFLOOR0 0).wr Reg.BOOT_BFLOOR1 0).wr Reg.BOOT_POLICY 0

theorem exec_blotterPowerLoss (s : State) (haon : s.blot.aon = false) (halive : s.blot.alive = true) :
    exec .blotterPowerLoss s = .next
      { s.dropRoot.coloBlotterLoss.resetBlotRegs.loseFloors with blot := { aon := false, alive := false } } :=
  if_neg (by simp [haon, halive])

theorem resetBlotRegs_cause (s : State) : s.resetBlotRegs.rd Reg.BLOT_CAUSE = 0 := by
  rw [State.resetBlotRegs, State.blotThreshDefault, State.rd_wr_ne _ _ (by decide), State.rd_setb_ne _ _ _ (by decide),
    rd_resetRegs_within _ (by decide) (by decide)]
  decide

theorem loseFloors_rd (s : State) {a : Nat} (h0 : a ≠ Reg.BOOT_BFLOOR0) (h1 : a ≠ Reg.BOOT_BFLOOR1) (hp : a ≠ Reg.BOOT_POLICY) :
    s.loseFloors.rd a = s.rd a := by
  rw [State.loseFloors, State.rd_wr_ne _ _ hp, State.rd_wr_ne _ _ h1, State.rd_wr_ne _ _ h0]

theorem loseFloors_clears (s : State) : s.loseFloors.rd Reg.BOOT_BFLOOR0 = 0 ∧ s.loseFloors.rd Reg.BOOT_BFLOOR1 = 0 ∧
    s.loseFloors.rd Reg.BOOT_POLICY = 0 := by
  refine ⟨?_, ?_, State.rd_wr_same _ _ _⟩
  · rw [State.loseFloors, State.rd_wr_ne _ _ (by decide), State.rd_wr_ne _ _ (by decide), State.rd_wr_same]
  · rw [State.loseFloors, State.rd_wr_ne _ _ (by decide), State.rd_wr_same]

theorem blotterPowerLoss_loses (s : State) (haon : s.blot.aon = false) (halive : s.blot.alive = true) :
    Yields .blotterPowerLoss s fun t =>
      t.rsv.brk = none ∧ t.blot = { aon := false, alive := false } ∧ t.colo.opsec = 0 ∧ t.colo.lost = true ∧
      t.rd Reg.BLOT_CAUSE = 0 ∧ t.rd Reg.BOOT_BFLOOR0 = 0 ∧ t.rd Reg.BOOT_BFLOOR1 = 0 ∧ t.rd Reg.BOOT_POLICY = 0 ∧
      t.otp = s.otp ∧ t.mem = s.mem ∧ t.colo.mram = s.colo.mram := by
  obtain ⟨hfloor0, hfloor1, hpolicy⟩ := loseFloors_clears s.dropRoot.coloBlotterLoss.resetBlotRegs
  have hcause := (loseFloors_rd s.dropRoot.coloBlotterLoss.resetBlotRegs (a := Reg.BLOT_CAUSE) (by decide) (by decide)
    (by decide)).trans (resetBlotRegs_cause _)
  exact ⟨_, exec_blotterPowerLoss s haon halive, rfl, rfl, rfl, rfl, hcause, hfloor0, hfloor1, hpolicy, rfl, rfl, rfl⟩

/-- Settles O52: a command for each clause, by its register writes, what it counts in the Colophon, and the events it raises. -/
theorem blotterRows : Obligations.BlotterRows := by
  unfold Obligations.BlotterRows
  exact ⟨blotEraseDone_ends, blotOutRelease_rises, crystalStable_clears,
    fun s halive huse => ⟨crystalStop_unfitted s halive huse, crystalStop_decides s halive huse⟩, vbatMeasure_measures,
    blotAck_refused, blotAck_clears, blotAck_ignored, blotterPowerLoss_loses⟩

end Sys2Proof.Machine
end

section
/-! PROOFS. Chapter 20: error correction, flash commands, the flash map, wipes and scrubbers. -/

namespace Sys2Proof.Machine

/-! ## The bytes of memory and of flash -/

/-- A byte string read cell by cell. -/
theorem map_range_eq {f : Nat → Byte} {b : Bytes} (h : ∀ i < b.length, f i = b.getD i 0) : (List.range b.length).map f = b := by
  refine List.ext_getElem (by simp) fun i _ hi => ?_
  rw [List.getElem_map, List.getElem_range, h i hi, List.getD_eq_getElem _ _ hi]

theorem flashSize_of_rd {s t : State} (hcfg : t.rd Reg.MEM_XSPI_CFG = s.rd Reg.MEM_XSPI_CFG) : t.flashSize = s.flashSize := by
  rw [State.flashSize, State.flashSize, fld_of_rd hcfg]

/-- A cell reads by the flash array and its density. -/
theorem flashByte_congr {s t : State} (hflash : t.mem.flash = s.mem.flash)
    (hcfg : t.rd Reg.MEM_XSPI_CFG = s.rd Reg.MEM_XSPI_CFG) (o : Nat) : t.flashByte o = s.flashByte o := by
  rw [State.flashByte, State.flashByte, flashSize_of_rd hcfg, hflash]

/-- A byte of memory reads by the memories and the density of the flash. -/
theorem memByte_congr {s t : State} (hmem : t.mem = s.mem) (hcfg : t.rd Reg.MEM_XSPI_CFG = s.rd Reg.MEM_XSPI_CFG) (x : Nat) :
    t.memByte x = s.memByte x := by
  rw [State.memByte, State.memByte, flashByte_congr (congrArg MemSt.flash hmem) hcfg, hmem]

theorem isBad_congr {s t : State} (hmem : t.mem = s.mem) (w : Nat) : t.isBad w = s.isBad w := by
  rw [State.isBad, State.isBad, hmem]

theorem isBad_setBad_same (s : State) (w n : Nat) : (s.setBad w (n + 1)).isBad w = true := by
  rw [State.isBad, State.setBad, Tab.get_set_same]
  rfl

/-- The aligned words that a range touches. -/
theorem mem_wordsOf {a n w : Nat} : w ∈ wordsOf a n ↔ 0 < n ∧ w % 8 = 0 ∧ a / 8 * 8 ≤ w ∧ w < a + n := by
  unfold wordsOf
  split
  · next hn => simp [hn]
  · simp only [List.mem_map, List.mem_range]
    constructor
    · rintro ⟨i, hi, rfl⟩
      omega
    · rintro ⟨hn, hw, hlo, hhi⟩
      exact ⟨w / 8 - a / 8, by omega, by omega⟩

/-- A range of whole aligned words covers each word that it touches. -/
theorem wholeWord_of_aligned {a n w : Nat} (ha : a % 8 = 0) (hn : n % 8 = 0) (hw : w ∈ wordsOf a n) : wholeWord a n w = true := by
  obtain ⟨hpos, hw8, hlo, hhi⟩ := mem_wordsOf.mp hw
  exact decide_eq_true (by omega)

theorem poisoned_of_subrange {s : State} {a n b k : Nat} (h : s.poisoned a n = false) (hlo : a ≤ b) (hhi : b + k ≤ a + n) :
    s.poisoned b k = false := by
  simp only [State.poisoned, List.any_eq_false] at h ⊢
  intro w hw
  obtain ⟨hpos, hw8, hwlo, hwhi⟩ := mem_wordsOf.mp hw
  exact h w (mem_wordsOf.mpr ⟨by omega, hw8, by omega, by omega⟩)

/-! ## What counting and capturing an error leaves alone (R791, R792, R803, R804) -/

/-- From `s` to `t` nothing changes but the Colophon's counts, the times of the rate-limited events, the registers that `w` names
and what the delivery of events changes. -/
def ErrorOnly (w : Nat → Bool) (s t : State) : Prop := EventOnly w { s with colo := t.colo, lastRaise := t.lastRaise } t

theorem ErrorOnly.refl (w : Nat → Bool) (s : State) : ErrorOnly w s s := EventOnly.refl w s

theorem ErrorOnly.trans {w : Nat → Bool} {s t u : State} (h : ErrorOnly w s t) (k : ErrorOnly w t u) : ErrorOnly w s u := by
  refine ⟨?_, fun a ha he => (k.2 a ha he).trans (h.2 a ha he)⟩
  have h1 := h.1
  rw [k.1]
  rw [h1]

theorem EventOnly.lastRaise {w : Nat → Bool} {s t : State} (h : EventOnly w s t) : t.lastRaise = s.lastRaise :=
  (congrArg State.lastRaise h.1 :)

theorem EventOnly.errorOnly {w : Nat → Bool} {s t : State} (h : EventOnly w s t) : ErrorOnly w s t := by
  unfold ErrorOnly
  rw [h.colo, h.lastRaise]
  exact h

theorem ErrorOnly.mem {w : Nat → Bool} {s t : State} (h : ErrorOnly w s t) : t.mem = s.mem := (congrArg State.mem h.1 :)

theorem ErrorOnly.rd {w : Nat → Bool} {s t : State} (h : ErrorOnly w s t) {a : Nat} (ha : w a = false) (he : eventReg a = false) :
    t.rd a = s.rd a := h.2 a ha he

theorem eventReg_xspiCfg : eventReg Reg.MEM_XSPI_CFG = false := by decide

theorem ErrorOnly.memByte {w : Nat → Bool} {s t : State} (h : ErrorOnly w s t) (hw : w Reg.MEM_XSPI_CFG = false) (x : Nat) :
    t.memByte x = s.memByte x := memByte_congr h.mem (h.rd hw eventReg_xspiCfg) x

theorem countEccOf_errorOnly (w : Nat → Bool) (s : State) (m : Nat) (b : Bool) : ErrorOnly w s (s.countEccOf m b) := by
  unfold State.countEccOf
  split
  · obtain ⟨c, hc⟩ := accAdd_colo s _ 4 1
    rw [State.countEcc, hc]
    exact ⟨rfl, fun _ _ _ => rfl⟩
  · exact ErrorOnly.refl w s

theorem raiseLimited_errorOnly (w : Nat → Bool) (s : State) (n : Nat) : ErrorOnly w s (s.raiseLimited n) := by
  unfold State.raiseLimited
  simp only
  split
  · exact ErrorOnly.trans ⟨rfl, fun _ _ _ => rfl⟩ (raise_eventOnly w _ n).errorOnly
  · exact ErrorOnly.refl w s

/-- The registers of the error capture (R803). -/
def captureReg : Nat → Bool := among (Reg.MEM_ERR_INFO :: wide Reg.MEM_ERR_ADDR)

theorem eccCapture_eventOnly (s : State) (m kind init w syn : Nat) : EventOnly captureReg s (s.eccCapture m kind init w syn) := by
  have hinfo : captureReg Reg.MEM_ERR_INFO = true := by decide
  unfold State.eccCapture
  split
  · exact (RegsOnly.setb s 30 true hinfo).eventOnly
  · exact (((((RegsOnly.wr64 s _ (by decide) (by decide)).andSetf hinfo 29 27 m).andSetf hinfo 26 25 kind).andSetf hinfo 24 20
      init).andSetf hinfo 15 0 syn |>.trans (RegsOnly.setb _ 31 true hinfo)).eventOnly.trans (raise_eventOnly _ _ _)

/-- After its count in MEM_ECC a correctable error writes no register of its own. -/
theorem eccCorrected_after_count (s : State) (m : Nat) :
    ErrorOnly (fun _ => false) (s.incSat (Reg.MEM_ECC m) 31 16) (s.eccCorrected m) := by
  have hlimited := fun n => (countEccOf_errorOnly (fun _ => false) (s.incSat (Reg.MEM_ECC m) 31 16) m true).trans
    (raiseLimited_errorOnly _ _ n)
  unfold State.eccCorrected
  generalize (if m = 0 then 488 else 478 + 2 * m) = n
  simp only
  split
  · exact (hlimited n).trans (raise_eventOnly _ _ 490).errorOnly
  · exact hlimited n

/-- After its count in MEM_ECC an uncorrectable error writes the capture alone. -/
theorem eccUncorrected_after_count (s : State) (m kind init w syn : Nat) :
    ErrorOnly captureReg (s.incSat (Reg.MEM_ECC m) 15 0) (s.eccUncorrected m kind init w syn) :=
  (countEccOf_errorOnly _ _ m false).trans (eccCapture_eventOnly _ m kind init w syn).errorOnly

theorem eventReg_memEcc (m : Nat) : eventReg (Reg.MEM_ECC m) = false := by
  have hm : m % 5 < 5 := Nat.mod_lt _ (by decide)
  unfold Reg.MEM_ECC
  generalize m % 5 = k at hm
  interval_cases k <;> decide

theorem captureReg_memEcc (m : Nat) : captureReg (Reg.MEM_ECC m) = false := by
  simp only [captureReg, among, wide, Reg.MEM_ECC, Reg.MEM_ERR_INFO, Reg.MEM_ERR_ADDR, List.contains_eq_mem, List.mem_cons,
    List.not_mem_nil, or_false, decide_eq_false_iff_not]
  omega

theorem incSat_memEcc_errorOnly (s : State) (m hi lo : Nat) :
    ErrorOnly (among [Reg.MEM_ECC m]) s (s.incSat (Reg.MEM_ECC m) hi lo) :=
  (RegsOnly.incSat s hi lo (among_self _)).eventOnly.errorOnly

theorem among_memEcc_xspiCfg (m : Nat) : among [Reg.MEM_ECC m] Reg.MEM_XSPI_CFG = false := by
  simp only [among, Reg.MEM_ECC, Reg.MEM_XSPI_CFG, List.contains_eq_mem, List.mem_cons, List.not_mem_nil, or_false,
    decide_eq_false_iff_not]
  omega

/-- A correctable error is counted once (R791). -/
theorem eccCorrected_count (s : State) (m : Nat) :
    (s.eccCorrected m).fld (Reg.MEM_ECC m) 31 16 = min (s.fld (Reg.MEM_ECC m) 31 16 + 1) 65535 :=
  (fld_of_rd ((eccCorrected_after_count s m).rd rfl (eventReg_memEcc m)) 31 16).trans
    (State.fld_incSat s _ 31 16 (by decide) (by decide))

/-- An uncorrectable error is counted once (R792). -/
theorem eccUncorrected_count (s : State) (m kind init w syn : Nat) :
    (s.eccUncorrected m kind init w syn).fld (Reg.MEM_ECC m) 15 0 = min (s.fld (Reg.MEM_ECC m) 15 0 + 1) 65535 :=
  (fld_of_rd ((eccUncorrected_after_count s m kind init w syn).rd (captureReg_memEcc m) (eventReg_memEcc m)) 15 0).trans
    (State.fld_incSat s _ 15 0 (by decide) (by decide))

theorem eccCorrected_mem (s : State) (m : Nat) : (s.eccCorrected m).mem = s.mem :=
  (eccCorrected_after_count s m).mem.trans (incSat_memEcc_errorOnly s m 31 16).mem

theorem eccUncorrected_mem (s : State) (m kind init w syn : Nat) : (s.eccUncorrected m kind init w syn).mem = s.mem :=
  (eccUncorrected_after_count s m kind init w syn).mem.trans (incSat_memEcc_errorOnly s m 15 0).mem

theorem eccCorrected_memByte (s : State) (m x : Nat) : (s.eccCorrected m).memByte x = s.memByte x :=
  ((eccCorrected_after_count s m).memByte rfl x).trans ((incSat_memEcc_errorOnly s m 31 16).memByte (among_memEcc_xspiCfg m) x)

theorem eccUncorrected_memByte (s : State) (m kind init w syn x : Nat) :
    (s.eccUncorrected m kind init w syn).memByte x = s.memByte x :=
  ((eccUncorrected_after_count s m kind init w syn).memByte (by decide) x).trans
    ((incSat_memEcc_errorOnly s m 15 0).memByte (among_memEcc_xspiCfg m) x)

/-! ## Writes under the partial-write rules (R799, R800) -/

theorem writeFind_clean (s : State) (init a n : Nat) : s.writeFind init a n .clean = s := by
  unfold State.writeFind
  cases (wordsOf a n).head? <;> cases (wordsOf a n).find? (fun w => !wholeWord a n w) <;> rfl

theorem badPartial_of_aligned (s : State) {a n : Nat} (ha : a % 8 = 0) (hn : n % 8 = 0) : s.badPartial a n = none := by
  refine List.find?_eq_none.mpr fun w hw => ?_
  simp [wholeWord_of_aligned ha hn hw]

theorem eccWrite_of_aligned (s : State) (init : Nat) {a : Nat} {b : Bytes} (ha : a % 8 = 0) (hb : b.length % 8 = 0) :
    s.eccWrite init a b .clean = (s.sramWrite a b, true) := by
  have hcheck : s.eccWriteCheck init a b.length .clean = (s, true) := by
    simp only [State.eccWriteCheck, writeFind_clean, badPartial_of_aligned s ha hb]
  rw [State.eccWrite, hcheck]
  rfl

/-- The words that a write of whole words covers hold new check bits. -/
theorem isBad_sramWrite_aligned (s : State) {a : Nat} {b : Bytes} (ha : a % 8 = 0) (hb : b.length % 8 = 0) {w : Nat}
    (hw : w ∈ wordsOf a b.length) : (s.sramWrite a b).isBad w = false := by
  simp [State.isBad, State.sramWrite, Tab.get_clear, hw, wholeWord_of_aligned ha hb hw]

theorem memBytes_sramWrite (s : State) (a : Nat) (b : Bytes) (hin : inSram a b.length = true) :
    (s.sramWrite a b).memBytes a b.length = b := by
  refine map_range_eq fun i hi => ?_
  rw [memByte_sramWrite s a b _ hin, if_pos (by omega), Nat.add_sub_cancel_left]

theorem eccWrite_wholeWords (s : State) (init a : Nat) (b : Bytes) (ha : a % 8 = 0) (hb : b.length % 8 = 0)
    (hin : inSram a b.length = true) :
    (s.eccWrite init a b .clean).2 = true ∧ (s.eccWrite init a b .clean).1.memBytes a b.length = b ∧
      (s.eccWrite init a b .clean).1 = { s with mem := (s.eccWrite init a b .clean).1.mem } ∧
      (∀ w ∈ wordsOf a b.length, (s.eccWrite init a b .clean).1.isBad w = false) ∧
      (∀ x : Nat, x < a ∨ a + b.length ≤ x → (s.eccWrite init a b .clean).1.memByte x = s.memByte x) := by
  rw [eccWrite_of_aligned s init ha hb]
  refine ⟨rfl, memBytes_sramWrite s a b hin, rfl, fun w hw => isBad_sramWrite_aligned s ha hb hw, fun x hx => ?_⟩
  rw [memByte_sramWrite s a b x hin, if_neg (by omega)]

/-- A write within one word that holds an uncorrectable error is refused on account of that word. -/
theorem badPartial_of_within (s : State) {a n : Nat} (hn : 0 < n) (hlt : a % 8 + n < 8) (hbad : s.isBad (a / 8 * 8) = true) :
    ∃ w, s.badPartial a n = some w := by
  rw [← Option.isSome_iff_exists, State.badPartial, List.find?_isSome]
  have hpart : wholeWord a n (a / 8 * 8) = false := decide_eq_false (by omega)
  exact ⟨a / 8 * 8, mem_wordsOf.mpr ⟨hn, by omega, by omega, by omega⟩, by rw [hpart, hbad]; rfl⟩

theorem eccWrite_of_badPartial (s : State) (init : Nat) {a w : Nat} {b : Bytes} (hw : s.badPartial a b.length = some w) :
    s.eccWrite init a b .clean =
      ((s.eccUncorrected (eccMem w) 1 init w (Tab.get (fun _ => 0) s.mem.bad w - 1)).raise 489, false) := by
  simp only [State.eccWrite, State.eccWriteCheck, writeFind_clean, hw]
  rfl

theorem eccWrite_partial (s : State) (init a : Nat) (b : Bytes) (hlt : a % 8 + b.length < 8) (hb : 0 < b.length)
    (hbad : s.isBad (a / 8 * 8) = true) :
    (s.eccWrite init a b .clean).2 = false ∧ (s.eccWrite init a b .clean).1.evtStatus 489 = true ∧
      (s.eccWrite init a b .clean).1.mem = s.mem := by
  obtain ⟨w, hw⟩ := badPartial_of_within s hb hlt hbad
  rw [eccWrite_of_badPartial s init hw]
  exact ⟨rfl, raise_status_same _ _, (raise_eventOnly (fun _ => false) _ 489).mem.trans (eccUncorrected_mem _ _ _ _ _ _)⟩

/-! ## Reads that find an error, and write-backs (R791, R792, R794) -/

theorem mem_insertNat (v : Nat) (l : List Nat) : v ∈ insertNat v l := by
  induction l with
  | nil => simp [insertNat]
  | cons x l ih =>
    unfold insertNat
    split
    · next h => simp [h]
    · split
      · simp
      · exact List.mem_cons_of_mem x ih

/-- The corrected word `w` waits to be written back (R791). -/
def State.awaitWriteback (s : State) (w : Nat) : State := { s with mem := { s.mem with fix := insertNat w s.mem.fix } }

section
variable (s : State) (kind init : Nat) {w : Nat} (syn : Nat) (hgood : s.isBad w = false)
include hgood

theorem eccRead_uncorrectable : s.eccRead kind init w (.uncorrectable syn) =
    ((s.eccUncorrected (eccMem w) kind init w syn).setBad w (syn + 1), true) := by
  rw [State.eccRead, hgood]
  rfl

variable (hmem : 0 < eccMem w)
include hmem

theorem eccRead_corrected : s.eccRead kind init w (.corrected syn) = ((s.eccCorrected (eccMem w)).awaitWriteback w, false) := by
  rw [State.eccRead, hgood]
  simp only [if_neg hmem.ne']
  rfl

theorem eccRead_cacheWord (ev : Bool) : s.eccRead kind init w (.cacheWord syn ev) =
    ((s.eccUncorrected 3 (if ev then 3 else kind) init w syn).setBad w (poisonSyn + 1), true) := by
  rw [State.eccRead, hgood]
  simp only [if_neg hmem.ne']
  rfl

end

/-- What a read that finds a correctable error leaves: the word corrected, its error counted. -/
theorem awaitWriteback_eccCorrected (s : State) (m : Nat) {w : Nat} (hgood : s.isBad w = false) :
    ((s.eccCorrected m).awaitWriteback w).isBad w = false ∧
      ((s.eccCorrected m).awaitWriteback w).fld (Reg.MEM_ECC m) 31 16 = min (s.fld (Reg.MEM_ECC m) 31 16 + 1) 65535 ∧
      w ∈ ((s.eccCorrected m).awaitWriteback w).mem.fix ∧
      ∀ x : Nat, ((s.eccCorrected m).awaitWriteback w).memByte x = s.memByte x := by
  have hmem := eccCorrected_mem s m
  have hcount := eccCorrected_count s m
  have hbyte := eccCorrected_memByte s m
  generalize s.eccCorrected m = u at hmem hcount hbyte
  exact ⟨(isBad_congr hmem w).trans hgood, hcount, mem_insertNat w _, hbyte⟩

/-- What a read that finds an uncorrectable error leaves: the word marked, its error counted. -/
theorem setBad_eccUncorrected (s : State) (m kind init w syn n : Nat) :
    ((s.eccUncorrected m kind init w syn).setBad w (n + 1)).isBad w = true ∧
      ((s.eccUncorrected m kind init w syn).setBad w (n + 1)).fld (Reg.MEM_ECC m) 15 0 =
        min (s.fld (Reg.MEM_ECC m) 15 0 + 1) 65535 ∧
      ∀ x : Nat, ((s.eccUncorrected m kind init w syn).setBad w (n + 1)).memByte x = s.memByte x := by
  have hcount := eccUncorrected_count s m kind init w syn
  have hbyte := eccUncorrected_memByte s m kind init w syn
  generalize s.eccUncorrected m kind init w syn = u at hcount hbyte
  exact ⟨isBad_setBad_same u w n, hcount, hbyte⟩

theorem eccRead_finds (s : State) (kind init w syn : Nat) (ev : Bool) (hgood : s.isBad w = false) (hmem : 0 < eccMem w) :
    let c := s.eccRead kind init w (.corrected syn)
    let u := s.eccRead kind init w (.uncorrectable syn)
    let l := s.eccRead kind init w (.cacheWord syn ev)
    let up := fun (m hi lo : Nat) (t : State) => t.fld (Reg.MEM_ECC m) hi lo = min (s.fld (Reg.MEM_ECC m) hi lo + 1) 65535
    c.2 = false ∧ c.1.isBad w = false ∧ up (eccMem w) 31 16 c.1 ∧ w ∈ c.1.mem.fix ∧
      u.2 = true ∧ u.1.isBad w = true ∧ up (eccMem w) 15 0 u.1 ∧ l.2 = true ∧ l.1.isBad w = true ∧ up 3 15 0 l.1 ∧
      (∀ x : Nat, c.1.memByte x = s.memByte x ∧ u.1.memByte x = s.memByte x ∧ l.1.memByte x = s.memByte x) := by
  obtain ⟨hcgood, hccount, hcfix, hcbyte⟩ := awaitWriteback_eccCorrected s (eccMem w) hgood
  obtain ⟨hubad, hucount, hubyte⟩ := setBad_eccUncorrected s (eccMem w) kind init w syn syn
  obtain ⟨hlbad, hlcount, hlbyte⟩ := setBad_eccUncorrected s 3 (if ev then 3 else kind) init w syn poisonSyn
  rw [eccRead_corrected s kind init syn hgood hmem, eccRead_uncorrectable s kind init syn hgood,
    eccRead_cacheWord s kind init syn hgood hmem]
  exact ⟨rfl, hcgood, hccount, hcfix, rfl, hubad, hucount, rfl, hlbad, hlcount, fun x => ⟨hcbyte x, hubyte x, hlbyte x⟩⟩

theorem eccWriteback_ends (s : State) (a : Nat) : Yields (.eccWriteback a) s fun t =>
    a ∉ t.mem.fix ∧ (∀ x : Nat, t.memByte x = s.memByte x) ∧ t = { s with mem := { s.mem with fix := t.mem.fix } } :=
  ⟨_, rfl, by simp, fun _ => rfl, rfl⟩

/-! ## The start and the end of a flash command (R811 to R813) -/

/-- A field is 0 when each of its bits is clear. -/
theorem fld_eq_zero (s : State) {a hi lo : Nat} (h : ∀ i, lo ≤ i → i ≤ hi → s.bit a i = false) : s.fld a hi lo = 0 := by
  refine Nat.eq_of_testBit_eq fun j => ?_
  rw [State.fld, fieldOf_testBit, Nat.zero_testBit]
  by_cases hj : j < hi + 1 - lo
  · have hbit : (s.rd a).getLsbD (lo + j) = false := h (lo + j) (by omega) (by omega)
    rw [hbit, Bool.and_false]
  · rw [decide_eq_false hj, Bool.false_and]

/-- A bit of a field that is 0. -/
theorem bit_of_fld_eq_zero {s : State} {a hi lo i : Nat} (h : s.fld a hi lo = 0) (hlo : lo ≤ i) (hhi : i ≤ hi) :
    s.bit a i = false := by
  have htest := fieldOf_testBit (s.rd a) hi lo (i - lo)
  rw [show fieldOf (s.rd a) hi lo = 0 from h, Nat.zero_testBit, decide_eq_true (by omega), Bool.true_and,
    Nat.add_sub_cancel' hlo] at htest
  exact htest.symm

/-- The registers that a flash command shows its progress in. -/
def flashReg : Nat → Bool := among [Reg.MEM_XSPI_CMD, Reg.MEM_XSPI_STAT]

/-- The result of a command, and BUSY and GO as its end leaves them. -/
def State.flashResult (s : State) (result fail : Nat) : State :=
  (((s.setf Reg.MEM_XSPI_STAT 30 28 result).setf Reg.MEM_XSPI_STAT 27 0 fail).setb Reg.MEM_XSPI_STAT 31 s.mem.wipe.isSome).setb
    Reg.MEM_XSPI_CMD 31 false

theorem flashEnd_eq (s : State) (result fail : Nat) : s.flashEnd result fail =
    if result = 2 ∨ result = 3 then ((s.flashResult result fail).raise 492).raise 493
    else (s.flashResult result fail).raise 492 := rfl

theorem flashResult_regsOnly (s : State) (result fail : Nat) : RegsOnly flashReg s (s.flashResult result fail) :=
  (((RegsOnly.setf s 30 28 result (by decide)).andSetf (by decide) 27 0 fail).trans (RegsOnly.setb _ 31 _ (by decide))).trans
    (RegsOnly.setb _ 31 false (by decide))

theorem flashResult_go (s : State) (result fail : Nat) : (s.flashResult result fail).bit Reg.MEM_XSPI_CMD 31 = false :=
  State.bit_setb_same _ _ 31 false (by decide)

theorem flashResult_busy (s : State) (result fail : Nat) :
    (s.flashResult result fail).bit Reg.MEM_XSPI_STAT 31 = s.mem.wipe.isSome :=
  (bit_of_rd (State.rd_setb_ne _ 31 false (by decide)) 31).trans (State.bit_setb_same _ _ 31 _ (by decide))

theorem flashResult_code (s : State) {result : Nat} (fail : Nat) (h : result < 8) :
    (s.flashResult result fail).fld Reg.MEM_XSPI_STAT 30 28 = result := by
  rw [State.flashResult, fld_of_rd (State.rd_setb_ne _ 31 false (by decide)), State.fld, State.rd_setb_same,
    fieldOf_setFieldOf_ne _ _ _ _ _ _ (by decide), State.rd_setf_same, fieldOf_setFieldOf_ne _ _ _ _ _ _ (by decide),
    State.rd_setf_same, fieldOf_setFieldOf_same _ _ _ _ (by decide) (by decide)]
  exact Nat.mod_eq_of_lt h

theorem eventReg_xspiCmd : eventReg Reg.MEM_XSPI_CMD = false := by decide

theorem eventReg_xspiStat : eventReg Reg.MEM_XSPI_STAT = false := by decide

/-- The end of a command raises events after its result, and writes no register of its own with them. -/
theorem flashEnd_after_result (s : State) (result fail : Nat) :
    EventOnly (fun _ => false) (s.flashResult result fail) (s.flashEnd result fail) := by
  rw [flashEnd_eq]
  split
  · exact (raise_eventOnly _ _ 492).trans (raise_eventOnly _ _ 493)
  · exact raise_eventOnly _ _ 492

theorem flashEnd_eventOnly (s : State) (result fail : Nat) : EventOnly flashReg s (s.flashEnd result fail) :=
  (flashResult_regsOnly s result fail).eventOnly.trans
    ((flashEnd_after_result s result fail).mono fun _ h => absurd h (by decide))

theorem flashEnd_go (s : State) (result fail : Nat) : (s.flashEnd result fail).bit Reg.MEM_XSPI_CMD 31 = false :=
  (bit_of_rd ((flashEnd_after_result s result fail).2 _ rfl eventReg_xspiCmd) 31).trans (flashResult_go s result fail)

theorem flashEnd_code (s : State) {result : Nat} (fail : Nat) (h : result < 8) :
    (s.flashEnd result fail).fld Reg.MEM_XSPI_STAT 30 28 = result :=
  (fld_of_rd ((flashEnd_after_result s result fail).2 _ rfl eventReg_xspiStat) 30 28).trans (flashResult_code s fail h)

theorem flashEnd_status (s : State) (result fail : Nat) : (s.flashEnd result fail).evtStatus 492 = true := by
  rw [flashEnd_eq]
  split
  · exact raise_status _ 493 492 (.inr (raise_status_same _ 492))
  · exact raise_status_same _ 492

theorem flashEnd_denied_status (s : State) (fail : Nat) : (s.flashEnd 2 fail).evtStatus 493 = true := raise_status_same _ 493

/-- A command that ends well while no wipe waits leaves BUSY and RESULT clear. -/
theorem flashEnd_ok_stat (s : State) (fail : Nat) (hwipe : s.mem.wipe = none) :
    (s.flashEnd 0 fail).fld Reg.MEM_XSPI_STAT 31 28 = 0 := by
  have hbusy := (bit_of_rd ((flashEnd_after_result s 0 fail).2 _ rfl eventReg_xspiStat) 31).trans (flashResult_busy s 0 fail)
  rw [hwipe] at hbusy
  refine fld_eq_zero _ fun i hlo hhi => ?_
  rcases Nat.lt_or_eq_of_le hhi with hlt | rfl
  · exact bit_of_fld_eq_zero (flashEnd_code s fail (by decide)) hlo (by omega)
  · exact hbusy

/-- A command as its start finds it once OP is written. -/
theorem flashStart_eq (s : State) (op : Nat) (w : World) (pr : Priv) (core : Nat) : s.flashStart op w pr core =
    let v := s.setf Reg.MEM_XSPI_CMD 1 0 op
    let c : FlashCmd := ⟨op, s.rdn Reg.MEM_XSPI_ADDR, s.rdn Reg.MEM_XSPI_LEN, (s.rd64 Reg.MEM_XSPI_SRC).toNat % 2 ^ 40⟩
    let r := v.flashCheck op c.addr c.len c.src w pr core
    if s.bit Reg.MEM_XSPI_STAT 31 then v.setf Reg.MEM_XSPI_STAT 30 28 1
    else if !flashLenOk op c.addr c.len then v.flashEnd 4 0
    else if r.2 then
      (({ r.1 with mem := { r.1.mem with cmd := some c } }).setb Reg.MEM_XSPI_STAT 31 true).setb Reg.MEM_XSPI_CMD 31 true
    else r.1.flashEnd 2 0 := by
  have hbusy : (s.setf Reg.MEM_XSPI_CMD 1 0 op).bit Reg.MEM_XSPI_STAT 31 = s.bit Reg.MEM_XSPI_STAT 31 :=
    bit_of_rd (State.rd_setf_ne s 1 0 op (by decide)) 31
  have haddr : (s.setf Reg.MEM_XSPI_CMD 1 0 op).rdn Reg.MEM_XSPI_ADDR = s.rdn Reg.MEM_XSPI_ADDR :=
    congrArg BitVec.toNat (State.rd_setf_ne s 1 0 op (by decide))
  have hlen : (s.setf Reg.MEM_XSPI_CMD 1 0 op).rdn Reg.MEM_XSPI_LEN = s.rdn Reg.MEM_XSPI_LEN :=
    congrArg BitVec.toNat (State.rd_setf_ne s 1 0 op (by decide))
  have hsrc : (s.setf Reg.MEM_XSPI_CMD 1 0 op).rd64 Reg.MEM_XSPI_SRC = s.rd64 Reg.MEM_XSPI_SRC :=
    rd64_setf_ne s 1 0 op (by decide) (by decide)
  simp only [State.flashStart, hbusy, haddr, hlen, hsrc]
  generalize State.flashCheck _ op _ _ _ w pr core = r
  obtain ⟨u, ok⟩ := r
  cases ok <;> rfl

/-- A program or an erase is the start of its operation. -/
theorem exec_flashStart {c : Instr} {op core : Nat} {w : World} {pr : Priv}
    (h : c = .xspiProgram w pr core ∧ op = 1 ∨ c = .xspiErase w pr core ∧ op = 2) (s : State) :
    exec c s = .next (s.flashStart op w pr core) := by
  obtain ⟨rfl, rfl⟩ | ⟨rfl, rfl⟩ := h <;> rfl

theorem flashStart_starts (s : State) (c : Instr) (op : Nat) (w : World) (pr : Priv) (core : Nat)
    (hc : c = .xspiProgram w pr core ∧ op = 1 ∨ c = .xspiErase w pr core ∧ op = 2) :
    let addr := s.rdn Reg.MEM_XSPI_ADDR
    let len := s.rdn Reg.MEM_XSPI_LEN
    let src := (s.rd64 Reg.MEM_XSPI_SRC).toNat % 2 ^ 40
    let v := s.setf Reg.MEM_XSPI_CMD 1 0 op
    (s.bit Reg.MEM_XSPI_STAT 31 = true → Yields c s fun t => t.fld Reg.MEM_XSPI_STAT 30 28 = 1 ∧
      RegsOnly (among [Reg.MEM_XSPI_CMD, Reg.MEM_XSPI_STAT]) s t) ∧
    (s.bit Reg.MEM_XSPI_STAT 31 = false → flashLenOk op addr len = false → Yields c s fun t => t.fld Reg.MEM_XSPI_STAT 30 28 = 4 ∧
      t.evtStatus 492 = true ∧ EventOnly (among [Reg.MEM_XSPI_CMD, Reg.MEM_XSPI_STAT]) s t) ∧
    (∀ u : State, s.bit Reg.MEM_XSPI_STAT 31 = false → flashLenOk op addr len = true →
      (v.flashCheck op addr len src w pr core = (u, true) → exec c s =
        .next ((({ u with mem := { u.mem with cmd := some ⟨op, addr, len, src⟩ } }).setb Reg.MEM_XSPI_STAT 31 true).setb
          Reg.MEM_XSPI_CMD 31 true)) ∧
      (v.flashCheck op addr len src w pr core = (u, false) → Yields c s fun t => t.fld Reg.MEM_XSPI_STAT 30 28 = 2 ∧
        t.bit Reg.MEM_XSPI_CMD 31 = false ∧ t.evtStatus 493 = true ∧
        EventOnly (among [Reg.MEM_XSPI_CMD, Reg.MEM_XSPI_STAT]) u t)) := by
  have hexec := (exec_flashStart hc s).trans (congrArg Host.Outcome.next (flashStart_eq s op w pr core))
  have hop : RegsOnly flashReg s (s.setf Reg.MEM_XSPI_CMD 1 0 op) := RegsOnly.setf s 1 0 op (by decide)
  refine ⟨fun hbusy => ?_, fun hidle hlen => ?_, fun u hidle hlen => ⟨fun hcheck => ?_, fun hcheck => ?_⟩⟩
  · simp only [hbusy, if_true] at hexec
    exact ⟨_, hexec, State.fld_setf_same _ _ 30 28 1 (by decide) (by decide), hop.andSetf (by decide) 30 28 1⟩
  · simp only [hidle, hlen, Bool.false_eq_true, if_false, Bool.not_false, if_true] at hexec
    exact ⟨_, hexec, flashEnd_code _ 0 (by decide), flashEnd_status _ 4 0, hop.eventOnly.trans (flashEnd_eventOnly _ 4 0)⟩
  · simp only [hidle, hlen, hcheck, Bool.false_eq_true, if_false, Bool.not_true, if_true] at hexec
    exact hexec
  · simp only [hidle, hlen, hcheck, Bool.false_eq_true, if_false, Bool.not_true] at hexec
    exact ⟨_, hexec, flashEnd_code u 0 (by decide), flashEnd_go u 2 0, flashEnd_denied_status u 0, flashEnd_eventOnly u 2 0⟩

/-! ## Erasing (R812, R815) -/

/-- From `s` to `t` nothing changes but the cells of the flash. -/
def FlashOnly (s t : State) : Prop := t = { s with mem := { s.mem with flash := t.mem.flash } }

theorem FlashOnly.refl (s : State) : FlashOnly s s := rfl

theorem FlashOnly.trans {s t u : State} (h : FlashOnly s t) (k : FlashOnly t u) : FlashOnly s u := by
  unfold FlashOnly at *
  rw [k]
  rw [h]

theorem FlashOnly.rd {s t : State} (h : FlashOnly s t) (a : Nat) : t.rd a = s.rd a := by rw [h]; rfl

theorem FlashOnly.stime {s t : State} (h : FlashOnly s t) : t.stime = s.stime := by rw [h]

/-- An offset lies in one of the blocks. -/
def inSomeBlock (l : List (Nat × Nat)) (o : Nat) : Bool := l.any fun b => decide (b.1 ≤ o ∧ o < b.1 + b.2)

/-- The blocks erased one after another. -/
def State.eraseEach (s : State) (l : List (Nat × Nat)) : State := l.foldl (fun s b => s.flashErased b.1 b.2) s

/-- An erase run of which no block fails erases each block. -/
theorem eraseRun_none (l : List (Nat × Nat)) (s : State) : s.eraseRun none l = (s.eraseEach l, none) := by
  induction l generalizing s with
  | nil => rfl
  | cons b l ih => exact ih (s.flashErased b.1 b.2)

theorem flashErased_flashOnly (s : State) (o n : Nat) : FlashOnly s (s.flashErased o n) := flashErased_frame s o n

theorem eraseEach_flashOnly (l : List (Nat × Nat)) (s : State) : FlashOnly s (s.eraseEach l) :=
  foldl_related FlashOnly.refl FlashOnly.trans (fun s (b : Nat × Nat) => flashErased_flashOnly s b.1 b.2) l s

theorem flashErased_flashByte (s : State) (o n x : Nat) :
    (s.flashErased o n).flashByte x = if o ≤ x ∧ x < o + n then 0xFF else s.flashByte x := by
  rw [State.flashByte, State.flashByte, flashErased_get, flashSize_of_rd (s := s) (t := s.flashErased o n) rfl]
  by_cases hx : x < s.flashSize
  · simp only [if_pos hx]
  · simp only [if_neg hx, ite_self]

/-- A cell after the blocks are erased. -/
theorem eraseEach_flashByte (l : List (Nat × Nat)) (s : State) (o : Nat) :
    (s.eraseEach l).flashByte o = if inSomeBlock l o = true then 0xFF else s.flashByte o := by
  induction l generalizing s with
  | nil => exact (if_neg Bool.false_ne_true).symm
  | cons b l ih =>
    rw [show s.eraseEach (b :: l) = (s.flashErased b.1 b.2).eraseEach l from rfl, ih, flashErased_flashByte]
    by_cases hl : inSomeBlock l o = true
    · have hcons : inSomeBlock (b :: l) o = true := by rw [inSomeBlock, List.any_cons, show l.any _ = true from hl, Bool.or_true]
      rw [if_pos hl, if_pos hcons]
    · have hcons : inSomeBlock (b :: l) o = true ↔ b.1 ≤ o ∧ o < b.1 + b.2 := by
        rw [inSomeBlock, List.any_cons, show l.any _ = false from Bool.eq_false_of_not_eq_true hl, Bool.or_false,
          decide_eq_true_iff]
      rw [if_neg hl]
      simp only [hcons]

/-- The blocks of an erase lie in its range and cover it (R812). -/
theorem inSomeBlock_eraseBlocks {a n : Nat} (ha : a % 4096 = 0) (hn : n % 4096 = 0) (o : Nat) :
    inSomeBlock (eraseBlocks a n) o = true ↔ a ≤ o ∧ o < a + n := by
  simp only [inSomeBlock, eraseBlocks, List.any_eq_true, List.mem_filterMap, List.mem_map, List.mem_range, decide_eq_true_iff]
  constructor
  · rintro ⟨b, ⟨p, ⟨i, hi, rfl⟩, hb⟩, hin⟩
    split at hb
    · split at hb
      · cases hb
        dsimp only at hin
        omega
      · exact absurd hb (by simp)
    · cases hb
      dsimp only at hin
      omega
  · rintro ⟨hlo, hhi⟩
    by_cases hbig : a ≤ o / 65536 * 65536 ∧ o / 65536 * 65536 + 65536 ≤ a + n
    · refine ⟨(o / 65536 * 65536, 65536), ⟨o / 65536 * 65536, ⟨(o / 65536 * 65536 - a) / 4096, by omega, by omega⟩, ?_⟩,
        by dsimp only; omega⟩
      rw [Nat.mul_div_cancel _ (by decide), if_pos hbig, if_pos rfl]
    · refine ⟨(o / 4096 * 4096, 4096), ⟨o / 4096 * 4096, ⟨(o / 4096 * 4096 - a) / 4096, by omega, by omega⟩, ?_⟩,
        by dsimp only; omega⟩
      have hblock : o / 4096 * 4096 / 65536 = o / 65536 := by omega
      rw [hblock, if_neg hbig]

/-! ## Programming (R812, R813)

Programming clears bits alone (log entry 9), so a page of erased cells takes the source's bytes and its readback agrees. -/

theorem flashWrite_flashByte (s : State) {o : Nat} {b : Bytes} (hsize : o + b.length ≤ s.flashSize) (x : Nat) :
    (s.flashWrite o b).flashByte x = if o ≤ x ∧ x < o + b.length then b.getD (x - o) 0 else s.flashByte x := by
  have hget : Tab.get onesByte (s.flashWrite o b).mem.flash x = _ := tabWrite_get onesByte s.mem.flash o b x
  rw [State.flashByte, State.flashByte, flashSize_of_rd (s := s) (t := s.flashWrite o b) rfl, hget]
  by_cases hin : o ≤ x ∧ x < o + b.length
  · have hx : x < s.flashSize := by omega
    rw [if_pos hx, if_pos hin, if_pos hin]
  · simp only [if_neg hin]

/-- Erased cells take whatever is programmed. -/
theorem andBytes_erased {s : State} {o : Nat} {b : Bytes} (herased : ∀ x, o ≤ x → x < o + b.length → s.flashByte x = 0xFF) :
    andBytes (s.flashBytes o b.length) b = b := by
  refine List.ext_getElem (by simp [andBytes, State.flashBytes]) fun i _ hi => ?_
  have hcell : s.flashByte (o + i) = 0xFF := herased (o + i) (by omega) (by omega)
  have hones : (0xFF : Byte) = BitVec.allOnes 8 := rfl
  simp only [andBytes, State.flashBytes, List.getElem_zipWith, List.getElem_map, List.getElem_range, hcell, hones,
    BitVec.allOnes_and]

theorem flashBytes_flashWrite (s : State) {o : Nat} {b : Bytes} (hsize : o + b.length ≤ s.flashSize) :
    (s.flashWrite o b).flashBytes o b.length = b := by
  refine map_range_eq fun i hi => ?_
  rw [flashWrite_flashByte s hsize, if_pos (by omega), Nat.add_sub_cancel_left]

theorem memOf_of_inSram {a n x : Nat} (hin : inSram a n = true) (hlo : a ≤ x) (hhi : x < a + n) :
    memOf x = .scribe ∨ memOf x = .shared := by
  simp only [inSram, Bool.or_eq_true, decide_eq_true_eq] at hin
  unfold memOf
  rcases hin with hin | hin
  · left
    rw [if_neg (by omega), if_pos (by omega)]
  · right
    rw [if_neg (by omega), if_neg (by omega), if_pos (by omega)]

/-- No cell of the flash shows in SRAM. -/
theorem FlashOnly.memByte {s t : State} (h : FlashOnly s t) {a n x : Nat} (hin : inSram a n = true) (hlo : a ≤ x)
    (hhi : x < a + n) : t.memByte x = s.memByte x := by
  rw [h, State.memByte, State.memByte]
  obtain hx | hx := memOf_of_inSram hin hlo hhi <;> rw [hx]

/-- The range of a command lies in the flash, and its source in SRAM without a poisoned word. -/
structure Programmable (s : State) (c : FlashCmd) : Prop where
  size : c.addr + c.len ≤ s.flashSize
  inSram : inSram c.src c.len = true
  clean : s.poisoned c.src c.len = false

theorem Programmable.flashOnly {s t : State} {c : FlashCmd} (hp : Programmable s c) (h : FlashOnly s t) : Programmable t c := by
  refine ⟨?_, hp.inSram, ?_⟩
  · rw [flashSize_of_rd (h.rd _)]
    exact hp.size
  · rw [h]
    exact hp.clean

/-- Offset `o` of a command's range lies in the page at `p`. -/
def inPage (c : FlashCmd) (p o : Nat) : Prop := (c.addr ≤ o ∧ o < c.addr + c.len) ∧ o / 256 * 256 = p

/-- The part of a command's source that belongs in the page at `p`. -/
def State.pageSource (s : State) (c : FlashCmd) (p : Nat) : Bytes :=
  s.memBytes (c.src + (max p c.addr - c.addr)) (min (p + 256) (c.addr + c.len) - max p c.addr)

/-- The page at `p` as a successful command leaves it. -/
def State.programPage (s : State) (c : FlashCmd) (p : Nat) : State := s.flashWrite (max p c.addr) (s.pageSource c p)

theorem programPage_flashOnly (s : State) (c : FlashCmd) (p : Nat) : FlashOnly s (s.programPage c p) := flashWrite_frame s _ _

theorem pageSource_length (s : State) (c : FlashCmd) (p : Nat) :
    (s.pageSource c p).length = min (p + 256) (c.addr + c.len) - max p c.addr := by simp [State.pageSource, State.memBytes]

/-- A page that the range of the command meets. -/
structure PageOf (c : FlashCmd) (p : Nat) : Prop where
  aligned : p % 256 = 0
  ends : c.addr < p + 256
  starts : p < c.addr + c.len

section
variable {s : State} {c : FlashCmd} {p : Nat} (hp : Programmable s c) (hpage : PageOf c p)
include hpage

theorem inPage_iff (o : Nat) : inPage c p o ↔ max p c.addr ≤ o ∧ o < max p c.addr + (s.pageSource c p).length := by
  have haligned := hpage.aligned
  have hends := hpage.ends
  have hstarts := hpage.starts
  rw [pageSource_length, inPage]
  omega

include hp

theorem pageSource_fits : max p c.addr + (s.pageSource c p).length ≤ s.flashSize := by
  have hsize := hp.size
  have hends := hpage.ends
  have hstarts := hpage.starts
  rw [pageSource_length]
  omega

theorem pageSource_clean :
    s.poisoned (c.src + (max p c.addr - c.addr)) (min (p + 256) (c.addr + c.len) - max p c.addr) = false := by
  have hends := hpage.ends
  have hstarts := hpage.starts
  exact poisoned_of_subrange hp.clean (by omega) (by omega)

/-- Programming goes past a page of erased cells. -/
theorem programPages_cons (l : List Nat) (herased : ∀ o, inPage c p o → s.flashByte o = 0xFF) :
    s.programPages c none (p :: l) = (s.programPage c p).programPages c none l := by
  have hand := andBytes_erased (b := s.pageSource c p) fun o hlo hhi => herased o ((inPage_iff hpage o).mpr ⟨hlo, hhi⟩)
  have hback := flashBytes_flashWrite s (pageSource_fits hp hpage)
  rw [pageSource_length] at hand hback
  simp only [State.programPages, pageSource_clean hp hpage, Bool.false_eq_true, if_false, reduceCtorEq]
  rw [show s.memBytes _ _ = s.pageSource c p from rfl, hand, if_pos hback]
  rfl

/-- A cell after its page is programmed. -/
theorem programPage_flashByte (o : Nat) : (inPage c p o → (s.programPage c p).flashByte o = s.memByte (c.src + (o - c.addr))) ∧
    (¬inPage c p o → (s.programPage c p).flashByte o = s.flashByte o) := by
  have hcell := flashWrite_flashByte s (pageSource_fits hp hpage) o
  rw [inPage_iff (s := s) hpage]
  refine ⟨fun hin => ?_, fun hout => hcell.trans (if_neg hout)⟩
  rw [if_pos hin] at hcell
  have hlt : o - max p c.addr < min (p + 256) (c.addr + c.len) - max p c.addr := by
    rw [pageSource_length] at hin
    omega
  have hat : c.src + (max p c.addr - c.addr) + (o - max p c.addr) = c.src + (o - c.addr) := by omega
  rw [State.programPage, hcell, State.pageSource, State.memBytes, List.getD_eq_getElem _ _ (by simpa using hlt),
    List.getElem_map, List.getElem_range, hat]

end

/-- A command of which every page is erased programs its pages one after another. -/
theorem programPages_programs (c : FlashCmd) (l : List Nat) (s : State) (hp : Programmable s c) (hnodup : l.Nodup)
    (hpages : ∀ p ∈ l, PageOf c p) (herased : ∀ p ∈ l, ∀ o, inPage c p o → s.flashByte o = 0xFF) :
    ∃ t, s.programPages c none l = (t, none) ∧ FlashOnly s t ∧
      (∀ p ∈ l, ∀ o, inPage c p o → t.flashByte o = s.memByte (c.src + (o - c.addr))) ∧
      (∀ o, (∀ p ∈ l, ¬inPage c p o) → t.flashByte o = s.flashByte o) := by
  induction l generalizing s with
  | nil => exact ⟨s, rfl, FlashOnly.refl s, fun p hp => absurd hp List.not_mem_nil, fun _ _ => rfl⟩
  | cons p l ih =>
    obtain ⟨hfresh, hnodup⟩ := List.nodup_cons.mp hnodup
    obtain ⟨hpage, hpages⟩ := List.forall_mem_cons.mp hpages
    obtain ⟨hfirst, hrest⟩ := List.forall_mem_cons.mp herased
    have hcell := programPage_flashByte hp hpage
    have honly := programPage_flashOnly s c p
    have hapart : ∀ q ∈ l, ∀ o, inPage c q o → ¬inPage c p o := fun q hq o hqo hpo => hfresh (hpo.2.symm.trans hqo.2 ▸ hq)
    obtain ⟨t, hrun, hflash, hnew, hold⟩ := ih (s.programPage c p) (hp.flashOnly honly) hnodup hpages fun q hq o hqo =>
      ((hcell o).2 (hapart q hq o hqo)).trans (hrest q hq o hqo)
    refine ⟨t, (programPages_cons hp hpage l hfirst).trans hrun, honly.trans hflash, fun q hq o hqo => ?_, fun o hout => ?_⟩
    · rcases List.mem_cons.mp hq with rfl | hq
      · exact (hold o fun r hr hro => hapart r hr o hro hqo).trans ((hcell o).1 hqo)
      · have hsource := hnew q hq o hqo
        obtain ⟨⟨hlo, hhi⟩, -⟩ := hqo
        exact hsource.trans (honly.memByte hp.inSram (by omega) (by omega))
    · obtain ⟨hnot, hout⟩ := List.forall_mem_cons.mp hout
      exact (hold o hout).trans ((hcell o).2 hnot)

theorem mem_pagesOf {a n p : Nat} : p ∈ pagesOf a n ↔ 0 < n ∧ p % 256 = 0 ∧ a < p + 256 ∧ p < a + n := by
  unfold pagesOf
  split
  · next hn => simp [hn]
  · simp only [List.mem_map, List.mem_range]
    constructor
    · rintro ⟨i, hi, rfl⟩
      omega
    · rintro ⟨hn, hp, hlo, hhi⟩
      exact ⟨p / 256 - a / 256, by omega, by omega⟩

theorem nodup_pagesOf (a n : Nat) : (pagesOf a n).Nodup := by
  unfold pagesOf
  split
  · exact List.nodup_nil
  · exact List.nodup_range.map fun i j (h : 256 * (a / 256 + i) = 256 * (a / 256 + j)) => by omega

/-! ## Completed commands -/

section
variable {s u : State} {c : FlashCmd} (hcmd : s.mem.cmd = some c)
include hcmd

theorem exec_xspiCommandDone_erase (hop : c.op = 2) : exec (.xspiCommandDone none) s =
    .next (State.flashEnd { s.eraseEach (eraseBlocks c.addr c.len) with
      mem := { (s.eraseEach (eraseBlocks c.addr c.len)).mem with cmd := none } } 0 0) := by
  change execXspiCommandDone none s = _
  simp only [execXspiCommandDone, hcmd, hop, eraseRun_none]
  rfl

theorem exec_xspiCommandDone_program (hop : c.op = 1) (hrun : s.programPages c none (pagesOf c.addr c.len) = (u, none)) :
    exec (.xspiCommandDone none) s = .next (State.flashEnd { u with mem := { u.mem with cmd := none } } 0 0) := by
  change execXspiCommandDone none s = _
  simp only [execXspiCommandDone, hcmd, hop, if_true, hrun]

end

/-- The end of a command that has changed cells alone. -/
theorem flashDone {s u : State} (hu : FlashOnly s u) (hwipe : s.mem.wipe = none) :
    let t := State.flashEnd { u with mem := { u.mem with cmd := none } } 0 0
    (∀ o, t.flashByte o = u.flashByte o) ∧ t.fld Reg.MEM_XSPI_STAT 31 28 = 0 ∧ t.bit Reg.MEM_XSPI_CMD 31 = false ∧
      EventOnly flashReg { s with mem := { s.mem with flash := t.mem.flash, cmd := none } } t := by
  intro t
  have honly : EventOnly flashReg { u with mem := { u.mem with cmd := none } } t := flashEnd_eventOnly _ 0 0
  have hcells : t.mem.flash = u.mem.flash := (congrArg MemSt.flash honly.mem :)
  refine ⟨flashByte_congr hcells (honly.2 _ (by decide) eventReg_xspiCfg), ?_, flashEnd_go _ 0 0, ?_⟩
  · refine flashEnd_ok_stat _ 0 ?_
    rw [hu]
    exact hwipe
  · rw [honly.mem]
    rw [hu] at honly
    exact honly

theorem xspiCommandDone_erases (s : State) (c : FlashCmd) (hcmd : s.mem.cmd = some c) (hwipe : s.mem.wipe = none) (hop : c.op = 2)
    (haddr : c.addr % 4096 = 0) (hlen : c.len % 4096 = 0) : Yields (.xspiCommandDone none) s fun t =>
      (∀ o : Nat, c.addr ≤ o → o < c.addr + c.len → t.flashByte o = 0xFF) ∧
      (∀ o : Nat, o < c.addr ∨ c.addr + c.len ≤ o → t.flashByte o = s.flashByte o) ∧
      t.fld Reg.MEM_XSPI_STAT 31 28 = 0 ∧ t.bit Reg.MEM_XSPI_CMD 31 = false ∧ t.evtStatus 492 = true ∧
      EventOnly (among [Reg.MEM_XSPI_CMD, Reg.MEM_XSPI_STAT])
        { s with mem := { s.mem with flash := t.mem.flash, cmd := none } } t := by
  obtain ⟨hbyte, hstat, hgo, honly⟩ := flashDone (eraseEach_flashOnly (eraseBlocks c.addr c.len) s) hwipe
  have hin := inSomeBlock_eraseBlocks haddr hlen
  refine ⟨_, exec_xspiCommandDone_erase hcmd hop, fun o hlo hhi => ?_, fun o hout => ?_, hstat, hgo, flashEnd_status _ 0 0, honly⟩
  · rw [hbyte, eraseEach_flashByte, if_pos ((hin o).mpr ⟨hlo, hhi⟩)]
  · have hnot : ¬inSomeBlock (eraseBlocks c.addr c.len) o = true := fun h => by
      have hrange := (hin o).mp h
      omega
    rw [hbyte, eraseEach_flashByte, if_neg hnot]

theorem xspiCommandDone_programs (s : State) (c : FlashCmd) (hcmd : s.mem.cmd = some c) (hwipe : s.mem.wipe = none)
    (hop : c.op = 1) (hp : Programmable s c) (herased : ∀ o : Nat, c.addr ≤ o → o < c.addr + c.len → s.flashByte o = 0xFF) :
    Yields (.xspiCommandDone none) s fun t =>
      t.flashBytes c.addr c.len = s.memBytes c.src c.len ∧
      (∀ o : Nat, o < c.addr ∨ c.addr + c.len ≤ o → t.flashByte o = s.flashByte o) ∧
      t.fld Reg.MEM_XSPI_STAT 31 28 = 0 ∧ t.bit Reg.MEM_XSPI_CMD 31 = false ∧
      EventOnly (among [Reg.MEM_XSPI_CMD, Reg.MEM_XSPI_STAT])
        { s with mem := { s.mem with flash := t.mem.flash, cmd := none } } t := by
  have hpages : ∀ p ∈ pagesOf c.addr c.len, PageOf c p := fun p hp =>
    let ⟨_, haligned, hends, hstarts⟩ := mem_pagesOf.mp hp
    ⟨haligned, hends, hstarts⟩
  obtain ⟨u, hrun, hflash, hnew, hold⟩ := programPages_programs c _ s hp (nodup_pagesOf _ _) hpages
    fun p _ o ⟨⟨hlo, hhi⟩, _⟩ => herased o hlo hhi
  obtain ⟨hbyte, hstat, hgo, honly⟩ := flashDone hflash hwipe
  refine ⟨_, exec_xspiCommandDone_program hcmd hop hrun, List.map_congr_left fun i hi => ?_, fun o hout => ?_, hstat, hgo, honly⟩
  · have hi := List.mem_range.mp hi
    have hpage : (c.addr + i) / 256 * 256 ∈ pagesOf c.addr c.len := mem_pagesOf.mpr (by omega)
    rw [hbyte, hnew _ hpage (c.addr + i) ⟨by omega, rfl⟩, Nat.add_sub_cancel_left]
  · rw [hbyte, hold o fun p _ ⟨hin, _⟩ => by omega]

/-! ## The map's lock and the wipe (R350, R808, R814, R815) -/

theorem exec_xspiLock (s : State) {v : Word} (hlock : v.getLsbD 31 = true) (hopen : s.bit Reg.MEM_XSPI_LOCK 31 = false) :
    exec (.xspiLock v) s = .next (if s.xspiMapOk then s.setb Reg.MEM_XSPI_LOCK 31 true else s.setb Reg.MEM_XSPI_LOCK 30 true) :=
  if_pos (by simp [hlock, hopen])

theorem xspiLock_locks (s : State) (v : Word) (hlock : v.getLsbD 31 = true) (hopen : s.bit Reg.MEM_XSPI_LOCK 31 = false) :
    Yields (.xspiLock v) s fun t =>
      t.bit Reg.MEM_XSPI_LOCK 31 = s.xspiMapOk ∧ (s.xspiMapOk = false → t.bit Reg.MEM_XSPI_LOCK 30 = true) ∧
      RegsOnly (among [Reg.MEM_XSPI_LOCK]) s t := by
  refine ⟨_, exec_xspiLock s hlock hopen, ?_⟩
  cases s.xspiMapOk with
  | true =>
    exact ⟨State.bit_setb_same s _ 31 true (by decide), fun h => absurd h (by decide), RegsOnly.setb s 31 true (among_self _)⟩
  | false =>
    exact ⟨(bit_setb_same_ne s _ true (by decide)).trans hopen, fun _ => State.bit_setb_same s _ 30 true (by decide),
      RegsOnly.setb s 30 true (among_self _)⟩

/-- The blocks of a wipe. -/
def State.wipeRun (s : State) (user : Bool) : List (Nat × Nat) := (s.wipeBlocks user).map fun o => (o, 65536)

theorem inSomeBlock_wipeRun (s : State) (user : Bool) (o : Nat) :
    inSomeBlock (s.wipeRun user) o = true ↔ ∃ b ∈ s.wipeBlocks user, b ≤ o ∧ o < b + 65536 := by
  simp only [inSomeBlock, State.wipeRun, List.any_map, List.any_eq_true, Function.comp_apply, decide_eq_true_iff]

/-- No wipe runs any more, and MEM_WIPE_STAT shows the one that is done. That the lists of destroyed domains and of packages are
empty is the model's choice (log entry 34). -/
def State.wipeOver (s : State) : State :=
  let t := { s with mem := { s.mem with wipe := none }, cust := { s.cust with destroyed := [], packages := [] } }
  (t.setb Reg.MEM_XSPI_STAT 31 false).setb Reg.MEM_WIPE_STAT 31 true

theorem exec_wipeDone (s : State) {user : Bool} (hwipe : s.mem.wipe = some user) (hcmd : s.mem.cmd = none) :
    exec (.wipeDone none) s = .next ((s.eraseEach (s.wipeRun user)).wipeOver.raise 494).eraseDone := by
  change execWipeDone none s = _
  simp only [execWipeDone, hwipe, hcmd, eraseRun_none]
  rfl

/-- The registers in which the end of a wipe shows. -/
def wipeReg : Nat → Bool := among (Reg.MEM_WIPE_STAT :: Reg.MEM_XSPI_STAT :: wide Reg.RSV_ERASE_TIME)

theorem wipeOver_regsOnly (s : State) : RegsOnly wipeReg
    { s with mem := { s.mem with wipe := none }, cust := { s.cust with destroyed := [], packages := [] } } s.wipeOver :=
  (RegsOnly.setb _ 31 false (by decide)).trans (RegsOnly.setb _ 31 true (by decide))

/-- The events of a wipe's end write RSV_ERASE_TIME alone. -/
theorem wipeOver_events (s : State) : EventOnly (among (wide Reg.RSV_ERASE_TIME)) s (s.raise 494).eraseDone :=
  (raise_eventOnly _ s 494).trans (eraseDone_eventOnly _)

theorem eraseDone_status (s : State) (n : Nat) (hn : s.evtStatus n = true) : s.eraseDone.evtStatus n = true := by
  refine raise_status _ 355 n (.inr ?_)
  have hne : ∀ a, a = Reg.RSV_ERASE_TIME ∨ a = Reg.RSV_ERASE_TIME + 4 → Reg.EVT_STATUS (n / 32) ≠ a := fun a ha => by
    simp only [Reg.RSV_ERASE_TIME, Reg.EVT_STATUS] at ha ⊢
    omega
  have hrd : (s.wr64 Reg.RSV_ERASE_TIME (BitVec.ofNat 64 s.ns)).rd (Reg.EVT_STATUS (n / 32)) = s.rd (Reg.EVT_STATUS (n / 32)) := by
    rw [State.wr64, State.rd_wr_ne _ _ (hne _ (.inr rfl)), State.rd_wr_ne _ _ (hne _ (.inl rfl))]
  exact (bit_of_rd hrd _).trans hn

/-- The end of a wipe that no block has failed. -/
theorem wipeOver_ends (s : State) :
    let t := (s.wipeOver.raise 494).eraseDone
    t.bit Reg.MEM_WIPE_STAT 31 = true ∧ t.bit Reg.MEM_XSPI_STAT 31 = false ∧ t.evtStatus 494 = true ∧ t.evtStatus 355 = true ∧
      t.rd64 Reg.RSV_ERASE_TIME = s.stime.ns ∧ EventOnly wipeReg
        { s with mem := { s.mem with wipe := none }, cust := { s.cust with destroyed := [], packages := [] } } t := by
  intro t
  have hevents : EventOnly (among (wide Reg.RSV_ERASE_TIME)) s.wipeOver t := wipeOver_events s.wipeOver
  refine ⟨?_, ?_, eraseDone_status _ 494 (raise_status_same _ 494), raise_status_same _ 355, ?_,
    (wipeOver_regsOnly s).eventOnly.trans (hevents.mono fun a ha => by simp_all [wipeReg, among])⟩
  · exact (bit_of_rd (hevents.2 _ (by decide) (by decide)) 31).trans (State.bit_setb_same _ _ 31 true (by decide))
  · exact (bit_of_rd (hevents.2 _ (by decide) eventReg_xspiStat) 31).trans
      ((bit_of_rd (State.rd_setb_ne _ 31 true (by decide)) 31).trans (State.bit_setb_same _ _ 31 false (by decide)))
  · exact (eraseDone_time _).trans (congrArg StimeSt.ns (raise_eventOnly (fun _ => false) s.wipeOver 494).stime)

theorem wipeDone_wipes (s : State) (user : Bool) (hwipe : s.mem.wipe = some user) (hcmd : s.mem.cmd = none) :
    Yields (.wipeDone none) s fun t =>
      (∀ b ∈ s.wipeBlocks user, ∀ i : Nat, i < 65536 → t.flashByte (b + i) = 0xFF) ∧
      (∀ o : Nat, (∀ b ∈ s.wipeBlocks user, o < b ∨ b + 65536 ≤ o) → t.flashByte o = s.flashByte o) ∧
      t.bit Reg.MEM_WIPE_STAT 31 = true ∧ t.bit Reg.MEM_XSPI_STAT 31 = false ∧ t.cust.destroyed = [] ∧ t.evtStatus 494 = true ∧
      t.evtStatus 355 = true ∧ t.rd64 Reg.RSV_ERASE_TIME = BitVec.ofNat 64 s.ns ∧
      EventOnly (among (Reg.MEM_WIPE_STAT :: Reg.MEM_XSPI_STAT :: wide Reg.RSV_ERASE_TIME))
        { s with mem := { s.mem with flash := t.mem.flash, wipe := none }
                 cust := { s.cust with destroyed := [], packages := [] } } t := by
  refine ⟨_, exec_wipeDone s hwipe hcmd, ?_⟩
  have hcell := eraseEach_flashByte (s.wipeRun user) s
  have hflash := eraseEach_flashOnly (s.wipeRun user) s
  have hin := inSomeBlock_wipeRun s user
  generalize s.eraseEach (s.wipeRun user) = u at hcell hflash
  obtain ⟨hcomplete, hidle, hwiped, herase, htime, honly⟩ := wipeOver_ends u
  generalize (u.wipeOver.raise 494).eraseDone = t at hcomplete hidle hwiped herase htime honly
  have hcells : t.mem.flash = u.mem.flash := (congrArg MemSt.flash honly.mem :)
  have hgone : t.cust.destroyed = [] := (congrArg (fun x : State => x.cust.destroyed) honly.1 :)
  have hbyte := flashByte_congr hcells (honly.2 _ (by decide) eventReg_xspiCfg)
  refine ⟨fun b hb i hi => ?_, fun o hout => ?_, hcomplete, hidle, hgone, hwiped, herase, ?_, ?_⟩
  · rw [hbyte, hcell, if_pos ((hin _).mpr ⟨b, hb, by omega, by omega⟩)]
  · have hnot : ¬inSomeBlock (s.wipeRun user) o = true := fun h => by
      obtain ⟨b, hb, hlo, hhi⟩ := (hin o).mp h
      have hapart := hout b hb
      omega
    rw [hbyte, hcell, if_neg hnot]
  · rw [htime, hflash.stime, State.ns, BitVec.ofNat_toNat, BitVec.setWidth_eq]
  · rw [honly.mem]
    rw [hflash] at honly
    exact honly

/-! ## The scrubbers (R801, R802) -/

theorem exec_scrubStep_clean (s : State) {k : Nat} (hk : k < 3) (hruns : s.scrubRuns k = true)
    (hgood : k < 2 → s.isBad ((scrubSpan k).1 + 8 * s.mem.scrub.getD k 0) = false) :
    exec (.scrubStep k .clean) s = .next (s.scrubAdvance k) := by
  have hread : (if k = 2 then s.keyEcc (s.mem.scrub.getD k 0) .clean
      else (s.eccRead 2 ringInit ((scrubSpan k).1 + 8 * s.mem.scrub.getD k 0) .clean).1) = s := by
    split
    · rfl
    · rw [State.eccRead, hgood (by omega)]
      rfl
  have hskip : ¬(3 ≤ k ∨ (!s.scrubRuns k) = true) := by simp [hruns, hk]
  exact (if_neg hskip).trans (congrArg (fun u : State => Host.Outcome.next (u.scrubAdvance k)) hread)

/-- Scrubber `k` stands at word `p`, and MEM_STAT shows whether a pass is in progress. -/
def State.scrubAt (s : State) (k p : Nat) : State :=
  State.setb { s with mem := { s.mem with scrub := s.mem.scrub.set k p } } Reg.MEM_STAT 30 ((s.mem.scrub.set k p).any (· != 0))

theorem scrubAdvance_eq (s : State) (k : Nat) : s.scrubAdvance k =
    if (scrubSpan k).2 ≤ s.mem.scrub.getD k 0 + 1 then (s.scrubAt k 0).raise 491 else s.scrubAt k (s.mem.scrub.getD k 0 + 1) := by
  unfold State.scrubAdvance
  by_cases hwrap : (scrubSpan k).2 ≤ s.mem.scrub.getD k 0 + 1
  · simp only [hwrap, decide_true, if_true]
    rfl
  · simp only [hwrap, decide_false, Bool.false_eq_true, if_false]
    rfl

theorem scrubAt_regsOnly (s : State) (k p : Nat) : RegsOnly (among [Reg.MEM_STAT])
    { s with mem := { s.mem with scrub := s.mem.scrub.set k p } } (s.scrubAt k p) := RegsOnly.setb _ 30 _ (among_self _)

theorem getD_set_of_lt (l : List Nat) {k : Nat} (p : Nat) (hk : k < l.length) : (l.set k p).getD k 0 = p := by
  rw [List.getD_eq_getElem _ _ (by simpa using hk), List.getElem_set_self]

theorem scrubStep_moves (s : State) (k : Nat) (hk : k < 3) (hruns : s.scrubRuns k = true) (hlen : s.mem.scrub.length = 3)
    (hgood : k < 2 → s.isBad ((scrubSpan k).1 + 8 * s.mem.scrub.getD k 0) = false) : Yields (.scrubStep k .clean) s fun t =>
      t.mem.scrub.getD k 0 = (if (scrubSpan k).2 ≤ s.mem.scrub.getD k 0 + 1 then 0 else s.mem.scrub.getD k 0 + 1) ∧
      ((scrubSpan k).2 ≤ s.mem.scrub.getD k 0 + 1 → t.evtStatus 491 = true) ∧
      EventOnly (among [Reg.MEM_STAT]) { s with mem := { s.mem with scrub := t.mem.scrub } } t := by
  have hset := fun p => getD_set_of_lt s.mem.scrub p (hlen ▸ hk)
  refine ⟨_, exec_scrubStep_clean s hk hruns hgood, ?_⟩
  rw [scrubAdvance_eq]
  split
  · next hwrap =>
    have honly := (scrubAt_regsOnly s k 0).eventOnly.trans (raise_eventOnly _ _ 491)
    rw [honly.mem]
    exact ⟨hset 0, fun _ => raise_status_same _ _, honly⟩
  · next hmore => exact ⟨hset _, fun h => absurd h hmore, (scrubAt_regsOnly s k _).eventOnly⟩

/-- Settles O55: error correction by what a write, a read and a write-back leave, then the flash's commands from their start to
their end, its map, its wipe and the scrubbers. -/
theorem memoryAndFlash : Obligations.MemoryAndFlash := by
  unfold Obligations.MemoryAndFlash
  exact ⟨⟨eccWrite_wholeWords, fun s init a b hlt hb _ => eccWrite_partial s init a b hlt hb, eccRead_finds, eccWriteback_ends⟩,
    flashStart_starts,
    fun s c hcmd hwipe => ⟨xspiCommandDone_erases s c hcmd hwipe,
      fun hop _ hsize hin hclean => xspiCommandDone_programs s c hcmd hwipe hop ⟨hsize, hin, hclean⟩⟩,
    xspiLock_locks, wipeDone_wipes, scrubStep_moves⟩

end Sys2Proof.Machine
end
